-- ==== Sys2Proof/Word.lean ====
section
/-! DEFINITION. Words, bytes and the one sparse table (`Tab`) every indexed group of registers, records and
memory bytes of the model is held in. -/

namespace Sys2Proof

/-- A byte of a register, packet or memory. -/
abbrev Byte := BitVec 8
/-- A 16-bit word. -/
abbrev W16 := BitVec 16
/-- A 32-bit word: most registers (R499), doorbells (R218), mailbox words (R378). -/
abbrev W32 := BitVec 32
/-- A 64-bit word: the wide registers and the RESULT words of a completion (R227). -/
abbrev W64 := BitVec 64

/-- A sparse table from numbers to values: the entries in strictly rising key order, none equal to the value an
unlisted key reads as. -/
abbrev Tab (α : Type) := List (Nat × α)

/-- What the table holds at key `i`: the listed value, or `d`. -/
def tget {α : Type} (d : α) : Tab α → Nat → α
  | [], _ => d
  | (k, v) :: t, i => if k = i then v else tget d t i

/-- The listed value at key `i`, if any. -/
def tfind {α : Type} : Tab α → Nat → Option α
  | [], _ => none
  | (k, v) :: t, i => if k = i then some v else tfind t i

/-- Put `v` at key `i`, keeping the keys strictly rising. -/
def tput {α : Type} : Tab α → Nat → α → Tab α
  | [], i, v => [(i, v)]
  | (k, w) :: t, i, v =>
    if i < k then (i, v) :: (k, w) :: t
    else if i = k then (i, v) :: t
    else (k, w) :: tput t i v

/-- Take the entry of key `i` out. -/
def terase {α : Type} : Tab α → Nat → Tab α
  | [], _ => []
  | (k, w) :: t, i => if k = i then terase t i else (k, w) :: terase t i

/-- Write `v` at key `i` of a table whose unlisted keys read as `d`. -/
def tset {α : Type} [DecidableEq α] (d : α) (t : Tab α) (i : Nat) (v : α) : Tab α :=
  if v = d then terase t i else tput t i v

/-- Change the value at key `i` by `f`. -/
def tmod {α : Type} [DecidableEq α] (d : α) (t : Tab α) (i : Nat) (f : α → α) : Tab α :=
  tset d t i (f (tget d t i))

/-- Every key is at least `lo`, and the keys rise strictly. -/
def tsortedFrom {α : Type} : Nat → Tab α → Bool
  | _, [] => true
  | lo, (k, _) :: t => decide (lo ≤ k) && tsortedFrom (k + 1) t

/-- No entry equals what an unlisted key reads as. -/
def tclean {α : Type} [DecidableEq α] (d : α) : Tab α → Bool
  | [] => true
  | (_, v) :: t => !(decide (v = d)) && tclean d t

/-- The one canonical form of a table with default `d`. -/
def twf {α : Type} [DecidableEq α] (d : α) (t : Tab α) : Bool :=
  tsortedFrom 0 t && tclean d t

/-- Write a run of values at consecutive keys. -/
def tputs {α : Type} : Tab α → Nat → List α → Tab α
  | t, _, [] => t
  | t, i, v :: vs => tputs (tput t i v) (i + 1) vs

/-- Take `n` consecutive keys out. -/
def terases {α : Type} : Tab α → Nat → Nat → Tab α
  | t, _, 0 => t
  | t, i, n + 1 => terases (terase t i) (i + 1) n

/-- Put an element in a sorted list, before what is equal to it. -/
def insertBy {α : Type} (le : α → α → Bool) (a : α) : List α → List α
  | [] => [a]
  | b :: l => if le a b then a :: b :: l else b :: insertBy le a l

/-- The list in the order of `le`; what is equal stays in its order. -/
def sortBy {α : Type} (le : α → α → Bool) : List α → List α
  | [] => []
  | a :: l => insertBy le a (sortBy le l)

/-- Bits [lo+n-1:lo] of a number. -/
def bitsOf (x lo n : Nat) : Nat := x / 2 ^ lo % 2 ^ n

/-- The number with `v` in bits [lo+n-1:lo] and every other bit of `x`. -/
def setBits (x lo n v : Nat) : Nat := x - bitsOf x lo n * 2 ^ lo + v % 2 ^ n * 2 ^ lo

/-- Bit `k` of a number as a truth value. -/
def bitAt (x k : Nat) : Bool := x / 2 ^ k % 2 == 1

/-- A truth value as the bit 0 or 1. -/
def b2n (b : Bool) : Nat := if b then 1 else 0

/-- Add `n` to a counter of `w` bits, saturating at all ones (R496). -/
def satAdd (w x n : Nat) : Nat := min (x + n) (2 ^ w - 1)

/-- `x / y` rounded up (0 for y = 0). -/
def ceilDiv (x y : Nat) : Nat := (x + y - 1) / y

/-- `x` rounded up to a multiple of `m`. -/
def roundUp (x m : Nat) : Nat := ceilDiv x m * m

/-- An integer clamped to lo..hi. -/
def clampI (x lo hi : Int) : Int := max lo (min x hi)

/-- `x / y` rounded half up, for a positive `y` (R127). -/
def divHalfUp (x : Int) (y : Int) : Int := (2 * x + y) / (2 * y)

end Sys2Proof
end

