-- ==== Sys2Proof/Machine/BlockRec.lean ====
section
/-! DEFINITION. What a pipeline block holds as it passes through the stages (R88, R89): its source, what the search found, its
prediction blocks, its levels and its reconstruction; and the coded bytes of a block row (R112, R113). -/

namespace Sys2Proof.Machine

/-- A motion vector. As a final vector in eighths of a luma pixel (R164); in the search in quarters (R95). -/
structure Vec where
  x : Int := 0
  y : Int := 0
  deriving DecidableEq, Repr

/-- How an inter candidate comes about (R105), and the zero vector of a skip row that is spelled out (R138). -/
inductive InterForm where
  /-- The vector of level 4 (R101). -/
  | search
  /-- HEVC: a merge candidate. -/
  | merge (k : Nat)
  /-- AV1: NEARESTMV, NEARMV, GLOBALMV, and the compounds NEW_NEWMV and NEAREST_NEARESTMV. -/
  | nearest | near | global | newNew | nearestNearest
  /-- AVC: P_Skip, and the predicted vector. -/
  | pSkip | predicted
  /-- The zero vector by a difference from its predictor (R138). -/
  | zero
  deriving DecidableEq, Repr

/-- A luma intra mode by the name R104 gives it; numbers are those of the standard. -/
inductive LumaMode where
  /-- AV1: the nominal mode (DC 0, V 1, H 2, six directions 3 to 8, SMOOTH 9, SMOOTH_V 10, SMOOTH_H 11, PAETH 12) and the
  angle delta. HEVC: planar 0, DC 1, angular 2 to 34. AVC 16×16: V 0, H 1, DC 2, plane 3. AVC 8×8 and 4×4: 0 to 8. -/
  | mode (m : Nat) (delta : Int)
  deriving DecidableEq, Repr

/-- A chroma intra mode (R104). -/
inductive ChromaMode where
  /-- The mode of luma (AV1, and HEVC's derived mode). -/
  | luma
  | dc | planar | horizontal | vertical | plane
  /-- UV_CFL with its two alphas. -/
  | cfl (cb cr : Int)
  deriving DecidableEq, Repr

/-- How a prediction block is predicted: intra, or inter with a vector and reference index per list. -/
inductive PredMode where
  | intra (luma : LumaMode) (chroma : ChromaMode)
  | inter (form : InterForm) (l0 : Option (Nat × Vec)) (l1 : Option (Nat × Vec))
  deriving DecidableEq, Repr

/-- A prediction block: luma position in the picture, size, no residual, and mode. -/
structure Pred where
  x : Nat := 0
  y : Nat := 0
  w : Nat := 64
  h : Nat := 64
  skip : Bool := false
  mode : PredMode := .intra (.mode 0 0) .dc
  deriving DecidableEq, Repr

/-- The transform of a block (R108). -/
inductive TxType where
  /-- DCT_DCT, or the transform of HEVC and AVC. -/
  | dct
  | adstDct | dctAdst | adstAdst | idtx
  /-- HEVC: transform skip, and the DST of 4×4 intra luma. -/
  | skip | dst
  deriving DecidableEq, Repr

/-- A transform block: luma position, size in luma samples of its plane (0 luma, 1 Cb, 2 Cr), transform, the coefficients in
scan order as signed multiples of Qstep / 65536, and the outcome of step 2 of R109 where it applies. -/
structure Tu where
  x : Nat := 0
  y : Nat := 0
  w : Nat := 4
  h : Nat := 4
  plane : Nat := 0
  tx : TxType := .dct
  coefs : List Int := []
  zeroed : Bool := false
  deriving DecidableEq, Repr

/-- Final samples of a packing unit (R165): 64×64 luma and twice 32×32 chroma, each in raster order. -/
structure UnitPix where
  unit : Nat := 0
  luma : List Nat := []
  cb : List Nat := []
  cr : List Nat := []
  deriving DecidableEq, Repr

/-- What levels 1 to 3 found in one reference (by rank) for one search block of a pipeline block (R98 to R100): the two
results of level 1, the level 2 vectors of the block and its quadrants, and the best full-pixel vector of every block of 64,
32, 16 and 8 luma samples, with its position. Vectors in quarter pixels. -/
structure Found where
  unit : Nat := 0
  rank : Nat := 0
  coarse : List Vec := []
  mid : Option Vec := none
  quads : List (Option Vec) := []
  full : List (Nat × Nat × Nat × Vec) := []
  deriving DecidableEq, Repr

/-- One hint entry that is used (R76): displacement in quarter pixels and depth. -/
structure Hint where
  v : Vec := {}
  depth : Nat := 0
  x : Nat := 0
  y : Nat := 0
  deriving DecidableEq, Repr

/-- A block in the stages: its source at the encode bit depth (search block after search block), activities of its QP units in
1/4096, the two decimations, the valid hints of the block and the median of those of its row, and what the stages made. -/
structure BlkData where
  luma : List (List Nat) := []
  cb : List (List Nat) := []
  cr : List (List Nat) := []
  acts : List Nat := []
  dec1 : List (List Nat) := []
  dec2 : List (List Nat) := []
  hints : List Hint := []
  rowHint : Option Vec := none
  found : List Found := []
  /-- Block QPs of its QP units (R107): QP, or qindex for AV1. -/
  qps : List Nat := []
  preds : List Pred := []
  /-- Levels of its transform blocks after R109. -/
  tus : List (Tu × List Int) := []
  /-- CDEF preset (primary and secondary strength) or SAO class of the block (R110). -/
  cdef : Nat × Nat := (0, 0)
  sao : Nat := 0
  deriving DecidableEq, Repr

/-- What a coded block leaves for later searches (R96, R97): its prediction blocks, its level 3 vectors (search block, rank,
vector in quarters), and the pictures its ranks name. -/
structure BlkMot where
  preds : List Pred := []
  full : List (Nat × Nat × Vec) := []
  refs : List Nat := []
  deriving DecidableEq, Repr

/-- The units of a coded picture (R113). -/
inductive UnitKind where
  | temporalDelimiter | sequenceHeader | frame | frameHeader | tileGroup | vps | sps | pps | recoverySei | slice
  deriving DecidableEq, Repr

/-- Bytes the coder adds to a unit in a block row (R112): a unit begins, a carry goes into the bytes held back, the new bytes
before emulation prevention, and the unit ends. For AV1, `cut` is the obu_size field; `tile` is the region of R207. -/
structure UnitOut where
  kind : UnitKind := .slice
  starts : Bool := false
  carry : Bool := false
  bytes : List Byte := []
  cut : Nat := 0
  ends : Bool := false
  tile : Nat := 0
  deriving DecidableEq, Repr

/-- Where the coder of a picture stands in a region of the bitstream buffer (R112, R207): bytes written, bytes held back,
the last two bytes released of the open unit. -/
structure TileOut where
  off : Nat := 0
  held : List Byte := []
  last : List Byte := []
  deriving DecidableEq, Repr

/-- What the marks of R177 come to in a picture's headers: refresh_frame_flags and ref_frame_idx (AV1), the entries of the RPS
(HEVC: order, long-term, used), or the marking operations and the reference list (AVC: operation, picture, frame index); and
the filter settings of R110. -/
structure Signal where
  refresh : Nat := 0
  refIdx : List Nat := []
  rps : List (Nat × Bool × Bool) := []
  mmco : List (Nat × Nat × Nat) := []
  list : List Nat := []
  /-- AV1: loop filter level and cdef_damping_minus_3. -/
  filter : Nat × Nat := (0, 0)
  /-- Parameter sets are written (R113): bit rate and buffer size of the signalled bucket in bits, and for AV1 the decoder
  buffer delay τ in units of 1/90,000 s, as a fraction (R125). -/
  params : Bool := false
  bitRate : Nat := 0
  buffer : Nat := 0
  delay : Option (Nat × Nat) := none
  /-- recovery_poc_cnt or recovery_frame_cnt of the recovery point SEI at a sweep start (R113). -/
  recovery : Option Nat := none
  deriving DecidableEq, Repr

/-- Samples of an output frame (R185): plane (0 luma, 1 Cb, 2 Cr), position in the plane, and a run of samples. -/
structure PixRun where
  plane : Nat := 0
  x : Nat := 0
  y : Nat := 0
  samples : List Nat := []
  deriving DecidableEq, Repr

end Sys2Proof.Machine
end

