-- ==== Sys2Proof/Machine/Items.lean ====
section
/-! DEFINITION. What crosses the boundary of the block in bulk: the data a command's host-memory read brings, and what the
block gives out. -/

namespace Sys2Proof.Machine

/-- The bytes the device read from host memory for a command: the length it could read, and the 32-bit little-endian
words (R9) by word index; a word not listed is all ones, which the parameter blocks read as "default" or "unchanged"
(R523, R525). -/
structure HostBuf where
  len : Nat := 0
  words : Tab Nat := []
  deriving DecidableEq, Repr

/-- Word `i` (bytes 4i to 4i+3). -/
def HostBuf.w32 (b : HostBuf) (i : Nat) : Nat := tget 0xFFFFFFFF b.words i % 2 ^ 32

/-- Bits [hi:lo] of the little-endian field at byte offset `off` (a multiple of 4), of width `n`. -/
def HostBuf.fld (b : HostBuf) (off lo n : Nat) : Nat := bitsOf (b.w32 (off / 4)) lo n

/-- The 64-bit field at byte offset `off`. -/
def HostBuf.w64 (b : HostBuf) (off : Nat) : Nat := b.w32 (off / 4) + b.w32 (off / 4 + 1) * 2 ^ 32

/-- Byte `i`. -/
def HostBuf.byte (b : HostBuf) (i : Nat) : Byte := BitVec.ofNat 8 (bitsOf (b.w32 (i / 4)) (8 * (i % 4)) 8)

/-- Bytes `i`, `i+1`, …, `n` of them. -/
def HostBuf.bytes (b : HostBuf) : Nat → Nat → List Byte
  | _, 0 => []
  | i, n + 1 => b.byte i :: b.bytes (i + 1) n

/-- Who makes a register access (R493): a PCIe function of port H, the function of P0 or P1, a management core, SEC. -/
inductive Req where
  | fn (f : Fin 64)
  | peer (p : Fin 2)
  | mgc (k : Fin 8)
  | sec
  deriving DecidableEq, Repr

/-- The requester's number in the table of register halves. -/
def Req.code : Req → Nat
  | .fn f => f.val
  | .peer p => 64 + p.val
  | .mgc k => 66 + k.val
  | .sec => 74

/-- Why a network packet was formed (R248 to R264). -/
inductive PktKind where
  | rtp | rtcp | host | ptp
  deriving DecidableEq, Repr

/-- What leaves the block (the model's own record of its effects outside, newest first in State.out). -/
inductive Out where
  /-- One 64-byte completion-queue entry (R227): function, QID, host address, the 512 bits. -/
  | cqe (fn qid addr : Nat) (bits : BitVec 512)
  /-- A host-memory write of `len` bytes as 32-bit words by index, unlisted words zero; `ro` the Relaxed Ordering bit
  (R215). -/
  | hostWr (fn addr len : Nat) (ro : Bool) (words : Tab Nat)
  /-- A sealed image of R314: its header words, and the slot records (R167) that the ciphertext holds after the context. -/
  | sealedImage (fn addr len : Nat) (header : Tab Nat) (recs : List (List Byte))
  /-- A host-memory write of bytes as they stand (BUF_READ, exception frames, DMA). -/
  | hostBytes (fn addr : Nat) (ro : Bool) (bytes : List Byte)
  /-- An MSI-X message (R237). -/
  | msix (fn vec : Nat)
  /-- A PME message (R238). -/
  | pme (fn : Nat)
  /-- Start of an L1 exit of port H (R238). -/
  | l1Exit
  /-- A frame on an Ethernet subport: subport code, kind, session, extended RTP sequence number, whole frame bytes. -/
  | frame (sub : Nat) (kind : PktKind) (sid seq len : Nat)
  /-- The RTP header of a frame sent (R251, R252): session, extended sequence number, time stamp, picture number, marker,
  payload octets, and the model's name of the key it is under. -/
  | rtp (sid seq ts pic : Nat) (marker : Bool) (payload key : Nat)
  /-- An RTCP compound with its report contents: session, sender-report fields of R263. -/
  | senderReport (sid ntp rtpTs packets octets : Nat) (bye : Bool)
  /-- A DOE response of a port (R316): response code and the payload words. -/
  | doe (port code : Nat) (words : List Nat)
  /-- A secure mailbox response or a mailbox word given to the host or an endpoint. -/
  | mbx (ch : Nat) (words : List Nat)
  /-- An MCTP message to the board management controller (R380): binding (0 SMBus, 1 I3C), channel, words. -/
  | mctp (bus ch : Nat) (words : List Nat)
  /-- Data returned to a register read. -/
  | readData (v : Nat)
  /-- The level of FATAL_N (R544): true is driven low. -/
  | fatalPin (low : Bool)
  /-- The level of SMB_ALERT_N (R541). -/
  | smbAlert (low : Bool)
  /-- The identity certificate chain from NVS (R288), `len` bytes of it, to host memory. -/
  | chain (fn addr len : Nat)
  /-- A PCI Express access that ends in Unsupported Request (R214). -/
  | unsupported (port : Nat)
  /-- An event-network interrupt to a management core (R388, R392): target. -/
  | micIrq (tgt : Nat)
  /-- A JTAG shift result: the register selected and its captured value. -/
  | jtag (ir : Nat) (len value : Nat)
  /-- A DRAM access by a controller's channel: read or write, line. -/
  | dramCmd (mc ch : Nat) (what : Nat) (arg : Nat)
  /-- A response of a controller to a read (R338): address, bytes, poisoned. -/
  | dramRd (addr : Nat) (bytes : List Byte) (poisoned : Bool)
  /-- The end of a DRAM write, or the fenced-abort that answers a request (R24, R335): address, fenced. -/
  | dramEnd (addr : Nat) (fenced : Bool)
  /-- A response of the BPM (R356): port, 0 done, 1 NO_FIT, 2 POOL_EMPTY, 3 fenced-abort, 4 refused, and the handle. -/
  | bpmResp (port code handle : Nat)
  /-- A flash write by SEC (R540): area code and version. -/
  | flash (area ver : Nat)
  deriving DecidableEq, Repr

end Sys2Proof.Machine
end

