-- ==== Sys2Proof/Machine/MemRec.lean ====
section
/-! DEFINITION. The records of the memory system (R330 to R363), the DMA engine (R364 to R377), the mailboxes (R378 to
R385) and the internal interrupt controller (R386 to R393). -/

namespace Sys2Proof.Machine

/-- The states of a memory controller (R346, R348, R351). -/
inductive McSt where
  | off | training | active | srPrep | srEntry | selfRefresh | srExit | out
  deriving DecidableEq, Repr

/-- A request queued in a channel (R339 to R341). -/
structure DReq where
  write : Bool := false
  /-- Device address of the first byte. -/
  addr : Nat := 0
  /-- The bytes a write stores. -/
  data : List Byte := []
  len : Nat := 0
  /-- Class: 0 RT, 1 HI, 2 BE. -/
  cls : Nat := 2
  /-- Request port (R359) it came from. -/
  port : Nat := 0
  /-- What the check of the line read will find (R338): 0 no error, 1 corrected, 2 uncorrectable. -/
  ecc : Nat := 0
  /-- Model time (ps) of its arrival, and its order in the channel. -/
  arrived : Nat := 0
  order : Nat := 0
  deriving DecidableEq, Repr

/-- One channel of a controller (R340, R344, R350). -/
structure McCh where
  owed : Nat := 0
  reads : List DReq := []
  writes : List DReq := []
  /-- Bank pairs by age of their last refresh, oldest first. -/
  pairs : List Nat := [0, 1, 2, 3, 4, 5, 6, 7]
  /-- Model time (ps) the last RT request was served. -/
  lastRt : Option Nat := none
  osc : Nat := 0
  delta : Int := 0
  adj : Nat := 0
  excursion : Bool := false
  /-- A drift window has been deferred under R345. -/
  deferred : Bool := false
  deriving DecidableEq, Repr

/-- A memory controller (R330 to R351). -/
structure Mc where
  st : McSt := .off
  populated : Bool := false
  /-- DENSITY code of MC_CFG. -/
  density : Nat := 0
  /-- Trained at 4,800 MT/s. -/
  slow : Bool := false
  inService : Bool := false
  /-- MR4 multiplier: 0 ×1, 1 ×2, 2 ×4. -/
  mult : Nat := 0
  ch : Tab McCh := []
  /-- The delay table, by channel, kind and index as MC_DLY_SEL packs them. -/
  delays : Tab Nat := []
  /-- MR5, MR6 and MR8 of the four channels, the key of a stored training record (R348). -/
  key : List Nat := []
  /-- What the pattern engine last wrote on each channel: key 4 × channel + 0 lines exponent, 1 pattern, 2 PRBS. -/
  scratch : Tab Nat := []
  lastReq : Nat := 0
  /-- Entry ordered by power control (R470). -/
  ordered : Bool := false
  /-- Time (ps) the present state was entered. -/
  since : Nat := 0
  deriving DecidableEq, Repr

/-- The buffer types of R352. -/
inductive PoolTy where
  | disabled | packet | bitstream | frame
  deriving DecidableEq, Repr

/-- A buffer pool as laid out at start-up (R352). -/
structure Pool where
  ty : PoolTy := .disabled
  /-- Buffer size in bytes. -/
  size : Nat := 0
  share : Nat := 0
  count : Nat := 0
  /-- Device address of the pool's first buffer in each controller that holds it. -/
  base : Tab Nat := []
  /-- Position (in the in-service list) of the controller of the last allocation. -/
  rot : Nat := 0
  /-- The oldest ticket refused since a buffer was last held (R361): ticket and requester. -/
  ticket : Option (Nat × Nat) := none
  /-- The buffer held for a ticket (R361): its record key, the requester, and until when (ps). -/
  held : Option (Nat × Nat × Nat) := none
  deriving DecidableEq, Repr

/-- A buffer record (R355). -/
structure BufRec where
  alloc : Bool := false
  gen : Nat := 0
  /-- 0 the PF, n VF n, 0x7F the device. -/
  owner : Nat := 0
  cls : Nat := 0
  sid : Option Nat := none
  hostHeld : Bool := false
  refcnt : Nat := 0
  /-- HOST buffers are filled with zeros: what an unwritten byte reads as (R356). -/
  zeroed : Bool := false
  deriving DecidableEq, Repr

/-- A hardware requester between refusals (R361): ticket, refusals so far, earliest next attempt (ps), and what it
asked for. -/
structure Retry where
  ticket : Nat := 0
  refusals : Nat := 0
  next : Nat := 0
  ty : PoolTy := .packet
  size : Nat := 0
  cls : Nat := 0
  sid : Option Nat := none
  fn : Nat := 0x7F
  port : Nat := 0
  /-- The handle a retry has taken and the requester has not yet used. -/
  got : Option Nat := none
  deriving DecidableEq, Repr

/-- The buffer pool manager. -/
structure Bpm where
  pools : Tab Pool := []
  /-- Records by pool × 2^20 + index. -/
  bufs : Tab BufRec := []
  /-- RSV by pool × 4096 + SID. -/
  rsv : Tab Nat := []
  retries : Tab Retry := []
  /-- REF (true) and UNREF operations kept while the DMA/BPM polder is sealed, oldest first: port and handle (R427). -/
  kept : List (Bool × Nat × Nat) := []
  /-- Controllers the layout was made over, in order. -/
  mcs : List Nat := []
  /-- The configuration in use (register words of BPM_POOL_CFG). -/
  cfg : Tab Nat := []
  deriving DecidableEq, Repr

/-- The states of a DMA channel (R375). -/
inductive DmaSt where
  | off | idle | run | halted
  deriving DecidableEq, Repr

/-- What executing a descriptor came to (R370, R372). -/
structure DmaEnd where
  desc : BitVec 256 := 0
  status : Nat := 0
  cause : Nat := 0
  info : Nat := 0
  remain : Nat := 0
  /-- Handles on which a count is held (R368). -/
  refs : List Nat := []
  deriving DecidableEq, Repr

/-- A DMA channel beside its ring registers (R364 to R376). -/
structure DmaCh where
  st : DmaSt := .off
  phase : Bool := true
  shadowPend : Bool := false
  /-- The descriptor in execution and what it came to. -/
  cur : Option DmaEnd := none
  remain : Nat := 0
  lastStatus : Nat := 0
  deriving DecidableEq, Repr

/-- A complete inbound message (R381): sender (a port H requester ID, or an MCTP endpoint ID), whether it came over an
endpoint binding, whether authenticated, its words. -/
structure InMsg where
  sender : Nat := 0
  mctp : Bool := false
  auth : Bool := false
  words : List Nat := []
  deriving DecidableEq, Repr

/-- An outbound message (R382): none for the host, or an MCTP endpoint ID; its words. -/
structure OutMsg where
  dest : Option Nat := none
  words : List Nat := []
  deriving DecidableEq, Repr

/-- A mailbox channel (R378 to R385). -/
structure Mbx where
  inMsgs : List InMsg := []
  /-- Words of the host's partial message, its authentication, and when its last word came (ps). -/
  inPart : List Nat := []
  inAuth : Bool := false
  inPartTime : Nat := 0
  outMsgs : List OutMsg := []
  outPart : OutMsg := {}
  /-- Words of the head message already taken by the host. -/
  outTaken : Nat := 0
  /-- Fragments of an MCTP message in the bridge: bus (true I3C) and words. -/
  frag : Option (Bool × List Nat) := none
  /-- A whole message the bridge holds (R380). -/
  bridge : Option InMsg := none
  /-- When the endpoint message at the head was first found undeliverable (ps). -/
  endSince : Option Nat := none
  deriving DecidableEq, Repr

/-- A MIC source beside its MIC_SRC_CFG word (R387 to R389). -/
structure MicSrc where
  pend : Bool := false
  /-- The input is asserted (level sources). -/
  input : Bool := false
  /-- The level a page header drives it at, as last sampled (R501). -/
  hdr : Bool := false
  activeAt : Option Nat := none
  deriving DecidableEq, Repr

/-- A MIC target beside its threshold (R388, R392). -/
structure MicTgt where
  sleeping : Bool := false
  /-- Its interrupt is asserted. -/
  irq : Bool := false
  deriving DecidableEq, Repr

end Sys2Proof.Machine
end

