-- ==== Sys2Proof/Machine/QueueRec.lean ====
section
/-! DEFINITION. The records of the host queues (R212 to R242): functions, queue pairs, entries formed, command slots. -/

namespace Sys2Proof.Machine

/-- A formed completion-queue entry before it is written (R227): the writes that go immediately before it (R239), the
command slot it frees (R220), its overflow index (R235), and whether it is a picture completion of an LC0 session
(R237). -/
structure Entry where
  r0 : Nat := 0
  r1 : Nat := 0
  r2 : Nat := 0
  r3 : Nat := 0
  cid : Nat := 0
  opcode : Nat := 0
  status : Nat := 0
  kind : Nat := 0
  sid : Option Nat := none
  notes : Nat := 0
  ext : Nat := 0
  /-- Device time (ns) at which it was formed. -/
  time : Nat := 0
  /-- Model time (ps) at which it was formed, for AGG_TIME. -/
  formed : Nat := 0
  idx : Nat := 0
  urgent : Bool := false
  slot : Option Nat := none
  /-- The completion of an accepted or row-stream picture (R233). -/
  pic : Bool := false
  pre : List Out := []
  deriving DecidableEq, Repr

/-- The delivery states of R238. -/
inductive CqSt where
  | direct | stagedL1 | stagedD3 | stagedFull | flushing
  deriving DecidableEq, Repr

/-- A queue pair (R216, R217, R237 to R240). -/
structure QPair where
  sqBase : Nat := 0
  sqLog : Nat := 0
  sqHead : Nat := 0
  sqTail : Nat := 0
  urgentClass : Bool := false
  cqBase : Nat := 0
  cqLog : Nat := 0
  cqHead : Nat := 0
  cqTail : Nat := 0
  seq : Nat := 0
  /-- Phase of the pass in progress (R227). -/
  phase : Bool := true
  vector : Nat := 0
  ien : Bool := false
  policyDrop : Bool := false
  urgentBypass : Bool := false
  aggCount : Nat := 0
  /-- AGG_TIME in µs. -/
  aggTime : Nat := 0
  /-- SVC_BOUND in ms. -/
  svcBound : Nat := 100
  st : CqSt := .direct
  staged : List Entry := []
  held : List Entry := []
  /-- The overflow record: 16 counters of 16 bits (R239). -/
  ovfl : Tab Nat := []
  /-- Entries written and not yet signalled, the time (ps) the first was formed, and whether one is an LC0 picture. -/
  unsig : Nat := 0
  firstUnsig : Nat := 0
  urgUnsig : Bool := false
  /-- Service timer: time already run (ps), and running since. -/
  svcRun : Nat := 0
  svcSince : Option Nat := none
  /-- R240 has acted in this stall; under DROP, entries are then counted at once. -/
  stalled : Bool := false
  /-- The slot of a DELETE_QP in progress (R553). -/
  deleting : Option Nat := none
  deriving DecidableEq, Repr

/-- A command slot (R220): the command fetched into it, or the row-stream picture that took it (R87). -/
structure Slot where
  fn : Nat := 0
  qid : Nat := 0
  entry : BitVec 512 := 0
  /-- Fetch order over the device, for FENCE (R222). -/
  order : Nat := 0
  /-- The command's row has run; a long command waits for its end. -/
  started : Bool := false
  /-- Its completion has been formed and waits to be written. -/
  formed : Bool := false
  /-- The row-stream picture that took the slot (R87): session and picture number. -/
  picture : Option (Nat × Nat) := none
  deriving DecidableEq, Repr

/-- OPCODE of the entry (R222). -/
def Slot.opcode (c : Slot) : Nat := bitsOf c.entry.toNat 0 8
/-- FENCE of the entry. -/
def Slot.fence (c : Slot) : Bool := bitAt c.entry.toNat 8
/-- CID of the entry. -/
def Slot.cid (c : Slot) : Nat := bitsOf c.entry.toNat 16 16
/-- SID of the entry. -/
def Slot.sid (c : Slot) : Nat := bitsOf c.entry.toNat 32 12
/-- PTR0 of the entry. -/
def Slot.ptr0 (c : Slot) : Nat := bitsOf c.entry.toNat 64 64
/-- PTR1 of the entry. -/
def Slot.ptr1 (c : Slot) : Nat := bitsOf c.entry.toNat 128 64
/-- `n` bits of ARGS from bit `lo` of the word at byte offset `off` of the entry. -/
def Slot.arg (c : Slot) (off lo n : Nat) : Nat := bitsOf c.entry.toNat (8 * off + lo) n

/-- A PCI Express function of port H (R212, R213, R216, R238). -/
structure Func where
  enabled : Bool := false
  d3 : Bool := false
  bme : Bool := false
  pmeEn : Bool := false
  /-- PME has been sent in this stay in D3hot. -/
  pmeSent : Bool := false
  pairLimit : Nat := 4
  slotLimit : Nat := 256
  /-- Session-count and load quotas of R47. -/
  sessQuota : Nat := 0
  loadQuota : Nat := 0
  aqReady : Bool := false
  /-- MSI-X mask and pending bits of the 32 vectors (R237). -/
  mask : W32 := 0xFFFFFFFF#32
  pend : W32 := 0#32
  deriving DecidableEq, Repr

/-- The link state of a port as R238 and R506 see it. -/
inductive LinkSt where
  | down | l0 | l1
  deriving DecidableEq, Repr

/-- An IDE stream of a port (R317, R506): 0 the link stream, 1 to 8 the selective ones. -/
structure IdeStream where
  secure : Bool := false
  streamId : Nat := 0
  mutualAuth : Bool := false
  peerRoot : Bool := false
  opRoot : Bool := false
  /-- Keys have been programmed. -/
  configured : Bool := false
  /-- Sub-streams whose keys are programmed and not yet taking effect (KEY_PROG before K_SET_GO), and those whose keys are
  in effect. -/
  staged : List Nat := []
  live : List Nat := []
  /-- The SPDM session that keyed it. -/
  keyedBy : Option Nat := none
  /-- Hash of the requester's certificate (model's name for it). -/
  cert : Nat := 0
  deriving DecidableEq, Repr

/-- An SPDM secured session of a port (R316). -/
structure SpdmSession where
  sessId : Nat := 0
  /-- FINISH has completed it. -/
  established : Bool := false
  mutualAuth : Bool := false
  peerRoot : Bool := false
  opRoot : Bool := false
  cert : Nat := 0
  keyGen : Nat := 0
  deriving DecidableEq, Repr

/-- A PCI Express port: link, DOE and IDE (R212, R316, R317, R506). Port 0 is H, 1 P0, 2 P1. -/
structure Port where
  link : LinkSt := .down
  gen : Nat := 0
  width : Nat := 0
  flit : Bool := false
  l1Exiting : Bool := false
  /-- The port's single function (P0, P1): D-state, BME and PME_En. -/
  d3 : Bool := false
  bme : Bool := false
  pmeEn : Bool := false
  /-- SPDM connection state: 0 none, 1 version, 2 capabilities, 3 algorithms negotiated. -/
  spdm : Nat := 0
  sessions : List SpdmSession := []
  nextSess : Nat := 0
  ide : Tab IdeStream := []
  /-- NumVFs while VF Enable is 1, else 0 (port H, R506). -/
  numVfs : Nat := 0
  deriving DecidableEq, Repr

end Sys2Proof.Machine
end

