-- ==== Sys2Proof/Machine/ChipRec.lean ====
section
/-! DEFINITION. The records of cores, pelotons and tandems (R50 to R59, R89 to R94, R192, R394 to R418), of faults
(R419 to R452), of power, clocks, start-up and settings (R453 to R484), of the network and time (R243 to R281) and of
SEC (R282 to R329). -/

namespace Sys2Proof.Machine

/-- A job packet in a row work queue (R51, R52): its words, how many are written, and its arrival. -/
structure Pkt where
  sid : Nat := 0
  pic : Nat := 0
  row : Nat := 0
  lc : Nat := 0
  core : Nat := 0
  words : List Nat := []
  written : Nat := 0
  /-- Arrival order and model time (ps) of its last word. -/
  order : Nat := 0
  time : Nat := 0
  /-- Read as LC1 under R55. -/
  promoted : Bool := false
  deriving DecidableEq, Repr

/-- A peloton's scheduler (R50 to R59) and its registers' live state. -/
structure Pel where
  queue : List Pkt := []
  nextOrder : Nat := 0
  /-- A packet of this class waits for room (R53). -/
  waiting : Option Nat := none
  deriving DecidableEq, Repr

/-- A row a core works on (R91): where its packet came from and how far its blocks are. -/
structure CoreRow where
  sid : Nat := 0
  pic : Nat := 0
  row : Nat := 0
  lc : Nat := 0
  promoted : Bool := false
  /-- Holds a row slot (in flight); else draining. -/
  slot : Option Nat := none
  blocks : Nat := 0
  /-- Blocks that have entered stage 1, and that have left each of the seven stages. -/
  entered : Nat := 0
  left : List Nat := [0, 0, 0, 0, 0, 0, 0]
  /-- Order of dispatch. -/
  order : Nat := 0
  decode : Bool := false
  /-- The blocks that have left stage 1, in order, with what the stages made of them (R89). -/
  blks : List BlkData := []
  deriving DecidableEq, Repr

/-- What the micro-sequencers of a core hold (R396, R400, R412): base version, patch level, HASH_MCODE, and the two stores. -/
structure Store where
  base : Nat := 0
  patch : Nat := 0
  hash : Nat := 0
  micro : Tab Nat := []
  nano : Tab Nat := []
  deriving DecidableEq, Repr

/-- A preemption record (R405): the priority of the request taken, the saved restart address and micro-stack, and whether
the handler that was running had reached its first commit point. -/
structure PreRec where
  prio : Nat := 0
  restart : Nat := 0
  stack : List Nat := []
  acted : Bool := true
  deriving DecidableEq, Repr

/-- A micro-sequencer context (R394 to R408). -/
structure Ctx where
  ua : Nat := 0
  restart : Nat := 0
  stack : List Nat := []
  /-- The micro-stack of the last fold. -/
  saved : List Nat := []
  /-- The shadow: bytes written to core SRAM, operations and events held, NOTIFY events among them (R403, R404). -/
  sram : Nat := 0
  ops : Nat := 0
  notes : Nat := 0
  dist : Nat := 0
  /-- Newest first. -/
  records : List PreRec := []
  /-- The handler that runs has reached its first commit point (R408). -/
  acted : Bool := true
  stalled : Bool := false
  parked : Bool := false
  /-- Holds at a WAIT whose nanoword has been issued (R394, R397, R401). -/
  waiting : Bool := false
  deriving DecidableEq, Repr

/-- A core (R50, R89 to R94, R394 to R418, R507). -/
structure Core where
  rows : List CoreRow := []
  nextOrder : Nat := 0
  /-- Blocks that have left stage 1, by their row's order, and how many of them have left stages 2 to 7. -/
  flow : List Nat := []
  pos : List Nat := [0, 0, 0, 0, 0, 0]
  /-- Sessions whose fence request is pending (R405), and the contexts that have acted on it: SID and context. -/
  fences : List Nat := []
  fenced : List (Nat × Nat) := []
  underrun : Bool := false
  store : Store := {}
  ctx : Tab Ctx := []
  /-- A KIND 3 packet's session switch, and the internal interrupt, pending (R405). -/
  switch : Bool := false
  intReq : Bool := false
  /-- A patch activation has been asked for, and runs (R415). -/
  actReq : Bool := false
  activating : Bool := false
  /-- The context of the first stall (R418). -/
  stall : Option Nat := none
  scrubReq : Bool := false
  /-- The running scrub pass ends then (ps). -/
  scrubUntil : Nat := 0
  lastScrub : Nat := 0
  /-- Watermark unit: by session, K_wm's name and the payload (R325). -/
  wm : Tab (Nat × Nat) := []
  deriving DecidableEq, Repr

/-- The states of a core pair (R191, R192). -/
inductive PairSt where
  | single | joining | joined | halfFenced
  deriving DecidableEq, Repr

/-- A record carried over a seam link (R202). -/
structure SeamRec where
  kind : Nat := 0
  sid : Nat := 0
  pic : Nat := 0
  row : Nat := 0
  block : Nat := 0
  words : List Nat := []
  deriving DecidableEq, Repr

/-- A core pair: tandem state, seam link, records received (R192, R201 to R203). -/
structure Pair where
  st : PairSt := .single
  joinSlot : Option Nat := none
  since : Nat := 0
  trained : Bool := false
  enabled : Bool := false
  /-- Which core of a HALF_FENCED pair is sealed. -/
  fenced : Option Nat := none
  /-- Records sent and not yet received. -/
  sent : List SeamRec := []
  recs : List SeamRec := []
  fails : Nat := 0
  atAdmit : Bool := false
  deriving DecidableEq, Repr

/-- The states of a polder (R437). -/
inductive PolSt where
  | opened | sealed | testing | quiescing | out
  deriving DecidableEq, Repr

/-- A polder (R437, R452 FLT_POLDER). -/
structure Polder where
  st : PolSt := .opened
  pending : Bool := false
  testFail : Bool := false
  cause : Nat := 0
  sealCnt : Nat := 0
  admitSlot : Option Nat := none
  sealedAt : Nat := 0
  deriving DecidableEq, Repr

/-- A fault report on its way to FLT (R419, R425, R432). -/
structure Report where
  src : Nat := 0
  addr : Nat := 0
  addrKind : Nat := 0
  requester : Nat := 0
  access : Nat := 0
  inj : Bool := false
  deriving DecidableEq, Repr

/-- The fault collector beside its flat registers (R425 to R435). -/
structure Flt where
  /-- Reports detected and not yet at FLT, oldest first (R18, R426). -/
  reports : List Report := []
  polders : Tab Polder := []
  /-- Class of a source where it differs from its default. -/
  cls : Tab Nat := []
  cnt : Tab Nat := []
  /-- Model time (ps) of the last EVT_FAULT of the source, plus one; 0 for none. -/
  lastRep : Tab Nat := []
  unrep : Tab Nat := []
  fatal : Option (Nat × Nat) := none
  deriving DecidableEq, Repr

/-- Power control of a peloton (R457 to R468). -/
structure Gear where
  run : Nat := 0
  /-- Caps by kind: gear code in force. -/
  thermal : Option Nat := none
  droop : Option Nat := none
  headroom : Option Nat := none
  /-- Last step of the thermal cap; since when T has stayed at or below THROTTLE − HYST; last release (ps). -/
  thStep : Nat := 0
  thBelow : Option Nat := none
  /-- Last trigger or release of the droop and headroom caps (ps). -/
  drLast : Nat := 0
  hrLast : Nat := 0
  vCode : Nat := 0
  slack : Nat := 0
  lowRun : Nat := 0
  pendingUp : Option Nat := none
  overload : Bool := false
  temps : List Nat := [0, 0, 0, 0, 0, 0, 0, 0]
  /-- Stretching since (ps), and ended spans of it within the last window: start and end. -/
  stretchFrom : Option Nat := none
  spans : List (Nat × Nat) := []
  deriving DecidableEq, Repr

/-- A settings image in a bank of NVS (R478, R479). -/
structure NvsBank where
  valid : Bool := false
  gen : Nat := 0
  stores : Nat := 0
  /-- Register records by BAR0 address. -/
  regs : Tab Nat := []
  /-- Training records by controller: key (MR5, MR6, MR8 of the channels) and delay table. -/
  train : Tab (List Nat × Tab Nat) := []
  tandem : Nat := 0
  classes : Tab Nat := []
  deriving DecidableEq, Repr

/-- A running NVS write (R481, R483). -/
structure NvsWrite where
  toB : Bool := false
  image : NvsBank := {}
  /-- Source: true NVS_CMD. -/
  cmd : Bool := false
  slot : Option Nat := none
  deriving DecidableEq, Repr

/-- The settings store (R478 to R484). -/
structure Nvs where
  a : NvsBank := {}
  b : NvsBank := {}
  /-- Bank in use is B. -/
  inUseB : Bool := false
  defaults : Bool := false
  write : Option NvsWrite := none
  /-- An open NVS_CMD sequence: OP and the time (ps) of the first write. -/
  seq : Option (Nat × Nat) := none
  deriving DecidableEq, Repr

/-- Supply, reset and start-up (R453, R454, R471 to R477, R504, R539, R543). -/
structure Boot where
  /-- VDD_AON is present; the other four rails are within tolerance. -/
  aon : Bool := true
  rails : Bool := false
  refclk : Bool := false
  perst : Bool := true
  rootLock : Bool := false
  everLocked : Bool := false
  /-- Start-up may run: after PERST# deassertion or in a warm reset. -/
  step : Nat := 1
  ready : Bool := false
  stopStep : Nat := 0
  stopCause : Nat := 0
  recovery : Bool := false
  warm : Bool := false
  /-- The reset whose start-up is due: 0 power-on, 1 PERST#, 2 warm by PF, 3 warm by SEC. -/
  cause : Nat := 0
  straps : Nat := 0
  qspiDtr : Bool := false
  /-- Command fetch has stopped (R435, R505). -/
  fetchStop : Bool := false
  fatalPin : Bool := false
  deriving DecidableEq, Repr

/-- Facts of the part, its fuses and its flash (R1, R283, R502, R540). -/
structure Board where
  /-- POWER_ON has told what the part holds. -/
  known : Bool := false
  /-- The flash lists a quad I/O DTR read. -/
  dtr : Bool := false
  serial : Nat := 0
  /-- NL6440-14. -/
  grade14 : Bool := false
  deriving DecidableEq, Repr

/-- An Ethernet subport (R243 to R246, R556). -/
structure Subport where
  up : Bool := false
  /-- Host transmit bucket of R260: what is taken out of it, in ps at 1 Gbit/s, and when that was so (ps). -/
  bucket : Nat := 0
  bucketAt : Nat := 0
  /-- The medium is taken until then (ps). -/
  busyUntil : Nat := 0
  deriving DecidableEq, Repr

/-- A packet formed and scheduled (R255, R259, R260). -/
structure TxPkt where
  sid : Nat := 0
  pic : Nat := 0
  row : Nat := 0
  seq : Nat := 0
  /-- Class for R260: LC 0–3. -/
  lc : Nat := 0
  /-- Wire size in bytes (R250). -/
  len : Nat := 0
  /-- Scheduled time, device ns. -/
  due : Nat := 0
  order : Nat := 0
  lastOfPic : Bool := false
  firstOfPic : Bool := false
  /-- Payload octets for R263, RTP time stamp, marker, and the key it is under. -/
  payload : Nat := 0
  ts : Nat := 0
  key : Nat := 0
  /-- It will be discarded at its time: no key, no next hop, or the index exhausted (R248, R256, R257). -/
  dead : Bool := false
  deriving DecidableEq, Repr

/-- A master a domain has heard (R274): its port identity, its data set in the order the BMCA compares, qualified Announce
messages counted, model time (ps) of the last, its Announce interval (log2 s), and currentUtcOffset if valid. -/
structure Foreign where
  id : Nat := 0
  ds : List Nat := []
  count : Nat := 0
  last : Nat := 0
  log : Int := 0
  utc : Option Nat := none
  deriving DecidableEq, Repr

/-- A PTP domain (R274 to R277). Times t1, t2 in ns; model times in ps; rates in 1/65536 ppb. -/
structure Ptp where
  foreign : List Foreign := []
  /-- The master the BMCA has selected. -/
  master : Option Nat := none
  lastSync : Nat := 0
  syncLog : Int := 0
  /-- The last completed Sync: master time with its corrections, arrival. -/
  t1 : Int := 0
  t2 : Int := 0
  synced : Bool := false
  /-- A two-step Sync that waits for its Follow_Up: sequence number, arrival, correction. -/
  two : Option (Nat × Int × Int) := none
  /-- A Delay_Req that waits for its Delay_Resp: sequence number and t3; the next number; the master's interval. -/
  req : Option (Nat × Int) := none
  reqSeq : Nat := 0
  reqLog : Int := 0
  /-- Mean path delay. -/
  delay : Option Int := none
  /-- Last offset o, and whether there is one. -/
  o : Int := 0
  oValid : Bool := false
  /-- For the last 16 offsets, newest first: did each lie within LOCK_THRESH of its prediction? -/
  good : List Bool := []
  /-- i of R276. -/
  integ : Int := 0
  deriving DecidableEq, Repr

/-- The time unit's states (R277). -/
inductive TimeSt where
  | freerun | acquire | locked | freewheel | manual
  deriving DecidableEq, Repr

/-- The time unit (R272 to R281). -/
structure TimeUnit where
  st : TimeSt := .freerun
  doms : Tab Ptp := []
  /-- The active domain; it is active outside FREERUN and MANUAL. -/
  active : Nat := 0
  /-- Consecutive |o| below LOCK_THRESH in ACQUIRING. -/
  run : Nat := 0
  /-- currentUtcOffset of the domain in use, 37 before a valid one has been received (R263). -/
  utc : Nat := 37
  deriving DecidableEq, Repr

/-- The network side (R243 to R271, R280). -/
structure Net where
  subs : Tab Subport := []
  tx : List TxPkt := []
  nextOrder : Nat := 0
  exqTail : Nat := 0
  exqPhase : Bool := true
  htqHead : Nat := 0
  deriving DecidableEq, Repr

/-- A microcode body as SEC reads it (R409, R410): the records by address; words of a base image not listed are 0.
`lenOk`: the body's length agrees with its counts. -/
structure McBody where
  base : Nat := 0
  level : Nat := 0
  prev : Nat := 0
  micro : List (Nat × Nat) := []
  nano : List (Nat × Nat) := []
  lenOk : Bool := true
  deriving DecidableEq, Repr

/-- A signed image (R292) as SEC finds it. `good`: every field is in range, the body hash matches and the signature verifies
under the header's key. Hashes are numbers of 48 bytes, little-endian. -/
structure Img where
  good : Bool := false
  ty : Nat := 0
  ver : Nat := 0
  svn : Nat := 0
  commit : Bool := false
  signer : Nat := 0
  keyHash : Nat := 0
  hash : Nat := 0
  body : McBody := {}
  /-- The peer root list of a SEC firmware image (R318). -/
  roots : List Nat := []
  deriving DecidableEq, Repr

/-- SEC (R283 to R329). Keys are the model's names for them, 0 for none. -/
structure Sec where
  /-- Lifecycle groups burnt: bit 0 PROVISIONED, 1 OPERATIONAL, 2 RETURNED. -/
  lcBurnt : Nat := 0
  /-- Lifecycle in force: 0 MANUFACTURE, 1 PROVISIONED, 2 OPERATIONAL, 3 RETURNED. -/
  lc : Nat := 0
  /-- DEVICE_SEED is not empty. -/
  seed : Bool := false
  /-- VENDOR_HASH and OPERATOR_HASH by slot, the revocation bits, and the SVN counters in the order of R283. -/
  vendorHash : Tab Nat := []
  vendorRevoke : Nat := 0
  opHash : Tab Nat := []
  opRevoke : Nat := 0
  svn : Tab Nat := []
  /-- Requests the random bit generator has served, and their number at its last reseeding (R287). -/
  drbg : Nat := 0
  seededAt : Nat := 0
  dbgLevel : Nat := 0
  /-- The challenge not yet answered: the number of its nonce, and its level (R322). -/
  dbgChal : Option (Nat × Nat) := none
  /-- The cluster record: id, generation, CDID, and the model's names of cluster key and WRK. -/
  cluster : Option (Nat × Nat × Nat × Nat × Nat) := none
  /-- Cluster keys are in the working store. -/
  loaded : Bool := false
  /-- The last ENROL_REQ: the name of its ephemeral key, and its hash (R310). -/
  enrol : Option (Nat × Nat) := none
  /-- Running images in the order of R283: 0 SEC, 1 management, 2 microcode, 3 operator extension. -/
  images : Tab Img := []
  /-- Flash areas of R291: 0 SEC A, 1 SEC B, 2 management A, 3 management B, 4 operator extension, 5 microcode base. -/
  flash : Tab Img := []
  /-- The patch slots of R413. -/
  patches : Tab Img := []
  /-- XTS key slots of sessions and of the device (R308), and the device wrapping key of R21. -/
  xts : Tab Nat := []
  devXts : Nat := 0
  devWrap : Nat := 0
  bindLocked : Bool := false
  /-- The binding table in NVS (R320). -/
  bind : Tab Nat := []
  /-- Bytes of the identity certificate chain in NVS (R288). -/
  chainLen : Nat := 0
  /-- Channels of the secure requests accepted and not yet served (R319, R381). -/
  reqs : List Nat := []
  injCount : Nat := 0
  injLast : Nat := 0
  wiped : Bool := false
  deriving DecidableEq, Repr

/-- The device's microcode: the running store, and an MCODE_LOAD in progress (R411 to R416): the store to come, its image,
the command slot, the cores not yet activated, STORE and CLEAR. -/
structure Mcode where
  run : Store := {}
  next : Option Store := none
  img : Img := {}
  slot : Option Nat := none
  left : List Nat := []
  store : Bool := false
  clear : Bool := false
  deriving DecidableEq, Repr

/-- Of a requester (R493): the register whose low half its previous register read took, the high half latched then, and a low
half written and held, with its register. -/
structure Half where
  lastRead : Option Nat := none
  latch : Nat := 0
  held : Option (Nat × Nat) := none
  deriving DecidableEq, Repr

end Sys2Proof.Machine
end

