-- ==== Sys2Proof/Machine/RxRec.lean ====
section
/-! DEFINITION. What a received Ethernet frame brings, as its content gives it (R245, R264 to R270, R274; log 7). -/

namespace Sys2Proof.Machine

/-- One metric entry of a congestion-control feedback report (R140, R265, RFC 8888): 16-bit sequence number, received, CE
mark, arrival time offset in 1/1024 s (0x1FFE and 0x1FFF carry no time). -/
structure Metric where
  seq : Nat := 0
  rx : Bool := false
  ce : Bool := false
  ato : Nat := 0
  deriving DecidableEq, Repr

/-- One item of an NLRF packet (R266). -/
structure NlrfItem where
  pic : Nat := 0
  loss : Bool := false
  rsvd : Bool := false
  deriving DecidableEq, Repr

/-- What a compound RTCP packet holds that R265 may take. -/
inductive RtcpItem where
  /-- A report block: its SSRC, fraction lost, LSR, DLSR. -/
  | report (ssrc frac lsr dlsr : Nat)
  /-- PLI with its media source. -/
  | pli (media : Nat)
  /-- An FCI entry of FIR: sender, SSRC named, sequence number. -/
  | fir (sender ssrc seq : Nat)
  /-- A report block of RFC 8888: SSRC, report time stamp (middle 32 bits of NTP), entries. -/
  | ccfb (ssrc rts : Nat) (l : List Metric)
  /-- An NLRF packet: media SSRC, items. -/
  | nlrf (media : Nat) (l : List NlrfItem)
  deriving DecidableEq, Repr

/-- A received SRTCP compound: index, the key (by the model's name) under which it authenticates, 0 for none, and what it
holds; `valid` is the validity of RFC 3550 as RFC 5506 relaxes it. -/
structure RtcpIn where
  index : Nat := 0
  key : Nat := 0
  valid : Bool := true
  items : List RtcpItem := []
  deriving DecidableEq, Repr

/-- A received PTP message (R274): source port identity where it matters. -/
inductive PtpMsg where
  /-- Announce: source, data set in comparison order, stepsRemoved, currentUtcOffset if valid, log2 of the interval. -/
  | announce (src : Nat) (ds : List Nat) (steps : Nat) (utc : Option Nat) (log : Int)
  /-- Sync: source, sequence number, two-step flag, origin time stamp (ns), correction (ns), log2 of the interval. -/
  | sync (src seq : Nat) (twoStep : Bool) (t1 corr : Int) (log : Int)
  | followUp (src seq : Nat) (t1 corr : Int)
  /-- Delay_Resp to this device's request: source, sequence number, t4, correction, log2 of logMinDelayReqInterval. -/
  | delayResp (src seq : Nat) (t4 corr : Int) (log : Int)
  /-- Any other message. -/
  | other
  deriving DecidableEq, Repr

/-- What a frame is. -/
inductive RxBody where
  /-- A PTP message: domainNumber and transport (0 IEEE 802.3, 1 UDP over IPv4). -/
  | ptp (dom tr : Nat) (m : PtpMsg)
  /-- A UDP datagram that is no fragment: IP version, addresses, ports, unicast destination, good checksum, second payload
  byte, and what it holds if it is an SRTCP compound. -/
  | udp (ver src sport dst dport : Nat) (uni csum : Bool) (pt : Nat) (rtcp : RtcpIn)
  /-- Any other frame, with its reason of R268: 0 other, 1 ARP, 2 ICMPv4, 3 ICMPv6, 4 IP fragment. -/
  | other (reason : Fin 5)
  deriving DecidableEq, Repr

/-- A received frame: FCS good, length with FCS, MAC control, destination MAC address, what it is, and its bytes without the
FCS. -/
structure RxFrame where
  fcs : Bool := true
  len : Nat := 64
  macCtl : Bool := false
  dst : Nat := 0
  body : RxBody := .other 0
  bytes : List Byte := []
  deriving DecidableEq, Repr

end Sys2Proof.Machine
end

