-- ==== Sys2Proof/Machine/SecRec.lean ====
section
/-! DEFINITION. What SEC finds in the messages a command brings: key agreement (R302), enrolment, tickets and grants (R310 to
R312), and the requests of SPDM and IDE_KM (R316). What a signature or an authentication tag comes to is a truth value, what
a key or hash is, a number that names it (log 6). -/

namespace Sys2Proof.Machine

/-- The player's message M1 (R302). -/
structure KeyMsg where
  /-- MAGIC, FORMAT and lengths are right, and Q_P is a point of the curve. -/
  form : Bool := true
  /-- FLAGS[0]: a certificate chain is present. -/
  cert : Bool := false
  /-- Every signature of the chain and the message's own verify. -/
  sig : Bool := false
  /-- SHA-384 of the chain's root key. -/
  root : Nat := 0
  suite : Nat := 0
  /-- SHA-384 of the message. -/
  hash : Nat := 0
  deriving DecidableEq, Repr

/-- The keys a host gives with KEY_AGREE SET (R301): SRTP_SUITE, and the names of the send and receive keys. -/
structure KeySet where
  suite : Nat := 0
  send : Nat := 0
  recv : Nat := 0
  deriving DecidableEq, Repr

/-- A joiner's ENROL_REQ as the member reads it (R310, R312). `good`: its form, its report and its chain verify. -/
structure EnrolReq where
  good : Bool := false
  hash : Nat := 0
  serial : Nat := 0
  lc : Nat := 0
  dbg : Nat := 0
  svns : List Nat := []
  deriving DecidableEq, Repr

/-- A ticket (R311). `good`: MAGIC and FORMAT are right and the signature verifies under the key it carries. -/
structure Ticket where
  good : Bool := false
  op : Nat := 0
  cluster : Nat := 0
  gen : Nat := 0
  cdid : Nat := 0
  serial : Nat := 0
  reqHash : Nat := 0
  /-- SHA-384 of the operator key it carries. -/
  keyHash : Nat := 0
  /-- The WRK its ciphertext opens to under the wrap key; none where the tag fails (CREATE). -/
  wrk : Option Nat := none
  deriving DecidableEq, Repr

/-- A GRANT (R312). `good`: its form, the member's report with its nonce and binding, and the chain verify. -/
structure Grant where
  good : Bool := false
  reqHash : Nat := 0
  cluster : Nat := 0
  gen : Nat := 0
  /-- LIFECYCLE, DEBUG, CLUSTER_ID and GENERATION of the member's report. -/
  lc : Nat := 0
  dbg : Nat := 0
  repCluster : Nat := 0
  repGen : Nat := 0
  /-- Cluster key and WRK its ciphertext opens to; none where the tag fails. -/
  keys : Option (Nat × Nat) := none
  deriving DecidableEq, Repr

/-- The certificate chain a requester has presented under mutual authentication (R316, R317): SHA-384 of its end-entity
certificate and of its root key; it verifies. -/
structure Peer where
  cert : Nat := 0
  root : Nat := 0
  deriving DecidableEq, Repr

/-- What a part holds when it is first powered, by its manufacture and test and by its board: fuses and OTP (R283), NVS (R478),
flash (R291), and the DRAM of each controller: density code and the key of R348. -/
structure Part where
  serial : Nat := 0
  grade14 : Bool := false
  dtr : Bool := false
  lcBurnt : Nat := 0
  seed : Bool := false
  vendorHash : Tab Nat := []
  vendorRevoke : Nat := 0
  opHash : Tab Nat := []
  opRevoke : Nat := 0
  svn : Tab Nat := []
  cluster : Option (Nat × Nat × Nat × Nat × Nat) := none
  bind : Tab Nat := []
  chainLen : Nat := 0
  flash : Tab Img := []
  patches : Tab Img := []
  a : NvsBank := {}
  b : NvsBank := {}
  dram : List (Nat × List Nat) := []
  deriving DecidableEq, Repr

/-- What the training of a controller comes to (R348): the compare with stored results, full training at 9,600 and at
4,800 MT/s pass, and the delays full training leaves. -/
structure TrainRes where
  stored : Bool := false
  high : Bool := false
  low : Bool := false
  delays : Tab Nat := []
  deriving DecidableEq, Repr

/-- An instruction of the JTAG TAP (R321, R542); `other`: one of run control, trace or scan, by its code. -/
inductive JtagOp where
  | idcode | bypass | sample | extest | other (code : Nat)
  deriving DecidableEq, Repr

end Sys2Proof.Machine
end

