-- ==== Sys2Proof/Machine/SessionRec.lean ====
section
/-! DEFINITION. The session context record (R511 to R522) as plain data, with the working state the session engine
keeps beside it: pictures in hand, ring, window, rate window. One field per field the spec names. -/

namespace Sys2Proof.Machine

/-- The three session kinds (R33); the codes are those of KIND in R512. -/
inductive SKind where
  | encode | tandem | decode
  deriving DecidableEq, Repr

/-- The session states of R36; the codes are those of STATE in R512. -/
inductive SState where
  | free | bound | active | quiescing | quiesced | moving | sealing | exported | stranded | closing
  deriving DecidableEq, Repr

/-- The pending command of R37 (PEND_CMD of R512). -/
inductive PendCmd where
  | none | quiesce | move | exporting
  deriving DecidableEq, Repr

/-- The coding standard (STANDARD of R513). -/
inductive Std where
  | av1 | hevc | avc
  deriving DecidableEq, Repr

/-- The term state of a reference slot (R168). -/
inductive Term where
  | empty | short | long | lost
  deriving DecidableEq, Repr

/-- An answer to a key-picture request, weakest first (R151). -/
inductive Answer where
  | none | reref | sweep | intra
  deriving DecidableEq, Repr

/-- How a block row is coded: by its QP, forced to QP_MAX (R137 step 1), as a skip row (R138) or as a flat row
(R139). -/
inductive RowKind where
  | normal | forced | skip | flat
  deriving DecidableEq, Repr

/-- Area C (R514): the rate, refresh and key settings of R121 and the overrides of R158. -/
structure RcSet where
  rcMode : Nat := 0
  rcTarget : Nat := 0
  rcPeak : Nat := 0
  rcFloor : Nat := 0
  /-- BUF_DELAY in µs; all ones means exactly 2/f (R524). -/
  bufDelay : Nat := 0xFFFFFFFF
  bufTarget : Nat := 4
  rowQpStep : Nat := 4
  keyRatio : Nat := 4
  qpMin : Nat := 10
  qpMax : Nat := 51
  cqQp : Nat := 30
  vbrWindow : Nat := 4
  narQhigh : Nat := 5
  sweepLen : Nat := 16
  refreshPeriod : Nat := 0
  intraPeriod : Nat := 0
  keyPolicy : Nat := 0
  firPolicy : Nat := 0
  keyHoldoff : Nat := 0
  forceQp : Nat := 0
  forceEn : Bool := false
  narHold : Bool := false
  deriving DecidableEq, Repr

/-- Area B (R513): format, coding, reference and decode settings. -/
structure FmtSet where
  std : Std := .hevc
  bitDepth : Nat := 8
  /-- Level × 10 (R114). -/
  level : Nat := 0
  constrainedHigh : Bool := false
  srcFmt : Nat := 0
  rowStream : Bool := false
  matrix : Nat := 0
  range : Nat := 0
  ringDepth : Nat := 144
  hintEn : Bool := false
  aqStrength : Nat := 2
  depthSplit : Nat := 4096
  rowSlices : Bool := false
  keepBitstream : Bool := false
  outFrames : Nat := 4
  hashCheck : Bool := true
  grainApply : Bool := true
  opPoint : Nat := 0
  refSlots : Nat := 4
  longMax : Nat := 1
  deriving DecidableEq, Repr

/-- Area D (R515): the network settings of R247. -/
structure NetSet where
  port : Nat := 0
  altPort : Nat := 15
  nhIndex : Nat := 0
  ipVer : Nat := 4
  vlan : Nat := 0
  dscp : Nat := 46
  ecn : Nat := 2
  hopLimit : Nat := 64
  mtu : Nat := 1280
  flowLabel : Nat := 0
  localIp : Nat := 0
  remoteIp : Nat := 0
  localPort : Nat := 0
  remotePort : Nat := 0
  wirePeak : Nat := 0
  /-- PACE_WINDOW in µs. -/
  paceWindow : Nat := 40
  paceBurst : Nat := 16
  rowFlush : Bool := true
  pt : Nat := 96
  picnumId : Nat := 1
  /-- SR_INTERVAL in ms. -/
  srInterval : Nat := 50
  srtpSuite : Nat := 1
  ssrc : Nat := 0
  /-- SUPPLY: bit 0 the block gave SSRC, bit 1 SEQ_BASE, bit 2 TS_BASE. -/
  supply : Nat := 0
  seqBase : Nat := 0
  tsBase : Nat := 0
  cname : List Byte := []
  deriving DecidableEq, Repr

/-- Area E (R516): report ring, feedback log and ingest binding. -/
structure HostSet where
  reportBase : Nat := 0
  reportCount : Nat := 0
  fblogBase : Nat := 0
  fblogCount : Nat := 0
  fblogNext : Nat := 0
  ingestPort : Nat := 0
  ingestStream : Nat := 0
  deriving DecidableEq, Repr

/-- Area F: the fields of the publisher policy of R299 that the device acts on. -/
structure Policy where
  exportOk : Bool := false
  rekeyOnImport : Bool := false
  publisherId : Nat := 0
  /-- MIN_SVN per image type, in the order of R283. -/
  minSvn : List Nat := []
  /-- Hashes of the accepted player roots. -/
  playerRoots : List Nat := []
  deriving DecidableEq, Repr

/-- Area G (R517): transport state, with the pacing state of R259. -/
structure Transport where
  rtpSeq : Nat := 0
  roc : Nat := 0
  srtcpIndex : Nat := 0
  lastTs : Nat := 0
  packets : Nat := 0
  octets : Nat := 0
  keyGen : Nat := 0
  keyed : Bool := false
  rekeyWait : Bool := false
  /-- Replay window of R258: the offsets i with bit i set, for the index HIGHEST − i. -/
  replay : List Nat := []
  highest : Nat := 0
  /-- The last FIR, and the last sequence number of each sender (R150). -/
  firSsrc : Nat := 0
  firSeq : Nat := 0
  firs : Tab Nat := []
  firValid : Bool := false
  /-- Device time (ns) at which the old receive key lapses; none: no old key; `some none`: no end time yet (R306). -/
  oldKeyUntil : Option (Option Nat) := none
  srNext : Option Nat := none
  /-- New keys wait for the first picture whose row 0 is decided after the KEY_AGREE completion (R306). -/
  rekeyPending : Bool := false
  /-- A time stamp has been given to a picture (R251). -/
  tsValid : Bool := false
  /-- E of the last row's span (R259), device ns. -/
  spanEnd : Nat := 0
  /-- Payload bytes of whole OBU elements in the partial packet carried to the next row under ROW_FLUSH 0 (R254). -/
  carry : Nat := 0
  /-- Bytes not yet sent of the NAL unit or OBU that is still open, and whether it has begun in an earlier packet. -/
  carryEl : Nat := 0
  carryFrag : Bool := false
  /-- Replay window of the old receive key (R306). -/
  oldReplay : List Nat := []
  oldHighest : Nat := 0
  /-- The session has sent an RTP packet on the wire on this device (device ns of the first, R142, R263). -/
  firstRtp : Option Nat := none
  /-- Departure record of R262, newest first: extended sequence number, departure ns, wire bits. -/
  depart : List (Nat × Nat × Nat) := []
  deriving DecidableEq, Repr

/-- One reference slot (R168, R518) with the references its picture captured (R170) and its clean extents. -/
structure Slot8 where
  handle : Nat := 0
  picNum : Nat := 0
  term : Term := .empty
  acked : Bool := false
  clean : Bool := false
  damaged : Bool := false
  order : Nat := 0
  packed : Nat := 0
  /-- Slots' pictures captured in the REFMASK of the slot's picture (picture numbers). -/
  refs : List Nat := []
  /-- Clean extent e_r per block row (area L, R145). -/
  extents : List Nat := []
  concealed : Bool := false
  grey : Bool := false
  deriving DecidableEq, Repr

/-- A feedback log entry formed and not yet written (R230): log index, and its eight 32-bit words. -/
structure FbWait where
  index : Nat := 0
  words : List Nat := []
  deriving DecidableEq, Repr

/-- One entry of a row model (area J, R520): b'_n in bits, QP'_n in 1/256 QP, skip mark. -/
structure ModelRow where
  b : Nat := 0
  qp : Int := 0
  valid : Bool := false
  skip : Bool := false
  deriving DecidableEq, Repr

/-- The buckets before a picture (R124, R129, R131, R132), in 1/256 bit, with what is needed to compute them again when the
coded size of the picture before is known, and the rows it leaves for the row model (R136). -/
structure Bkt where
  num : Nat := 0
  key : Bool := false
  /-- What D, D_N and A lose per picture, and W of R132. -/
  drainD : Nat := 0
  drainN : Nat := 0
  drainT : Nat := 0
  window : Nat := 4
  /-- The picture takes a change of RC_MODE, and one into NAR (R122). -/
  zeroA : Bool := false
  enterN : Bool := false
  d : Nat := 0
  n : Nat := 0
  a : Int := 0
  /-- The values of its row 0, from the estimate of R129. -/
  dE : Nat := 0
  nE : Nat := 0
  aE : Int := 0
  exact : Bool := false
  /-- Its own exact coded size, once known, its header bits and its RE sum (of the upper band on a tandem). -/
  s : Option Nat := none
  h : Nat := 0
  re : Nat := 0
  /-- Mean unit activity of R107, once known. -/
  act : Nat := 0
  rows : List (Nat × ModelRow) := []
  deriving DecidableEq, Repr

/-- Area I (R519): the loop state of R126. Buckets are in 1/256 bit. -/
structure LoopSt where
  d : Nat := 0
  dN : Nat := 0
  a : Int := 0
  rnet : Nat := 0
  /-- SRTT in µs, starting at 50 ms (R142). -/
  srtt : Nat := 50000
  /-- κ (κ_U on a tandem), 1/256. -/
  kU : Nat := 256
  kL : Nat := 256
  act : Nat := 0
  t : Nat := 0
  h : Nat := 0
  qp0 : Nat := 0
  qpLow : Nat := 0
  qpHigh : Nat := 0
  qpLast : Nat := 0
  forced : Nat := 0
  skipped : Nat := 0
  sweepK : Nat := 0
  inSweep : Bool := false
  krHost : Bool := false
  krPli : Bool := false
  krFir : Bool := false
  krLoss : Bool := false
  krAns : Answer := .none
  krDropped : Nat := 0
  /-- End of the holdoff, device ns (R154). -/
  holdEnd : Option Nat := none
  /-- The picture whose answer started the holdoff. -/
  holdPic : Nat := 0
  lastDec : Option Nat := none
  lastCcfb : Option Nat := none
  lastRtcp : Option Nat := none
  /-- Time of the previous CCFB report, for Δt of R141. -/
  prevReport : Option Nat := none
  /-- Last moment at which R_net was halved in RTCP silence (R142). -/
  lastHalve : Option Nat := none
  ccfbSilent : Bool := false
  rtcpSilent : Bool := false
  /-- o_min of the last ten 1 s intervals, newest first, with the second each belongs to. -/
  oMin : List (Nat × Int) := []
  /-- Rows that refreshed no unit (R148). -/
  defer : List Nat := []
  refBufWait : Nat := 0
  ackStale : Nat := 0
  fbDropped : Nat := 0
  fbMerged : Nat := 0
  fbLost : Nat := 0
  rerefPic : Nat := 0
  rerefOn : Bool := false
  /-- A sweep start is due at the next picture (SWEEP answer or R149). -/
  lastKey : Nat := 0
  lastSweep : Nat := 0
  sHat : Nat := 0
  sExact : Option Nat := none
  recLeft : Nat := 0
  /-- Decode: every later picture is GREY until an IRAP, IDR or shown KEY_FRAME (R190). -/
  greyRun : Bool := false
  /-- FBLOG_NEXT is in area E; entries written since the last completion wait for it (R230). -/
  fbWait : List FbWait := []
  /-- Clean extents of the current picture (set 0 of area L, R520). -/
  ext : List Nat := []
  /-- The buckets of the last pictures, newest first (R129). -/
  hist : List Bkt := []
  /-- L of the sweep that runs (R144). -/
  sweepL : Nat := 16
  /-- The coded blocks of the last pictures, newest first, by row × N + block (R96, R97). -/
  mots : List (Nat × Tab BlkMot) := []
  /-- Clean extents of the last pictures, newest first, since the last sweep start (R145, R147). -/
  exts : List (Nat × List Nat) := []
  /-- The references the decoder holds by the marks signalled so far (R177): picture, slot, long-term. -/
  marked : List (Nat × Nat × Bool) := []
  deriving DecidableEq, Repr

/-- The feedback item types of R230. -/
inductive FbKind where
  | rr (lossy : Bool) (sample : Option Nat)
  | pli
  | fir (sender seq : Nat)
  | ccfb (q l e : Nat) (rd : Option Nat) (lossPct2 ceAny : Bool)
  | ack (pic : Nat)
  | loss (pic : Nat)
  | setRc (rc : RcSet)
  | keyReq (ans : Answer)
  deriving DecidableEq, Repr

/-- One recorded feedback item (area M, R521): arrival device ns and what it says. `hold`: it arrived within a holdoff, with
all that merged into it (R154). -/
structure FbItem where
  arrival : Nat := 0
  kind : FbKind := .pli
  hold : Bool := false
  deriving DecidableEq, Repr

/-- One written feedback log entry (R230). -/
structure FbLog where
  index : Nat := 0
  arrival : Nat := 0
  pic : Nat := 0
  row : Nat := 0
  kind : FbKind := .pli
  deriving DecidableEq, Repr

/-- What the loop and the pipeline know of one block row of a picture. -/
structure RowRec where
  row : Nat := 0
  kind : RowKind := .normal
  /-- Row QPe in 1/256 QP, the QP or qindex it is coded with, and t_n of R134. -/
  qp : Int := 0
  code : Nat := 0
  t : Int := 0
  /-- Clean extent of the row before the picture's own units: units from here to e_r are refreshed (R144, R148). -/
  clean0 : Nat := 0
  /-- RE(n): sum of the stage 3 estimates (R128). -/
  re : Nat := 0
  /-- bits(n): exact entropy-stage output. -/
  bits : Nat := 0
  /-- The row has left stage 1, 3, 5, 6 and the last stage. -/
  left1 : Bool := false
  left3 : Bool := false
  left5 : Bool := false
  left6 : Bool := false
  done : Bool := false
  deriving DecidableEq, Repr

/-- A piece of a NAL unit or OBU in the bytes a row notice releases (R112, R253). -/
structure NalPiece where
  len : Nat := 0
  /-- AV1: bytes the packetiser takes out, an obu_size field or a whole temporal delimiter OBU (R253). -/
  cut : Nat := 0
  starts : Bool := false
  ends : Bool := false
  deriving DecidableEq, Repr

/-- A row notice (R112) not yet packetised. -/
structure RowNotice where
  row : Nat := 0
  /-- Its tile column (R207). -/
  col : Nat := 0
  last : Bool := false
  bytes : Nat := 0
  pieces : List NalPiece := []
  time : Nat := 0
  deriving DecidableEq, Repr

/-- Where a picture stands. -/
inductive PicState where
  | waiting      -- submitted, row 0 packet not yet written
  | started      -- row 0 packet written (R36)
  | sent         -- every packet of its last row formed
  | ended        -- completion formed
  deriving DecidableEq, Repr

/-- The buffer model in force (area K, R514). -/
structure BufModel where
  rT : Nat := 0
  rP : Nat := 0
  tau : Nat := 0xFFFFFFFF
  mode : Nat := 0
  waiting : Bool := false
  deriving DecidableEq, Repr

/-- A picture in hand: its command, its parameters, and what its rows have come to. -/
structure Pic where
  num : Nat := 0
  st : PicState := .waiting
  /-- The command slot it holds: of its ENCODE_PICTURE or DECODE_PICTURE, or of R87. -/
  cmd : Option Nat := none
  /-- A command (not R87's own slot) binds it. -/
  boundCmd : Bool := false
  srcIdx : Nat := 0
  capture : Nat := 0
  key : Bool := false
  sweepStart : Bool := false
  answer : Answer := .none
  demoted : Bool := false
  refMask : List Nat := []
  /-- Buffers captured at row 0 (R161). -/
  captured : List Nat := []
  target : Nat := 0
  bsBuf : Nat := 0
  slotBuf : Nat := 0
  /-- Rows whose job packet has been written. -/
  rowsWritten : Nat := 0
  /-- Times at which both conditions of R86 were first true, for the next row. -/
  readySince : Option Nat := none
  rows : List RowRec := []
  hdrBits : Nat := 0
  t : Nat := 0
  h : Nat := 0
  dRow0 : Nat := 0
  dNRow0 : Nat := 0
  aRow0 : Int := 0
  qp0 : Nat := 0
  qpLow : Nat := 0
  qpHigh : Nat := 0
  forced : Nat := 0
  skipped : Nat := 0
  forceFrom : Option Nat := none
  skipFrom : Option Nat := none
  overrun : Bool := false
  sweepK : Nat := 0
  inSweep : Bool := false
  fbFirst : Nat := 0
  fbCount : Nat := 0
  extents : List Nat := []
  notices : List RowNotice := []
  /-- Row notices packetised. -/
  packed : Nat := 0
  /-- Packets formed and not yet sent or discarded. -/
  pktsOut : Nat := 0
  pktsFormed : Nat := 0
  lastFormed : Bool := false
  depFirst : Nat := 0
  depLast : Nat := 0
  bufWaited : Bool := false
  /-- Order in which pictures of the session started. -/
  ord : Nat := 0
  /-- Area C as it governs the picture. -/
  rc : RcSet := {}
  /-- KR_PEND at its row 0, and the pictures (by number) captured. -/
  krMask : Nat := 0
  refs : List Nat := []
  /-- Sum of the bytes released, κ after the last row, mean activity. -/
  bytes : Nat := 0
  kEnd : Nat := 0
  act : Nat := 0
  /-- Source was discarded under R84 or a row of it lost. -/
  srcOver : Bool := false
  /-- R_net at its row 0 or the last R135 rescale. -/
  rNet : Nat := 0
  /-- How it ended: status, and the host handle its completion gives. -/
  status : Nat := 0
  handle : Nat := 0
  /-- Decode: bitstream handle, offset and length (R178). -/
  buf : Nat := 0
  off : Nat := 0
  len : Nat := 0
  outFrame : Nat := 0
  order : Nat := 0
  kinds : List Nat := []
  dmg : Nat := 0
  firstDmg : Nat := 0
  firstDmgRow : Nat := 0
  firstErrOff : Nat := 0
  concealed : Bool := false
  damaged : Bool := false
  grey : Bool := false
  shownExisting : Bool := false
  renderW : Nat := 0
  renderH : Nat := 0
  hidden : Bool := false
  parsed : Bool := false
  nRows : Nat := 0
  /-- Decode: blocks per row, and the first substitute's buffer (R187). -/
  blocks : Nat := 0
  subst : Nat := 0
  long : Bool := false
  unsupported : Bool := false
  /-- Tandem: packets of the lower band written, and the ready time of its next row (R197). -/
  lowWritten : Nat := 0
  lowSince : Option Nat := none
  /-- The picture starts the keys of R306; its RTP time stamp (R251). -/
  newKey : Bool := false
  ts : Nat := 0
  /-- Buffer model that governs the picture, and the one before it (R122, R123). -/
  bm : BufModel := {}
  bmOld : BufModel := {}
  /-- Area C before its row 0 (R157), base qindex of an AV1 picture (R134), L of its sweep. -/
  rcOld : RcSet := {}
  /-- A_p at row 0, for q_b of R132. -/
  aVbr : Int := 0
  qBase : Nat := 0
  sweepL : Nat := 16
  /-- Decode by tiles (R182): first and last block row of each tile; empty: a packet is a block row. -/
  tiles : List (Nat × Nat) := []
  /-- Departure stamps are known: the first packet has left. -/
  departed : Bool := false
  /-- Its counts on captured references have been dropped (R161). -/
  refsDone : Bool := false
  /-- Of each captured reference: clean extents (R147), and ORDER with 1 for long-term (R163). -/
  refExt : List (List Nat) := []
  /-- A sweep started after it: its rows' extents count for it alone (R145). -/
  oldSweep : Bool := false
  refOrd : List (Nat × Bool) := []
  /-- A of R107 for the picture; 0 where a = 0. -/
  actRef : Nat := 0
  /-- What R177 signals, and the kinds of the units begun (R113). -/
  sig : Signal := {}
  units : List UnitKind := []
  /-- The unit length table of its slot buffer (R165), and where its coder stands in each region (R112, R207). -/
  lens : Tab Nat := []
  tout : Tab TileOut := []
  /-- Decode: coded size and window of the output frame, FTYPE and lists of R163. -/
  width : Nat := 0
  height : Nat := 0
  outW : Nat := 0
  outH : Nat := 0
  depth : Nat := 8
  ftype : Nat := 0
  lists : List (Nat × Bool) × List (Nat × Bool) := ([], [])
  deriving DecidableEq, Repr

/-- A reference the stream names (R186, R187): the slot it identifies, if any, its ORDER, its class and its list. -/
structure RefName where
  slot : Option Nat := none
  order : Nat := 0
  long : Bool := false
  list : Nat := 0
  deriving DecidableEq, Repr

/-- What parsing the headers of a decoded picture gives (R178 to R184, R190). -/
structure DecHead where
  /-- R179 accepts the stream. -/
  supported : Bool := true
  /-- An IRAP, IDR or shown KEY_FRAME: refusal and GREY end here. -/
  resync : Bool := false
  /-- An IDR, or a KEY_FRAME with show_frame 1: the other slots become EMPTY. -/
  key : Bool := false
  inter : Bool := true
  order : Nat := 0
  /-- Job packets of the picture (block rows, or tiles), and blocks of each. -/
  rows : Nat := 1
  blocks : Nat := 1
  tiles : List (Nat × Nat) := []
  hidden : Bool := false
  showExisting : Option Nat := none
  refs : List RefName := []
  /-- What the stream's marking process makes of the slots: 0 EMPTY, 1 SHORT, 2 LONG. -/
  marks : List (Nat × Term) := []
  /-- AV1: the slots refresh_frame_flags names. -/
  refresh : List Nat := []
  isRef : Bool := true
  /-- A recovery point SEI with its count. -/
  recovery : Option Nat := none
  width : Nat := 0
  height : Nat := 0
  renderW : Nat := 0
  renderH : Nat := 0
  /-- Bit depth, and size of the picture written to the output frame (R185). -/
  depth : Nat := 8
  outW : Nat := 0
  outH : Nat := 0
  deriving DecidableEq, Repr

/-- An error the decoder finds (R186): kind, the blocks of the damaged region with the first of them, the byte offset, and
the slot read for kind 6. -/
structure DecErr where
  kind : Nat := 1
  blocks : Nat := 0
  block : Nat := 0
  row : Nat := 0
  off : Nat := 0
  slot : Nat := 0
  deriving DecidableEq, Repr

/-- What a block gives as it leaves a stage, of what the rules do not compute (log 7): the choices among what they allow, and
what the standards' own arithmetic makes of them. -/
structure BlockOut where
  /-- Stage 2, block 0 of a row: header bits formed since the row before was decided. -/
  hdr : Nat := 0
  /-- Stage 3 (decode: stage 2): the prediction blocks. -/
  preds : List Pred := []
  /-- Stage 3: sum of the rate estimates R of its modes. -/
  est : Nat := 0
  /-- Stage 4: the transform blocks in coding order. -/
  tus : List Tu := []
  /-- Stage 5: packing units with the samples its filtering has settled; CDEF preset, SAO class; reference cache hits and misses;
  with the last block of an AV1 picture, the saved state. -/
  units : List UnitPix := []
  cdef : Nat := 0
  sao : Nat := 0
  hits : Nat := 0
  misses : Nat := 0
  saved : List Byte := []
  /-- Stage 6: entropy-stage output bits; decode: samples of the output frame. -/
  bits : Nat := 0
  shown : List PixRun := []
  /-- Stage 7, last block of a row: what the coder has added to the units of the picture. -/
  coded : List UnitOut := []
  /-- Decode: the headers parsed at row 0, and errors. -/
  head : Option DecHead := none
  errs : List DecErr := []
  deriving DecidableEq, Repr

/-- SRTP keys of the session (area N, R522), as the model's names for the secrets. -/
structure SrtpKeys where
  /-- Of RTP formed now, and of SRTCP: they differ between the forming and the sending of the first packet under new
  keys (R306). -/
  rtp : Nat := 0
  send : Nat := 0
  recv : Nat := 0
  oldRecv : Option Nat := none
  /-- Send key waiting for the picture of R306. -/
  nextSend : Option Nat := none
  /-- The certificate hash bound under R318. -/
  certHash : Nat := 0
  deriving DecidableEq, Repr

/-- The ingest side of a session: window, ring, halves and doorbells (R77 to R87). -/
structure Ingest where
  /-- Window base and length in 2 MiB units (R77). -/
  winBase : Nat := 0
  winLen : Nat := 0
  overrun : Bool := false
  dbErr : Bool := false
  wrBusy : Bool := false
  /-- Highest line of the write picture that a write has been accepted for, plus one. -/
  accLines : Nat := 0
  half0Busy : Bool := false
  half1Busy : Bool := false
  /-- The write picture (R84), full number. -/
  writePic : Nat := 0
  /-- Last accepted LINES of the write picture (R85). -/
  dbLines : Nat := 0
  /-- A doorbell of the write picture has been accepted. -/
  dbAny : Bool := false
  relPic : Nat := 0
  relLines : Nat := 0
  inDram : Bool := false
  ringHandle : Nat := 0
  /-- The ring is placed in this core (when not in DRAM). -/
  ringCore : Option Nat := none
  srcBuf0 : Nat := 0
  srcBuf1 : Nat := 0
  /-- Lost 8-line groups: picture and group (R84). -/
  lost : List (Nat × Nat) := []
  /-- Which port wrote a group of lines of the write picture, and the groups announced from another port (R80): their content is
  undefined. -/
  wrote : List (Nat × Nat) := []
  mixed : List (Nat × Nat) := []
  /-- The picture for which EVT_RING_OVERRUN, EVT_SOURCE_DB_ERROR has been written. -/
  ovrEvt : Option Nat := none
  dbEvt : Option Nat := none
  /-- The pictures that ended with ST_FENCED or ST_ABORTED before their source was complete (R84). -/
  dropPics : List Nat := []
  /-- A ring copy runs (R83): start time. -/
  copying : Option Nat := none
  /-- The core whose ring space the lines are copied from. -/
  copyFrom : Option Nat := none
  /-- Writes that wait for the copy (R83): port, offset and bytes. -/
  waiting : List (Nat × Nat × List Byte) := []
  /-- Content of the ring lines written: key 2^24 × ring line + byte offset in the line's planes. -/
  ring : Tab Byte := []
  deriving DecidableEq, Repr

/-- Give back the lines of pictures that ended before their source was complete (R84): whole ones the window has left
behind, and the accepted lines of the write picture. -/
def Ingest.relAdv : Nat → Ingest → Ingest
  | 0, g => g
  | n + 1, g =>
    if !g.dropPics.contains g.relPic then g
    else if g.relPic < g.writePic then
      Ingest.relAdv n { g with
        relPic := g.relPic + 1, relLines := 0, dropPics := g.dropPics.filter (fun p => decide (p > g.relPic)) }
    else { g with relLines := max g.relLines (max g.accLines g.dbLines) }

/-- Release lines of a picture in order, then what follows. -/
def Ingest.advance (g : Ingest) : Ingest := g.relAdv (g.writePic - g.relPic + 1)

/-- The session context record (R511) and the engine's working state for it. -/
structure Session where
  st : SState := .free
  kind : SKind := .encode
  lc : Nat := 0
  pend : PendCmd := .none
  pendSlot : Option Nat := none
  protected' : Bool := false
  hold : Bool := false
  demoted : Bool := false
  decRefuse : Bool := false
  heldQ : Bool := false
  notifyQid : Nat := 0
  owner : Nat := 0
  core : Nat := 0
  peloton : Nat := 0
  ethPolder : Nat := 0
  load : Nat := 0
  width : Nat := 0
  height : Nat := 0
  rateNum : Nat := 0
  rateDen : Nat := 1
  epoch : Nat := 0
  gid : Nat := 0
  nextPic : Nat := 0
  donePic : Nat := 0xFFFFFFFF
  measRate : Nat := 0
  /-- CLASS_DEF bits 0–4 (R512, R524). -/
  classDef : List Nat := []
  fmt : FmtSet := {}
  rc : RcSet := {}
  nw : NetSet := {}
  hs : HostSet := {}
  pol : Policy := {}
  tr : Transport := {}
  slots : List Slot8 := []
  loop : LoopSt := {}
  /-- Row models: inter and key (R520). -/
  mInter : Tab ModelRow := []
  mKey : Tab ModelRow := []
  bm : BufModel := {}
  /-- Pending feedback (area M), in arrival order. -/
  fb : List FbItem := []
  keys : SrtpKeys := {}
  ing : Ingest := {}
  pics : List Pic := []
  /-- Submitted pixels of the last second: time (ps) and pixels (R48). -/
  rateWin : List (Nat × Nat) := []
  /-- Chosen automatic move (R63) and the time of the last one (ps). -/
  moveTo : Option Nat := none
  lastMove : Option Nat := none
  /-- The MOVE's requested target and class (R62). -/
  moveReq : Option (Option Nat × Option Nat × Option Nat) := none
  /-- Binding before the move or stranding, for EVT_SESSION_MOVED (R236). -/
  oldCore : Nat := 0
  /-- Host buffer of an export: address and length (R66). -/
  expAddr : Nat := 0
  expLen : Nat := 0
  /-- Output frames of a decode session: handle, and held by the host (R185). -/
  outs : List (Nat × Bool) := []
  /-- Pool reservations made at admission: pool and count (R160). -/
  rsv : List (Nat × Nat) := []
  /-- The command slot of a pending SESSION_CLOSE. -/
  closeSlot : Option Nat := none
  /-- The context record has lost both copies (R427). -/
  ctxLost : Bool := false
  /-- The subport its packets use now: PORT, or ALT_PORT after stranding (R246). -/
  egress : Nat := 0
  /-- State before a pending SESSION_MOVE (R42). -/
  moveFrom : SState := .bound
  /-- The cause of the binding that takes effect when a ring copy ends (R83). -/
  nextCause : Nat := 0
  /-- A packet of the session waits for room (R53). -/
  stall : Bool := false
  /-- Area C as it governs the last picture started. -/
  rcNow : RcSet := {}
  /-- Pictures started since the session opened on this device. -/
  started : Nat := 0
  /-- The session is being removed by an FLR: no entry is written (R241). -/
  silent : Bool := false
  deriving DecidableEq, Repr

/-- A sealed image as SEC finds it (R314, R315): its header, whether the tag holds, and the context record inside. -/
structure SealedImage where
  magicOk : Bool := true
  cluster : Nat := 0
  generation : Nat := 0
  /-- The header's length agrees with the bytes given. -/
  lengthOk : Bool := true
  tagOk : Bool := true
  ctx : Session := {}
  /-- Slot records (R167), by slot. -/
  recs : List (Nat × List Byte) := []
  deriving DecidableEq, Repr

/-- A free context is all zeros (R527). -/
def Session.free : Session := {}

end Sys2Proof.Machine
end

