-- ==== Sys2Proof/Syntax.lean ====
section
/-! DEFINITION. The commands the block takes: one constructor per row of spec/opcode_table.json, in the table's order. The
operands are what arrives with the command from outside the block: who sends it, where, the data the device reads with it,
and the outcome of a physical process (a link, a sensor, a check of a signature) that is not the block's own. -/

namespace Sys2Proof

open Machine

/-- A command of the block. -/
inductive Instr where
  /-- CREATE_QP (R224): Admin command that creates an I/O queue pair with its geometry, vector, class and delivery settings. Operand of every queued command: its command slot. -/
  | createQp (slot : Nat)
  /-- DELETE_QP (R553): Admin command that stops fetch from a pair, discards its completions and frees the QID once fetched commands have completed. -/
  | deleteQp (slot : Nat)
  /-- SET_CQ_MODERATION (R224): Admin command that changes a CQ's interrupt moderation, policy and service bound. -/
  | setCqModeration (slot : Nat)
  /-- IDENTIFY (R503): Admin command that writes 4 KiB of device and function data to host memory. `ok`: the host write went through. -/
  | identify (slot : Nat) (ok : Bool)
  /-- SET_VF_QUOTA (R47): PF admin command that sets a VF's session-count quota and load quota. -/
  | setVfQuota (slot : Nat)
  /-- SET_VF_QUEUES (R216): PF admin command that sets a VF's queue-pair and command-slot limits. -/
  | setVfQueues (slot : Nat)
  /-- SESSION_OPEN (R36): Runs the admission checks, then allocates a SID, binds the session and reserves its window and buffers. The block read at PTR0 (none: the read failed), and whether the publisher policy verifies. -/
  | sessionOpen (slot : Nat) (blk : Option HostBuf) (pol : Bool)
  /-- SESSION_CLOSE (R36): Aborts the session's pending commands and started pictures and takes the session to CLOSING. -/
  | sessionClose (slot : Nat)
  /-- SESSION_QUIESCE (R36): Stops forming job packets for pictures not yet started and takes the session to QUIESCING. -/
  | sessionQuiesce (slot : Nat)
  /-- SESSION_RESUME (R36): Returns a QUIESCED session to BOUND and starts its held pictures. -/
  | sessionResume (slot : Nat)
  /-- SESSION_MOVE (R62): Quiesces a session and rebinds it to a chosen or computed core or tandem, optionally with a new latency class. -/
  | sessionMove (slot : Nat)
  /-- SESSION_EXPORT (R66): Quiesces a session, checks the host buffer length and hands the context and references to SEC for sealing. -/
  | sessionExport (slot : Nat)
  /-- SESSION_IMPORT (R68): Checks the seal of an image, admits and places the session, and unseals its context and references. The sealed image read at PTR0. -/
  | sessionImport (slot : Nat) (img : Option SealedImage)
  /-- SESSION_QUERY (R526): Writes a consistent copy of the session's context record, with area N zeroed, to host memory. Whether the host write went through. -/
  | sessionQuery (slot : Nat) (ok : Bool)
  /-- SESSION_SET_RC (R122): Changes the rate, refresh, key-picture and some network settings of a session. The block read at PTR0. -/
  | sessionSetRc (slot : Nat) (blk : Option HostBuf)
  /-- KEY_REQUEST (R150): Host command that records a key-picture request, optionally naming its answer. -/
  | keyRequest (slot : Nat)
  /-- ENCODE_PICTURE (R82): Submits a frame-mode picture from a source half, or binds the parameters of a row-stream picture. -/
  | encodePicture (slot : Nat)
  /-- DECODE_PICTURE (R178): Submits one access unit or temporal unit from a bitstream buffer for decoding. -/
  | decodePicture (slot : Nat)
  /-- FRAME_RELEASE (R185): Returns a decoded output frame to the session's reservation for reuse. -/
  | frameRelease (slot : Nat)
  /-- BUF_ALLOC (R226): Allocates a host-held bitstream buffer and returns its handle. -/
  | bufAlloc (slot : Nat)
  /-- BUF_WRITE (R224): Copies host memory into a buffer. `data`: what the device read at PTR0. -/
  | bufWrite (slot : Nat) (data : Option HostBuf)
  /-- BUF_READ (R225): Copies a buffer to host memory, and refuses buffers of protected sessions. -/
  | bufRead (slot : Nat) (ok : Bool)
  /-- BUF_RELEASE (R226): Drops the host's reference count on a buffer. -/
  | bufRelease (slot : Nat)
  /-- TANDEM_JOIN (R193): PF command that starts joining an empty SINGLE core pair and trains its seam link. -/
  | tandemJoin (slot : Nat)
  /-- TANDEM_SPLIT (R193): PF command that splits an empty JOINED pair back into two single cores. -/
  | tandemSplit (slot : Nat)
  /-- POLDER_ADMIT (R439): PF command that starts self-test and re-admission of a sealed polder whose PENDING bit is clear. -/
  | polderAdmit (slot : Nat)
  /-- STORE_SETTINGS (R481): Captures the settings and writes a new settings image to the NVS bank not in use. -/
  | storeSettings (slot : Nat)
  /-- KEY_AGREE_AGREE (R305): Verifies the player message M1, runs ECDH, derives the SRTP keys and writes M2. M1 as read at PTR0 (none: the read failed), and whether the write of M2 went through. -/
  | keyAgreeAgree (slot : Nat) (m1 : Option KeyMsg) (ok : Bool)
  /-- KEY_AGREE_SET (R301): Installs host-supplied SRTP keys for an unprotected session. The keys read at PTR0. -/
  | keyAgreeSet (slot : Nat) (k : Option KeySet)
  /-- ATTEST (R289): Writes a signed attestation report, and optionally the identity chain, to host memory. Whether the host write went through. -/
  | attest (slot : Nat) (ok : Bool)
  /-- CLUSTER_ENROL_REQUEST (R310): Writes an ENROL_REQ with a fresh ephemeral point, a nonce and an attestation report. -/
  | clusterEnrolRequest (slot : Nat) (ok : Bool)
  /-- CLUSTER_ENROL_CREATE (R311): Verifies an operator CREATE ticket, unwraps WRK, draws a cluster key and stores the cluster record. -/
  | clusterEnrolCreate (slot : Nat) (t : Option Ticket)
  /-- CLUSTER_ENROL_OFFER (R312): Verifies a joiner and its JOIN ticket on an enrolled member and writes a GRANT. -/
  | clusterEnrolOffer (slot : Nat) (req : Option (EnrolReq × Ticket)) (ok : Bool)
  /-- CLUSTER_ENROL_ACCEPT (R312): Verifies a GRANT and its ticket, then installs the cluster key, WRK and CDID. -/
  | clusterEnrolAccept (slot : Nat) (req : Option (Grant × Ticket))
  /-- CLUSTER_ENROL_LEAVE (R313): Erases the device's cluster record. -/
  | clusterEnrolLeave (slot : Nat)
  /-- MCODE_LOAD (R414): Verifies a microcode patch, activates it on every core and optionally stores it or clears the patch slots. The patch read at PTR0 (none: the read failed). -/
  | mcodeLoad (slot : Nat) (img : Option Img)
  /-- DEBUG_UNLOCK_CHALLENGE (R322): Writes a 48-byte debug challenge for the requested level. -/
  | debugUnlockChallenge (slot : Nat) (ok : Bool)
  /-- DEBUG_UNLOCK_RESPONSE (R323): Verifies a signed response, wipes keys and closes protected sessions, then opens the debug level. Whether the signature and chain read at PTR0 verify, and the hash of the chain's root key. -/
  | debugUnlockResponse (slot : Nat) (resp : Option (Bool × Nat))
  /-- SQ_TAIL_DOORBELL (R219): Host write of a new SQ tail index, which is validated and lets fetch proceed. A write of `len` bytes whose first byte is byte `at4` of the doorbell. -/
  | sqTailDoorbell (fn : Fin 64) (qid : Fin 256) (at4 : Fin 4) (len : Nat) (value : W64)
  /-- CQ_HEAD_DOORBELL (R219): Host write of a new CQ head index, which is validated and frees CQ space. -/
  | cqHeadDoorbell (fn : Fin 64) (qid : Fin 256) (at4 : Fin 4) (len : Nat) (value : W64)
  /-- SQ_FETCH (R220): Device fetches SQ entries from the head, taking one command slot per command in class and round-robin order. The 64 bytes read at the head of the SQ served. -/
  | sqFetch (entry : BitVec 512)
  /-- SQ_ENTRY_READ_ERROR (R552): A failed SQ entry read completes with ST_DMA_ERROR and CID 0xFFFF, and the SQ head advances past the entry. -/
  | sqEntryReadError
  /-- CQ_AGG_TIMEOUT (R237): AGG_TIME expiry raises the CQ's interrupt condition and sends its MSI-X message. -/
  | cqAggTimeout (fn : Fin 64) (qid : Fin 256)
  /-- SERVICE_TIMER_EXPIRE (R240): A STAGED_FULL CQ reaches SVC_BOUND, then holds with EVT_CQ_STALL or drops its entries by POLICY. -/
  | serviceTimerExpire (fn : Fin 64) (qid : Fin 256)
  /-- ADMIN_QUEUE_ENABLE (R242): Write of HQ_AQ_CFG.EN 1, which enables the admin pair if its geometry is in range. -/
  | adminQueueEnable (fn : Fin 64) (cfg : W32)
  /-- ADMIN_QUEUE_DISABLE (R241): Write of HQ_AQ_CFG.EN 0, which resets the function's queues and sessions as an FLR does. -/
  | adminQueueDisable (fn : Fin 64)
  /-- AQ_READY (R242): The admin pair becomes ready to accept commands within 100 µs of enable. -/
  | aqReady (fn : Fin 64)
  /-- FUNCTION_POWER_STATE (R238): A function enters or leaves D3hot, or changes Bus Master Enable, which stages or flushes its CQs. -/
  | functionPowerState (p : Fin 3) (fn : Fin 64) (d3 : Bool) (bme : Bool) (pmeEn : Bool)
  /-- LINK_L1_ENTRY (R238): The PCIe link enters L1, and new CQ entries stage as STAGED_L1. -/
  | linkL1Entry (p : Fin 3)
  /-- LINK_L1_EXIT (R238): The link reaches L0 after an L1 exit, and every CQ in STAGED_L1 flushes. -/
  | linkL1Exit (p : Fin 3)
  /-- MSIX_UNMASK (R237): Unmasking an MSI-X vector sends its pending message. -/
  | msixUnmask (fn : Fin 64) (vec : Fin 32)
  /-- VF_ENABLE (R216): Setting VF Enable reserves each VF's admin pair. -/
  | vfEnable (num : Fin 64)
  /-- VF_FLR (R241): FLR of a VF closes its sessions and deletes its queues, slots and buffers. -/
  | vfFlr (vf : Fin 64)
  /-- PF_FLR (R241): FLR of the PF, or a port H hot reset, resets the PF and every VF. -/
  | pfFlr
  /-- INGEST_WRITE (R84): A posted write into BAR2 is accepted into a session window or ring, or discarded with overrun, busy or stray accounting. The requester, the IDE stream the write came on, its offset in BAR2, its bytes. -/
  | ingestWrite (req : Req) (ide : Option Nat) (addr : Nat) (data : List Byte)
  /-- SRC_DB (R85): Row doorbell write that announces source lines, starts row-stream pictures and advances WRITE_PIC. -/
  | srcDb (req : Req) (ide : Option Nat) (sid : Fin 4096) (pic : W16) (lines : W16)
  /-- RATE_DEMOTION_END (R48): The 1 s measured rate falls back to the declared rate and the session's packets regain their class. -/
  | rateDemotionEnd (sid : Fin 4096)
  /-- JOB_PACKET_WRITE (R86): Session engine reserves buffers and writes a block-row job packet once the start threshold and queue room allow. The session, the band of a tandem, the words written. -/
  | jobPacketWrite (sid : Fin 4096) (low : Bool) (k : Nat)
  /-- ROW_DISPATCH (R54): The scheduler gives a free row slot the oldest eligible complete packet of the highest class. The core, and an error met in reading the packet: 0 corrected; n + 1 not, or the framing is wrong, and n packets after it in its class are discarded with it (R59). -/
  | rowDispatch (core : Fin 64) (ecc : Option Nat)
  /-- AGE_PROMOTION (R55): An LC2 or LC3 packet exceeding the age limit is read as LC1. -/
  | agePromotion (p : Fin 8)
  /-- BLOCK_STAGE_DONE (R90): A pipeline block leaves a stage and moves on, which may release rows, lines or halves or finish a row. The block that stage st + 1 of a core works on leaves it, with what its content gives (R88 to R93, R107, R181, R198; log 7). -/
  | blockStageDone (core : Fin 64) (st : Fin 7) (o : BlockOut)
  /-- ROW_PACKETISE (R255): The packetiser forms and encrypts a row's packets and schedules them under pacing. -/
  | rowPacketise (sid : Fin 4096)
  /-- PACKET_SEND (R260): A subport sends the highest-class due packet at or after its scheduled time, or discards it if the link is down. -/
  | packetSend (sub : Fin 8)
  /-- RING_COPY_DONE (R83): The copy of unreleased ring lines to the new ring on a move ends, and the new binding takes effect. -/
  | ringCopyDone (sid : Fin 4096)
  /-- REBALANCE_EVAL (R63): Every 100 ms the firmware scores pelotons and chooses at most one move per peloton. -/
  | rebalanceEval
  /-- AUTO_MOVE (R63): At a session's picture boundary a chosen automatic move is carried out if the session still fits, or dropped. -/
  | autoMove (sid : Fin 4096)
  /-- SEAL_DONE (R36): SEC reports the sealed image written, and the session becomes EXPORTED with its keys wiped. Whether the host write went through. -/
  | sealDone (sid : Fin 4096) (ok : Bool)
  /-- SESSION_CLOSE_DRAINED (R36): A CLOSING session with no row in flight releases its buffers, wipes its keys and returns to FREE. -/
  | sessionCloseDrained (sid : Fin 4096)
  /-- HOLDOFF_END (R154): A key-picture holdoff ends and any held FIR becomes pending. -/
  | holdoffEnd (sid : Fin 4096)
  /-- CCFB_SILENCE (R142): 500 ms without CCFB makes receiver reports with high loss act as congested reports. -/
  | ccfbSilence (sid : Fin 4096)
  /-- RTCP_SILENCE (R142): Each 1,000 ms without RTCP halves R_net down to R_min. -/
  | rtcpSilence (sid : Fin 4096)
  /-- SEAM_TRAINED (R192): Seam link training completes, and the pair becomes JOINED. -/
  | seamTrained (k : Fin 32)
  /-- SEAM_TRAIN_TIMEOUT (R192): Seam training not complete within 20 µs returns the pair to SINGLE with ST_SEAM_TRAIN. -/
  | seamTrainTimeout (k : Fin 32)
  /-- SEAM_BOUNDARY_RECORD (R202): The lower core receives a boundary record of a block of row R_U − 1. A boundary record arrives over seam link k after `fails` failed flit checks (R201 to R203). -/
  | seamBoundaryRecord (k : Fin 32) (fails : Nat)
  /-- SEAM_SNAPSHOT_RECORD (R202): The lower core receives a probability snapshot after an upper row. A snapshot record arrives over seam link k (R202). -/
  | seamSnapshotRecord (k : Fin 32) (fails : Nat)
  /-- SEAM_ENTROPY_HANDOVER (R202): The lower core receives the entropy hand-over record and continues entropy coding at row R_U. An entropy handover arrives over seam link k (R202). -/
  | seamEntropyHandover (k : Fin 32) (fails : Nat)
  /-- SEAM_MODEL_RECORD (R202): The upper core receives the row-model record of the lower band. A model record arrives over seam link k (R202). -/
  | seamModelRecord (k : Fin 32) (fails : Nat)
  /-- RECEIVE_FRAME (R268): A received frame is discarded, sent to the time unit, handled as session RTCP, or written to the exception ring. -/
  | receiveFrame (sub : Fin 8) (f : RxFrame)
  /-- SR_SEND (R263): A session's sender report falls due and is sent as compound SRTCP. -/
  | srSend (sid : Fin 4096)
  /-- OLD_KEY_LAPSE (R306): The old receive key stops being accepted 2 s after the first RTP packet under the new keys. -/
  | oldKeyLapse (sid : Fin 4096)
  /-- HOST_TX_TAIL (R270): Host write of PKT_HTQ_TAIL that hands frames in the transmit ring to the device. -/
  | hostTxTail (v : W32)
  /-- HOST_TX_SEND (R270): The device reads a transmit slot, sends the frame under the host token bucket and advances PKT_HTQ_HEAD. What the slot's header holds. -/
  | hostTxSend (len : Nat) (code : Nat)
  /-- ETH_MODE_WRITE (R279): Write of ETH_MODE that changes the split or subport enables and takes the links down. -/
  | ethModeWrite (p : Fin 2) (v : W32)
  /-- ETH_LINK_UP (R556): A subport completes PCS lock and FEC alignment after the module presents a valid signal. -/
  | ethLinkUp (sub : Fin 8)
  /-- ETH_LINK_DOWN (R246): A subport's link goes down, and its due packets are then discarded. -/
  | ethLinkDown (sub : Fin 8)
  /-- PCIE_LINK_CHANGE (R506): A PCIe link goes up or down or changes generation or width. -/
  | pcieLinkChange (p : Fin 3) (gen : Fin 7) (width : Nat) (flit : Bool)
  /-- DELAY_REQ_SEND (R274): The time unit sends a Delay_Req at the master's interval. -/
  | delayReqSend (d : Fin 2)
  /-- PTP_DOMAIN_LOST (R275): Sync or Announce timeout loses a domain, which switches domain or enters FREEWHEEL or FREERUN. -/
  | ptpDomainLost (d : Fin 2)
  /-- TIME_MANUAL (R277): Write of TIME_CTRL.MODE 1, which enters MANUAL. -/
  | timeManual
  /-- TIME_PTP (R277): Write of TIME_CTRL.MODE 0, which leaves MANUAL for FREERUN. -/
  | timePtp
  /-- TIME_SET (R281): In MANUAL, steps the device clock to the written value. -/
  | timeSet (v : W64)
  /-- TIME_RATE (R281): In MANUAL, sets adj to the written value. -/
  | timeRate (v : W32)
  /-- GET_VERSION (R316): SPDM request over DOE answered by the responder. -/
  | getVersion (p : Fin 3)
  /-- GET_CAPABILITIES (R316): SPDM request over DOE answered by the responder. -/
  | getCapabilities (p : Fin 3)
  /-- NEGOTIATE_ALGORITHMS (R316): SPDM request that fixes P-384, SHA-384 and AES-256-GCM. The requester offers the device's algorithms. -/
  | negotiateAlgorithms (p : Fin 3) (ok : Bool)
  /-- GET_DIGESTS (R316): SPDM request for certificate digests. -/
  | getDigests (p : Fin 3)
  /-- GET_CERTIFICATE (R316): SPDM request for the identity chain in slot 0. -/
  | getCertificate (p : Fin 3) (slot : Fin 8) (off : W16) (len : W16)
  /-- CHALLENGE (R316): SPDM challenge signed with the identity key. -/
  | challenge (p : Fin 3) (slot : Fin 8) (nonce : Nat)
  /-- GET_MEASUREMENTS (R316): SPDM request returning firmware, microcode and settings hashes and the lifecycle block. -/
  | getMeasurements (p : Fin 3) (index : Byte)
  /-- KEY_EXCHANGE (R316): SPDM request that starts a secured session, at most 4 per port. -/
  | keyExchange (p : Fin 3)
  /-- FINISH (R316): SPDM request that completes a secured session, with optional mutual authentication. -/
  | finish (p : Fin 3) (id : Nat) (ok : Bool) (peer : Option Peer)
  /-- KEY_UPDATE (R316): SPDM request that updates the secured session keys. -/
  | keyUpdate (p : Fin 3) (id : Nat)
  /-- HEARTBEAT (R316): SPDM heartbeat within a secured session. -/
  | heartbeat (p : Fin 3) (id : Nat)
  /-- END_SESSION (R317): Ends an SPDM session, and its IDE streams leave Secure. -/
  | endSession (p : Fin 3) (id : Nat)
  /-- KEY_PROG (R317): IDE_KM request that programs IDE stream keys within a secured session. Secured session, stream (0 the link stream, 1 to 8 selective), its stream ID, sub-stream. -/
  | keyProg (p : Fin 3) (id : Nat) (stream : Fin 9) (sid : Byte) (sub : Fin 6)
  /-- K_SET_GO (R317): IDE_KM request that makes programmed IDE keys take effect. -/
  | kSetGo (p : Fin 3) (id : Nat) (stream : Fin 9) (sub : Fin 6)
  /-- IDE_INTEGRITY_ERROR (R317): An IDE integrity failure takes the stream out of Secure and raises PCIE_IDE. -/
  | ideIntegrityError (p : Fin 3) (stream : Fin 9)
  /-- LC_PROVISION (R285): Secure mailbox request that burns the PROVISIONED lifecycle group. An accepted request of channel c: its signature verifies, the hash of its key, the SERIAL it names; the OTP write reads back. -/
  | lcProvision (c : Fin 4) (sig : Bool) (key : Nat) (serial : Nat) (otp : Bool)
  /-- LC_ACTIVATE (R285): Secure mailbox request that burns the operator key hash and the OPERATIONAL group. -/
  | lcActivate (c : Fin 4) (sig : Bool) (key : Nat) (otpHash : Bool) (otpGroup : Bool)
  /-- LC_RETURN (R285): Secure mailbox request that closes sessions, erases the cluster record and burns RETURNED. -/
  | lcReturn (c : Fin 4) (sig : Bool) (key : Nat) (serial : Nat) (otp : Bool)
  /-- FW_STAGE (R320): Secure mailbox request that verifies an image and writes it to its flash area. -/
  | fwStage (c : Fin 4) (m : Img)
  /-- OPKEY_ROTATE (R320): Secure mailbox request that enrols a new operator key and revokes slot 0. -/
  | opkeyRotate (c : Fin 4) (sig : Bool) (key : Nat) (otp : Bool)
  /-- VENDOR_REVOKE (R320): Secure mailbox request that revokes a vendor key slot. -/
  | vendorRevoke (c : Fin 4) (slot : Fin 4) (sig : Bool) (key : Nat) (otp : Bool)
  /-- BIND_WRITE (R320): Secure mailbox request that stores the mailbox binding table in MANUFACTURE. -/
  | bindWrite (c : Fin 4) (v0 : W64) (v1 : W64) (v2 : W64) (v3 : W64)
  /-- DRBG_RESEED (R287): After 2^20 requests the DRBG reseeds from the entropy source. Whether the entropy source passes its health test. -/
  | drbgReseed (healthy : Bool)
  /-- DRAM_REQUEST (R340): A controller queues and schedules a read or write, applying XTS, ECC correction and poisoning. Requester port, write, device address, bytes read, bytes written, class RT, HI or BE, what the check finds: none, corrected, uncorrectable. -/
  | dramRequest (port : Fin 15) (write : Bool) (addr : Fin (2 ^ 39)) (len : Nat) (data : List Byte) (cls : Fin 3) (ecc : Fin 3)
  /-- REFRESH_INTERVAL (R344): End of a tREFIpb interval increments OWED and issues or inserts a REFpb. -/
  | refreshInterval (mc : Fin 16) (ch : Fin 4)
  /-- RT_TRAFFIC_END (R344): 1 µs after the last RT request the channel issues its owed refreshes. -/
  | rtTrafficEnd (mc : Fin 16) (ch : Fin 4)
  /-- MR4_POLL (R343): Every 4 ms the controller reads MR4 and sets the refresh multiplier. The multiplier codes read. -/
  | mr4Poll (mc : Fin 16) (m0 : Fin 3) (m1 : Fin 3) (m2 : Fin 3) (m3 : Fin 3)
  /-- DRIFT_CHECK (R350): Each drift period the channel reads its oscillator and corrects DQ delays. The count read and the change since training in steps. -/
  | driftCheck (mc : Fin 16) (ch : Fin 4) (osc : W16) (steps : Int)
  /-- SELF_REFRESH_IDLE (R346): An idle SR_IDLE period, or a power-control order, starts SR_PREP. -/
  | selfRefreshIdle (mc : Fin 16)
  /-- SR_PREP_DONE (R346): All banks precharged with nothing owed, and SRE is issued. -/
  | srPrepDone (mc : Fin 16)
  /-- SR_ENTRY_DONE (R346): tSR min met, and the controller enters SELF_REFRESH or begins exit. -/
  | srEntryDone (mc : Fin 16)
  /-- SR_WAKE (R346): A request or an exit order in SELF_REFRESH starts SR_EXIT. `order`: an exit is ordered. -/
  | srWake (mc : Fin 16) (order : Bool)
  /-- SR_EXIT_DONE (R346): tXSR, WCK2CK sync and the drift check done, and the controller is ACTIVE. -/
  | srExitDone (mc : Fin 16)
  /-- MC_TRN_WRITE_PATTERN (R351): Training op 1 writes the pattern to channel-local lines. The value written to MC_TRN_CMD. -/
  | mcTrnWritePattern (mc : Fin 16) (cmd : W32)
  /-- MC_TRN_READ_COMPARE (R351): Training op 2 reads and compares lines against the pattern. -/
  | mcTrnReadCompare (mc : Fin 16) (cmd : W32)
  /-- MC_TRN_WRITE_READ_COMPARE (R351): Training op 3 writes, reads and compares the pattern. -/
  | mcTrnWriteReadCompare (mc : Fin 16) (cmd : W32)
  /-- MC_TRN_MR_WRITE (R351): Training op 4 writes a DRAM mode register. -/
  | mcTrnMrWrite (mc : Fin 16) (cmd : W32)
  /-- MC_TRN_MR_READ (R351): Training op 5 reads a DRAM mode register. -/
  | mcTrnMrRead (mc : Fin 16) (cmd : W32)
  /-- MC_TRN_ZQ_CAL (R351): Training op 6 runs ZQ calibration. -/
  | mcTrnZqCal (mc : Fin 16) (cmd : W32)
  /-- MC_TRN_WCK2CK_SAMPLE (R351): Training op 7 samples WCK levels for WCK2CK levelling. -/
  | mcTrnWck2ckSample (mc : Fin 16) (cmd : W32)
  /-- MC_TRN_DONE (R351): A training op completes, GO clears and the results are posted. What the DRAM answered. -/
  | mcTrnDone (mc : Fin 16) (fail : W64) (data : Byte)
  /-- ALLOC (R358): BPM operation that takes a free buffer from the smallest admitting pool or refuses with NO_FIT or POOL_EMPTY. -/
  | alloc (port : Fin 15) (ty : PoolTy) (size : Nat) (cls : Fin 4) (sid : Option (Fin 4096)) (rid : Option Nat)
  /-- REF (R356): BPM operation that increments a buffer's reference count after the free and owner checks. -/
  | ref (port : Fin 15) (who : Fin 128) (handle : W32)
  /-- UNREF (R356): BPM operation that decrements a count and returns the buffer to its pool at zero. -/
  | unref (port : Fin 15) (who : Fin 128) (handle : W32)
  /-- RESERVE (R356): BPM operation that adds to a session's reservation in a pool. -/
  | reserve (port : Fin 15) (pool : Fin 16) (sid : Fin 4096) (n : Nat)
  /-- UNRESERVE (R356): BPM operation that subtracts from a session's reservation. -/
  | unreserve (port : Fin 15) (pool : Fin 16) (sid : Fin 4096) (n : Nat)
  /-- ALLOC_RETRY (R361): A hardware requester retries a refused ALLOC after its backoff. -/
  | allocRetry (rid : Nat)
  /-- BPM_HOLD_EXPIRE (R361): A buffer held for a ticket for 8,192 FCLK cycles returns to F. -/
  | bpmHoldExpire (pool : Fin 16)
  /-- DMA_CH_ENABLE (R375): Write of DMA_CH_CTRL.EN 1, which starts a channel if its ring depth is valid. -/
  | dmaChEnable (req : Req) (c : Fin 32)
  /-- DMA_CH_DISABLE (R374): Write of EN 0, which drops the channel and its descriptor in execution. -/
  | dmaChDisable (req : Req) (c : Fin 32)
  /-- DMA_CH_RESUME (R375): Write of RESUME, which leaves HALTED. -/
  | dmaChResume (req : Req) (c : Fin 32)
  /-- DMA_CH_TAIL (R365): Writer advances a channel's tail, making descriptors fetchable. -/
  | dmaChTail (req : Req) (c : Fin 32) (idx : Nat)
  /-- DMA_NOP (R366): Descriptor that moves no data and completes OK. -/
  | dmaNop (c : Fin 32) (desc : BitVec 256)
  /-- DMA_COPY (R367): Descriptor that copies a source range to a destination. The HOST data read, and the first beat that failed: byte offset and cause (0 read, 1 write, 2 fenced-abort). -/
  | dmaCopy (c : Fin 32) (desc : BitVec 256) (host : List Byte) (err : Option (Nat × Fin 3))
  /-- DMA_FILL (R367): Descriptor that fills a destination with a 64-bit pattern. -/
  | dmaFill (c : Fin 32) (desc : BitVec 256) (err : Option (Nat × Fin 3))
  /-- DMA_COMPARE (R367): Descriptor that compares two ranges and reports the first difference. -/
  | dmaCompare (c : Fin 32) (desc : BitVec 256) (host : List Byte) (err : Option (Nat × Fin 3))
  /-- DMA_GATHER (R367): Descriptor that gathers indexed elements into a contiguous destination. -/
  | dmaGather (c : Fin 32) (desc : BitVec 256) (host : List Byte) (err : Option (Nat × Fin 3))
  /-- DMA_DESCRIPTOR_DONE (R370): A descriptor ends, its completion record is written, and a channel may halt or take a shadow hand-over. -/
  | dmaDescriptorDone (c : Fin 32)
  /-- SHADOW_COMMIT (R376): Write of COMMIT, which arms the shadow ring values for the next hand-over. -/
  | shadowCommit (req : Req) (c : Fin 32) (weight : Fin 8)
  /-- MBX_IN_DATA (R379): Host writes an inbound mailbox word, or it is discarded on a full queue. `id`: the write's requester ID; `auth`: over an authenticated IDE stream. -/
  | mbxInData (c : Fin 8) (id : W16) (auth : Bool) (word : W32)
  /-- MBX_OUT_DATA (R382): Host read that removes the head word of a complete outbound message. -/
  | mbxOutData (c : Fin 8)
  /-- HOST_RESET (R384): Write of MBX_CTRL.HOST_RESET, which discards the host's partial messages. -/
  | hostReset (c : Fin 8)
  /-- MBX_PARTIAL_TIMEOUT (R379): A partial host message not continued within 1 ms is discarded. -/
  | mbxPartialTimeout (c : Fin 8)
  /-- MCTP_MESSAGE (R380): The sideband bridge receives a mailbox MCTP message from the board management controller. -/
  | mctpMessage (i3c : Bool) (eid : Byte) (secured : Bool) (c : Fin 8) (words : List W32) (eom : Bool)
  /-- MBX_BRIDGE_PLACE (R380): The bridge places a held MCTP message into the inbound queue once there is room. -/
  | mbxBridgePlace (c : Fin 8)
  /-- MBX_OUT_WRITE (R382): The serving side writes an outbound message word addressed to the host or an endpoint. `can`: the endpoint's bus can carry a message now. -/
  | mbxOutWrite (c : Fin 8) (dest : Option Byte) (word : W32) (can : Bool)
  /-- MBX_IN_READ (R381): The serving side reads a complete inbound message and applies the acceptance rules. -/
  | mbxInRead (c : Fin 8)
  /-- MBX_ENDPOINT_TIMEOUT (R382): An outbound message undeliverable to an endpoint for 100 ms is discarded. -/
  | mbxEndpointTimeout (c : Fin 8)
  /-- MIC_SOURCE_RAISE (R387): An edge or level on a MIC source sets PEND and may assert its target's interrupt. The source's signal rises or falls. -/
  | micSourceRaise (src : Fin 512) (on : Bool)
  /-- MIC_TGT_CLAIM (R388): Target read that claims the highest-priority eligible source. -/
  | micTgtClaim (req : Req) (t : Fin 9)
  /-- MIC_TGT_EOI (R389): Target write that completes an active source or records an unmatched completion. -/
  | micTgtEoi (req : Req) (t : Fin 9) (src : Fin 512)
  /-- MIC_SWI (R393): Write that raises edges on software sources. -/
  | micSwi (req : Req) (set : W32)
  /-- MIC_SRC_CFG (R391): Write of a source's configuration, which retargets or enables it. -/
  | micSrcCfg (req : Req) (src : Fin 512) (cfg : W32)
  /-- MIC_TARGET_WAKE (R392): A sleeping target resumes and its interrupt is asserted. -/
  | micTargetWake (t : Fin 9)
  /-- NANOWORD_COMPLETE (R403): A nanoword ends, and at a commit point the shadow folds or a pending preemption is taken. Core and context; the value of its condition; block-type key; SRAM bytes and operations it adds to the shadow; requests that became pending in this cycle; a KIND 3 packet has reached the core. -/
  | nanowordComplete (core : Fin 64) (k : Fin 8) (flag : Bool) (key : Fin 16) (sram : Nat) (ops : Nat) (fresh : List Nat) (kind3 : Bool)
  /-- COMMIT_WATCHDOG (R408): A commit-distance counter reaches 2,048, and the context stalls and raises its source. -/
  | commitWatchdog (core : Fin 64) (k : Fin 8)
  /-- PATCH_ACTIVATION (R415): Once every context of a core is parked, the patch words are written and MCODE_VERSION changes. -/
  | patchActivation (core : Fin 64)
  /-- SCRUB (R507): Write of CORE_CTRL.SCRUB, which requests an SRAM scrub pass. -/
  | scrub (core : Fin 64)
  /-- SCRUB_PERIOD (R507): The periodic scrub interval expires and a scrub pass starts. -/
  | scrubPeriod (core : Fin 64)
  /-- FAULT_RAISE (R425): A fault report reaches FLT and is counted, captured, reported, sealed or made fatal by its class. The reports of detectors outside the model that arrive in one cycle; none: the oldest report in flight. -/
  | faultRaise (reps : List Report)
  /-- FAULT_REPORT_TIMER (R425): REPORT_MS elapses, and a batched EVT_FAULT is written for a source. -/
  | faultReportTimer (src : Fin 4096)
  /-- SELF_TEST_DONE (R437): A polder's self-test passes or fails, and the polder moves to QUIESCING, SEALED or OUT. The failing step less one; a memory controller trained at 4,800 MT/s; pairs of a peloton whose seam training failed. -/
  | selfTestDone (pol : Fin 95) (fail : Option (Fin 3)) (slow : Bool) (seam : List (Fin 4))
  /-- QUIESCENT_BOUNDARY (R441): The quiescent boundary is reached, and the sluice opens and POLDER_ADMIT completes. -/
  | quiescentBoundary (pol : Fin 95)
  /-- H_AUTO_READMIT (R443): 10 ms after polder 88 is sealed, FLT clears PENDING and re-admits it without a command. -/
  | hAutoReadmit
  /-- INJECTION_ARM (R445): Write of PG_INJ.ARM, which arms injection of a source. Page number and value written. -/
  | injectionArm (page : Nat) (v : W32)
  /-- INJECTION_DISARM (R499): Write of PG_INJ.DISARM, which clears ARM if the source has not raised. -/
  | injectionDisarm (page : Nat) (v : W32)
  /-- INJECTION_FIRE (R445): An armed detector raises its source once at its next check, or within 1 µs. -/
  | injectionFire (page : Nat)
  /-- PAGE_LOCK (R495): Write of PG_CTRL.LOCK, which locks the page's RWL fields. -/
  | pageLock (page : Nat)
  /-- DERAILLEUR_EVAL (R458): Every 100 µs each peloton's running gear is set from g_need and g_cap. -/
  | derailleurEval
  /-- GEAR_UP (R459): A pending faster gear takes effect once AVS has reached its entry voltage with slack. -/
  | gearUp (p : Fin 8)
  /-- AVS_UPDATE (R462): Every 10 µs AVS adjusts the island voltage code and may set the headroom cap. The smallest slack of the monitors. -/
  | avsUpdate (p : Fin 8) (slack : Nat)
  /-- DROOP_ONSET (R465): A droop detector trips and CCLK periods stretch. -/
  | droopOnset (p : Fin 8)
  /-- DROOP_END (R465): 20 ns after the last detector recovers, stretching ends. -/
  | droopEnd (p : Fin 8)
  /-- CAP_RELEASE (R466): After 1 ms without a trigger, a droop or headroom cap is released one step. The headroom cap, else the droop cap. -/
  | capRelease (p : Fin 8) (headroom : Bool)
  /-- THERMAL_SAMPLE (R467): Every 100 µs sensors are read and the thermal cap is stepped or released. The eight readings in °C. -/
  | thermalSample (p : Fin 8) (temps : List Nat)
  /-- SUPPLY_EXCURSION (R464): An island voltage outside its AVS bounds raises PEL_SUPPLY. -/
  | supplyExcursion (p : Fin 8)
  /-- COMMIT_GEAR_WRITE (R457): Write of PWR_PEL_CTRL.COMMIT, which is ignored if the slower gear cannot carry the admitted load. -/
  | commitGearWrite (p : Fin 8) (code : Fin 8)
  /-- POWER_ON (R474): VDD_AON rises, clearing all state, and the root PLL locks with the device clock set to 0. What the part holds, taken at its first power-on. -/
  | powerOn (part : Part)
  /-- PERST_ASSERT (R539): PERST# asserted for 10 µs or longer resets the device. How long PERST# has been low, and whether a pulse of 1 to 10 µs acts. -/
  | perstAssert (ns : Nat) (acts : Bool)
  /-- START_UP (R475): From PERST# deassertion or a warm reset, the start-up steps run to DEV_STAT.READY. Strap levels; what training comes to by controller; pairs whose seam training fails. -/
  | startUp (straps : Byte) (train : List TrainRes) (fails : List (Fin 32))
  /-- WARM_RESET (R505): Keyed write of RST_CTRL.WARM, which stops fetch and transmit and runs start-up. -/
  | warmReset (req : Req) (v : W32)
  /-- PCIE_HOT_RESET (R474): A P0 or P1 hot reset takes the port's IDE streams out of Secure. -/
  | pcieHotReset (p : Fin 2)
  /-- REFCLK_LOSS (R454): Loss of REFCLK or root lock with PERST# deasserted raises DEVICE_FATAL 2, and is tolerated otherwise. REFCLK itself is lost, else the lock alone. -/
  | refclkLoss (ref : Bool)
  /-- NVS_CMD_ARM (R482): First NVS_CMD write with KEY 0x5A, which opens the store sequence. -/
  | nvsCmdArm (req : Req) (op : Fin 4)
  /-- NVS_STORE_TRAIN_LIVE (R482): Second NVS_CMD write with OP 1, which stores settings with live training. -/
  | nvsStoreTrainLive (req : Req)
  /-- NVS_STORE_TRAIN_STORED (R482): Second NVS_CMD write with OP 2, which stores settings with the loaded training records. -/
  | nvsStoreTrainStored (req : Req)
  /-- NVS_CLEAR (R482): Second NVS_CMD write with OP 3, which writes an empty settings image. -/
  | nvsClear (req : Req)
  /-- NVS_CMD_TIMEOUT (R482): No second NVS_CMD write within 1 ms abandons the sequence. -/
  | nvsCmdTimeout
  /-- NVS_WRITE_DONE (R481): An NVS image write and read-back finish, and the result is reported. The read-back verified. -/
  | nvsWriteDone (readBack : Bool)
  /-- REGISTER_WRITE (R494): A write to a register field with no row of its own, under the access types and size rules. `rid` and `auth`: the requester ID and whether the write came over an authenticated IDE stream, for a mailbox word. -/
  | registerWrite (req : Req) (rid : W16) (auth : Bool) (addr len : Nat) (value : W64)
  /-- SIDEBAND_RESET (R384): Reset of the I3C or SMBus target, or loss of the sideband bus, discards a partial MCTP message in the bridge and resends a partly sent outbound message whole. -/
  | sidebandReset (i3c : Bool)
  /-- PEER_PORT_FLR (R317): FLR of the single function of PCIE_P0 or PCIE_P1 takes that port's IDE streams out of Secure. -/
  | peerPortFlr (p : Fin 2)
  /-- ROOT_PLL_RELOCK (R454): When REFCLK returns while PERST# is asserted, the root PLL locks again and the device clock continues from its held value. -/
  | rootPllRelock
  /-- POWER_REMOVAL (R473): Rails fall after PERST# and VDD_AON falls last, ending all activity, interrupting an NVS write so that only that bank is invalid, and clearing the fatal, debug and injection state that only power removal clears. -/
  | powerRemoval
  /-- JTAG_INSTRUCTION (R321): An instruction shifted into the JTAG TAP acts as IDCODE, BYPASS, SAMPLE/PRELOAD or EXTEST, or as BYPASS when locked by lifecycle or debug level. -/
  | jtagInstruction (op : JtagOp) (pins : BitVec 66)
  /-- REGISTER_READ (R493): A register read with side effects clears RC fields and, for a low-half 32-bit read of a 64-bit register, latches the high half for the same requester. `bar2`: the read goes to BAR2, else to BAR0 or over the fabric. -/
  | registerRead (req : Req) (bar2 : Bool) (addr len : Nat)
  deriving DecidableEq, Repr

end Sys2Proof
end

