-- ==== Sys2Proof/Config.lean ====
section
/-! DEFINITION. The values the spec leaves open: constants without a body, so no proof can see what they are (log 5), and
the names of what cryptography derives (log 6). -/

namespace Sys2Proof.Config

/-- A free number: one the spec leaves open, by the number of the draw. -/
opaque freeNat : Nat → Nat
/-- A free byte: content of memory the spec calls undefined (R6, R356), by place and draw. -/
opaque freeByte : Nat → BitVec 8
/-- A drawn random number of `n` bits (R287), by the number of the draw. -/
opaque random : Nat → Nat
/-- A key derived from secrets and a label (R303 to R306, R309, R314): the model's name for it. -/
opaque derive : Nat → Nat → Nat
/-- The SHA-384 of what the numbers name (R289, R304, R412). -/
opaque digest : List Nat → Nat
/-- A signature with the key named over what the numbers name (R289, R316). -/
opaque sign : Nat → List Nat → Nat
/-- AES-256 of a 16-byte block under the key named, as a little-endian number (R326). -/
opaque aes : Nat → Nat → Nat
/-- The AV1 dc_q tables (the AV1 standard, outside the manual): by bit depth and qindex (R103). -/
opaque dcQ : Nat → Nat → Nat

/-- Sundealey's IANA private enterprise number (R380, R503), which the manual does not print. -/
opaque ianaNumber : Nat

end Sys2Proof.Config
end

