-- ==== Sys2Proof/Machine/RegMap.lean ====
section
/-! DEFINITION. The register pages (R488 to R490), the common header (R499) and the fields of every register, as tables:
R242, R279, R280, R281, R329, R351, R363, R377, R385, R393, R418, R452, R485, R486, R487, R502, R504, R506, R507, R509. -/

namespace Sys2Proof.Machine

/-- The access types of R12. -/
inductive Acc where
  | ro | rw | w1c | w1s | wo | rc | rwl
  deriving DecidableEq, Repr

/-- The values a field takes; a write of another is a reserved encoding, which leaves the field unchanged (R11). -/
inductive Chk where
  | any
  | range (lo hi : Nat)
  | among (l : List Nat)
  /-- A multiple, as BPM_POOL_CFG.SHARE and the like. -/
  | atMost (hi : Nat)
  deriving DecidableEq, Repr

/-- Does a field take the value? -/
def Chk.ok : Chk → Nat → Bool
  | .any, _ => true
  | .range lo hi, v => decide (lo ≤ v) && decide (v ≤ hi)
  | .among l, v => l.contains v
  | .atMost hi, v => decide (v ≤ hi)

/-- A field: lowest bit, width, access, values. -/
structure Fld where
  lo : Nat
  n : Nat
  acc : Acc
  chk : Chk := .any
  deriving DecidableEq, Repr

/-- A register, or `cnt` of them `stride` bytes apart. -/
structure Reg where
  off : Nat
  wide : Bool := false
  rst : Nat := 0
  stride : Nat := 0
  cnt : Nat := 1
  flds : List Fld := []
  deriving DecidableEq, Repr

/-- The page types of R490. -/
inductive PageTy where
  | dev | clk | pwr | rst | flt | nvs | sec | mbx | mic | bpm | dma | hq | eth | pkt | time | mc | pel | core | pcie
  deriving DecidableEq, Repr

/-- A page: type, instance. -/
structure Page where
  ty : PageTy
  inst : Nat
  deriving DecidableEq, Repr

/-- Where the pages of VF `n` lie in the model's one register address space: its BAR0 (R489) starts here. -/
def vfBase (n : Nat) : Nat := 2 ^ 28 + n * 2 ^ 20

/-- Base address of the HQ page of a function (R242, R490). -/
def hqBase (fn : Nat) : Nat := if fn = 0 then 0x10000 else vfBase fn

/-- Base address of a page. -/
def Page.base (p : Page) : Nat :=
  match p.ty with
  | .dev => 0 | .clk => 0x1000 | .pwr => 0x2000 | .rst => 0x3000 | .flt => 0x4000 | .nvs => 0x5000 | .sec => 0x6000
  | .mbx => 0x7000 | .mic => 0x8000 | .bpm => 0x9000 | .dma => 0xA000 + p.inst * 0x1000
  | .hq => hqBase p.inst
  | .eth => 0x20000 + p.inst * 0x1000 | .pkt => 0x22000 | .time => 0x23000
  | .mc => 0x30000 + p.inst * 0x1000 | .pel => 0x40000 + p.inst * 0x1000 | .core => 0x50000 + p.inst * 0x1000
  | .pcie => 0x90000 + p.inst * 0x1000

/-- TYPE code of PG_ID (R490). -/
def PageTy.code : PageTy → Nat
  | .dev => 1 | .clk => 2 | .pwr => 3 | .rst => 4 | .flt => 5 | .nvs => 6 | .sec => 7 | .mbx => 8 | .mic => 9
  | .bpm => 0xA | .dma => 0xB | .hq => 0x10 | .eth => 0x20 | .pkt => 0x21 | .time => 0x22 | .mc => 0x30 | .pel => 0x40
  | .core => 0x50 | .pcie => 0x60

/-- The polder that holds the page; 127 for none (R490). -/
def Page.polder (p : Page) : Nat :=
  match p.ty with
  | .nvs | .mbx | .mic => 94
  | .bpm | .dma => 93
  | .hq => 88
  | .eth => 91 + p.inst
  | .pkt => 91
  | .mc => 72 + p.inst
  | .pel => 64 + p.inst
  | .core => p.inst
  | .pcie => 88 + p.inst
  | _ => 127

/-- Page number k of the global pages, from 0x000_0000. -/
def globalPage : Nat → Option Page
  | 0 => some ⟨.dev, 0⟩ | 1 => some ⟨.clk, 0⟩ | 2 => some ⟨.pwr, 0⟩ | 3 => some ⟨.rst, 0⟩ | 4 => some ⟨.flt, 0⟩
  | 5 => some ⟨.nvs, 0⟩ | 6 => some ⟨.sec, 0⟩ | 7 => some ⟨.mbx, 0⟩ | 8 => some ⟨.mic, 0⟩ | 9 => some ⟨.bpm, 0⟩
  | 10 => some ⟨.dma, 0⟩ | 11 => some ⟨.dma, 1⟩
  | _ => none

/-- The page an address of the PF's BAR0 lies in (R488, R490). -/
def pageAt (a : Nat) : Option Page :=
  let k := a / 0x1000
  if k ≤ 0xB then globalPage k
  else if k = 0x10 then some ⟨.hq, 0⟩
  else if k = 0x20 then some ⟨.eth, 0⟩
  else if k = 0x21 then some ⟨.eth, 1⟩
  else if k = 0x22 then some ⟨.pkt, 0⟩
  else if k = 0x23 then some ⟨.time, 0⟩
  else if 0x30 ≤ k ∧ k ≤ 0x3F then some ⟨.mc, k - 0x30⟩
  else if 0x40 ≤ k ∧ k ≤ 0x47 then some ⟨.pel, k - 0x40⟩
  else if 0x50 ≤ k ∧ k ≤ 0x8F then some ⟨.core, k - 0x50⟩
  else if 0x90 ≤ k ∧ k ≤ 0x92 then some ⟨.pcie, k - 0x90⟩
  else none

/-- The common header (R499) without the identity words. PG_CTRL, PG_EVT, PG_EVT_EN, PG_INJ, PG_FCAP0 to PG_FCAP3. -/
def hdrRegs : List Reg :=
  [ ⟨0x000, false, 0, 0, 1, []⟩, ⟨0x004, false, 0x00110100, 0, 1, []⟩, ⟨0x008, true, 0, 0, 1, []⟩,
    ⟨0x010, false, 0, 0, 1, [⟨0, 1, .rw, .any⟩, ⟨31, 1, .w1s, .any⟩]⟩,
    ⟨0x014, false, 0, 0, 1, []⟩,
    ⟨0x018, false, 0, 0, 1, [⟨0, 4, .w1c, .any⟩]⟩,
    ⟨0x01C, false, 0, 0, 1, [⟨0, 4, .rw, .any⟩]⟩,
    ⟨0x020, false, 0, 0, 1, [⟨0, 12, .rw, .any⟩, ⟨12, 1, .w1s, .any⟩, ⟨13, 1, .wo, .any⟩]⟩,
    ⟨0x024, false, 0, 0, 1, []⟩,
    ⟨0x040, true, 0, 0, 1, [⟨62, 2, .w1c, .any⟩]⟩, ⟨0x048, true, 0, 0, 1, []⟩, ⟨0x050, true, 0, 0, 1, []⟩,
    ⟨0x058, true, 0, 0, 1, []⟩ ]

/-- A 32-bit counter cleared by reading. -/
def rc32 (off : Nat) : Reg := ⟨off, false, 0, 0, 1, [⟨0, 32, .rc, .any⟩]⟩
/-- A 64-bit counter cleared by reading. -/
def rc64 (off : Nat) : Reg := ⟨off, true, 0, 0, 1, [⟨0, 64, .rc, .any⟩]⟩
/-- A read-only register. -/
def ro32 (off : Nat) : Reg := ⟨off, false, 0, 0, 1, []⟩
/-- A read-only 64-bit register. -/
def ro64 (off : Nat) : Reg := ⟨off, true, 0, 0, 1, []⟩

/-- BPM_POOL_CFG of the default configuration (R353), pools 0 to 15: type, size in KiB, share. -/
def poolDefault : List (Nat × Nat × Nat) :=
  [(1, 2, 3), (1, 10, 2), (2, 64, 15), (2, 512, 20), (2, 4096, 30), (2, 65536, 20), (3, 2048, 30), (3, 6144, 200),
   (3, 8192, 120), (3, 12288, 80), (3, 24576, 160), (3, 32768, 100), (3, 49152, 80), (3, 98304, 70), (3, 131072, 40),
   (0, 0, 0)]

/-- The register word of a pool's default configuration. -/
def poolWord (c : Nat × Nat × Nat) : Nat := c.1 + c.2.1 * 2 ^ 12 + c.2.2 * 2 ^ 32

/-- The registers of BPM_POOL_CFG, one each with its own reset value (R353, R363). -/
def poolCfgRegs : Nat → List (Nat × Nat × Nat) → List Reg
  | _, [] => []
  | p, c :: l =>
    ⟨0x080 + 8 * p, true, poolWord c, 0, 1,
      [⟨0, 2, .rw, .any⟩, ⟨12, 20, .rw, .range 1 1048575⟩, ⟨32, 10, .rw, .atMost 1000⟩]⟩ :: poolCfgRegs (p + 1) l

/-- The block registers of a page, offsets within the page. -/
def blockRegs : PageTy → List Reg
  | .dev =>
    [ro64 0x080, ro64 0x088, ro32 0x090, ro32 0x094,
     ⟨0x098, false, 0, 0, 1, [⟨0, 16, .rc, .any⟩, ⟨16, 16, .rc, .any⟩]⟩, ro32 0x09C,
     ⟨0x0A0, false, 0, 4, 4, [⟨0, 32, .rw, .any⟩]⟩]
  | .clk => [ro32 0x080, rc32 0x084]
  | .pwr =>
    [⟨0x080, false, 0x01280564, 0, 1,
       [⟨0, 8, .rw, .range 85 110⟩, ⟨8, 4, .rw, .range 2 15⟩, ⟨16, 8, .rw, .range 20 80⟩, ⟨24, 1, .rw, .any⟩]⟩,
     ⟨0x100, false, 0, 0x20, 8,
       [⟨0, 3, .rw, .any⟩, ⟨3, 1, .rw, .any⟩, ⟨4, 3, .rw, .any⟩, ⟨7, 1, .rw, .any⟩, ⟨8, 8, .rw, .atMost 60⟩]⟩,
     ⟨0x104, false, 0, 0x20, 8, []⟩,
     ⟨0x108, true, 0, 0x20, 8, [⟨0, 32, .rc, .any⟩, ⟨32, 16, .rc, .any⟩, ⟨48, 16, .rc, .any⟩]⟩,
     ⟨0x110, true, 0, 0x20, 8, []⟩]
  | .rst =>
    [⟨0x080, false, 0, 0, 1, [⟨0, 8, .wo, .any⟩, ⟨8, 1, .wo, .any⟩]⟩, ⟨0x084, false, 0, 0, 1, [⟨0, 4, .w1c, .any⟩]⟩,
     ro32 0x088]
  | .flt =>
    [⟨0x080, false, 0x6402, 0, 1, [⟨0, 1, .rw, .any⟩, ⟨1, 1, .rw, .any⟩, ⟨8, 10, .rw, .range 1 1000⟩]⟩, ro32 0x084,
     ⟨0x088, true, 0, 0, 1, [⟨62, 2, .w1c, .any⟩]⟩, ro64 0x090, ro64 0x098, ro64 0x0A0,
     ⟨0x0B0, false, 0, 0, 1, [⟨0, 12, .rw, .any⟩]⟩, ⟨0x0B4, false, 0, 0, 1, [⟨0, 2, .rw, .any⟩]⟩, rc32 0x0B8,
     ro32 0x0C0, ro64 0x0C8, ⟨0x400, true, 0, 8, 95, [⟨3, 1, .w1c, .any⟩]⟩]
  | .nvs =>
    [ro32 0x080, ro64 0x088, ro64 0x090, ⟨0x098, false, 0, 0, 1, [⟨0, 8, .wo, .any⟩, ⟨8, 2, .wo, .any⟩]⟩,
     ⟨0x09C, false, 0, 0, 1, [⟨31, 1, .w1c, .any⟩]⟩]
  | .sec =>
    [ro32 0x080, ro64 0x088, ro64 0x090, ⟨0x098, false, 0, 4, 3, [⟨0, 32, .rc, .any⟩]⟩, ro32 0x0A4,
     ⟨0x0C0, true, 0, 8, 4,
       [⟨0, 16, .rwl, .any⟩, ⟨16, 2, .rwl, .atMost 2⟩, ⟨32, 16, .rwl, .any⟩, ⟨48, 2, .rwl, .atMost 2⟩]⟩]
  | .mbx =>
    [⟨0x100, false, 0x1010, 0x20, 8, [⟨16, 5, .rw, .any⟩, ⟨21, 1, .rw, .any⟩]⟩,
     ⟨0x104, false, 0, 0x20, 8, [⟨0, 32, .wo, .any⟩]⟩, ⟨0x108, false, 0x10, 0x20, 8, []⟩, ⟨0x10C, false, 0, 0x20, 8, []⟩,
     ⟨0x110, false, 0, 0x20, 8, []⟩, ⟨0x114, false, 0, 0x20, 8, [⟨0, 5, .w1c, .any⟩]⟩,
     ⟨0x118, false, 0, 0x20, 8, [⟨0, 1, .wo, .any⟩]⟩,
     ⟨0x11C, false, 0, 0x20, 8, [⟨0, 16, .rc, .any⟩, ⟨16, 16, .rc, .any⟩]⟩]
  | .mic =>
    [⟨0x100, false, 0, 4, 16, [⟨0, 32, .w1c, .any⟩]⟩, ⟨0x140, false, 0, 4, 16, []⟩,
     ⟨0x180, false, 0, 0, 1, [⟨0, 32, .w1s, .any⟩]⟩, ⟨0x184, false, 0, 0, 1, [⟨13, 2, .w1c, .any⟩]⟩, rc32 0x188,
     ⟨0x200, false, 0, 0x10, 9, [⟨0, 4, .rw, .any⟩]⟩, ⟨0x204, false, 0, 0x10, 9, []⟩,
     ⟨0x208, false, 0, 0x10, 9, [⟨0, 9, .wo, .any⟩]⟩, ⟨0x20C, false, 0, 0x10, 9, []⟩,
     ⟨0x800, false, 0, 4, 512, [⟨0, 4, .rw, .any⟩, ⟨4, 4, .rw, .atMost 8⟩, ⟨8, 1, .rw, .any⟩, ⟨9, 1, .rw, .any⟩]⟩]
  | .bpm =>
    poolCfgRegs 0 poolDefault ++
    [⟨0x100, true, 0, 8, 16, [⟨0, 16, .rw, .any⟩, ⟨16, 16, .rw, .any⟩, ⟨32, 16, .rw, .any⟩, ⟨48, 16, .rw, .any⟩]⟩,
     ⟨0x180, true, 0, 8, 16, []⟩, rc32 0x200, rc32 0x204, rc32 0x208, ⟨0x210, true, 0, 0, 1, [⟨63, 1, .w1c, .any⟩]⟩]
  | .dma =>
    [⟨0x100, false, 0, 0x80, 16, [⟨0, 1, .rw, .any⟩, ⟨1, 1, .wo, .any⟩]⟩,
     ⟨0x104, false, 0, 0x80, 16, [⟨3, 3, .w1c, .any⟩]⟩,
     ⟨0x108, true, 0, 0x80, 16, [⟨0, 4, .rw, .any⟩, ⟨12, 52, .rw, .any⟩]⟩,
     ⟨0x110, true, 0, 0x80, 16, [⟨12, 52, .rw, .any⟩]⟩,
     ⟨0x118, false, 0, 0x80, 16, [⟨0, 12, .rw, .any⟩]⟩, ⟨0x11C, false, 0, 0x80, 16, [⟨0, 12, .rw, .any⟩]⟩,
     ⟨0x120, false, 0, 0x80, 16, []⟩,
     ⟨0x124, false, 0, 0x80, 16, [⟨0, 3, .rw, .any⟩, ⟨8, 5, .rw, .any⟩, ⟨13, 1, .rw, .any⟩]⟩,
     ⟨0x128, true, 0, 0x80, 16, [⟨0, 4, .rw, .any⟩, ⟨12, 52, .rw, .any⟩]⟩,
     ⟨0x130, true, 0, 0x80, 16, [⟨12, 52, .rw, .any⟩]⟩,
     ⟨0x138, false, 0, 0x80, 16, [⟨0, 12, .rw, .any⟩, ⟨16, 12, .rw, .any⟩]⟩,
     ⟨0x13C, false, 0, 0x80, 16, [⟨0, 3, .rw, .any⟩, ⟨31, 1, .w1s, .any⟩]⟩]
  | .hq =>
    [⟨0x080, true, 0, 0, 1, [⟨12, 52, .rw, .any⟩]⟩, ⟨0x088, true, 0, 0, 1, [⟨12, 52, .rw, .any⟩]⟩,
     ⟨0x090, false, 0, 0, 1,
       [⟨0, 4, .rw, .any⟩, ⟨4, 4, .rw, .any⟩, ⟨8, 5, .rw, .any⟩, ⟨13, 1, .rw, .any⟩, ⟨31, 1, .rw, .any⟩]⟩,
     ro32 0x094, ro32 0x098, ⟨0x09C, false, 0, 0, 1, [⟨9, 2, .w1c, .any⟩]⟩, rc32 0x0A0]
  | .eth =>
    [⟨0x080, false, 0x10, 0, 1, [⟨0, 2, .rw, .atMost 2⟩, ⟨4, 4, .rw, .any⟩]⟩,
     ⟨0x088, true, 0, 8, 4, [⟨0, 48, .rw, .any⟩]⟩, ⟨0x0A8, false, 0, 0, 1, [⟨4, 4, .w1c, .any⟩]⟩,
     ⟨0x100, true, 0, 8, 16, [⟨0, 64, .rc, .any⟩]⟩]
  | .pkt =>
    [⟨0x080, true, 0, 0, 1, [⟨0, 4, .rw, .any⟩, ⟨4, 1, .rw, .any⟩, ⟨5, 1, .rw, .any⟩, ⟨12, 52, .rw, .any⟩]⟩,
     ⟨0x088, false, 0, 0, 1, [⟨0, 12, .rw, .any⟩]⟩,
     ⟨0x090, true, 0, 0, 1, [⟨0, 4, .rw, .any⟩, ⟨4, 1, .rw, .any⟩, ⟨5, 1, .rw, .any⟩, ⟨12, 52, .rw, .any⟩]⟩,
     ⟨0x098, false, 0, 0, 1, [⟨0, 12, .rw, .any⟩]⟩, ro32 0x09C,
     ⟨0x0C0, false, 0, 4, 16, [⟨0, 32, .rc, .any⟩]⟩,
     ⟨0x800, true, 0, 8, 256, [⟨0, 48, .rw, .any⟩, ⟨48, 1, .rw, .any⟩]⟩]
  | .time =>
    [⟨0x080, false, 0x00FA0A00, 0, 1,
       [⟨0, 1, .rw, .any⟩, ⟨1, 2, .rw, .atMost 2⟩, ⟨8, 8, .rw, .range 1 100⟩, ⟨16, 14, .rw, .range 10 10000⟩]⟩,
     ⟨0x084, false, 0, 0, 1, [⟨6, 1, .w1c, .any⟩]⟩, ro64 0x088,
     ⟨0x090, true, 0, 8, 2,
       [⟨0, 8, .rw, .atMost 127⟩, ⟨8, 3, .rw, .any⟩, ⟨11, 1, .rw, .any⟩, ⟨12, 1, .rw, .any⟩, ⟨16, 16, .rw, .any⟩,
        ⟨32, 32, .rw, .any⟩]⟩,
     ⟨0x0A0, true, 0, 8, 2, []⟩, ⟨0x0B0, true, 0, 0, 1, [⟨0, 64, .wo, .any⟩]⟩, ⟨0x0B8, false, 0, 0, 1, [⟨0, 32, .wo, .any⟩]⟩]
  | .mc =>
    [⟨0x080, false, 0, 0, 1, [⟨0, 2, .rw, .atMost 1⟩]⟩, ro32 0x084,
     ⟨0x088, false, 0x6401, 0, 1, [⟨0, 1, .rw, .any⟩, ⟨8, 10, .rw, .range 10 1000⟩]⟩,
     ⟨0x08C, false, 0, 0, 1, [⟨8, 1, .w1c, .any⟩]⟩,
     ⟨0x090, false, 0x00300828, 0, 1,
       [⟨0, 10, .rw, .range 1 1000⟩, ⟨10, 6, .rw, .range 1 32⟩, ⟨16, 8, .rw, .range 8 255⟩, ⟨24, 1, .rw, .any⟩]⟩,
     ⟨0x098, true, 0, 8, 4, []⟩,
     ⟨0x0C0, false, 0, 0, 1,
       [⟨0, 3, .rw, .any⟩, ⟨3, 2, .rw, .any⟩, ⟨5, 1, .rw, .any⟩, ⟨8, 8, .rw, .any⟩, ⟨16, 8, .rw, .any⟩, ⟨24, 1, .rw, .any⟩]⟩,
     ⟨0x0C8, true, 0, 0, 1, [⟨0, 64, .rw, .any⟩]⟩, ro64 0x0D0,
     ⟨0x0D8, false, 0, 0, 1, [⟨0, 2, .rw, .any⟩, ⟨2, 3, .rw, .atMost 5⟩, ⟨5, 5, .rw, .any⟩]⟩,
     ⟨0x0DC, false, 0, 0, 1, [⟨0, 10, .wo, .any⟩]⟩, rc32 0x0E0, rc32 0x0E4, ⟨0x0E8, true, 0, 0, 1, [⟨63, 1, .w1c, .any⟩]⟩]
  | .pel =>
    [⟨0x080, false, 0xC0, 0, 1, [⟨0, 9, .rw, .atMost 256⟩]⟩, ⟨0x084, false, 0, 0, 1, [⟨9, 1, .w1c, .any⟩]⟩,
     ⟨0x088, false, 0, 4, 4, []⟩, ⟨0x098, false, 8, 0, 1, [⟨0, 8, .rw, .range 1 128⟩]⟩,
     rc32 0x09C, rc32 0x0A0, rc32 0x0A4, rc32 0x0A8, ro32 0x0B0,
     ⟨0x0B4, false, 0x0200005A, 0, 1, [⟨0, 8, .rw, .range 70 105⟩, ⟨16, 12, .rw, .any⟩]⟩, ro32 0x0B8,
     ⟨0x0BC, false, 0, 0, 1, [⟨0, 1, .rw, .any⟩]⟩, ⟨0x0C0, true, 0, 8, 2, []⟩, ro32 0x0D0, ro32 0x0D4,
     rc64 0x0D8, rc64 0x0E0, ⟨0x0E8, false, 0, 0, 1, [⟨0, 16, .rc, .any⟩, ⟨16, 16, .rc, .any⟩]⟩]
  | .core =>
    [ro64 0x080, ro32 0x088, ⟨0x08C, false, 0, 0, 1, [⟨0, 16, .rc, .any⟩, ⟨16, 16, .rc, .any⟩]⟩,
     ro32 0x090, ro32 0x094, ro32 0x098, ⟨0x09C, false, 0x6400, 0, 1, [⟨0, 1, .w1s, .any⟩, ⟨8, 8, .rw, .any⟩]⟩,
     ⟨0x0A0, true, 0, 8, 4, []⟩, rc64 0x0C0, rc32 0x0C8, rc32 0x0CC, ro32 0x0D0, rc32 0x0D4]
  | .pcie =>
    [⟨0x080, false, 0, 0, 1, [⟨16, 1, .w1c, .any⟩]⟩, ro32 0x084,
     ⟨0x088, false, 0x106, 0, 1, [⟨0, 4, .rw, .range 1 6⟩, ⟨4, 5, .rw, .among [1, 2, 4, 8, 16]⟩]⟩,
     rc32 0x090, rc32 0x094, rc32 0x098, rc32 0x09C, rc64 0x0A0, ⟨0x0C0, false, 0, 4, 9, []⟩]

/-- Bytes of a register. -/
def Reg.bytes (r : Reg) : Nat := if r.wide then 8 else 4

/-- The index of the register of the group that the offset lies in. -/
def Reg.hit (r : Reg) (off : Nat) : Option Nat :=
  if off < r.off then none
  else
    let k := if r.stride = 0 then 0 else (off - r.off) / r.stride
    if k < r.cnt ∧ off - r.off - k * r.stride < r.bytes then some k else none

/-- The register at an offset, from a list. -/
def findReg : List Reg → Nat → Option (Reg × Nat)
  | [], _ => none
  | r :: l, off =>
    match r.hit off with
    | some k => some (r, k)
    | none => findReg l off

/-- The register at an offset of a page of the type: header, then block registers. -/
def PageTy.reg (t : PageTy) (off : Nat) : Option (Reg × Nat) :=
  if off < 0x80 then findReg hdrRegs off else findReg (blockRegs t) off

/-- Reset value of the register at an address of the model's register space (R497). -/
def resetAt (a : Nat) : Nat :=
  let pg : Option Page := if a < 2 ^ 28 then pageAt a else some ⟨.hq, 1⟩
  match pg with
  | none => 0
  | some p =>
    match p.ty.reg (a % 0x1000) with
    | some (r, _) => r.rst
    | none => 0

/-- Address of the register at offset `off` of a page. -/
def Page.at (p : Page) (off : Nat) : Nat := p.base + off

end Sys2Proof.Machine
end

