-- ==== Sys2Proof/Machine/State.lean ====
section
/-! DEFINITION. The state of the block, what may stop it, and the state right after power-on reset. -/

namespace Sys2Proof.Machine

/-- Why the block stops. -/
inductive Fault where
  /-- Raised by DRAM_REQUEST at an offset at or above the controller's usable capacity, which R333 says is never issued.
  Safe: no claim about such an access can be proved. -/
  | noSuchAddress
  deriving DecidableEq, Repr

/-- Why a command has no meaning. -/
inductive Refusal where
  /-- Answered by the dispatch alone, for a row whose meaning is not written. Safe. -/
  | notModelled (mnemonic : String)
  deriving DecidableEq, Repr

/-- The whole block. -/
structure State where
  /-- Commands that wait, first in, first out. -/
  pending : List Instr := []
  board : Board := {}
  boot : Boot := {}
  /-- Model time in ps, one TCLK cycle (1,250 ps) a tick. -/
  now : Nat := 0
  /-- Device clock in 2^-32 ns (R272), and the signed frequency correction adj in 1/65536 ppb (R276, R281; log 40). -/
  clk : Nat := 0
  adj : Int := 0
  /-- The flat registers by BAR0 address (VF pages above 2^28): every field that is plain storage. An address not listed
  holds its reset value. -/
  regs : Tab Nat := []
  /-- The register halves, by requester code (R493). -/
  halves : Tab Half := []
  funs : Tab Func := []
  ports : Tab Port := []
  /-- Queue pairs by function × 256 + QID. -/
  qps : Tab QPair := []
  slots : Tab Slot := []
  fetchOrder : Nat := 0
  /-- Round-robin position of fetch by class (0 admin, 1 urgent, 2 normal): pair key + 1 and entries taken. -/
  fetchPos : Tab (Nat × Nat) := []
  /-- Formed entries, with the key of their pair, that wait for entries of other CQs to be written (R233), oldest first. -/
  deferred : List (Nat × Entry) := []
  /-- Doorbell values last accepted: pair key × 2, + 1 for the CQ head. -/
  doorbells : Tab Nat := []
  sess : Tab Session := []
  pels : Tab Pel := []
  cores : Tab Core := []
  pairs : Tab Pair := []
  mcs : Tab Mc := []
  bpm : Bpm := {}
  /-- Device DRAM (R333): bytes written through DRAM_REQUEST and the DMA engine, one canonical form. -/
  dram : List Host.Cell := []
  /-- Contents of allocated buffers: record key × 2^30 + offset. -/
  bufm : Tab Byte := []
  dma : Tab DmaCh := []
  mbx : Tab Mbx := []
  micSrc : Tab MicSrc := []
  micTgt : Tab MicTgt := []
  flt : Flt := {}
  gears : Tab Gear := []
  nvs : Nvs := {}
  net : Net := {}
  time : TimeUnit := {}
  sec : Sec := {}
  mcode : Mcode := {}
  /-- JTAG instruction selected (R542): 0 IDCODE. -/
  jtagIr : Nat := 0
  rebalanceAt : Nat := 0
  /-- Names the next free value (the model's own, log 5). -/
  free : Nat := 0
  /-- What has left the block, newest first (the model's own, log 10). -/
  out : List Out := []
  deriving DecidableEq, Repr

/-- Right after VDD_AON rises: every register at its reset value, PERST# asserted, nothing started (R474, R497, R498). -/
def State.reset : State :=
  { funs := [(0, { enabled := true })], qps := [(0, {})] }

end Sys2Proof.Machine
end

