-- ==== Sys2Proof/Machine/Regs.lean ====
section
/-! DEFINITION. Reading and changing the flat registers, the device clock, and the header events (R499 to R501). -/

namespace Sys2Proof.Machine

/-- Value of the flat register at an address. -/
def rget (s : State) (a : Nat) : Nat :=
  match tfind s.regs a with
  | some v => v
  | none => resetAt a

/-- Store a flat register, keeping the table in its one form: a register at its reset value is not listed. -/
def rset (a v : Nat) (s : State) : State :=
  { s with regs := if v = resetAt a then terase s.regs a else tput s.regs a v }

/-- A field of a flat register. -/
def rfld (s : State) (a lo n : Nat) : Nat := bitsOf (rget s a) lo n

/-- Store a field of a flat register. -/
def rfset (a lo n v : Nat) (s : State) : State := rset a (setBits (rget s a) lo n v) s

/-- Add to a saturating counter field (R496). -/
def rcnt (a lo n k : Nat) (s : State) : State := rfset a lo n (satAdd n (rfld s a lo n) k) s

/-- Device time in ns (R272). -/
def devNs (s : State) : Nat := s.clk / 2 ^ 32

/-- A count of ns in the device clock format (R271). -/
def clkFmt (ns : Nat) : Nat := ns / 1000000000 * 2 ^ 30 + ns % 1000000000
/-- Device time in the device clock format. -/
def devTime (s : State) : Nat := clkFmt (devNs s)
/-- Nanoseconds of a value in the device clock format. -/
def fmtNs (v : Nat) : Nat := v / 2 ^ 30 * 1000000000 + v % 2 ^ 30

/-- A picosecond count of model time for µs and ms. -/
def psUs (n : Nat) : Nat := n * 1000000
def psMs (n : Nat) : Nat := n * 1000000000

/-- Give something out. -/
def emit (o : Out) (s : State) : State := { s with out := o :: s.out }

/-- Take a fresh free-value number (log 5). -/
def takeFree (s : State) : Nat × State := (s.free, { s with free := s.free + 1 })

/-- PG_EVT bit `b` of a page is set (R499, R500). -/
def pgEvt (p : Page) (b : Nat) (s : State) : State :=
  rset (p.at 0x018) (setBits (rget s (p.at 0x018)) b 1 1) s

/-- The BLOCK event of a page (R500). -/
def pgBlock (p : Page) (s : State) : State := pgEvt p 3 s

/-- The polder record. -/
def polder (s : State) (i : Nat) : Polder := tget {} s.flt.polders i

/-- Is the polder OPEN? The polders are 0 to 94 (R22); polder 127 is no polder and always open (R490). -/
def polOpen (s : State) (i : Nat) : Bool := i ≥ 95 || decide ((polder s i).st = .opened)

/-- Change a polder's record. -/
def polMod (i : Nat) (f : Polder → Polder) (s : State) : State :=
  { s with flt := { s.flt with polders := tmod {} s.flt.polders i f } }

/-- Is the fatal state in force (R435)? -/
def isFatal (s : State) : Bool := s.flt.fatal.isSome

/-- The function's record; a function not listed is a VF not enabled. -/
def func (s : State) (f : Nat) : Func := tget {} s.funs f
/-- Change a function's record. -/
def funcMod (f : Nat) (g : Func → Func) (s : State) : State := { s with funs := tmod {} s.funs f g }
/-- A PCI Express port: 0 H, 1 P0, 2 P1. -/
def port (s : State) (i : Nat) : Port := tget {} s.ports i
/-- Change a port. -/
def portMod (i : Nat) (g : Port → Port) (s : State) : State := { s with ports := tmod {} s.ports i g }
/-- A session context. -/
def sessOf (s : State) (i : Nat) : Session := tget {} s.sess i
/-- Change a session context. -/
def sessMod (i : Nat) (g : Session → Session) (s : State) : State := { s with sess := tmod {} s.sess i g }
/-- A core. -/
def coreOf (s : State) (i : Nat) : Core := tget {} s.cores i
/-- Change a core. -/
def coreMod (i : Nat) (g : Core → Core) (s : State) : State := { s with cores := tmod {} s.cores i g }
/-- A peloton's scheduler. -/
def pelOf (s : State) (i : Nat) : Pel := tget {} s.pels i
/-- Change a peloton's scheduler. -/
def pelMod (i : Nat) (g : Pel → Pel) (s : State) : State := { s with pels := tmod {} s.pels i g }
/-- A core pair. -/
def pairOf (s : State) (i : Nat) : Pair := tget {} s.pairs i
/-- Change a core pair. -/
def pairMod (i : Nat) (g : Pair → Pair) (s : State) : State := { s with pairs := tmod {} s.pairs i g }
/-- A memory controller. -/
def mcOf (s : State) (i : Nat) : Mc := tget {} s.mcs i
/-- Change a memory controller. -/
def mcMod (i : Nat) (g : Mc → Mc) (s : State) : State := { s with mcs := tmod {} s.mcs i g }
/-- A channel of a controller. -/
def Mc.chan (m : Mc) (c : Nat) : McCh := tget {} m.ch c
/-- Change a channel of a controller. -/
def chMod (n c : Nat) (g : McCh → McCh) (s : State) : State := mcMod n (fun m => { m with ch := tmod {} m.ch c g }) s
/-- A peloton's power record. -/
def gearOf (s : State) (i : Nat) : Gear := tget {} s.gears i
/-- Change a peloton's power record. -/
def gearMod (i : Nat) (g : Gear → Gear) (s : State) : State := { s with gears := tmod {} s.gears i g }
/-- An Ethernet subport by its code. -/
def subOf (s : State) (i : Nat) : Subport := tget {} s.net.subs i
/-- Change a subport. -/
def subMod (i : Nat) (g : Subport → Subport) (s : State) : State :=
  { s with net := { s.net with subs := tmod {} s.net.subs i g } }

/-- A detector raises a source: its report sets out for FLT (R18, R425). -/
def raiseRep (r : Report) (s : State) : State :=
  { s with flt := { s.flt with reports := s.flt.reports ++ [r] } }

/-- A detector raises source `kind` × 64 + `inst` (R419), with no address. -/
def raise (kind inst : Nat) (s : State) : State := raiseRep { src := kind * 64 + inst } s

/-- A detector raises a source with an address (R432). -/
def raiseAt (kind inst addr addrKind requester access : Nat) (s : State) : State :=
  raiseRep { src := kind * 64 + inst, addr := addr, addrKind := addrKind, requester := requester, access := access } s

/-- FCLK cycles as picoseconds (R453: 1.2 GHz), rounded up. -/
def psFclk (n : Nat) : Nat := ceilDiv (n * 2500) 3

/-- Fold a state change over a list. -/
def forAll {α : Type} (l : List α) (f : α → State → State) (s : State) : State := l.foldl (fun st a => f a st) s

end Sys2Proof.Machine
end

