-- ==== Sys2Proof/Machine/Bpm.lean ====
section
/-! DEFINITION. The buffer pool manager (R352 to R362): pools, handles, allocation, reference counts, reservations,
retries, and the contents of buffers. -/

namespace Sys2Proof.Machine

/-- Address of a register of the BPM page (R363). -/
def aBpm (off : Nat) : Nat := 0x9000 + off

/-- Record key of a buffer: pool × 2^20 + index. -/
def bufKey (pool idx : Nat) : Nat := pool * 2 ^ 20 + idx
/-- A handle (R354). -/
def handleOf (pool idx gen : Nat) : Nat := pool * 2 ^ 28 + idx * 2 ^ 8 + gen
/-- Pool of a handle. -/
def hPool (h : Nat) : Nat := bitsOf h 28 4
/-- Index of a handle. -/
def hIdx (h : Nat) : Nat := bitsOf h 8 20
/-- Generation of a handle. -/
def hGen (h : Nat) : Nat := bitsOf h 0 8
/-- Record key of a handle. -/
def hKey (h : Nat) : Nat := bufKey (hPool h) (hIdx h)

/-- A pool. -/
def poolOf (s : State) (p : Nat) : Pool := tget {} s.bpm.pools p
/-- Change a pool. -/
def poolMod (p : Nat) (g : Pool → Pool) (s : State) : State :=
  { s with bpm := { s.bpm with pools := tmod {} s.bpm.pools p g } }
/-- A buffer record. -/
def bufOf (s : State) (k : Nat) : BufRec := tget {} s.bpm.bufs k
/-- Change a buffer record. -/
def bufMod (k : Nat) (g : BufRec → BufRec) (s : State) : State :=
  { s with bpm := { s.bpm with bufs := tmod {} s.bpm.bufs k g } }

/-- The record a handle names, if it is allocated with that generation (R360). -/
def bufLive (s : State) (h : Nat) : Option BufRec :=
  let b := bufOf s (hKey h)
  if b.alloc ∧ b.gen = hGen h ∧ hIdx h < (poolOf s (hPool h)).count then some b else none

/-- The controller of a buffer: index mod M (R354). -/
def bufMc (s : State) (key : Nat) : Nat :=
  let l := s.bpm.mcs
  l.getD (key % 2 ^ 20 % max 1 l.length) 0

/-- May the controller's buffers be used (R362)? -/
def mcUsable (s : State) (n : Nat) : Bool := polOpen s (72 + n)

/-- Allocated buffers of a pool. -/
def poolAlloc (s : State) (p : Nat) : List (Nat × BufRec) :=
  s.bpm.bufs.filter (fun e => e.2.alloc && e.1 / 2 ^ 20 == p)

/-- Free buffers of a pool in the controller at position `j` of the layout. -/
def freeAt (s : State) (p j : Nat) : Nat :=
  let m := s.bpm.mcs.length
  (poolOf s p).count / max 1 m - ((poolAlloc s p).filter (fun e => e.1 % 2 ^ 20 % max 1 m == j)).length

/-- Positions of the layout whose controllers may be used. -/
def openPos (s : State) : List Nat :=
  (List.range s.bpm.mcs.length).filter (fun j => mcUsable s (s.bpm.mcs.getD j 0))

/-- Free buffers of a pool, in controllers that are not sealed (R358, R362). -/
def poolFree (s : State) (p : Nat) : Nat := ((openPos s).map (freeAt s p)).sum

/-- USE[c] (R357). -/
def useOf (s : State) (p c : Nat) : Nat := ((poolAlloc s p).filter (fun e => e.2.cls == c)).length
/-- HOLD[s] (R357). -/
def holdOf (s : State) (p sid : Nat) : Nat := ((poolAlloc s p).filter (fun e => e.2.sid == some sid)).length
/-- RSV[s] (R356). -/
def rsvOf (s : State) (p sid : Nat) : Nat := tget 0 s.bpm.rsv (p * 4096 + sid)
/-- MIN[c] of BPM_POOL_MIN (R357). -/
def minOf (s : State) (p c : Nat) : Nat := rfld s (aBpm (0x100 + 8 * p)) (16 * c) 16

/-- Q: the reserved remainder (R358). -/
def poolQ (s : State) (p : Nat) : Nat :=
  (((List.range 4).map (fun c => minOf s p c - useOf s p c)).sum) +
    (((s.bpm.rsv.filter (fun e => e.1 / 4096 == p)).map (fun e => e.2 - holdOf s p (e.1 % 4096))).sum)

/-- A request to the BPM (R356, R361). -/
structure AllocReq where
  ty : PoolTy := .packet
  size : Nat := 0
  cls : Nat := 3
  sid : Option Nat := none
  /-- Owner the buffer gets (R355). -/
  owner : Nat := 0x7F
  hostHeld : Bool := false
  /-- Requester identity for tickets; none: no retry (R361). -/
  rid : Option Nat := none
  port : Nat := 0
  deriving DecidableEq, Repr

/-- Is the request below minimum in the pool (R358)? -/
def belowMin (s : State) (p : Nat) (r : AllocReq) : Bool :=
  decide (useOf s p r.cls < minOf s p r.cls) ||
    (match r.sid with
     | none => false
     | some x => decide (holdOf s p x < rsvOf s p x))

/-- The buffer of the pool held at this time, in a controller that is not sealed: its record key and for whom (R361). -/
def heldNow (s : State) (p : Nat) : Option (Nat × Nat) := match (poolOf s p).held with
  | some (k, who, t) => if s.now < t ∧ mcUsable s (bufMc s k) then some (k, who) else none
  | none => none

/-- F as a request at or above minimum sees it: a buffer held for another requester does not count (R358, R361). -/
def freeFor (s : State) (p : Nat) (rid : Option Nat) : Nat :=
  poolFree s p - (match heldNow s p with
    | some (_, who) => if rid = some who then 0 else 1
    | none => 0)

/-- Does the pool take the request (R358, R361)? -/
def poolAdmits (s : State) (p : Nat) (r : AllocReq) : Bool :=
  if belowMin s p r then decide (poolFree s p ≥ 1) else decide (freeFor s p r.rid ≥ poolQ s p + 1)

/-- Pools of the type whose size fits, smallest first (R358). -/
def fitPools (s : State) (ty : PoolTy) (size : Nat) : List Nat :=
  sortBy (fun a b => decide ((poolOf s a).size ≤ (poolOf s b).size))
    ((List.range 16).filter (fun p => decide ((poolOf s p).ty = ty) && decide (ty ≠ .disabled) &&
      decide ((poolOf s p).size ≥ size)))

/-- Is the buffer the one held now? -/
def isHeld (s : State) (p k : Nat) : Bool := match heldNow s p with
  | some (h, _) => h == k
  | none => false

/-- The lowest index of a pool from `i` on in steps of `m` that is free and not held. -/
def lowIdx (s : State) (p m : Nat) : Nat → Nat → Nat
  | 0, i => i
  | n + 1, i =>
    if (bufOf s (bufKey p i)).alloc || isHeld s p (bufKey p i) then lowIdx s p m n (i + m) else i

/-- Free buffers of a pool at a position, but for the one held now. -/
def spareAt (s : State) (p j : Nat) : Nat :=
  freeAt s p j - (match heldNow s p with
    | some (k, _) => if k % 2 ^ 20 % max 1 s.bpm.mcs.length = j then 1 else 0
    | none => 0)

/-- Position of the controller the buffer is taken from: one with none of the session's buffers of the pool where there
is one, next in rotation (R358). -/
def pickPos (s : State) (p : Nat) (sid : Option Nat) : Option Nat :=
  let m := s.bpm.mcs.length
  let rot := (List.range m).map (fun j => ((poolOf s p).rot + 1 + j) % max 1 m)
  let can := rot.filter (fun j => (openPos s).contains j && decide (spareAt s p j > 0))
  let bare := can.filter (fun j => match sid with
    | none => true
    | some x => !((poolAlloc s p).any (fun e => e.2.sid == some x && e.1 % 2 ^ 20 % max 1 m == j)))
  match bare with
  | j :: _ => some j
  | [] => can.head?

/-- Drop the contents of a buffer. -/
def bufErase (k : Nat) (s : State) : State := { s with bufm := s.bufm.filter (fun e => e.1 / 2 ^ 30 != k) }

/-- Clear a requester's tickets in every pool (R361). -/
def ticketsClear (rid : Option Nat) (s : State) : State :=
  match rid with
  | none => s
  | some w => forAll (List.range 16) (fun p s =>
      poolMod p (fun q => match q.ticket with
        | some (_, v) => if v = w then { q with ticket := none } else q
        | none => q)
      (poolMod p (fun q => match q.held with
        | some (_, v, _) => if v = w then { q with held := none } else q
        | none => q) s)) s

/-- The index of the buffer that a request takes (R358, R361): the holder the one held for it; any other a free one, and
the one held only where no other is free. -/
def takeIdx (s : State) (p : Nat) (r : AllocReq) : Option Nat :=
  let own := match heldNow s p with
    | some (k, who) => if r.rid = some who then some k else none
    | none => none
  match own with
  | some k => some (k % 2 ^ 20)
  | none =>
    match pickPos s p r.sid with
    | some j => some (lowIdx s p (max 1 s.bpm.mcs.length) ((poolAlloc s p).length + 2) j)
    | none => (heldNow s p).map (fun h => h.1 % 2 ^ 20)

/-- Take a buffer of pool `p` (R356, R358). -/
def takeBuf (p : Nat) (r : AllocReq) (s : State) : Option (Nat × State) :=
  match takeIdx s p r with
  | none => none
  | some i =>
    let k := bufKey p i
    let g := let g0 := (bufOf s k).gen; if g0 ≥ 255 then 1 else g0 + 1
    let nb : BufRec := {
      alloc := true, gen := g, owner := r.owner, cls := r.cls, sid := r.sid,
      hostHeld := r.hostHeld, refcnt := 1, zeroed := decide (r.cls = 2) }
    some (handleOf p i g, ticketsClear r.rid (poolMod p (fun q => { q with
      rot := i % max 1 s.bpm.mcs.length, held := if isHeld s p k then none else q.held }) (bufErase k (bufMod k (fun _ => nb) s))))

/-- The backoff after the k-th refusal, in FCLK cycles (R361). -/
def backoff (k : Nat) : Nat := 32 * 2 ^ (min (k - 1) 7)

/-- Record a refusal: BPM_EMPTY_CNT, the block event, the ticket in every fitting pool, the requester's backoff (R359,
R361, R500). -/
def refuse (r : AllocReq) (s : State) : State :=
  let s1 := pgBlock ⟨.bpm, 0⟩ (rcnt (aBpm 0x208) 0 32 1 s)
  match r.rid with
  | none => s1
  | some w =>
    let old := tget ({} : Retry) s1.bpm.retries w
    let tk := if old.refusals = 0 then s.now else old.ticket
    let new : Retry := {
      ticket := tk, refusals := old.refusals + 1, next := s.now + psFclk (backoff (old.refusals + 1))
      ty := r.ty, size := r.size, cls := r.cls, sid := r.sid, fn := r.owner, port := r.port, got := none }
    forAll (fitPools s r.ty r.size) (fun p =>
      poolMod p (fun q => match q.ticket with
        | none => { q with ticket := some (tk, w) }
        | some (t, v) => if tk < t then { q with ticket := some (tk, w) } else { q with ticket := some (t, v) }))
      { s1 with bpm := { s1.bpm with retries := tput s1.bpm.retries w new } }

/-- The results of ALLOC (R356). -/
inductive AllocRes where
  | ok (handle : Nat)
  | noFit
  | empty
  | fenced
  deriving DecidableEq, Repr

/-- ALLOC (R356, R358, R361, R427). -/
def bpmAlloc (r : AllocReq) (s : State) : AllocRes × State :=
  if !polOpen s 93 then (.fenced, s) else
  match fitPools s r.ty r.size with
  | [] => (.noFit, s)
  | ps =>
    match ps.find? (fun p => poolAdmits s p r) with
    | none => (.empty, refuse r s)
    | some p =>
      match takeBuf p r s with
      | none => (.empty, refuse r s)
      | some (h, s') =>
        (.ok h, match r.rid with
          | none => s'
          | some w => { s' with bpm := { s'.bpm with retries := terase s'.bpm.retries w } })

/-- A refused operation: the count, BPM_LAST_REJ and BPM_FREE (R360). The polder is that of the port. -/
def bpmReject (port kind h : Nat) (s : State) : State :=
  let s1 := rcnt (aBpm (if kind = 2 then 0x204 else 0x200)) 0 32 1 s
  let s2 := if rfld s1 (aBpm 0x210) 63 1 = 0 then
      rset (aBpm 0x210) (h + port * 2 ^ 32 + kind * 2 ^ 36 + 2 ^ 63) s1
    else s1
  raiseRep { src := 0x35 * 64 + port, requester := port } s2

/-- Why REF or UNREF is refused (R360), if it is: KIND. -/
def refCheck (s : State) (port who h : Nat) (isRef host : Bool) : Option Nat :=
  let b := bufOf s (hKey h)
  if !b.alloc then some 0
  else if b.gen ≠ hGen h then some 1
  else if host && !b.hostHeld then some 0
  else if port ≠ 13 ∧ port ≠ 14 ∧ who ≠ b.owner then some 2
  else if isRef && decide (b.refcnt ≥ 65535) then some 3
  else none

/-- REF (R356). The Bool says whether it was applied. -/
def bpmRef (port who h : Nat) (s : State) : Bool × State :=
  if !polOpen s 93 then (false, s) else
  match refCheck s port who h true false with
  | some k => (false, bpmReject port k h s)
  | none => (true, bufMod (hKey h) (fun b => { b with refcnt := b.refcnt + 1 }) s)

/-- A buffer returns to its pool: held for the recorded ticket, if any (R361); one in a sealed controller does not (R362). -/
def bufReturn (k : Nat) (s : State) : State :=
  let p := k / 2 ^ 20
  poolMod p (fun q => match q.ticket, q.held with
    | some (_, w), none =>
      if mcUsable s (bufMc s k) then { q with ticket := none, held := some (k, w, s.now + psFclk 8192) } else q
    | _, _ => q)
    (bufErase k (bufMod k (fun b => { ({} : BufRec) with gen := b.gen }) s))

/-- UNREF (R356); `host` for BUF_RELEASE. -/
def bpmUnref (port who h : Nat) (host : Bool) (s : State) : Bool × State :=
  if !polOpen s 93 then (false, s) else
  match refCheck s port who h false host with
  | some k => (false, bpmReject port k h s)
  | none =>
    let k := hKey h
    let b := bufOf s k
    if b.refcnt ≤ 1 then (true, bufReturn k s)
    else (true, bufMod k (fun b => { b with refcnt := b.refcnt - 1, hostHeld := if host then false else b.hostHeld }) s)

/-- RESERVE (R356, R358). -/
def bpmReserve (p sid n : Nat) (s : State) : Bool × State :=
  if !polOpen s 93 then (false, s)
  else if freeFor s p none < poolQ s p + n then (false, s)
  else (true, { s with bpm := { s.bpm with rsv := tmod 0 s.bpm.rsv (p * 4096 + sid) (· + n) } })

/-- UNRESERVE (R356). -/
def bpmUnreserve (p sid n : Nat) (s : State) : State :=
  { s with bpm := { s.bpm with rsv := tmod 0 s.bpm.rsv (p * 4096 + sid) (· - n) } }

/-- An internal release by a block acting for the owner; refusals cannot arise for a live handle. It is kept while the BPM is
sealed (R427). -/
def dropRef (port h : Nat) (s : State) : State :=
  if !polOpen s 93 then { s with bpm := { s.bpm with kept := s.bpm.kept ++ [(false, port, h)] } } else
  match bufLive s h with
  | none => s
  | some b => (bpmUnref port b.owner h false s).2

/-- An internal count by a block acting for the owner. -/
def addRef (port h : Nat) (s : State) : State :=
  if !polOpen s 93 then { s with bpm := { s.bpm with kept := s.bpm.kept ++ [(true, port, h)] } } else
  match bufLive s h with
  | none => s
  | some b => (bpmRef port b.owner h s).2

/-- Operations kept while the BPM was sealed are issued again in order (R427). -/
def reissue (s : State) : State :=
  forAll s.bpm.kept (fun o s => if o.1 then addRef o.2.1 o.2.2 s else dropRef o.2.1 o.2.2 s) { s with bpm := { s.bpm with kept := [] } }

/-- The byte of a buffer at an offset: what was written, zero in a HOST buffer (R356), else undefined (R6). -/
def bufByte (s : State) (k off : Nat) : Byte :=
  match tfind s.bufm (k * 2 ^ 30 + off) with
  | some v => v
  | none => if (bufOf s k).zeroed then 0#8 else Config.freeByte (k * 2 ^ 30 + off + s.free * 2 ^ 64)

/-- A run of bytes of a buffer. -/
def bufBytes (s : State) (k : Nat) : Nat → Nat → List Byte
  | _, 0 => []
  | off, n + 1 => bufByte s k off :: bufBytes s k (off + 1) n

/-- Write bytes into a buffer. -/
def bufWrite (k off : Nat) (l : List Byte) (s : State) : State := { s with bufm := tputs s.bufm (k * 2 ^ 30 + off) l }

/-- Size in bytes of the buffer's pool. -/
def bufSize (s : State) (h : Nat) : Nat := (poolOf s (hPool h)).size

end Sys2Proof.Machine
end

