-- ==== Sys2Proof/Machine/Cq.lean ====
section
/-! DEFINITION. Queue pairs, the delivery of completion-queue entries (R226 to R240), and the frame every queued command
runs in (R220, R222, R225). -/

namespace Sys2Proof.Machine

/-- The status codes of R228. -/
def stOk : Nat := 0x00
def stBadOpcode : Nat := 0x01
def stInvalidField : Nat := 0x02
def stNotPermitted : Nat := 0x03
def stBadSid : Nat := 0x04
def stBadState : Nat := 0x05
def stAborted : Nat := 0x06
def stFenced : Nat := 0x07
def stDmaError : Nat := 0x08
def stProtected : Nat := 0x09
def stBadHandle : Nat := 0x0A
def stNoContext : Nat := 0x10
def stVfQuota : Nat := 0x11
def stFormatLimit : Nat := 0x12
def stNoCapacity : Nat := 0x13
def stDramBudget : Nat := 0x14
def stEgressBudget : Nat := 0x15
def stNoMemory : Nat := 0x16
def stNoQueue : Nat := 0x17
def stSourceBusy : Nat := 0x20
def stBufferShort : Nat := 0x21
def stSealMismatch : Nat := 0x22
def stStreamUnsupported : Nat := 0x23
def stSeamTrain : Nat := 0x24
def stAuthFail : Nat := 0x25

/-- Key of a pair: function × 256 + QID (R216). -/
def qkey (fn qid : Nat) : Nat := fn * 256 + qid

/-- Does the function hold the pair: it exists and no DELETE_QP is ending it (R216, R553; log 16)? -/
def holdsPair (s : State) (fn qid : Nat) : Bool :=
  match tfind s.qps (qkey fn qid) with
  | some q => q.deleting.isNone
  | none => false

/-- Change a queue pair that exists. -/
def qpMod (k : Nat) (g : QPair → QPair) (s : State) : State :=
  match tfind s.qps k with
  | none => s
  | some q => { s with qps := tput s.qps k (g q) }

/-- The CQ is full when (tail + 1) mod depth equals the head (R217). -/
def QPair.full (q : QPair) : Bool := decide ((q.cqTail + 1) % 2 ^ q.cqLog = q.cqHead)

/-- Does the admin pair of the function accept commands (R234, R242)? -/
def aqUp (s : State) (fn : Nat) : Bool := bitAt (rget s (hqBase fn + 0x90)) 31 && (func s fn).aqReady

/-- May entries of the pair be written, D-state, Bus Master Enable and the admin enable allowing (R234, R238)? -/
def cqReach (s : State) (k : Nat) : Bool :=
  let f := func s (k / 256)
  !f.d3 && f.bme && (decide (k % 256 ≠ 0) || aqUp s (k / 256))

/-- The 512 bits of a CQ entry (R227). -/
def Entry.bits (e : Entry) (qid sqHead seq : Nat) (p : Bool) : BitVec 512 :=
  BitVec.ofNat 512 (
    e.r0 % 2 ^ 64 + e.r1 % 2 ^ 64 * 2 ^ 64 + e.r2 % 2 ^ 64 * 2 ^ 128 + e.r3 % 2 ^ 64 * 2 ^ 192 +
    (e.cid % 2 ^ 16 + e.opcode % 2 ^ 8 * 2 ^ 16 + e.status % 2 ^ 8 * 2 ^ 24 + sqHead % 2 ^ 16 * 2 ^ 32 +
      qid % 2 ^ 8 * 2 ^ 48 + e.kind % 4 * 2 ^ 56) * 2 ^ 256 +
    (e.sid.getD 0 % 2 ^ 12 + b2n e.sid.isSome * 2 ^ 12 + e.notes % 2 ^ 16 * 2 ^ 16 + e.ext % 2 ^ 32 * 2 ^ 32) * 2 ^ 320 +
    e.time % 2 ^ 64 * 2 ^ 384 + (seq % 2 ^ 32 + b2n p * 2 ^ 63) * 2 ^ 448)

/-- Free a command slot (R220). -/
def slotFree (o : Option Nat) (s : State) : State :=
  match o with
  | none => s
  | some i => { s with slots := terase s.slots i }

/-- Write an entry at the CQ's tail: what goes before it, the entry, the slot it frees (R227, R231, R239). -/
def cqWrite (k : Nat) (e : Entry) (s : State) : State :=
  match tfind s.qps k with
  | none => slotFree e.slot s
  | some q =>
    let o := Out.cqe (k / 256) (k % 256) (q.cqBase + 64 * q.cqTail) (e.bits (k % 256) q.sqHead q.seq q.phase)
    let tail := (q.cqTail + 1) % 2 ^ q.cqLog
    let q' := { q with
      cqTail := tail
      seq := (q.seq + 1) % 2 ^ 32
      phase := if tail = 0 then !q.phase else q.phase
      unsig := q.unsig + 1
      firstUnsig := if q.unsig = 0 then e.formed else q.firstUnsig
      urgUnsig := q.urgUnsig || e.urgent }
    slotFree e.slot { s with qps := tput s.qps k q', out := o :: (e.pre.reverse ++ s.out) }

/-- Send the MSI-X message of a vector, or set its pending bit when it is masked (R237). -/
def msixSend (fn vec : Nat) (s : State) : State :=
  let f := func s fn
  if f.mask.getLsbD vec then funcMod fn (fun f => { f with pend := f.pend ||| BitVec.ofNat 32 (2 ^ vec) }) s
  else emit (.msix fn vec) s

/-- Is the interrupt condition of R237 met by the entries written, or formed and staged, that are not yet signalled? -/
def QPair.irq (q : QPair) (now : Nat) : Bool :=
  let es := q.staged ++ q.held
  let n := q.unsig + es.length
  let first := if q.unsig > 0 then q.firstUnsig else match es with
    | [] => now
    | e :: _ => e.formed
  q.ien && decide (n > 0) &&
    (decide (n > q.aggCount) || (decide (q.aggTime ≥ 1) && decide (now ≥ first + psUs q.aggTime)) ||
      (q.urgentBypass && (q.urgUnsig || es.any (·.urgent))))

/-- After writing in DIRECT: signal if the condition is met (R237). -/
def cqModerate (k : Nat) (s : State) : State :=
  match tfind s.qps k with
  | none => s
  | some q =>
    if q.irq s.now then
      msixSend (k / 256) q.vector (qpMod k (fun q => { q with unsig := 0, urgUnsig := false }) s)
    else s

/-- Start an L1 exit of port H (R238). -/
def l1Exit (s : State) : State :=
  if (port s 0).link = .l1 ∧ !(port s 0).l1Exiting then emit .l1Exit (portMod 0 (fun p => { p with l1Exiting := true }) s)
  else s

/-- May the service timer of the function run (R240)? -/
def svcRuns (s : State) (fn : Nat) : Bool := !(func s fn).d3 && decide ((port s 0).link ≠ .down)

/-- Enter STAGED_FULL with a fresh service timer (R238). -/
def cqStall (k : Nat) (s : State) : State :=
  qpMod k (fun q => { q with
    st := .stagedFull, svcRun := 0, svcSince := if svcRuns s (k / 256) then some s.now else none, stalled := false }) s

/-- Take the time of a running service timer into account and stop or start it as R240 allows. -/
def svcSync (k : Nat) (s : State) : State :=
  qpMod k (fun q =>
    if q.st = .stagedFull then
      let run := match q.svcSince with
        | none => q.svcRun
        | some t => q.svcRun + (s.now - t)
      { q with svcRun := run, svcSince := if svcRuns s (k / 256) then some s.now else none }
    else q) s

/-- Count an entry into the overflow record, freeing its slot; a completion's report is still written (R239, R240,
R553). -/
def cqDrop (k : Nat) (e : Entry) (s : State) : State :=
  slotFree e.slot
    (qpMod k (fun q => { q with ovfl := tset 0 q.ovfl e.idx (satAdd 16 (tget 0 q.ovfl e.idx) 1) })
      { s with out := e.pre.reverse ++ s.out })

/-- The EVT_OVERFLOW entry of an overflow record (R239). -/
def overEntry (ovfl : Tab Nat) (s : State) : Entry :=
  let w := fun i => tget 0 ovfl (4 * i) + tget 0 ovfl (4 * i + 1) * 2 ^ 16 + tget 0 ovfl (4 * i + 2) * 2 ^ 32 +
    tget 0 ovfl (4 * i + 3) * 2 ^ 48
  { r0 := w 0, r1 := w 1, r2 := w 2, r3 := w 3, cid := 0x0001, kind := 2, time := devTime s, formed := s.now }

/-- Write staged entries, the overflow record and held completions in the order of R239, as far as space, link and
function allow; `n` bounds the entries written. -/
def cqFlush : Nat → Nat → State → State
  | 0, _, s => s
  | n + 1, k, s =>
    match tfind s.qps k with
    | none => s
    | some q =>
      if !cqReach s k then qpMod k (fun q => { q with st := .stagedD3 }) s
      else if (port s 0).link ≠ .l0 then l1Exit (qpMod k (fun q => { q with st := .flushing }) s)
      else if q.staged = [] ∧ q.ovfl = [] ∧ q.held = [] then
        cqModerate k (qpMod k (fun q => { q with st := .direct, stalled := false }) s)
      else if q.full then cqStall k s
      else
        match q.staged, q.ovfl, q.held with
        | e :: l, _, _ => cqFlush n k (cqWrite k e (qpMod k (fun q => { q with staged := l }) s))
        | [], _ :: _, _ => cqFlush n k (cqWrite k (overEntry q.ovfl s) (qpMod k (fun q => { q with ovfl := [] }) s))
        | [], [], e :: l => cqFlush n k (cqWrite k e (qpMod k (fun q => { q with held := l }) s))
        | [], [], [] => s

/-- Entries a flush may write, with one step to end it. -/
def QPair.fuel (q : QPair) : Nat := q.staged.length + q.held.length + 3

/-- Write what waits in a CQ (R239). -/
def cqPour (k : Nat) (s : State) : State :=
  match tfind s.qps k with
  | none => s
  | some q => cqFlush q.fuel k (qpMod k (fun q => { q with st := .flushing }) s)

/-- Stage or hold an entry behind those waiting (R238, R239, R240). An event that finds room in the staging area while older
completions are held is written after them (log 16). -/
def cqStage (k : Nat) (e : Entry) (s : State) : State :=
  match tfind s.qps k with
  | none => slotFree e.slot s
  | some q =>
    if q.st = .stagedFull ∧ q.stalled ∧ q.policyDrop then cqDrop k e s
    else if q.staged.length < 64 ∧ q.held = [] then qpMod k (fun q => { q with staged := q.staged ++ [e] }) s
    else if e.kind = 2 ∧ q.staged.length + (q.held.filter (fun x => x.kind == 2)).length ≥ 64 then cqDrop k e s
    else qpMod k (fun q => { q with held := q.held ++ [e] }) s

/-- In STAGED_L1, flush when the interrupt condition is met or the staging area is full (R238). -/
def cqL1Check (k : Nat) (s : State) : State :=
  match tfind s.qps k with
  | none => s
  | some q => if q.st = .stagedL1 ∧ (q.irq s.now ∨ q.staged.length ≥ 64) then cqPour k s else s

/-- The PME of R238: once per stay in D3hot. -/
def pmeSend (fn : Nat) (s : State) : State :=
  let f := func s fn
  if (f.d3 || !f.bme) && f.pmeEn && !f.pmeSent then
    emit (.pme fn) (funcMod fn (fun f => { f with pmeSent := f.d3 }) s)
  else s

/-- Deliver a formed entry to a CQ by the state machine of R238. -/
def cqDeliver (k : Nat) (e : Entry) (s : State) : State :=
  match tfind s.qps k with
  | none => slotFree e.slot s
  | some q =>
    if q.deleting.isSome then cqDrop (qkey (k / 256) 0) e s
    else if q.st = .direct then
      if !cqReach s k then pmeSend (k / 256) (cqStage k e (qpMod k (fun q => { q with st := .stagedD3 }) s))
      else if q.full then cqStage k e (cqStall k s)
      else if (port s 0).link ≠ .l0 then cqL1Check k (cqStage k e (qpMod k (fun q => { q with st := .stagedL1 }) s))
      else cqModerate k (cqWrite k e s)
    else cqL1Check k (cqStage k e s)

/-- Is the entry the completion of a SESSION_OPEN or SESSION_IMPORT that opened the session? -/
def Entry.isOpen (e : Entry) : Bool :=
  decide (e.kind = 0) && decide (e.status = 0) && (decide (e.opcode = 0x10) || decide (e.opcode = 0x16))

/-- Is the entry the completion of a SESSION_CLOSE that closed the session? -/
def Entry.isClose (e : Entry) : Bool := decide (e.kind = 0) && decide (e.status = 0) && decide (e.opcode = 0x11)

/-- Must entry `e` be written after the older entry `x` of the same session, whichever CQs they go to (R233)? -/
def Entry.follows (e x : Entry) : Bool :=
  e.sid.isSome && decide (e.sid = x.sid) && (x.isOpen || e.isClose || (e.pic && x.pic))

/-- Must an entry for a CQ wait: for one of the older deferred ones, or for one that waits in another CQ (R233)? -/
def cqWaits (older : List (Nat × Entry)) (k : Nat) (e : Entry) (s : State) : Bool :=
  older.any (fun p => e.follows p.2) ||
    s.qps.any (fun p => decide (p.1 ≠ k) && (p.2.staged ++ p.2.held).any (fun x => e.follows x))

/-- The oldest deferred entry that need not wait any longer, and the others. -/
def readyEntry (s : State) : List (Nat × Entry) → List (Nat × Entry) → Option ((Nat × Entry) × List (Nat × Entry))
  | _, [] => none
  | older, p :: l =>
    if cqWaits older p.1 p.2 s then readyEntry s (older ++ [p]) l else some (p, older ++ l)

/-- Deliver deferred entries, at most `n`, while one need not wait. -/
def cqReleaseN : Nat → State → State
  | 0, s => s
  | n + 1, s =>
    match readyEntry s [] s.deferred with
    | none => s
    | some (p, l) => cqReleaseN n (cqDeliver p.1 p.2 { s with deferred := l })

/-- Deliver the deferred entries that need not wait any longer (R233). -/
def cqRelease (s : State) : State := cqReleaseN s.deferred.length s

/-- Deliver a formed entry to a CQ, once R233 lets it be written; until then it waits outside the CQ, a completion in its
command slot (log 74). -/
def cqForm (k : Nat) (e : Entry) (s : State) : State :=
  match tfind s.qps k with
  | none => slotFree e.slot s
  | some q =>
    if q.deleting = none ∧ cqWaits s.deferred k e s then { s with deferred := s.deferred ++ [(k, e)] }
    else cqRelease (cqDeliver k e s)

/-- Flush a CQ (R239), and deliver what waited for its entries (R233). -/
def cqStartFlush (k : Nat) (s : State) : State := cqRelease (cqPour k s)

/-- An event entry (R227, R235, R236). -/
def evtEntry (code idx : Nat) (sid : Option Nat) (r0 r1 r2 r3 ext : Nat) (s : State) : Entry :=
  { r0 := r0, r1 := r1, r2 := r2, r3 := r3, cid := code, kind := 2, sid := sid, ext := ext, time := devTime s,
    formed := s.now, idx := idx }

/-- Write an event to a function's CQ. After a warm reset is accepted (R505) or in the fatal state (R435) nothing is
written. -/
def event (k code idx : Nat) (sid : Option Nat) (r0 r1 r2 r3 ext : Nat) (s : State) : State :=
  if s.boot.warm || isFatal s then s else cqForm k (evtEntry code idx sid r0 r1 r2 r3 ext s) s

/-- Write a device event to the PF's admin CQ (R234). -/
def evtPf (code idx r0 r1 : Nat) (s : State) : State := event (qkey 0 0) code idx none r0 r1 0 0 0 s

/-- Write a session event to its notify pair (R234). -/
def evtSess (sid code idx r0 r1 r2 r3 ext : Nat) (s : State) : State :=
  let x := sessOf s sid
  if x.silent then s else event (qkey x.owner x.notifyQid) code idx (some sid) r0 r1 r2 r3 ext s

/-- What a completion carries beside its status (R229). -/
structure Res where
  r0 : Nat := 0
  r1 : Nat := 0
  r2 : Nat := 0
  r3 : Nat := 0
  notes : Nat := 0
  sid : Option Nat := none
  urgent : Bool := false
  pre : List Out := []
  deriving DecidableEq, Repr

/-- The opcodes of R223: (opcode, admin only, PF only, names a session). -/
def opTable : List (Nat × Bool × Bool × Bool) :=
  [(0x01, true, false, false), (0x02, true, false, false), (0x03, true, false, false), (0x04, true, false, false),
   (0x05, true, true, false), (0x06, true, true, false), (0x10, false, false, false), (0x11, false, false, true),
   (0x12, false, false, true), (0x13, false, false, true), (0x14, false, false, true), (0x15, false, false, true),
   (0x16, false, false, false), (0x17, false, false, true), (0x18, false, false, true), (0x19, false, false, true),
   (0x20, false, false, true), (0x21, false, false, true), (0x22, false, false, true), (0x28, false, false, false),
   (0x29, false, false, false), (0x2A, false, false, false), (0x2B, false, false, false), (0x30, true, true, false),
   (0x31, true, true, false), (0x38, true, true, false), (0x39, true, true, false), (0x40, false, false, true),
   (0x41, false, false, false), (0x42, true, true, false), (0x43, true, true, false), (0x44, true, true, false)]

/-- The row of an opcode; none for a reserved one. -/
def opInfo (o : Nat) : Option (Nat × Bool × Bool × Bool) := opTable.find? (fun r => r.1 == o)

/-- Does the function own the session (R34)? -/
def owns (s : State) (fn sid : Nat) : Bool :=
  decide ((sessOf s sid).st ≠ .free) && decide ((sessOf s sid).owner = fn)

/-- The session a completion concerns (R227): that of its results, else the one of its function that the command names. -/
def entrySid (s : State) (c : Slot) (r : Res) : Option Nat :=
  match r.sid, opInfo c.opcode with
  | some i, _ => some i
  | none, some (_, _, _, true) => if owns s c.fn c.sid then some c.sid else none
  | none, _ => none

/-- Form the completion of a slot (R227 to R229, R234). -/
def completeOne (slot st : Nat) (r : Res) (s : State) : State :=
  match tfind s.slots slot with
  | none => s
  | some c =>
    if c.formed then s else
    let own := c.picture.isSome && decide (c.entry = 0)
    let e : Entry := {
      r0 := r.r0, r1 := r.r1, r2 := r.r2, r3 := r.r3
      cid := if own then 0xFFFF else c.cid
      opcode := if own then 0 else c.opcode
      status := st, kind := b2n own, sid := entrySid s c r, notes := r.notes
      time := devTime s, formed := s.now, urgent := r.urgent, slot := some slot, pre := r.pre, pic := c.picture.isSome }
    if s.boot.warm || isFatal s then s
    else cqForm (qkey c.fn c.qid) e { s with slots := tput s.slots slot { c with formed := true } }

/-- Commands of a pair that have not completed, in fetch order. -/
def sqOpen (s : State) (fn qid : Nat) : List (Nat × Slot) :=
  s.slots.filter (fun p => p.2.fn == fn && p.2.qid == qid && !p.2.formed && !(p.2.picture.isSome && decide (p.2.entry = 0)))

/-- Does FENCE hold the command back (R222)? -/
def fenced (s : State) (c : Slot) : Bool :=
  c.fence && (sqOpen s c.fn c.qid).any (fun p => decide (p.2.order < c.order))

/-- End the DELETE_QP of each pair whose commands have all completed (R553 step 7). -/
def settleDeletes (s : State) : State :=
  forAll s.qps (fun p s =>
    match p.2.deleting with
    | none => s
    | some d =>
      if (s.slots.filter (fun c => c.2.fn == p.1 / 256 && c.2.qid == p.1 % 256)) = [] then
        completeOne d stOk {} { s with qps := terase s.qps p.1 }
      else s) s

/-- Complete the fetched commands of reserved opcode that no fence holds back (R225 step 1). -/
def settleBad (s : State) : State :=
  forAll s.slots (fun p s =>
    match tfind s.slots p.1 with
    | none => s
    | some c =>
      if !c.formed && !c.started && (opInfo c.opcode).isNone && c.picture.isNone && !fenced s c then
        completeOne p.1 stBadOpcode {} s
      else s) s

/-- Complete a command (R225 to R234), then what its end lets go on. -/
def complete (slot st : Nat) (r : Res) (s : State) : State := settleDeletes (settleBad (completeOne slot st r s))

/-- Complete with a status alone. -/
def finish (slot st : Nat) (s : State) : State := complete slot st {} s

/-- Mark that a long command's row has run: its slot stays until its end. -/
def hold (slot : Nat) (s : State) : State :=
  match tfind s.slots slot with
  | none => s
  | some c => { s with slots := tput s.slots slot { c with started := true } }

/-- The frame of every queued command: the slot holds a fetched command of this opcode that no fence holds back; then
the checks 2 to 4 of R225 (`ok` is the chapter's field check), and the body. A command that names polder 94 for
re-admission is the one served while the management polder is sealed (R427). -/
def runCmd (slot opc : Nat) (ok : Slot → State → Bool) (body : Slot → State → State) (s : State) : State :=
  match tfind s.slots slot with
  | none => s
  | some c =>
    if c.opcode ≠ opc ∨ c.started ∨ c.formed ∨ fenced s c ∨ isFatal s ∨ s.boot.warm ∨ c.picture.isSome then s
    else
      match opInfo opc with
      | none => s
      | some (_, admin, pf, named) =>
        if (admin && decide (c.qid ≠ 0)) || (pf && decide (c.fn ≠ 0)) then finish slot stNotPermitted s
        else if !polOpen s 94 && !(decide (opc = 0x38) && decide (c.arg 24 0 7 = 94)) then finish slot stFenced s
        else if !ok c s then finish slot stInvalidField s
        else if named && !owns s c.fn c.sid then finish slot stBadSid s
        else body c s

/-- A field check that always passes. -/
def anyField (_ : Slot) (_ : State) : Bool := true

end Sys2Proof.Machine
end

