-- ==== Sys2Proof/Machine/Queues.lean ====
section
/-! DEFINITION. The queue commands (R216 to R226, R242, R552, R553): pairs, doorbells, fetch, delivery, power states of a
function, host-held buffers, IDENTIFY. -/

namespace Sys2Proof.Machine

/-- Pairs a function holds, the admin pair included (R216). -/
def pairsOf (s : State) (fn : Nat) : Nat := (s.qps.filter (fun p => p.1 / 256 == fn)).length
/-- I/O pairs in use over the device (R216). -/
def ioPairs (s : State) : Nat := (s.qps.filter (fun p => p.1 % 256 != 0)).length
/-- Slots a function holds (R220). -/
def slotsOf (s : State) (fn : Nat) : Nat := (s.slots.filter (fun p => p.2.fn == fn)).length

/-- Field check of CREATE_QP and SET_CQ_MODERATION's shared fields (R224). -/
def modFieldsOk (c : Slot) : Bool := decide (1 ≤ c.arg 32 0 14) && decide (c.arg 32 0 14 ≤ 10000)

/-- The delivery settings of a command (R224). -/
def withModeration (c : Slot) (q : QPair) : QPair :=
  { q with
    vector := c.arg 24 16 5, ien := decide (c.arg 24 21 1 = 1), policyDrop := decide (c.arg 24 23 1 = 1)
    urgentBypass := decide (c.arg 24 24 1 = 1), aggCount := c.arg 28 0 8, aggTime := c.arg 28 8 10
    svcBound := c.arg 32 0 14 }

/-- Field check of CREATE_QP (R217, R224, R553). -/
def createQpOk (c : Slot) (_ : State) : Bool :=
  decide (c.arg 24 0 8 ≠ 0) && decide (4 ≤ c.arg 24 8 4) && decide (c.arg 24 8 4 ≤ 12) && decide (4 ≤ c.arg 24 12 4) &&
    decide (c.arg 24 12 4 ≤ 14) && modFieldsOk c && decide (c.ptr0 % 4096 = 0) && decide (c.ptr1 % 4096 = 0)

/-- CREATE_QP (R216, R217, R224, R553). -/
def execCreateQp (slot : Nat) (s : State) : Host.Outcome State Fault Refusal :=
  .next (runCmd slot 0x01 createQpOk (fun c s =>
    let k := qkey c.fn (c.arg 24 0 8)
    if (tfind s.qps k).isSome then finish slot stBadState s
    else if (c.fn ≠ 0 ∧ pairsOf s c.fn ≥ (func s c.fn).pairLimit) ∨ ioPairs s ≥ 960 then finish slot stNoQueue s
    else
      let q : QPair := withModeration c {
        sqBase := c.ptr0, sqLog := c.arg 24 8 4, cqBase := c.ptr1, cqLog := c.arg 24 12 4
        urgentClass := decide (c.arg 24 22 1 = 1) }
      finish slot stOk { s with qps := tput s.qps k q }) s)

/-- DELETE_QP (R553). -/
def execDeleteQp (slot : Nat) (s : State) : Host.Outcome State Fault Refusal :=
  .next (runCmd slot 0x02 (fun c _ => decide (c.arg 24 0 8 ≠ 0)) (fun c s =>
    let k := qkey c.fn (c.arg 24 0 8)
    match tfind s.qps k with
    | none => finish slot stBadState s
    | some q =>
      if q.deleting.isSome then finish slot stBadState s else
      let s1 := qpMod k (fun q => { q with deleting := some slot, staged := [], held := [], st := .direct }) (hold slot s)
      let late := (s1.deferred.filter (fun p => p.1 == k)).map (·.2)
      let s2 := cqRelease (forAll (q.staged ++ q.held ++ late) (fun e s => cqDrop (qkey c.fn 0) e s)
        { s1 with deferred := s1.deferred.filter (fun p => p.1 != k) })
      let s3 := { s2 with sess := s2.sess.map (fun p =>
        if p.2.owner = c.fn ∧ p.2.notifyQid = c.arg 24 0 8 ∧ p.2.st ≠ .free then (p.1, { p.2 with notifyQid := 0 }) else p) }
      settleDeletes s3) s)

/-- SET_CQ_MODERATION (R224, R237, R553). -/
def execSetCqModeration (slot : Nat) (s : State) : Host.Outcome State Fault Refusal :=
  .next (runCmd slot 0x03 (fun c _ => modFieldsOk c) (fun c s =>
    let k := qkey c.fn (c.arg 24 0 8)
    match tfind s.qps k with
    | none => finish slot stBadState s
    | some q =>
      let s1 := qpMod k (withModeration c) s
      finish slot stOk (if q.st = .direct then cqModerate k s1 else cqL1Check k s1)) s)

/-- SET_VF_QUOTA (R47, R224). -/
def execSetVfQuota (slot : Nat) (s : State) : Host.Outcome State Fault Refusal :=
  .next (runCmd slot 0x05
    (fun c _ => decide (1 ≤ c.arg 24 0 6) && decide (c.arg 28 0 13 ≤ 4096) && decide (c.arg 32 0 17 ≤ 128000))
    (fun c s => finish slot stOk
      (funcMod (c.arg 24 0 6) (fun f => { f with sessQuota := c.arg 28 0 13, loadQuota := c.arg 32 0 17 }) s)) s)

/-- SET_VF_QUEUES (R216, R224). -/
def execSetVfQueues (slot : Nat) (s : State) : Host.Outcome State Fault Refusal :=
  .next (runCmd slot 0x06
    (fun c _ => decide (1 ≤ c.arg 24 0 6) && decide (1 ≤ c.arg 28 0 9) && decide (c.arg 28 0 9 ≤ 256) &&
      decide (16 ≤ c.arg 32 0 13) && decide (c.arg 32 0 13 ≤ 4096))
    (fun c s => finish slot stOk
      (funcMod (c.arg 24 0 6) (fun f => { f with pairLimit := c.arg 28 0 9, slotLimit := c.arg 32 0 13 }) s)) s)

/-- May the host reach the function's queues: it is enabled, the port up, no fatal state (R213, R427, R435)? -/
def hostReach (s : State) (fn : Nat) : Bool := (func s fn).enabled && polOpen s 88 && !isFatal s && !s.boot.warm

/-- A doorbell error is recorded in HQ_DB_ERR, and the first writes EVT_DB_ERROR (R218, R219, R236). -/
def dbError (fn qid : Nat) (sq : Bool) (value : Nat) (s : State) : State :=
  let a := hqBase fn + 0x9C
  let s1 := pgBlock ⟨.hq, fn⟩ s
  if rfld s1 a 9 1 = 1 then rfset a 10 1 1 s1
  else
    let s2 := rset a (qid + b2n sq * 2 ^ 8 + 2 ^ 9 + rfld s1 a 10 1 * 2 ^ 10 + value % 2 ^ 16 * 2 ^ 16) s1
    event (qkey fn 0) 0x0028 9 none (fn + qid * 2 ^ 8 + b2n sq * 2 ^ 16 + value % 2 ^ 16 * 2 ^ 32) 0 0 0 0 s2

/-- A write in the SQ tail doorbell of a pair (R218, R219). -/
def sqTailWrite (fn : Fin 64) (qid : Fin 256) (at4 : Fin 4) (len : Nat) (value : W64) (s : State) : State :=
  if !hostReach s fn then s
    else
      let k := qkey fn qid
      let v := value.toNat % 2 ^ 16
      if at4.val ≠ 0 ∨ len ≠ 4 then dbError fn qid true 0xFFFF s
      else
        match tfind s.qps k with
        | none => dbError fn qid true v s
        | some q =>
          if q.deleting.isSome ∨ v ≥ 2 ^ q.sqLog then dbError fn qid true v s
          else if v = q.sqTail then s
          else { qpMod k (fun q => { q with sqTail := v }) s with doorbells := tset 0 s.doorbells (2 * k) v }

/-- SQ_TAIL_DOORBELL (R218, R219): a write of `len` bytes at byte `at4` of the pair's SQ tail doorbell. -/
def execSqTailDoorbell (fn : Fin 64) (qid : Fin 256) (at4 : Fin 4) (len : Nat) (value : W64) (s : State) : Host.Outcome State Fault Refusal :=
  .next (sqTailWrite fn qid at4 len value s)

/-- A write in the CQ head doorbell of a pair (R218, R219, R238, R239). -/
def cqHeadWrite (fn : Fin 64) (qid : Fin 256) (at4 : Fin 4) (len : Nat) (value : W64) (s : State) : State :=
  if !hostReach s fn then s
    else
      let k := qkey fn qid
      let v := value.toNat % 2 ^ 16
      if at4.val ≠ 0 ∨ len ≠ 4 then dbError fn qid false 0xFFFF s
      else
        match tfind s.qps k with
        | none => dbError fn qid false v s
        | some q =>
          let d := 2 ^ q.cqLog
          if q.deleting.isSome ∨ v ≥ d ∨ (v + d - q.cqHead) % d > (q.cqTail + d - q.cqHead) % d then
            dbError fn qid false v s
          else if v = q.cqHead then s
          else
            let s1 := { qpMod k (fun q => { q with cqHead := v }) s with doorbells := tset 0 s.doorbells (2 * k + 1) v }
            if q.st = .stagedFull then cqStartFlush k s1 else s1

/-- CQ_HEAD_DOORBELL (R218, R219, R238, R239). -/
def execCqHeadDoorbell (fn : Fin 64) (qid : Fin 256) (at4 : Fin 4) (len : Nat) (value : W64) (s : State) : Host.Outcome State Fault Refusal :=
  .next (cqHeadWrite fn qid at4 len value s)

/-- Slots free for the function: its limit, and the 16 kept for every other enabled function (R220). -/
def slotFor (s : State) (fn : Nat) : Bool :=
  let used := slotsOf s fn
  let kept := ((s.funs.filter (fun p => p.2.enabled && p.1 != fn)).map (fun p => 16 - slotsOf s p.1)).sum
  (decide (fn = 0) || decide (used < (func s fn).slotLimit)) && decide (s.slots.length + (if used < 16 then 0 else kept) < 16384)

/-- May the head entry of the pair be fetched now (R220, R238, R435, R505, R553)? -/
def fetchable (s : State) (k : Nat) (q : QPair) : Bool :=
  let fn := k / 256
  decide (q.sqHead ≠ q.sqTail) && q.deleting.isNone && (func s fn).enabled && cqReach s k && slotFor s fn

/-- Fetch class of a pair: 0 admin, 1 URGENT, 2 NORMAL (R220). -/
def fetchClass (k : Nat) (q : QPair) : Nat := if k % 256 = 0 then 0 else if q.urgentClass then 1 else 2

/-- The pair fetch serves within a class: the one in turn while it has taken fewer than 8 entries, else the next in
round-robin order (R220). Answers the pair and the entries taken in this visit. -/
def fetchInClass (s : State) (cl : Nat) : Option (Nat × Nat) :=
  let l := (s.qps.filter (fun p => fetchClass p.1 p.2 == cl && fetchable s p.1 p.2)).map (·.1)
  let (pos, n) := tget (0, 0) s.fetchPos cl
  if n < 8 ∧ pos > 0 ∧ l.contains (pos - 1) then some (pos - 1, n + 1)
  else
    match l.find? (fun k => decide (k ≥ pos)) with
    | some k => some (k, 1)
    | none => l.head?.map (fun k => (k, 1))

/-- The pair fetch serves next (R220): class and pair. -/
def fetchNext (s : State) : Option (Nat × Nat × Nat) :=
  if s.boot.fetchStop ∨ s.boot.warm ∨ isFatal s ∨ !polOpen s 88 ∨ (port s 0).link ≠ .l0 then none
  else
    match fetchInClass s 0, fetchInClass s 1, fetchInClass s 2 with
    | some (k, n), _, _ => some (0, k, n)
    | none, some (k, n), _ => some (1, k, n)
    | none, none, some (k, n) => some (2, k, n)
    | none, none, none => none

/-- The lowest number not a key of a sorted table. -/
def lowFree {α : Type} : Tab α → Nat → Nat
  | [], i => i
  | (k, _) :: t, i => if k = i then lowFree t (i + 1) else i

/-- Take the head entry of the pair into a slot (R220, R222). Answers the slot. -/
def takeEntry (cl k n : Nat) (entry : BitVec 512) (s : State) : Nat × State :=
  let i := lowFree s.slots 0
  let c : Slot := { fn := k / 256, qid := k % 256, entry := entry, order := s.fetchOrder }
  (i, qpMod k (fun q => { q with sqHead := (q.sqHead + 1) % 2 ^ q.sqLog })
    { s with slots := tput s.slots i c, fetchOrder := s.fetchOrder + 1, fetchPos := tset (0, 0) s.fetchPos cl (k + 1, n) })

/-- SQ_FETCH (R220 to R222): the 64 bytes the device read at the head of the SQ it serves. A reserved opcode completes at
once with ST_BAD_OPCODE (R225). -/
def execSqFetch (entry : BitVec 512) (s : State) : Host.Outcome State Fault Refusal :=
  .next (match fetchNext s with
    | none => s
    | some (cl, k, n) => settleBad (takeEntry cl k n entry s).2)

/-- SQ_ENTRY_READ_ERROR (R552). -/
def execSqEntryReadError (s : State) : Host.Outcome State Fault Refusal :=
  .next (match fetchNext s with
    | none => s
    | some (cl, k, n) =>
      let (i, s1) := takeEntry cl k n (BitVec.ofNat 512 (0xFFFF * 2 ^ 16)) s
      complete i stDmaError {} (rcnt 0x90094 0 32 1 s1))

/-- CQ_AGG_TIMEOUT (R237, R238). -/
def execCqAggTimeout (fn : Fin 64) (qid : Fin 256) (s : State) : Host.Outcome State Fault Refusal :=
  let k := qkey fn qid
  .next (match tfind s.qps k with
    | none => s
    | some q => if q.st = .direct then cqModerate k s else cqL1Check k s)

/-- SERVICE_TIMER_EXPIRE (R238, R240). -/
def execServiceTimerExpire (fn : Fin 64) (qid : Fin 256) (s : State) : Host.Outcome State Fault Refusal :=
  let k := qkey fn qid
  let s1 := svcSync k s
  .next (match tfind s1.qps k with
    | none => s
    | some q =>
      if q.st ≠ .stagedFull ∨ q.stalled ∨ q.svcRun < psMs q.svcBound then s1
      else
        let s2 := qpMod k (fun q => { q with stalled := true }) s1
        if q.policyDrop then
          settleDeletes (cqRelease (forAll (q.staged ++ q.held) (fun e s => cqDrop k e s)
            (qpMod k (fun q => { q with staged := [], held := [] }) s2)))
        else if k = 0 then raise 0x2B 0 s2
        else evtPf 0x0027 9 (fn + qid * 2 ^ 8 + q.cqHead * 2 ^ 32) 0 s2)

/-- HQ_AQ_CFG is written with EN 1 (R242). -/
def aqEnable (fn : Fin 64) (cfg : W32) (s : State) : State :=
  let b := hqBase fn
  let a := b + 0x90
  if !hostReach s fn ∨ bitAt (rget s a) 31 then s
    else
      let v := cfg.toNat
      let sl := bitsOf v 0 4
      let cl := bitsOf v 4 4
      let inRange := decide (4 ≤ sl) && decide (sl ≤ 12) && decide (4 ≤ cl) && decide (cl ≤ 14)
      let s1 := rset a (v % 2 ^ 14 + b2n inRange * 2 ^ 31) s
      if !inRange then s1
      else
        qpMod (qkey fn 0) (fun q => { q with
          sqBase := rget s (b + 0x80), cqBase := rget s (b + 0x88), sqLog := sl, cqLog := cl, sqHead := 0, sqTail := 0
          cqHead := 0, cqTail := 0, seq := 0, phase := true, vector := bitsOf v 8 5, ien := decide (bitsOf v 13 1 = 1)
          aggCount := 0, aggTime := 0, urgentBypass := false, policyDrop := false, svcBound := 100 })
          (funcMod fn (fun f => { f with aqReady := false }) s1)

/-- ADMIN_QUEUE_ENABLE (R242): a write of HQ_AQ_CFG with EN 1. -/
def execAdminQueueEnable (fn : Fin 64) (cfg : W32) (s : State) : Host.Outcome State Fault Refusal :=
  .next (aqEnable fn cfg s)

/-- AQ_READY (R242): the admin pair accepts commands; entries staged while it was disabled are written (R234). -/
def execAqReady (fn : Fin 64) (s : State) : Host.Outcome State Fault Refusal :=
  .next (if !s.boot.ready ∨ !bitAt (rget s (hqBase fn + 0x90)) 31 ∨ isFatal s ∨ (func s fn).aqReady then s
    else
      let s1 := funcMod fn (fun f => { f with aqReady := true }) s
      match tfind s1.qps (qkey fn 0) with
      | none => s1
      | some q => if q.st = .stagedD3 ∧ cqReach s1 (qkey fn 0) then cqStartFlush (qkey fn 0) s1 else s1)

/-- Pairs of a function. -/
def keysOf (s : State) (fn : Nat) : List Nat := (s.qps.filter (fun p => p.1 / 256 == fn)).map (·.1)

/-- Flush the CQs of the list that wait in one of the states. -/
def flushIn (l : List Nat) (want : CqSt → Bool) (s : State) : State :=
  forAll l (fun k s => match tfind s.qps k with
    | none => s
    | some q => if want q.st then cqStartFlush k s else s) s

/-- LINK_L1_ENTRY (R238): a port's link goes from L0 to L1. -/
def execLinkL1Entry (p : Fin 3) (s : State) : Host.Outcome State Fault Refusal :=
  .next (if (port s p).link = .l0 then portMod p (fun q => { q with link := .l1, l1Exiting := false }) s else s)

/-- LINK_L1_EXIT (R238): the link reaches L0, and every CQ in STAGED_L1, and every flush that waited, goes on. -/
def execLinkL1Exit (p : Fin 3) (s : State) : Host.Outcome State Fault Refusal :=
  .next (if (port s p).link ≠ .l1 then s
    else
      let s1 := portMod p (fun q => { q with link := .l0, l1Exiting := false }) s
      if p.val = 0 then flushIn (s1.qps.map (·.1)) (fun st => st == .stagedL1 || st == .flushing) s1 else s1)

/-- MSIX_UNMASK (R237). -/
def execMsixUnmask (fn : Fin 64) (vec : Fin 32) (s : State) : Host.Outcome State Fault Refusal :=
  let f := func s fn
  let bit := BitVec.ofNat 32 (2 ^ vec.val)
  .next (if !f.enabled then s
    else
      let s1 := funcMod fn (fun f => { f with mask := f.mask &&& ~~~bit, pend := f.pend &&& ~~~bit }) s
      if f.pend.getLsbD vec then emit (.msix fn vec) s1 else s1)

/-- A VF's function as VF Enable or an FLR leaves it: the limits and quotas the PF has set stay (R47, R216; log 17). -/
def Func.fresh (f : Func) (en : Bool) : Func :=
  { enabled := en, pairLimit := f.pairLimit, slotLimit := f.slotLimit, sessQuota := f.sessQuota, loadQuota := f.loadQuota }

/-- VF_ENABLE (R216): VF Enable is set with NumVFs `num`; each VF's admin pair is reserved. -/
def execVfEnable (num : Fin 64) (s : State) : Host.Outcome State Fault Refusal :=
  .next (if (port s 0).numVfs ≠ 0 ∨ !hostReach s 0 then s
    else
      forAll ((List.range num.val).map (· + 1)) (fun n s =>
        let s1 := funcMod n (fun f => f.fresh true) s
        { s1 with qps := tput s1.qps (qkey n 0) {} })
        (portMod 0 (fun p => { p with numVfs := num.val }) s))

/-- Power control's order of R470: with the PF in D3hot and no session ACTIVE, every in-service controller is ordered into
self-refresh. -/
def srOrders (s : State) : State :=
  let go := (func s 0).d3 && !(s.sess.any (fun p => p.2.st == .active))
  forAll (List.range 16) (fun n s =>
    if (mcOf s n).inService ∧ (mcOf s n).ordered ≠ go then mcMod n (fun m => { m with ordered := go }) s else s) s

/-- FUNCTION_POWER_STATE (R238, R240, R470, R506): on port H the function takes the D-state, Bus Master Enable and PME_En;
on P0 and P1 the port's single function does. -/
def execFunctionPowerState (p : Fin 3) (fn : Fin 64) (d3 bme pmeEn : Bool) (s : State) :
    Host.Outcome State Fault Refusal :=
  .next (if p.val ≠ 0 then portMod p (fun q => { q with d3 := d3, bme := bme, pmeEn := pmeEn }) s
    else if !(func s fn).enabled then s
    else
      let ks := keysOf s fn
      let s1 := forAll ks svcSync s
      let s2 := funcMod fn (fun f => { f with d3 := d3, bme := bme, pmeEn := pmeEn, pmeSent := f.pmeSent && f.d3 && d3 }) s1
      let s3 := forAll ks svcSync s2
      let s4 := srOrders s3
      flushIn (ks.filter (cqReach s4)) (fun st => st == .stagedD3) s4)

/-- The live buffer a command's handle names, if the function owns it (R226, R228). -/
def cmdBuf (s : State) (fn h : Nat) : Option BufRec :=
  match bufLive s h with
  | none => none
  | some b => if b.owner = fn then some b else none

/-- BUF_ALLOC (R226, R356, R361). -/
def execBufAlloc (slot : Nat) (s : State) : Host.Outcome State Fault Refusal :=
  .next (runCmd slot 0x28 (fun c _ => decide (4096 ≤ c.arg 24 0 32) && decide (c.arg 24 0 32 ≤ 64 * 2 ^ 20))
    (fun c s =>
      match bpmAlloc { ty := .bitstream, size := c.arg 24 0 32, cls := 2, owner := c.fn, hostHeld := true, port := 12 } s with
      | (.ok h, s') => complete slot stOk { r0 := h } s'
      | (.fenced, s') => finish slot stFenced s'
      | (_, s') => finish slot stNoMemory s') s)

/-- Does the range of the command lie in the buffer (R224)? -/
def rangeOk (s : State) (c : Slot) : Bool := decide (c.arg 28 0 32 + c.arg 32 0 32 ≤ bufSize s (c.arg 24 0 32))

/-- BUF_WRITE (R224, R225): the data is what the device read at PTR0, none for a failed read. -/
def execBufWrite (slot : Nat) (data : Option HostBuf) (s : State) : Host.Outcome State Fault Refusal :=
  .next (runCmd slot 0x29 anyField (fun c s =>
    let h := c.arg 24 0 32
    match cmdBuf s c.fn h with
    | none => finish slot stBadHandle s
    | some _ =>
      if !rangeOk s c then finish slot stInvalidField s
      else if !mcUsable s (bufMc s (hKey h)) then finish slot stFenced s
      else
        match data with
        | none => finish slot stDmaError s
        | some d => finish slot stOk (bufWrite (hKey h) (c.arg 28 0 32) (d.bytes 0 (c.arg 32 0 32)) s)) s)

/-- BUF_READ (R225): refused for buffers of protected sessions, whose pictures never leave in clear (R32); `ok` says whether the host write went through. -/
def execBufRead (slot : Nat) (ok : Bool) (s : State) : Host.Outcome State Fault Refusal :=
  .next (runCmd slot 0x2A anyField (fun c s =>
    let h := c.arg 24 0 32
    match cmdBuf s c.fn h with
    | none => finish slot stBadHandle s
    | some b =>
      if !rangeOk s c then finish slot stInvalidField s
      else if (match b.sid with | none => false | some x => (sessOf s x).protected') then finish slot stProtected s
      else if !mcUsable s (bufMc s (hKey h)) then finish slot stFenced s
      else if !ok then finish slot stDmaError s
      else finish slot stOk (emit (.hostBytes c.fn c.ptr0 true (bufBytes s (hKey h) (c.arg 28 0 32) (c.arg 32 0 32))) s)) s)

/-- BUF_RELEASE (R226, R356, R360): while the BPM is sealed the operation waits (R427). -/
def execBufRelease (slot : Nat) (s : State) : Host.Outcome State Fault Refusal :=
  .next (if !polOpen s 93 then s
    else runCmd slot 0x2B anyField (fun c s =>
      match bpmUnref 12 c.fn (c.arg 24 0 32) true s with
      | (true, s') => finish slot stOk s'
      | (false, s') => finish slot stBadHandle s') s)

/-- Capacity in GiB of a DENSITY code (R331, R351). -/
def densityGib (d : Nat) : Nat := [0, 4, 6, 8, 12, 16, 24, 32].getD d 0
/-- Usable capacity in bytes (R333). -/
def usableCap (d : Nat) : Nat := densityGib d * 2 ^ 30 * 31 / 32
/-- The device region of a controller (R334). -/
def devRegion (d : Nat) : Nat := roundUp (ceilDiv (usableCap d * 3) 100) (64 * 2 ^ 20)
/-- Pool memory (R352). -/
def poolMemory (s : State) : Nat :=
  ((List.range 16).map (fun n => let m := mcOf s n; if m.inService then usableCap m.density - devRegion m.density else 0)).sum

/-- DEV_ID (R502). -/
def devId (s : State) : Nat := 0x6440 + 0x11 * 2 ^ 16 + b2n s.board.grade14 * 2 ^ 24
/-- Is the core counted in DEV_SESS.CORES (R502)? -/
def coreUp (s : State) (c : Nat) : Bool := polOpen s c && polOpen s (64 + c / 8)
/-- A mask of the numbers below `n` that pass. -/
def maskOf (n : Nat) (f : Nat → Bool) : Nat := ((List.range n).map (fun i => b2n (f i) * 2 ^ i)).sum
/-- MCODE_VERSION of a store (R412, R418). -/
def Store.version (m : Store) : Nat := m.base + m.patch * 2 ^ 16 + m.hash % 2 ^ 32 * 2 ^ 32
/-- MCODE_VERSION of the device. -/
def mcodeVersion (s : State) : Nat := s.mcode.run.version
/-- Enabled subports by code: SUB_EN of ETH0 and ETH1 (R243, R279). -/
def subEnMask (s : State) : Nat := rfld s 0x20080 4 4 + rfld s 0x21080 4 4 * 16
/-- Rate of a subport in bit/s; 0 where it is not enabled (R243, R244). -/
def subRate (s : State) (code : Nat) : Nat :=
  let split := rfld s (0x20080 + code / 4 * 0x1000) 0 2
  if code ≥ 8 ∨ !bitAt (subEnMask s) code ∨ code % 4 ≥ [1, 2, 4].getD split 1 then 0
  else [400, 200, 100].getD split 400 * 1000000000

/-- Address of ETH_CNT[4k + s] of a subport (R279). -/
def aEthCnt (sub k : Nat) : Nat := 0x20100 + 0x1000 * (sub / 4) + 8 * (4 * k + sub % 4)
/-- A frame of `len` bytes leaves a subport: the medium is taken for its wire size (R250), and it is counted (R279). -/
def ethTx (sub : Nat) (kind : PktKind) (sid seq len : Nat) (s : State) : State :=
  emit (.frame sub kind sid seq len) (rcnt (aEthCnt sub 0) 0 64 1
    (subMod sub (fun b => { b with
      busyUntil := max b.busyUntil s.now + ceilDiv (8 * (len + 20) * 1000000000000) (max 1 (subRate s sub)) }) s))
/-- Two 32-bit words of a 64-bit value at word index `i`. -/
def putW64 (i v : Nat) (t : Tab Nat) : Tab Nat := tset 0 (tset 0 t i (v % 2 ^ 32)) (i + 1) (v / 2 ^ 32 % 2 ^ 32)
/-- A 32-bit word at index `i`. -/
def putW32 (i v : Nat) (t : Tab Nat) : Tab Nat := tset 0 t i (v % 2 ^ 32)

/-- The 4,096 bytes of IDENTIFY as 32-bit words (R503). -/
def identifyWords (s : State) (fn : Nat) : Tab Nat :=
  let img := fun i => (tget ({} : Img) s.sec.images i).ver
  let f := func s fn
  let cdid := match s.sec.cluster with | none => 0 | some (_, _, c, _, _) => c
  let caps := fun lo => ((List.range 4).map (fun j => densityGib (mcOf s (lo + j)).density * 2 ^ (8 * j))).sum
  let held := (s.sess.filter (fun p => p.2.st != .free && p.2.owner == fn)).length
  putW32 0 0x44494C4E <| putW32 1 (1 + fn * 2 ^ 16) <| putW64 2 (devId s) <| putW64 4 s.board.serial <|
  putW32 6 Config.ianaNumber <| putW32 7 cdid <| putW64 8 (mcodeVersion s) <|
  putW32 10 (img 0) <| putW32 11 (img 1) <| putW32 12 (img 3) <|
  putW64 14 (((List.range 8).map (fun p => rfld s (0x2100 + 0x20 * p) 0 3 * 2 ^ (8 * p))).sum) <|
  putW64 16 (maskOf 64 (coreUp s)) <| putW32 18 (maskOf 32 (fun k => (pairOf s k).st == .joined)) <|
  putW32 19 (maskOf 16 (fun n => (mcOf s n).inService) + maskOf 16 (fun n => (mcOf s n).inService && (mcOf s n).slow) * 2 ^ 16) <|
  putW32 20 (caps 0) <| putW32 21 (caps 4) <| putW32 22 (caps 8) <| putW32 23 (caps 12) <|
  putW64 24 (poolMemory s) <|
  putW32 26 (if fn = 0 then 0xFFFFFFFF else f.sessQuota) <| putW32 27 (if fn = 0 then 0xFFFFFFFF else f.loadQuota) <|
  putW32 28 (if fn = 0 then 0xFFFFFFFF else f.pairLimit + f.slotLimit * 2 ^ 16) <|
  putW32 29 (held + pairsOf s fn * 2 ^ 16) <| putW32 30 (32 + subEnMask s * 2 ^ 16) []

/-- IDENTIFY (R503): `ok` says whether the host write went through. -/
def execIdentify (slot : Nat) (ok : Bool) (s : State) : Host.Outcome State Fault Refusal :=
  .next (runCmd slot 0x04 anyField (fun c s =>
    if !ok then finish slot stDmaError s
    else complete slot stOk { r0 := 4096 } (emit (.hostWr c.fn c.ptr0 4096 true (identifyWords s c.fn)) s)) s)

end Sys2Proof.Machine
end

