-- ==== Sys2Proof/Machine/Mic.lean ====
section
/-! DEFINITION. The internal interrupt controller (R386 to R393). -/

namespace Sys2Proof.Machine

/-- MIC_SRC_CFG of a source. -/
def micCfg (s : State) (n : Nat) : Nat := rget s (0x8800 + 4 * n)
/-- PRIO. -/
def micPrio (s : State) (n : Nat) : Nat := bitsOf (micCfg s n) 0 4
/-- Is the source an edge source? Software sources are (R387). -/
def micEdgeSense (s : State) (n : Nat) : Bool := decide (224 ≤ n) || bitAt (micCfg s n) 8
/-- Does the source exist (R386)? -/
def micReal (n : Nat) : Bool := decide (1 ≤ n) && decide (n ≤ 255)
/-- A source's record. -/
def micSrcOf (s : State) (n : Nat) : MicSrc := tget {} s.micSrc n
/-- Change a source's record. -/
def micSrcMod (n : Nat) (f : MicSrc → MicSrc) (s : State) : State := { s with micSrc := tmod {} s.micSrc n f }
/-- A target's record. -/
def micTgtOf (s : State) (t : Nat) : MicTgt := tget {} s.micTgt t
/-- Change a target's record. -/
def micTgtMod (t : Nat) (f : MicTgt → MicTgt) (s : State) : State := { s with micTgt := tmod {} s.micTgt t f }

/-- The running priority of a target (R388). -/
def micRunning (s : State) (t : Nat) : Nat :=
  ((s.micSrc.filter (fun p => p.2.activeAt == some t)).map (fun p => micPrio s p.1)).foldl max 0

/-- Is a source eligible at a target (R388, R391)? -/
def micEligible (s : State) (t n : Nat) : Bool :=
  let c := micCfg s n
  micReal n && (micSrcOf s n).pend && bitAt c 9 && decide (bitsOf c 4 4 = t) &&
    decide (bitsOf c 0 4 > rfld s (0x8200 + 0x10 * t) 0 4) && decide (bitsOf c 0 4 > micRunning s t)

/-- The eligible source a claim returns, 0 for none: highest PRIO, then the lower number (R388). -/
def micNext (s : State) (t : Nat) : Nat :=
  ((s.micSrc.filter (fun p => micEligible s t p.1)).map (·.1)).foldl
    (fun b n => if b = 0 ∨ micPrio s n > micPrio s b ∨ (micPrio s n = micPrio s b ∧ n < b) then n else b) 0

/-- Assert or drop the targets' interrupts; a sleeping target's is asserted when it resumes (R388, R392). -/
def micSettle (s : State) : State :=
  forAll (List.range 9) (fun t s =>
    let want := micNext s t ≠ 0
    let g := micTgtOf s t
    if want ∧ !g.irq ∧ !g.sleeping then emit (.micIrq t) (micTgtMod t (fun g => { g with irq := true }) s)
    else if !want ∧ g.irq then micTgtMod t (fun g => { g with irq := false }) s
    else s) s

/-- A source's signal: an edge when it rises, or the level it takes (R387). -/
def micSignal (n : Nat) (on : Bool) (s : State) : State :=
  if !micReal n then s
  else
    let x := micSrcOf s n
    if micEdgeSense s n then micSettle (if on then micSrcMod n (fun x => { x with pend := true, input := true }) s
      else micSrcMod n (fun x => { x with input := false }) s)
    else
      micSettle (micSrcMod n (fun y => { y with input := on, pend := if x.activeAt.isSome then y.pend else on || y.hdr }) s)

/-- A pulse on a source by a block inside the device. -/
def micPulse (n : Nat) (s : State) : State := micSignal n true s

/-- The MIC sources a page's header drives, each with the PG_EVT bits that drive it (R501). -/
def Page.micSrcs (p : Page) : List (Nat × Nat) :=
  match p.ty with
  | .core => [(2 * p.inst + 2, 7), (2 * p.inst + 1, 8)]
  | .pel => [(2 * p.inst + 130, 7), (2 * p.inst + 129, 8)]
  | .mc => [(145 + p.inst, 15)] | .pcie => [(161 + p.inst, 15)] | .eth => [(164 + p.inst, 15)]
  | .pkt => [(166, 15)] | .time => [(167, 15)] | .bpm => [(216, 15)] | .flt => [(217, 15)] | .nvs => [(218, 15)]
  | .hq => if p.inst = 0 then [(220, 15)] else []
  | .clk => [(221, 15)] | .pwr => [(222, 15)] | .rst => [(223, 15)]
  | .dev | .sec | .mbx | .mic | .dma => []

/-- The sources asserted by a page's header: its IRQ_EN is 1 and an enabled event of theirs is pending (R501). -/
def Page.asserts (s : State) (p : Page) : List Nat :=
  let e := rget s (p.at 0x18) &&& rget s (p.at 0x1C)
  if bitAt (rget s (p.at 0x10)) 0 then (p.micSrcs.filter (fun x => decide (x.2 &&& e ≠ 0))).map (·.1) else []

/-- The sources asserted by all headers: only a page whose PG_CTRL has been written asserts one. -/
def headerSrcs (s : State) : List Nat :=
  (s.regs.filter (fun r => decide (r.1 < 2 ^ 28) && decide (r.1 % 0x1000 = 0x10))).flatMap (fun r =>
    match pageAt r.1 with
    | some p => p.asserts s
    | none => [])

/-- The header's level of a source changes; the source is the OR of it and the block's signal (R387, R501). -/
def micHeader (n : Nat) (on : Bool) (s : State) : State :=
  let edge := micEdgeSense s n
  micSrcMod n (fun y => { y with
    hdr := on
    pend := if edge then y.pend || (on && !y.input) else if y.activeAt.isSome then y.pend else on || y.input }) s

/-- The page headers' levels, sampled every MCLK cycle (R387, R501). -/
def micSample (s : State) : State :=
  let on := headerSrcs s
  let drop := (s.micSrc.filter (fun e => e.2.hdr && !on.contains e.1)).map (·.1)
  let rise := on.filter (fun n => !(micSrcOf s n).hdr)
  if isFatal s ∨ (drop = [] ∧ rise = []) then s
  else micSettle (forAll rise (fun n => micHeader n true) (forAll drop (fun n => micHeader n false) s))

/-- May the requester write the MIC page (R393, R451)? -/
def micFrom (s : State) (req : Req) : Bool :=
  polOpen s 94 && !isFatal s && (match req with
    | .mgc _ => true
    | .sec => true
    | _ => false)

/-- MIC_SOURCE_RAISE (R387): the source's signal rises or falls. -/
def execMicSourceRaise (src : Fin 512) (on : Bool) (s : State) : Host.Outcome State Fault Refusal := .next (micSignal src on s)

/-- MIC_TGT_CLAIM is read (R388): the source it returns; a read by a target claims, one from port H does not. -/
def micClaim (req : Req) (t : Fin 9) (s : State) : Nat × State :=
  let n := micNext s t
  if !polOpen s 94 ∨ isFatal s then (0, s)
  else if !micFrom s req ∨ n = 0 then (n, s)
  else (n, micSettle (micSrcMod n (fun x => { x with activeAt := some t.val, pend := false }) s))

/-- MIC_TGT_CLAIM (R388): a read by the target claims; a read from port H returns the value and claims nothing. -/
def execMicTgtClaim (req : Req) (t : Fin 9) (s : State) : Host.Outcome State Fault Refusal :=
  let (n, s1) := micClaim req t s
  .next (emit (.readData n) s1)

/-- An unmatched completion (R390). -/
def micUnmatched (t n : Nat) (s : State) : State :=
  let a := 0x8184
  let s1 := rcnt 0x8188 0 32 1 (pgBlock ⟨.mic, 0⟩ s)
  let s2 := if rfld s1 a 13 1 = 1 then rfset a 14 1 1 s1
    else rset a (n + t * 2 ^ 9 + 2 ^ 13 + rfld s1 a 14 1 * 2 ^ 14) s1
  raise 0x3B 0 s2

/-- MIC_TGT_EOI is written (R389, R390). -/
def micEoi (req : Req) (t : Fin 9) (src : Fin 512) (s : State) : State :=
  if !micFrom s req then s
    else
      let x := micSrcOf s src
      if micReal src && x.activeAt == some t.val then
        let lvl := !micEdgeSense s src && (x.input || x.hdr)
        micSettle (micSrcMod src (fun x => { x with activeAt := none, pend := x.pend || lvl }) s)
      else micUnmatched t src s

/-- MIC_TGT_EOI (R389, R390): a completion written by the target; a still-asserted level sets PEND again (R387). -/
def execMicTgtEoi (req : Req) (t : Fin 9) (src : Fin 512) (s : State) : Host.Outcome State Fault Refusal :=
  .next (micEoi req t src s)

/-- MIC_SWI is written (R393). -/
def micSwi (req : Req) (set : W32) (s : State) : State :=
  if !micFrom s req then s
    else forAll ((List.range 32).filter (fun k => set.getLsbD k)) (fun k s => micPulse (224 + k) s) s

/-- MIC_SWI (R393): edges on the software sources. -/
def execMicSwi (req : Req) (set : W32) (s : State) : Host.Outcome State Fault Refusal :=
  .next (micSwi req set s)

/-- MIC_SRC_CFG is written (R391, R393). -/
def micCfgWrite (req : Req) (src : Fin 512) (cfg : W32) (s : State) : State :=
  let a := 0x8800 + 4 * src.val
  let v := cfg.toNat
  if !micFrom s req ∨ !micReal src then s
    else
      let old := rget s a
      let tgt := if bitsOf v 4 4 ≤ 8 then bitsOf v 4 4 else bitsOf old 4 4
      let sense := if 224 ≤ src.val then bitsOf old 8 1 else bitsOf v 8 1
      let s1 := rset a (bitsOf v 0 4 + tgt * 2 ^ 4 + sense * 2 ^ 8 + bitsOf v 9 1 * 2 ^ 9) s
      let s2 := if micEdgeSense s1 src ∨ (micSrcOf s1 src).activeAt.isSome then s1
        else micSrcMod src (fun x => { x with pend := x.input || x.hdr }) s1
      micSettle s2

/-- MIC_SRC_CFG (R391, R393). -/
def execMicSrcCfg (req : Req) (src : Fin 512) (cfg : W32) (s : State) : Host.Outcome State Fault Refusal :=
  .next (micCfgWrite req src cfg s)

/-- MIC_TARGET_WAKE (R392): a sleeping target resumes, and its interrupt is asserted. -/
def execMicTargetWake (t : Fin 9) (s : State) : Host.Outcome State Fault Refusal :=
  .next (micSettle (micTgtMod t (fun g => { g with sleeping := false }) s))

end Sys2Proof.Machine
end

