-- ==== Sys2Proof/Machine/Dma.lean ====
section
/-! DEFINITION. The DMA engine (R364 to R376) and the bytes of device DRAM (R333). -/

namespace Sys2Proof.Machine

/-- The canonical form of device memory: addresses strictly rising. -/
def Memory.sortedFrom : Nat → List Host.Cell → Bool
  | _, [] => true
  | lo, (a, _) :: t => decide (lo ≤ a) && Memory.sortedFrom (a + 1) t

/-- Memory is well formed: strictly rising addresses. What an unlisted address reads as is not a value a cell could
repeat (log 9). -/
def Memory.wf (m : List Host.Cell) : Bool := Memory.sortedFrom 0 m

/-- Write a byte. -/
def Memory.write : List Host.Cell → Nat → Byte → List Host.Cell
  | [], a, v => [(a, v)]
  | (b, w) :: t, a, v =>
    if a < b then (a, v) :: (b, w) :: t
    else if a = b then (a, v) :: t
    else (b, w) :: Memory.write t a v

/-- Write bytes at consecutive addresses. -/
def Memory.writes : List Host.Cell → Nat → List Byte → List Host.Cell
  | m, _, [] => m
  | m, a, v :: l => Memory.writes (Memory.write m a v) (a + 1) l

/-- The byte an address holds, if one was written. -/
def Memory.find : List Host.Cell → Nat → Option Byte
  | [], _ => none
  | (b, w) :: t, a => if b = a then some w else Memory.find t a

/-- The byte a read of device DRAM gives: what was written, else an undefined byte (R6, log 9). -/
def dramByte (s : State) (a : Nat) : Byte :=
  match Memory.find s.dram a with
  | some v => v
  | none => Config.freeByte (a + s.free * 2 ^ 64)

/-- Address of a register of a channel's block (R377). -/
def aDma (c off : Nat) : Nat := 0xA000 + c / 16 * 0x1000 + 0x100 + 0x80 * (c % 16) + off
/-- A channel. -/
def dmaOf (s : State) (c : Nat) : DmaCh := tget {} s.dma c
/-- Change a channel. -/
def dmaMod (c : Nat) (f : DmaCh → DmaCh) (s : State) : State := { s with dma := tmod {} s.dma c f }
/-- The DMA page of a channel. -/
def pgDma (c : Nat) : Page := ⟨.dma, c / 16⟩

/-- May the requester program the channel (R364, R451)? -/
def dmaFrom (s : State) (req : Req) (c : Nat) : Bool :=
  polOpen s 93 && !isFatal s && (match req with
    | .fn f => decide (f.val = 0) && decide (c ≥ 16)
    | .mgc _ => decide (c < 16)
    | .sec => decide (c < 16)
    | .peer _ => false)

/-- Ring depth LOG2 of a channel. -/
def dmaLog (s : State) (c : Nat) : Nat := rfld s (aDma c 0x08) 0 4
/-- HEAD and TAIL. -/
def dmaHead (s : State) (c : Nat) : Nat := rfld s (aDma c 0x18) 0 12
def dmaTail (s : State) (c : Nat) : Nat := rfld s (aDma c 0x1C) 0 12

/-- IDLE becomes RUNNING while HEAD and TAIL differ, and RUNNING with nothing left becomes IDLE (R375). -/
def dmaGo (c : Nat) (s : State) : State :=
  let d := dmaOf s c
  if d.st = .idle ∧ dmaHead s c ≠ dmaTail s c then dmaMod c (fun d => { d with st := .run }) s
  else if d.st = .run ∧ d.cur = none ∧ dmaHead s c = dmaTail s c then dmaMod c (fun d => { d with st := .idle }) s
  else s

/-- The shadow values replace the live ones (R376). -/
def dmaShadow (c : Nat) (s : State) : State :=
  if !(dmaOf s c).shadowPend then s
  else
    let idx := rget s (aDma c 0x38)
    let s1 := rset (aDma c 0x08) (rget s (aDma c 0x28)) s
    let s2 := rset (aDma c 0x10) (rget s (aDma c 0x30)) s1
    let s3 := rset (aDma c 0x1C) (bitsOf idx 16 12) (rset (aDma c 0x18) (bitsOf idx 0 12) s2)
    let s4 := rfset (aDma c 0x24) 0 3 (rfld s (aDma c 0x3C) 0 3) s3
    dmaMod c (fun d => { d with shadowPend := false, phase := true }) (rfset (aDma c 0x3C) 31 1 0 s4)

/-- EN of a channel is written 1 (R375). -/
def dmaEnable (req : Req) (c : Fin 32) (s : State) : State :=
  if !dmaFrom s req c ∨ (dmaOf s c).st ≠ .off ∨ dmaLog s c < 4 ∨ dmaLog s c > 12 then s
    else dmaGo c (dmaMod c (fun d => { d with st := .idle, phase := true }) (rfset (aDma c 0) 0 1 1 s))

/-- DMA_CH_ENABLE (R375): EN written 1. -/
def execDmaChEnable (req : Req) (c : Fin 32) (s : State) : Host.Outcome State Fault Refusal :=
  .next (dmaEnable req c s)

/-- The fields of a descriptor (R366). -/
def dOp (d : BitVec 256) : Nat := bitsOf d.toNat 0 4
def dSrcSp (d : BitVec 256) : Nat := bitsOf d.toNat 4 2
def dDstSp (d : BitVec 256) : Nat := bitsOf d.toNat 6 2
def dIrq (d : BitVec 256) : Bool := bitAt d.toNat 9
def dStop (d : BitVec 256) : Bool := bitAt d.toNat 10
def dElem (d : BitVec 256) : Nat := bitsOf d.toNat 16 4
def dLen (d : BitVec 256) : Nat := bitsOf d.toNat 32 32
def dSrc (d : BitVec 256) : Nat := bitsOf d.toNat 64 64
def dDst (d : BitVec 256) : Nat := bitsOf d.toNat 128 64
def dBase (d : BitVec 256) : Nat := bitsOf d.toNat 192 64

/-- Bytes of the destination range, or of DST for COMPARE. -/
def dBytes (d : BitVec 256) : Nat := if dOp d = 4 then dLen d * 2 ^ dElem d else dLen d

/-- The address line a beat is counted in: for BUFFER space the offset within the buffer (R366, R367). -/
def dDstOff (d : BitVec 256) : Nat := if dDstSp d = 1 then bitsOf (dDst d) 0 32 else dDst d

/-- Undefined bytes, by draw. -/
def freeBytes (f : Nat) : Nat → Nat → List Byte
  | _, 0 => []
  | i, n + 1 => Config.freeByte (f * 2 ^ 40 + i) :: freeBytes f (i + 1) n

/-- Store bytes at an address of a space (R366): DEVICE, BUFFER or HOST. -/
def spaceWrite (sp addr : Nat) (l : List Byte) (s : State) : State :=
  if l = [] then s
  else if sp = 0 then { s with dram := Memory.writes s.dram addr l }
  else if sp = 1 then bufWrite (hKey (addr / 2 ^ 32)) (addr % 2 ^ 32) l s
  else emit (.hostBytes 0 addr false l) s

/-- Byte `i` from an address of a space; a HOST byte comes with the command, at `h` of its data. -/
def spaceByte (s : State) (sp addr i : Nat) (host : List Byte) (h : Nat) : Byte :=
  if sp = 0 then dramByte s (addr + i)
  else if sp = 1 then bufByte s (hKey (addr / 2 ^ 32)) (addr % 2 ^ 32 + i)
  else host.getD (h + i) 0#8

/-- The spaces an operation uses: source (and BASE), destination. -/
def dUses (d : BitVec 256) : List Nat :=
  if dOp d = 2 then [dDstSp d] else if dOp d = 0 then [] else [dSrcSp d, dDstSp d]

/-- The operands in BUFFER space: handle, first offset, bytes, read (R366). -/
def dBufs (d : BitVec 256) : List (Nat × Nat × Nat × Bool) :=
  let src := if dOp d ≠ 2 ∧ dOp d ≠ 0 ∧ dSrcSp d = 1 then
      [(dSrc d / 2 ^ 32, dSrc d % 2 ^ 32, if dOp d = 4 then 4 * dLen d else dLen d, true)] else []
  let base := if dOp d = 4 ∧ dSrcSp d = 1 then [(dBase d / 2 ^ 32, 0, 0, true)] else []
  let dst := if dOp d ≠ 0 ∧ dDstSp d = 1 then [(dDst d / 2 ^ 32, dDst d % 2 ^ 32, dBytes d, decide (dOp d = 3))] else []
  src ++ base ++ dst

/-- The first check of R368: OP, ELEM_LOG2, LEN, the alignment of an index table. -/
def dShapeOk (d : BitVec 256) : Bool :=
  if dOp d = 0 then true
  else if dOp d > 4 then false
  else if dOp d = 4 then
    decide (dElem d ≤ 12) && decide (1 ≤ dLen d) && decide (dLen d ≤ 16777216) && decide (dBytes d ≤ 0xFFFFFFFF) &&
      decide (dSrc d % 4 = 0)
  else decide (1 ≤ dLen d)

/-- Is the session a buffer is charged to protected? -/
def bufProt (s : State) (h : Nat) : Option Nat :=
  match (bufOf s (hKey h)).sid with
  | none => none
  | some x => if (sessOf s x).protected' then some x else none

/-- The channel kind allows each space used (R364, R368). -/
def dSpaceOk (c : Nat) (d : BitVec 256) : Bool :=
  (dUses d).all (fun sp => if c < 16 then decide (sp ≤ 1) else decide (sp = 1) || decide (sp = 2))

/-- The checks of R368 on spaces, ranges and protection. -/
def dAccessOk (s : State) (c : Nat) (d : BitVec 256) : Bool :=
  dSpaceOk c d &&
  (dBufs d).all (fun b => decide (b.2.1 + b.2.2.1 ≤ bufSize s b.1)) &&
  (dBufs d).all (fun b =>
    if !b.2.2.2 then true
    else match bufProt s b.1 with
      | none => true
      | some x => decide (dOp d ≠ 3) && decide (dDstSp d = 1) && (bufOf s (hKey (dDst d / 2 ^ 32))).sid == some x)

/-- Take the reference counts of the BUFFER operands through port 11 (R368): the handles held, or none when one is
refused. -/
def dRefs (c : Nat) : List Nat → List Nat → State → Option (List Nat) × State
  | [], got, s => (some got, s)
  | h :: l, got, s =>
    match refCheck s (if c < 16 then 13 else 11) 0 h true false with
    | some k => (none, bpmReject 11 k h (forAll got (dropRef 11) s))
    | none => dRefs c l (h :: got) (bufMod (hKey h) (fun b => { b with refcnt := b.refcnt + 1 }) s)

/-- Element `i` of a GATHER: its index entry. -/
def gIndex (s : State) (d : BitVec 256) (host : List Byte) (i : Nat) : Nat :=
  let b := fun j => (spaceByte s (dSrcSp d) (dSrc d) (4 * i + j) host 0).toNat
  b 0 + b 1 * 2 ^ 8 + b 2 * 2 ^ 16 + b 3 * 2 ^ 24

/-- The first element of a GATHER that lies outside the BASE buffer (R368). -/
def gBad (s : State) (d : BitVec 256) (host : List Byte) : Option Nat :=
  if dSrcSp d ≠ 1 then none
  else (List.range (dLen d)).find? (fun i =>
    decide (dBase d % 2 ^ 32 + (gIndex s d host i + 1) * 2 ^ dElem d > bufSize s (dBase d / 2 ^ 32)))

/-- The bytes an operation would place in its destination (R367). HOST data comes in the order index table, elements, or
source, second operand. -/
def dData (s : State) (d : BitVec 256) (host : List Byte) : List Byte :=
  if dOp d = 1 then
    let above := dSrcSp d = dDstSp d ∧ dSrc d < dDst d ∧ dDst d < dSrc d + dLen d
    if above then freeBytes s.free 0 (dLen d)
    else (List.range (dLen d)).map (fun i => spaceByte s (dSrcSp d) (dSrc d) i host 0)
  else if dOp d = 2 then (List.range (dLen d)).map (fun i => BitVec.ofNat 8 (bitsOf (dSrc d) (8 * (i % 8)) 8))
  else if dOp d = 4 then
    let e := 2 ^ dElem d
    (List.range (dLen d)).flatMap (fun i => (List.range e).map (fun j =>
      if dSrcSp d = 2 then host.getD (4 * dLen d + i * e + j) 0#8
      else spaceByte s (dSrcSp d) (dBase d) (gIndex s d host i * e + j) host 0))
  else []

/-- The lowest differing byte of a COMPARE. -/
def dDiff (s : State) (d : BitVec 256) (host : List Byte) : Option Nat :=
  (List.range (dLen d)).find? (fun i =>
    spaceByte s (dSrcSp d) (dSrc d) i host 0 != spaceByte s (dDstSp d) (dDst d) i host (if dSrcSp d = 2 then dLen d else 0))

/-- Status codes of R370 by cause of error: 0 read, 1 write, 2 fenced-abort, 3 access. -/
def dErrStatus (cause : Nat) : Nat := [0x10, 0x11, 0x12, 0x13].getD cause 0x13

/-- Execute the descriptor at HEAD (R366 to R368, R372, R373). `host` is the HOST data read; `err` the first beat that
failed: its byte offset and cause. The checks run in the order of R368; every error status but a fenced-abort's raises
DMA_XFER (R372). -/
def dmaRun (c : Nat) (d : BitVec 256) (host : List Byte) (err : Option (Nat × Fin 3)) (s : State) : State :=
  let done := fun (e : DmaEnd) (s : State) => dmaMod c (fun ch => { ch with cur := some e, remain := e.remain }) s
  if (dmaOf s c).st ≠ .run ∨ (dmaOf s c).cur ≠ none ∨ !polOpen s 93 ∨ isFatal s then s
  else if !dShapeOk d then done { desc := d, status := 0x14, remain := dLen d } (raise 0x34 c s)
  else if !dSpaceOk c d then done { desc := d, status := 0x13, remain := dLen d } (raise 0x34 c s)
  else
    match dRefs c ((dBufs d).map (·.1)) [] s with
    | (none, s1) => done { desc := d, status := 0x13, remain := dLen d } (raise 0x34 c s1)
    | (some refs, s1) =>
      if !dAccessOk s c d then done { desc := d, status := 0x13, remain := dLen d, refs := refs } (raise 0x34 c s1) else
      let n := dBytes d
      let fencedAt : Option (Nat × Nat) :=
        if (dBufs d).any (fun b => !mcUsable s1 (bufMc s1 (hKey b.1))) then some (0, 2)
        else match err with
          | some (o, k) => if o < n then some (o, k.val) else none
          | none => match (if dOp d = 4 then gBad s1 d host else none) with
            | some i => some (i * 2 ^ dElem d, 3)
            | none => none
      let data := dData s1 d host
      match fencedAt with
      | none =>
        if dOp d = 3 then
          match dDiff s1 d host with
          | none => done { desc := d, refs := refs } s1
          | some i => done { desc := d, status := 0x01, info := i, refs := refs } s1
        else if dOp d = 0 then done { desc := d, refs := refs } s1
        else done { desc := d, refs := refs } (spaceWrite (dDstSp d) (dDst d) data { s1 with free := s1.free + 1 })
      | some (o, k) =>
        let off := dDstOff d
        let beat := (off + o) / 64
        let info := beat * 64 - off
        let last := decide (beat = (off + n - 1) / 64)
        let s2 := if dOp d = 3 then s1 else spaceWrite (dDstSp d) (dDst d) (data.take info) s1
        let s3 := if dOp d = 3 ∨ dDstSp d = 2 then s2
          else spaceWrite (dDstSp d) (dDst d + info) (freeBytes s2.free 0 (n - info)) { s2 with free := s2.free + 1 }
        let rem := if last then 0 else if dOp d = 4 then dLen d - info / 2 ^ dElem d else n - info
        done { desc := d, status := if last then 0x15 else dErrStatus k, cause := if last then k else 0, info := info,
               remain := rem, refs := refs }
          (if k = 2 then s3 else raise 0x34 c s3)

/-- Run a descriptor whose OP is the row's. -/
def dmaOp (op : Nat) (c : Nat) (d : BitVec 256) (host : List Byte) (err : Option (Nat × Fin 3)) (s : State) : State :=
  if dOp d = op ∨ (op = 0 ∧ dOp d > 4) then dmaRun c d host err s else s

/-- DMA_NOP (R366): completes OK; a descriptor of reserved OP comes here too and ends in ERR_DESC (R368). -/
def execDmaNop (c : Fin 32) (desc : BitVec 256) (s : State) : Host.Outcome State Fault Refusal :=
  .next (dmaOp 0 c desc [] none s)
/-- DMA_COPY (R367). -/
def execDmaCopy (c : Fin 32) (desc : BitVec 256) (host : List Byte) (err : Option (Nat × Fin 3)) (s : State) :
    Host.Outcome State Fault Refusal := .next (dmaOp 1 c desc host err s)
/-- DMA_FILL (R367). -/
def execDmaFill (c : Fin 32) (desc : BitVec 256) (err : Option (Nat × Fin 3)) (s : State) :
    Host.Outcome State Fault Refusal := .next (dmaOp 2 c desc [] err s)
/-- DMA_COMPARE (R367). -/
def execDmaCompare (c : Fin 32) (desc : BitVec 256) (host : List Byte) (err : Option (Nat × Fin 3)) (s : State) :
    Host.Outcome State Fault Refusal := .next (dmaOp 3 c desc host err s)
/-- DMA_GATHER (R367). -/
def execDmaGather (c : Fin 32) (desc : BitVec 256) (host : List Byte) (err : Option (Nat × Fin 3)) (s : State) :
    Host.Outcome State Fault Refusal := .next (dmaOp 4 c desc host err s)

/-- The 16 bytes of a completion record as 32-bit words (R370). -/
def dmaRecord (s : State) (c : Nat) (e : DmaEnd) : Tab Nat :=
  let t := devTime s
  putW32 0 (dmaHead s c + e.status * 2 ^ 16 + (b2n (dmaOf s c).phase + e.cause * 2) * 2 ^ 24)
    (putW32 1 e.info (putW64 2 t []))

/-- Bytes of 32-bit words. -/
def wordBytes (t : Tab Nat) : Nat → Nat → List Byte
  | _, 0 => []
  | i, n + 1 =>
    let w := tget 0 t i
    BitVec.ofNat 8 (bitsOf w 0 8) :: BitVec.ofNat 8 (bitsOf w 8 8) :: BitVec.ofNat 8 (bitsOf w 16 8) ::
      BitVec.ofNat 8 (bitsOf w 24 8) :: wordBytes t (i + 1) n

/-- DMA_DESCRIPTOR_DONE (R370, R371, R372, R375, R376): the record, HEAD, the events, HALTED or the hand-over. -/
def execDmaDescriptorDone (c : Fin 32) (s : State) : Host.Outcome State Fault Refusal :=
  let d := dmaOf s c
  .next (match d.cur with
    | none => s
    | some e =>
      if !polOpen s 93 then s else
      let r := dmaRecord s c e
      let a := rget s (aDma c 0x10) / 4096 * 4096 + 16 * dmaHead s c
      let s1 := if c.val < 16 then { s with dram := Memory.writes s.dram a (wordBytes r 0 4) }
        else emit (.hostWr 0 a 16 false r) s
      let head := (dmaHead s c + 1) % 2 ^ dmaLog s c
      let halts := decide (e.status ≥ 0x10) || (decide (e.status = 1) && dStop e.desc)
      let s2 := rset (aDma c 0x18) head (forAll e.refs (dropRef 11) s1)
      let s3 := dmaMod c (fun d => { d with
        cur := none, lastStatus := e.status, phase := if head = 0 then !d.phase else d.phase
        st := if halts then .halted else .run }) s2
      let s4 := if dIrq e.desc then rfset (aDma c 0x04) 4 1 1 s3 else s3
      let s5 := if halts then rfset (aDma c 0x04) 5 1 1 s4 else s4
      let s6 :=
        if dIrq e.desc || halts then
          let t := pgBlock (pgDma c) s5
          if c.val < 16 then micPulse (168 + c) t
          else if rfld t (aDma c 0x24) 13 1 = 1 then msixSend 0 (rfld t (aDma c 0x24) 8 5) t else t
        else s5
      if halts then s6 else dmaGo c (dmaShadow c s6))

/-- EN of a channel is written 0 (R374). -/
def dmaDisable (req : Req) (c : Fin 32) (s : State) : State :=
  if !dmaFrom s req c ∨ (dmaOf s c).st = .off then s
    else
      let s1 := rfset (aDma c 0) 0 1 0 s
      match (dmaOf s c).cur with
      | none => dmaMod c (fun d => { d with st := .off }) s1
      | some e =>
        let s2 := forAll e.refs (dropRef 11) s1
        let s3 := if dOp e.desc = 3 ∨ dOp e.desc = 0 ∨ dDstSp e.desc = 2 ∨ e.status = 0x13 ∨ e.status = 0x14 then s2
          else spaceWrite (dDstSp e.desc) (dDst e.desc) (freeBytes s2.free 0 (dBytes e.desc)) { s2 with free := s2.free + 1 }
        rfset (aDma c 0x04) 3 1 1 (dmaMod c (fun d => { d with st := .off, cur := none }) s3)

/-- DMA_CH_DISABLE (R374): EN written 0; a descriptor in execution is dropped, its destination undefined. -/
def execDmaChDisable (req : Req) (c : Fin 32) (s : State) : Host.Outcome State Fault Refusal :=
  .next (dmaDisable req c s)

/-- RESUME of a channel is written (R375, R376). -/
def dmaResume (req : Req) (c : Fin 32) (s : State) : State :=
  if !dmaFrom s req c ∨ (dmaOf s c).st ≠ .halted then s
    else dmaGo c (dmaShadow c (dmaMod c (fun d => { d with st := .idle }) s))

/-- DMA_CH_RESUME (R375, R376). -/
def execDmaChResume (req : Req) (c : Fin 32) (s : State) : Host.Outcome State Fault Refusal :=
  .next (dmaResume req c s)

/-- TAIL of a channel is written (R365, R377). -/
def dmaTailWrite (req : Req) (c : Fin 32) (idx : Nat) (s : State) : State :=
  if !dmaFrom s req c ∨ idx ≥ 2 ^ dmaLog s c then s else dmaGo c (rset (aDma c 0x1C) idx s)

/-- DMA_CH_TAIL (R365, R377). -/
def execDmaChTail (req : Req) (c : Fin 32) (idx : Nat) (s : State) : Host.Outcome State Fault Refusal :=
  .next (dmaTailWrite req c idx s)

/-- COMMIT of a channel is written (R376). -/
def dmaCommit (req : Req) (c : Fin 32) (weight : Fin 8) (s : State) : State :=
  let lg := rfld s (aDma c 0x28) 0 4
  if !dmaFrom s req c then s
    else if lg < 4 ∨ lg > 12 then rfset (aDma c 0x3C) 0 3 weight s
    else
      let s1 := dmaMod c (fun d => { d with shadowPend := true }) (rset (aDma c 0x3C) (weight.val + 2 ^ 31) s)
      if (dmaOf s c).st = .idle ∨ (dmaOf s c).st = .off then dmaGo c (dmaShadow c s1) else s1

/-- SHADOW_COMMIT (R376): a write of DMA_CH_SH_CTL with COMMIT and the weight; in IDLE or OFF it applies at once. -/
def execShadowCommit (req : Req) (c : Fin 32) (weight : Fin 8) (s : State) : Host.Outcome State Fault Refusal :=
  .next (dmaCommit req c weight s)

end Sys2Proof.Machine
end

