-- ==== Sys2Proof/Machine/Levels.lean ====
section
/-! DEFINITION. The levels of R114 with the limits the standards give them (PRESUMED from the standards' own tables, which
the spec names and does not print), and the sizes of R78, R83, R123, R162, R167, R206, R207. -/

namespace Sys2Proof.Machine

/-- A level: its code (level × 10), picture size, width and height, luma sample (or macroblock) rate, bit rate, buffer
size, and for AVC the DPB in macroblocks. -/
structure Lvl where
  code : Nat
  ps : Nat
  maxW : Nat
  maxH : Nat
  rate : Nat
  br : Nat
  cpb : Nat
  dpb : Nat
  deriving DecidableEq, Repr

/-- HEVC levels up to 6.1, Main tier, NAL HRD factor 1100; the side limit is that of the square root of 8 × size. -/
def hevcLevels : List Lvl :=
  [⟨10, 36864, 543, 543, 552960, 140800, 385000, 0⟩, ⟨20, 122880, 991, 991, 3686400, 1650000, 1650000, 0⟩,
   ⟨21, 245760, 1402, 1402, 7372800, 3300000, 3300000, 0⟩, ⟨30, 552960, 2103, 2103, 16588800, 6600000, 6600000, 0⟩,
   ⟨31, 983040, 2804, 2804, 33177600, 11000000, 11000000, 0⟩,
   ⟨40, 2228224, 4222, 4222, 66846720, 13200000, 13200000, 0⟩,
   ⟨41, 2228224, 4222, 4222, 133693440, 22000000, 22000000, 0⟩,
   ⟨50, 8912896, 8444, 8444, 267386880, 27500000, 27500000, 0⟩,
   ⟨51, 8912896, 8444, 8444, 534773760, 44000000, 44000000, 0⟩,
   ⟨52, 8912896, 8444, 8444, 1069547520, 66000000, 66000000, 0⟩,
   ⟨60, 35651584, 16888, 16888, 1069547520, 66000000, 66000000, 0⟩,
   ⟨61, 35651584, 16888, 16888, 2139095040, 132000000, 132000000, 0⟩]

/-- AVC levels up to 5.2, High profile NAL HRD factor 1500; sizes in macroblocks. -/
def avcLevels : List Lvl :=
  [⟨10, 99, 28, 28, 1485, 96000, 262500, 396⟩, ⟨11, 396, 56, 56, 3000, 288000, 750000, 900⟩,
   ⟨12, 396, 56, 56, 6000, 576000, 1500000, 2376⟩, ⟨13, 396, 56, 56, 11880, 1152000, 3000000, 2376⟩,
   ⟨20, 396, 56, 56, 11880, 3000000, 3000000, 2376⟩, ⟨21, 792, 79, 79, 19800, 6000000, 6000000, 4752⟩,
   ⟨22, 1620, 113, 113, 20250, 6000000, 6000000, 8100⟩, ⟨30, 1620, 113, 113, 40500, 15000000, 15000000, 8100⟩,
   ⟨31, 3600, 169, 169, 108000, 21000000, 21000000, 18000⟩, ⟨32, 5120, 202, 202, 216000, 30000000, 30000000, 20480⟩,
   ⟨40, 8192, 256, 256, 245760, 30000000, 37500000, 32768⟩, ⟨41, 8192, 256, 256, 245760, 75000000, 93750000, 32768⟩,
   ⟨42, 8704, 263, 263, 522240, 75000000, 93750000, 34816⟩,
   ⟨50, 22080, 420, 420, 589824, 202500000, 202500000, 110400⟩,
   ⟨51, 36864, 543, 543, 983040, 360000000, 360000000, 184320⟩,
   ⟨52, 36864, 543, 543, 2073600, 360000000, 360000000, 184320⟩]

/-- AV1 levels up to 6.1, Main tier, one second of buffer. -/
def av1Levels : List Lvl :=
  [⟨20, 147456, 2048, 1152, 4423680, 1500000, 1500000, 0⟩, ⟨21, 278784, 2816, 1584, 8363520, 3000000, 3000000, 0⟩,
   ⟨30, 665856, 4352, 2448, 19975680, 6000000, 6000000, 0⟩, ⟨31, 1065024, 5504, 3096, 31950720, 10000000, 10000000, 0⟩,
   ⟨40, 2359296, 6144, 3456, 70778880, 12000000, 12000000, 0⟩,
   ⟨41, 2359296, 6144, 3456, 141557760, 20000000, 20000000, 0⟩,
   ⟨50, 8912896, 8192, 4352, 267386880, 30000000, 30000000, 0⟩,
   ⟨51, 8912896, 8192, 4352, 534773760, 40000000, 40000000, 0⟩,
   ⟨52, 8912896, 8192, 4352, 1069547520, 60000000, 60000000, 0⟩,
   ⟨53, 8912896, 8192, 4352, 1069547520, 60000000, 60000000, 0⟩,
   ⟨60, 35651584, 16384, 8704, 1069547520, 60000000, 60000000, 0⟩,
   ⟨61, 35651584, 16384, 8704, 2139095040, 100000000, 100000000, 0⟩]

/-- The levels of a standard. -/
def levelsOf : Std → List Lvl
  | .av1 => av1Levels | .hevc => hevcLevels | .avc => avcLevels

/-- Width and height as the level tables count them: luma samples (HEVC in whole 8×8 units), or macroblocks for AVC. -/
def lvlDims (std : Std) (w h : Nat) : Nat × Nat :=
  match std with
  | .av1 => (w, h)
  | .hevc => (roundUp w 8, roundUp h 8)
  | .avc => (ceilDiv w 16, ceilDiv h 16)

/-- Does the level take the size, the picture rate, the drain rate and the buffer? -/
def Lvl.meets (l : Lvl) (std : Std) (w h num den rd b : Nat) : Bool :=
  let (a, c) := lvlDims std w h
  decide (a * c ≤ l.ps) && decide (a ≤ l.maxW) && decide (c ≤ l.maxH) && decide (a * c * num ≤ l.rate * den) &&
    decide (rd ≤ l.br) && decide (b ≤ l.cpb)

/-- Most reference slots the level's decoded picture buffer allows (R114). -/
def Lvl.slots (l : Lvl) (std : Std) (w h : Nat) : Nat :=
  let (a, c) := lvlDims std w h
  match std with
  | .av1 => 8
  | .avc => min 16 (l.dpb / max 1 (a * c))
  | .hevc =>
    (if 4 * (a * c) ≤ l.ps then 16 else if 2 * (a * c) ≤ l.ps then 12 else if 4 * (a * c) ≤ 3 * l.ps then 8 else 6) - 1

/-- The level R114 chooses, with the reference slots it leaves: the lowest that meets every limit, else the lowest that
meets all but the picture buffer. A level asked for must be that one or a higher one that meets them. -/
def chooseLevel (std : Std) (w h num den rd b slots : Nat) (asked : Option Nat) : Option (Nat × Nat) :=
  let ok := (levelsOf std).filter (fun l => l.meets std w h num den rd b)
  let low := match ok.find? (fun l => decide (slots ≤ l.slots std w h)) with
    | some l => some l
    | none => ok.head?
  match low, asked with
  | none, _ => none
  | some l, none => some (l.code, min slots (l.slots std w h))
  | some l, some c =>
    match ok.find? (fun k => k.code == c) with
    | some k => if c ≥ l.code then some (c, min slots (k.slots std w h)) else none
    | none => none

/-- Bytes of a pixel column of the first plane (R78). -/
def srcBytes (fmt : Nat) : Nat := if fmt = 0 then 1 else if fmt = 1 then 2 else 4
/-- S_Y (R78). -/
def strideY (fmt w : Nat) : Nat := roundUp (w * srcBytes fmt) 256
/-- H_A (R78). -/
def alignH (h : Nat) : Nat := roundUp h 64
/-- End of the last source plane (R78). -/
def planesEnd (fmt w h : Nat) : Nat := strideY fmt w * alignH h * (if fmt = 2 then 2 else 3) / 2
/-- O_H (R78). -/
def hintOff (fmt w h : Nat) : Nat := roundUp (planesEnd fmt w h) 4096
/-- S_H (R78). -/
def hintStride (w : Nat) : Nat := roundUp (ceilDiv w 16 * 8) 256
/-- B (R78). -/
def pictureBuf (fmt w h : Nat) : Nat := roundUp (hintOff fmt w h + hintStride w * (alignH h / 16)) (2 * 2 ^ 20)
/-- The window length in 2 MiB units (R78). -/
def windowUnits (fmt w h : Nat) (rowStream : Bool) : Nat :=
  pictureBuf fmt w h / (2 * 2 ^ 20) * (if rowStream then 1 else 2) + 1

/-- U of R162: packing units. -/
def packUnits (w h : Nat) : Nat := ceilDiv w 64 * ceilDiv h 64
/-- Size of a slot buffer (R162). -/
def slotBufSize (std : Std) (depth w h : Nat) (enc : Bool) : Nat :=
  let u := packUnits w h
  let st := if std = .av1 then 24 * 1024 else 0
  roundUp (roundUp (256 + 2 * u) 4096 + 1024 * u + st + u * (if depth = 8 then 6144 else 7680) +
    (if enc then 1280 * u else 0)) 65536
/-- Packed reference size (R167). -/
def packedSize (std : Std) (w h sectors : Nat) : Nat :=
  256 + 1026 * packUnits w h + (if std = .av1 then 24576 else 0) + 32 * sectors
/-- Bytes of a ring (R83). -/
def ringBytes (depth w bits : Nat) : Nat := roundUp (ceilDiv (depth * w * (if bits = 8 then 12 else 15)) 8) 4096

/-- R_D of a buffer model (R123). -/
def BufModel.rD (m : BufModel) : Nat := if m.mode = 0 then m.rT else m.rP
/-- B of a buffer model (R123), at f = num / den. -/
def BufModel.size (m : BufModel) (num den : Nat) : Nat :=
  if m.tau = 0xFFFFFFFF then m.rD * 2 * den / num else m.rD * m.tau / 1000000
/-- The buffer model area C asks for. -/
def RcSet.model (c : RcSet) : BufModel := { rT := c.rcTarget, rP := c.rcPeak, tau := c.bufDelay, mode := c.rcMode }

/-- Block rows, blocks of a row, rows of the upper band (R88, R196). -/
def Session.nRows (x : Session) : Nat := ceilDiv x.height 64
def Session.nBlk (x : Session) : Nat := ceilDiv x.width 64
def Session.upRows (x : Session) : Nat := ceilDiv x.nRows 2
/-- N_c: refresh units (R144). -/
def Session.refUnits (x : Session) : Nat := ceilDiv x.width (if x.fmt.std = .avc then 16 else 64)

/-- Tiles of a picture on a tandem (R115, R118, R206, R207). -/
def tileCount (std : Std) (rowSlices : Bool) (w h : Nat) : Nat :=
  if std ≠ .av1 then 1
  else
    let n := ceilDiv w 64
    let r := ceilDiv h 64
    let cols := if n ≤ 64 then 1 else 2
    if rowSlices then cols * (if r ≤ 64 then r else ceilDiv r 2)
    else cols * (if ceilDiv n cols * r ≤ 2304 then 1 else 2)

/-- Tile columns of a session's pictures, and the block rows of its tile rows, first and last (R115, R118, R206). -/
def Session.tileCols (x : Session) : Nat := if x.fmt.std = .av1 ∧ x.nBlk > 64 then 2 else 1
def Session.tileRows (x : Session) : List (Nat × Nat) :=
  let r := x.nRows
  if x.fmt.rowSlices then
    let k := if r ≤ 64 then 1 else 2
    (List.range (ceilDiv r k)).map (fun i => (k * i, min (k * i + k) r - 1))
  else if ceilDiv x.nBlk x.tileCols * r ≤ 2304 then [(0, r - 1)] else [(0, x.upRows + 1), (x.upRows + 2, r - 1)]

/-- The order in which the packetiser takes a picture's row notices: tile by tile (R207), as column and row. -/
def Session.noticeOrder (x : Session) : List (Nat × Nat) :=
  if x.tileCols = 1 then (List.range x.nRows).map (fun r => (0, r))
  else x.tileRows.flatMap (fun t => (List.range 2).flatMap (fun c => (List.range (t.2 + 1 - t.1)).map (fun i => (c, t.1 + i))))

/-- Size of the bitstream buffer (R94, R122, R207) under a buffer size B. -/
def bitBufSize (kind : SKind) (std : Std) (rowSlices : Bool) (w h b : Nat) : Nat :=
  (if kind = .tandem then tileCount std rowSlices w h else 1) * ceilDiv b 8

/-- Size of the session's bitstream buffer: by the larger of the model in force and the one that waits (R94). -/
def Session.bitBuf (x : Session) : Nat :=
  bitBufSize x.kind x.fmt.std x.fmt.rowSlices x.width x.height
    (max (x.bm.size x.rateNum x.rateDen) (x.rc.model.size x.rateNum x.rateDen))

/-- Regions of the bitstream buffer, and the size of one (R207). -/
def Session.regions (x : Session) : Nat := if x.kind = .tandem then tileCount x.fmt.std x.fmt.rowSlices x.width x.height else 1
def Session.region (x : Session) : Nat := x.bitBuf / max 1 x.regions

/-- Load of a session (R44): source pixels per second, padding not counted (R27). -/
def loadOf (kind : SKind) (w h num den : Nat) : Nat :=
  ceilDiv (w * h * num) ((if kind = .decode then 2 else 1) * den * 1000000)

/-- Budgeted DRAM demand in eighths of a byte per second (R29, R83, R554). -/
def demandOf (kind : SKind) (w h num den : Nat) (ringSram : Bool) : Nat :=
  ceilDiv (w * h * num * (if kind = .decode then 63 else if ringSram then 66 else 96)) den

end Sys2Proof.Machine
end

