-- ==== Sys2Proof/Machine/Pack.lean ====
section
/-! DEFINITION. The packed reference format (R162 to R166): the layout of a slot buffer, the packing of a unit and its inverse,
motion field entries and the slot header. -/

namespace Sys2Proof.Machine

/-! ### Bits, from bit 0 of byte 0 upward (R166) -/

/-- The low `n` bits of a number, bit 0 first. -/
def lowBits : Nat → Nat → List Bool
  | 0, _ => []
  | n + 1, v => (v % 2 == 1) :: lowBits n (v / 2)

/-- The number of a list of bits, bit 0 first. -/
def bitsNat : List Bool → Nat
  | [] => 0
  | b :: l => b2n b + 2 * bitsNat l

/-- Bytes of a list of bits; `f` bounds their number, and a short last byte is padded with 0 bits. -/
def bitBytes : Nat → List Bool → List Byte
  | 0, _ => []
  | f + 1, l => match l with
    | [] => []
    | _ => BitVec.ofNat 8 (bitsNat (l.take 8)) :: bitBytes f (l.drop 8)

/-- Bits of a list of bytes. -/
def byteBits (l : List Byte) : List Bool := l.flatMap (fun b => lowBits 8 b.toNat)

/-! ### One block of 16×16 samples (R166) -/

/-- The prediction of sample `i` from the samples before it. -/
def packPred (depth : Nat) (xs : List Nat) (i : Nat) : Nat :=
  let a := xs.getD (i - 1) 0
  let b := xs.getD (i - 16) 0
  let c := xs.getD (i - 17) 0
  if i = 0 then 2 ^ (depth - 1)
  else if i < 16 then a
  else if i % 16 = 0 then b
  else if c ≥ max a b then min a b
  else if c ≤ min a b then max a b
  else a + b - c

/-- The residual mapped to m, after wrapping. -/
def packMap (depth x p : Nat) : Nat :=
  let e := (x + 2 ^ depth - p) % 2 ^ depth
  if e < 2 ^ (depth - 1) then 2 * e else 2 * (2 ^ depth - e) - 1

/-- The sample whose residual maps to m. -/
def packUnmap (depth m p : Nat) : Nat :=
  if m % 2 = 0 then (p + m / 2) % 2 ^ depth else (p + 2 ^ depth - (m + 1) / 2) % 2 ^ depth

/-- The code of m under Rice parameter `k`. -/
def riceBits (depth k m : Nat) : List Bool :=
  let q := m / 2 ^ k
  if q < 16 then List.replicate q true ++ false :: lowBits k m else List.replicate 16 true ++ lowBits depth m

/-- The mapped residuals of a block's 256 samples. -/
def packRes (depth : Nat) (xs : List Nat) : List Nat :=
  (List.range 256).map (fun i => packMap depth (xs.getD i 0) (packPred depth xs i))

/-- Bits the codes of a block take with parameter `k`. -/
def riceLen (depth k : Nat) (ms : List Nat) : Nat :=
  (ms.map (fun m => if m / 2 ^ k < 16 then m / 2 ^ k + 1 + k else 16 + depth)).sum

/-- The parameter with the fewest bits, ties going to the lower. -/
def riceBest (depth : Nat) (ms : List Nat) : Nat :=
  (List.range 12).foldl (fun b k => if riceLen depth k ms < riceLen depth b ms then k else b) 0

/-- A block's bits: coded, or raw when that is no longer. -/
def packBlock (depth : Nat) (xs : List Nat) : List Bool :=
  let ms := packRes depth xs
  let k := riceBest depth ms
  if riceLen depth k ms ≥ 256 * depth then lowBits 4 15 ++ ((List.range 256).map (fun i => lowBits depth (xs.getD i 0))).flatten
  else lowBits 4 k ++ (ms.map (riceBits depth k)).flatten

/-- Take `n` bits. -/
def takeBits' (n : Nat) (l : List Bool) : Nat × List Bool := (bitsNat (l.take n), l.drop n)

/-- Count and take the one-bits at the front, at most `f`; a zero-bit that ends them is taken too. -/
def takeOnes : Nat → List Bool → Nat × List Bool
  | 0, l => (0, l)
  | _ + 1, [] => (0, [])
  | f + 1, b :: l => if b then let (n, r) := takeOnes f l; (n + 1, r) else (0, l)

/-- Read one code. -/
def riceRead (depth k : Nat) (l : List Bool) : Nat × List Bool :=
  let (q, r) := takeOnes 16 l
  if q = 16 then takeBits' depth r else let (v, r') := takeBits' k r; (q * 2 ^ k + v, r')

/-- Read `n` samples after those already read. -/
def unpackGo (depth k : Nat) : Nat → List Nat → List Bool → List Nat × List Bool
  | 0, xs, l => (xs, l)
  | n + 1, xs, l =>
    let (m, r) := riceRead depth k l
    unpackGo depth k n (xs ++ [packUnmap depth m (packPred depth xs xs.length)]) r

/-- Read `n` raw samples. -/
def unpackRaw (depth : Nat) : Nat → List Bool → List Nat × List Bool
  | 0, l => ([], l)
  | n + 1, l =>
    let (v, r) := takeBits' depth l
    let (vs, r') := unpackRaw depth n r
    (v :: vs, r')

/-- Read one block. -/
def unpackBlock (depth : Nat) (l : List Bool) : List Nat × List Bool :=
  let (k, r) := takeBits' 4 l
  if k = 15 then unpackRaw depth 256 r else unpackGo depth k 256 [] r

/-! ### A unit (R165, R166) -/

/-- The 16×16 block at column `bx`, row `by'` of a plane `w` samples wide. -/
def planeBlock (w bx by' : Nat) (l : List Nat) : List Nat :=
  (List.range 256).map (fun i => l.getD ((by' * 16 + i / 16) * w + bx * 16 + i % 16) 0)

/-- The 24 blocks of a unit in order. -/
def unitBlocks (u : UnitPix) : List (List Nat) :=
  (List.range 16).map (fun b => planeBlock 64 (b % 4) (b / 4) u.luma) ++
    (List.range 4).map (fun b => planeBlock 32 (b % 2) (b / 2) u.cb) ++
    (List.range 4).map (fun b => planeBlock 32 (b % 2) (b / 2) u.cr)

/-- U_raw (R162). -/
def unitRaw (depth : Nat) : Nat := if depth = 8 then 6144 else 7680

/-- Are all samples of a plane equal? -/
def flatPlane (l : List Nat) : Bool := l.all (fun v => v == l.headD 0)

/-- A packed unit (R165): its length entry and its bytes. -/
def packUnit (depth : Nat) (u : UnitPix) : Nat × List Byte :=
  if flatPlane u.luma && flatPlane u.cb && flatPlane u.cr then
    (1 + 2 ^ 14, bitBytes 32 (lowBits 16 (u.luma.headD 0) ++ lowBits 16 (u.cb.headD 0) ++ lowBits 16 (u.cr.headD 0) ++
      List.replicate 208 false))
  else
    let bits := ((unitBlocks u).map (packBlock depth)).flatten
    let n := ceilDiv bits.length 256
    if 32 * n ≥ unitRaw depth then
      (unitRaw depth / 32 + 2 ^ 15, bitBytes (unitRaw depth) (((u.luma ++ u.cb ++ u.cr).map (lowBits depth)).flatten))
    else (n, bitBytes (32 * n) (bits ++ List.replicate (256 * n - bits.length) false))

/-- Read blocks one after another. -/
def unpackBlocks (depth : Nat) : Nat → List Bool → List (List Nat)
  | 0, _ => []
  | n + 1, l =>
    let (b, r) := unpackBlock depth l
    b :: unpackBlocks depth n r

/-- A plane from its 16×16 blocks in raster order. -/
def blocksPlane (w : Nat) (bs : List (List Nat)) : List Nat :=
  (List.range (w * w)).map (fun i => (bs.getD (i / w / 16 * (w / 16) + i % w / 16) []).getD (i / w % 16 * 16 + i % w % 16) 0)

/-- The samples of a packed unit, from its length entry and its bytes. -/
def unpackUnit (depth entry : Nat) (bytes : List Byte) : UnitPix :=
  let l := byteBits bytes
  if bitAt entry 14 then
    { luma := List.replicate 4096 (bitsNat (l.take 16)), cb := List.replicate 1024 (bitsNat ((l.drop 16).take 16))
      cr := List.replicate 1024 (bitsNat ((l.drop 32).take 16)) }
  else if bitAt entry 15 then
    let vs := (unpackRaw depth 6144 l).1
    { luma := vs.take 4096, cb := (vs.drop 4096).take 1024, cr := vs.drop 5120 }
  else
    let bs := unpackBlocks depth 24 l
    { luma := blocksPlane 64 (bs.take 16), cb := blocksPlane 32 ((bs.drop 16).take 4), cr := blocksPlane 32 (bs.drop 20) }

/-- Sectors a length entry names (R165). -/
def entrySectors (entry : Nat) : Nat := entry % 512

/-- Samples beyond the picture repeat the nearest edge sample of the plane before packing (R165): a plane `w` samples wide
whose first `cw` columns and `ch` rows lie in the picture. -/
def padPlane (w cw ch : Nat) (l : List Nat) : List Nat :=
  (List.range (w * w)).map (fun i => l.getD (min (i / w) (ch - 1) * w + min (i % w) (cw - 1)) 0)

/-- A unit padded for a coded size of `w` × `h` (R165), `n` units wide; samples are within the bit depth. -/
def padUnit (depth w h n : Nat) (u : UnitPix) : UnitPix :=
  let cw := min 64 (w - u.unit % max 1 n * 64)
  let ch := min 64 (h - u.unit / max 1 n * 64)
  let fit := fun l : List Nat => l.map (fun v => v % 2 ^ depth)
  { unit := u.unit, luma := padPlane 64 cw ch (fit u.luma), cb := padPlane 32 (ceilDiv cw 2) (ceilDiv ch 2) (fit u.cb)
    cr := padPlane 32 (ceilDiv cw 2) (ceilDiv ch 2) (fit u.cr) }

/-! ### The layout of a slot buffer (R162) -/

/-- A_M. -/
def slotMotion (u : Nat) : Nat := roundUp (256 + 2 * u) 4096
/-- A_S. -/
def slotSaved (u : Nat) : Nat := slotMotion u + 1024 * u
/-- A_D. -/
def slotData (std : Std) (u : Nat) : Nat := slotSaved u + (if std = .av1 then 24 * 1024 else 0)
/-- Start of the decimations of an encode session. -/
def slotDec (std : Std) (depth u : Nat) : Nat := slotData std u + u * unitRaw depth

/-- A number as `n` little-endian bytes. -/
def leN (n v : Nat) : List Byte := (List.range n).map (fun i => BitVec.ofNat 8 (bitsOf v (8 * i) 8))

/-- A vector component in 16 bits. -/
def vec16 (v : Int) : Nat := (v % 65536).toNat

/-- A motion field entry (R164), as a 128-bit number; list references are indexes. -/
def motionEntry (m : PredMode) : Nat :=
  match m with
  | .intra _ _ => 0xFF * 2 ^ 64 + 0xFF * 2 ^ 72 + 2 ^ 80
  | .inter _ l0 l1 =>
    let part := fun (r : Option (Nat × Vec)) (at' idx : Nat) => match r with
      | none => 0xFF * 2 ^ idx
      | some (i, v) => vec16 v.x * 2 ^ at' + vec16 v.y * 2 ^ (at' + 16) + i % 256 * 2 ^ idx
    part l0 0 64 + part l1 32 72

/-- The prediction block that covers a luma position. -/
def predAt (l : List Pred) (x y : Nat) : Option Pred :=
  l.find? (fun p => decide (p.x ≤ x) && decide (x < p.x + p.w) && decide (p.y ≤ y) && decide (y < p.y + p.h))

/-- A reference as the slot header names it (R163). -/
def refWord (r : Option (Nat × Bool)) : Nat := match r with
  | none => 0xFFFFFFFF
  | some (o, long) => o % 2 ^ 31 + b2n long * 2 ^ 31

/-- What the slot header says of a picture (R163). -/
structure SlotHdr where
  picNum : Nat := 0
  order : Nat := 0
  width : Nat := 0
  height : Nat := 0
  depth : Nat := 8
  ftype : Nat := 0
  concealed : Bool := false
  damaged : Bool := false
  grey : Bool := false
  sectors : Nat := 0
  l0 : List (Nat × Bool) := []
  l1 : List (Nat × Bool) := []
  deriving DecidableEq, Repr

/-- The 256 bytes of the slot header (R163). -/
def slotHeader (h : SlotHdr) : List Byte :=
  let ws := [h.picNum, h.order, h.width % 2 ^ 16 + h.height % 2 ^ 16 * 2 ^ 16,
    h.depth + h.ftype * 2 ^ 8 + b2n h.concealed * 2 ^ 16 + b2n h.damaged * 2 ^ 17 + b2n h.grey * 2 ^ 18,
    packUnits h.width h.height, h.sectors] ++ List.replicate 10 0 ++
    (List.range 16).map (fun i => refWord h.l0[i]?) ++ (List.range 16).map (fun i => refWord h.l1[i]?) ++ List.replicate 16 0
  (ws.map (leN 4)).flatten

end Sys2Proof.Machine
end

