-- ==== Sys2Proof/Machine/Place.lean ====
section
/-! DEFINITION. Load, capacity, fit and placement (R44 to R46, R60, R61, R457, R468, R509). -/

namespace Sys2Proof.Machine

/-- Core capacity by gear code (R28, R45, R456), in encode-equivalent Mpixel/s. -/
def gearCap (code : Nat) : Nat := [1000, 857, 750, 600, 500, 375].getD code 0

/-- Is the gear code offered by the grade (R456)? -/
def gearOffered (s : State) (code : Nat) : Bool :=
  decide (code ≤ 5) && decide (code ≠ (if s.board.grade14 then 0 else 1))

/-- One step slower in the part's series; gear 8 has no slower step (R456). -/
def gearSlower (code : Nat) : Nat := if code = 0 then 2 else min 5 (code + 1)

/-- One step faster in the part's series (R456, R466). -/
def gearFaster (s : State) (code : Nat) : Nat :=
  if code ≤ 1 then code else if code = 2 then (if s.board.grade14 then 1 else 0) else code - 1

/-- Address of PWR_PEL_CTRL of a peloton (R486). -/
def aPelCtrl (p : Nat) : Nat := 0x2100 + 0x20 * p
/-- COMMIT (R457). -/
def commitOf (s : State) (p : Nat) : Nat := rfld s (aPelCtrl p) 0 3

/-- The slowest cap in force, if any (R458, R468). -/
def slowCap (g : Gear) : Option Nat :=
  let l := [g.thermal, g.droop, g.headroom].filterMap id
  match l with
  | [] => none
  | x :: xs => some (xs.foldl max x)

/-- The caps with a GEAR_SET in force counted as one (R460, R468). -/
def slowCapMan (s : State) (p : Nat) : Option Nat :=
  let c := rget s (aPelCtrl p)
  let man := if bitAt c 3 then some (bitsOf c 4 3) else none
  match slowCap (gearOf s p), man with
  | none, m => m
  | some a, none => some a
  | some a, some b => some (max a b)

/-- Is the peloton in the overload condition of R468? -/
def overCond (s : State) (p : Nat) : Bool :=
  match slowCapMan s p with
  | none => false
  | some c => decide (c > commitOf s p)

/-- The gear at which admission counts the peloton (R457, R468). -/
def admitGear (s : State) (p : Nat) : Nat :=
  match slowCapMan s p with
  | none => commitOf s p
  | some c => max c (commitOf s p)

/-- States in which a session's binding is live (R512). -/
def SState.live : SState → Bool
  | .bound | .active | .quiescing | .quiesced | .sealing => true
  | _ => false

/-- Sessions bound to a core; those of a tandem count on both its cores (R507). -/
def coreSessions (s : State) (c : Nat) : List (Nat × Session) :=
  s.sess.filter (fun p => p.2.st.live && (p.2.core == c || (p.2.kind == .tandem && p.2.core == c / 2 * 2)))

/-- Admitted load of a core (R44, R507). -/
def coreLoad (s : State) (c : Nat) : Nat := ((coreSessions s c).map (fun p => p.2.load)).sum

/-- Is the core one of a joined pair? -/
def inTandem (s : State) (c : Nat) : Bool := (pairOf s (c / 2)).st == .joined

/-- Capacity of a core at the admission gear; a sealed core counts 0 (R509). -/
def coreCap (s : State) (c : Nat) : Nat := if coreUp s c then gearCap (admitGear s (c / 8)) else 0

/-- Does a session of this load and class fit on a single core (R46)? -/
def fitsCore (s : State) (load lc c : Nat) : Bool :=
  let l := coreSessions s c
  coreUp s c && decide ((pairOf s (c / 2)).st = .single) &&
    decide (coreLoad s c + load ≤ gearCap (admitGear s (c / 8))) && decide (l.length < 64) &&
    (decide (lc ≠ 0) || decide ((l.filter (fun p => p.2.lc == 0)).length < 4))

/-- Does a tandem encode session of this load fit on the tandem of even core `c` (R46)? -/
def fitsTandem (s : State) (load c : Nat) : Bool :=
  coreUp s c && coreUp s (c + 1) && decide (c % 2 = 0) && inTandem s c && (coreSessions s c).isEmpty &&
    decide (load ≤ 2 * gearCap (admitGear s (c / 8)))

/-- Fit on a core number, by kind. -/
def fits (s : State) (kind : SKind) (load lc c : Nat) : Bool :=
  match kind with
  | .tandem => fitsTandem s load c
  | _ => fitsCore s load lc c

/-- Load bound to a peloton's cores, a tandem counted once (R509). -/
def pelLoad (s : State) (p : Nat) : Nat :=
  ((s.sess.filter (fun e => e.2.st.live && e.2.core / 8 == p)).map (fun e => e.2.load)).sum

/-- Capacity of a peloton (R60, R509). -/
def pelCap (s : State) (p : Nat) : Nat := ((List.range 8).map (fun i => coreCap s (8 * p + i))).sum

/-- T: the hottest reading (R60, R467). -/
def pelT (s : State) (p : Nat) : Nat := (gearOf s p).temps.foldl max 0

/-- Address of PEL_THERM_STEER. -/
def aSteer (p : Nat) : Nat := 0x40000 + p * 0x1000 + 0xB4

/-- The score of R60 of a peloton with a load added, as a fraction: numerator and denominator. -/
def pelScore (s : State) (p load : Nat) : Nat × Nat :=
  let ts := rfld s (aSteer p) 0 8
  let w := rfld s (aSteer p) 16 12
  let d := ts - 60
  let h := min (pelT s p - 60) d
  let cap := max 1 (pelCap s p)
  (1024 * (pelLoad s p + load) * d + w * h * cap, cap * d)

/-- Order of two fractions. -/
def fracLt (a b : Nat × Nat) : Bool := decide (a.1 * b.2 < b.1 * a.2)

/-- Is the peloton at or above T_steer with W_T nonzero (R60)? -/
def pelHot (s : State) (p : Nat) : Bool :=
  decide (rfld s (aSteer p) 16 12 ≠ 0) && decide (pelT s p ≥ rfld s (aSteer p) 0 8)

/-- Fit as R60 and R63 see it: no core fits while PEL_PLACE.EXCLUDE of its peloton is 1 (R509). -/
def autoFits (s : State) (kind : SKind) (load lc c : Nat) : Bool :=
  decide (rfld s (0x40000 + c / 8 * 0x1000 + 0xBC) 0 1 ≠ 1) && fits s kind load lc c

/-- Cores of a peloton on which the session fits for R60 and R63. -/
def fitCores (s : State) (kind : SKind) (load lc p : Nat) : List Nat :=
  ((List.range 8).map (8 * p + ·)).filter (autoFits s kind load lc)

/-- The least-loaded core of a list, ties to the lower number (R61). -/
def leastLoaded (s : State) : List Nat → Option Nat
  | [] => none
  | c :: l =>
    match leastLoaded s l with
    | none => some c
    | some d => if coreLoad s c ≤ coreLoad s d then some c else some d

/-- The core R61 binds within the cores that fit. -/
def pickCore (s : State) (kind : SKind) (lc : Nat) (l : List Nat) : Option Nat :=
  match kind with
  | .tandem => l.head?
  | _ =>
    if lc = 0 then
      match leastLoaded s (l.filter (fun c => !((coreSessions s c).any (fun p => p.2.lc == 0)))) with
      | some c => some c
      | none => leastLoaded s l
    else leastLoaded s l

/-- The best peloton of a list: lowest score, ties to the lower number (R60). -/
def bestPel (s : State) (load : Nat) : List Nat → Option Nat
  | [] => none
  | p :: l =>
    match bestPel s load l with
    | none => some p
    | some q => if fracLt (pelScore s q load) (pelScore s p load) then some q else some p

/-- Placement of a session (R60, R61), with an extra condition on the pelotons considered. -/
def placeIn (s : State) (kind : SKind) (load lc : Nat) (pels : List Nat) : Option Nat :=
  let l := pels.filter (fun p => !(fitCores s kind load lc p).isEmpty)
  let cool := l.filter (fun p => !pelHot s p)
  match bestPel s load (if cool.isEmpty then l else cool) with
  | none => none
  | some p => pickCore s kind lc (fitCores s kind load lc p)

/-- Placement over the device. -/
def place (s : State) (kind : SKind) (load lc : Nat) : Option Nat := placeIn s kind load lc (List.range 8)

end Sys2Proof.Machine
end

