-- ==== Sys2Proof/Machine/Watermark.lean ====
section
/-! DEFINITION. The forensic watermark (R324 to R328): payload, codeword, the carrier areas, the steering of one level, and the
vote of the decoder. -/

namespace Sys2Proof.Machine

/-- The payload P of a session (R324). -/
def wmPayload (cdid sid epoch : Nat) : Nat := cdid % 2 ^ 12 * 2 ^ 52 + sid % 2 ^ 12 * 2 ^ 40 + epoch % 2 ^ 40

/-- One bit of the CRC-16 of R324: polynomial 0x1021, no reflection. -/
def crcBit (c : Nat) (b : Bool) : Nat :=
  let top := bitAt c 15 != b
  let sh := c * 2 % 2 ^ 16
  if top then sh ^^^ 0x1021 else sh

/-- The CRC over the bits of a byte, most significant first. -/
def crcByte (c byte : Nat) : Nat := (List.range 8).foldl (fun c i => crcBit c (bitAt byte (7 - i))) c

/-- The CRC over the 8 bytes of P, least significant byte first, from 0xFFFF (R324). -/
def wmCrc (p : Nat) : Nat := (List.range 8).foldl (fun c i => crcByte c (bitsOf p (8 * i) 8)) 0xFFFF

/-- The 80-bit codeword C (R324). -/
def wmCode (p : Nat) : Nat := p % 2 ^ 64 + wmCrc p * 2 ^ 64

/-- The 16-byte block of a carrier area that AES-256 under K_wm maps to h, as a little-endian number (R326). -/
def wmBlock (ax ay w h : Nat) : Nat :=
  ax % 2 ^ 16 + ay % 2 ^ 16 * 2 ^ 16 + w % 2 ^ 16 * 2 ^ 32 + h % 2 ^ 16 * 2 ^ 48 + 0x57 * 2 ^ 64

/-- Bit index and key bit of an area with value h (R326). -/
def wmIndex (h : Nat) : Nat := h % 2 ^ 16 * 80 / 2 ^ 16
def wmKeyBit (h : Nat) : Bool := bitAt h 31

/-- The target bit of an area (R327 step 1). -/
def wmTarget (p h : Nat) : Bool := bitAt (wmCode p) (wmIndex h) != wmKeyBit h

/-- A counted level of an area: its value, and |c| / Qstep in a fine unit `one` (R327). -/
structure WmLevel where
  level : Int
  coef : Nat
  deriving DecidableEq, Repr

/-- Squared difference of a magnitude from |c| / Qstep. -/
def wmErr (one m coef : Nat) : Int := ((m * one : Nat) - (coef : Int)) * ((m * one : Nat) - (coef : Int))

/-- The magnitude a level may change to: 1 becomes 2, another whichever neighbour lies nearer (R327 step 3). -/
def wmNext (one : Nat) (l : WmLevel) : Nat :=
  let m := l.level.natAbs
  if m ≤ 1 then 2 else if wmErr one (m - 1) l.coef < wmErr one (m + 1) l.coef then m - 1 else m + 1

/-- The increase in squared difference of that change. -/
def wmCost (one : Nat) (l : WmLevel) : Int := wmErr one (wmNext one l) l.coef - wmErr one l.level.natAbs l.coef

/-- Index of the cheapest candidate, the earliest in scan order on a tie (R327 step 4). -/
def wmPick (one : Nat) : List WmLevel → Nat → Option (Nat × Int) → Option (Nat × Int)
  | [], _, b => b
  | l :: t, i, b =>
    let here := if l.level = 0 then b else match b with
      | none => some (i, wmCost one l)
      | some (k, c) => if wmCost one l < c then some (i, wmCost one l) else some (k, c)
    wmPick one t (i + 1) here

/-- A level with magnitude `m` and the sign kept. -/
def wmWith (l : WmLevel) (m : Nat) : WmLevel := { l with level := if l.level < 0 then -(m : Int) else m }

/-- Steer an area to a target (R327): with fewer than 3 nonzero levels, or the right parity, nothing changes. -/
def wmSteer (one : Nat) (target : Bool) (ls : List WmLevel) : List WmLevel :=
  let sum := (ls.map (fun l => l.level.natAbs)).sum
  if (ls.filter (fun l => l.level != 0)).length < 3 ∨ decide (sum % 2 = 1) = target then ls
  else match wmPick one ls 0 none with
    | none => ls
    | some (k, _) => ls.mapIdx (fun i l => if i = k then wmWith l (wmNext one l) else l)

/-- What the decoder of R328 reads from an area. -/
def wmVote (h : Nat) (ls : List WmLevel) : Option (Nat × Bool) :=
  if (ls.filter (fun l => l.level != 0)).length < 3 then none
  else some (wmIndex h, decide ((ls.map (fun l => l.level.natAbs)).sum % 2 = 1) != wmKeyBit h)

end Sys2Proof.Machine
end

