-- ==== Sys2Proof/Machine/SessOps.lean ====
section
/-! DEFINITION. The session engine's operations every session command and every row event shares: marks and losses (R168 to
R171), key-picture requests (R150, R151), recorded feedback (R230, R521), the end of a picture with its report and its
completion in submission order (R87, R229, R230, R233), rings and bindings (R36, R62, R83), and what lets the session go
on (R36). -/

namespace Sys2Proof.Machine

/-! ### Answers and requests -/

/-- Strength of an answer (R151). -/
def Answer.rank : Answer → Nat
  | .none => 0 | .reref => 1 | .sweep => 2 | .intra => 3
/-- Code of an answer in KEY_REQUEST, the report and area I: 1 INTRA, 2 SWEEP, 3 REREF. -/
def Answer.code : Answer → Nat
  | .none => 0 | .intra => 1 | .sweep => 2 | .reref => 3
/-- The answer of a code. -/
def answerOf : Nat → Answer
  | 1 => .intra | 2 => .sweep | 3 => .reref | _ => .none
/-- The stronger of two (R151). -/
def Answer.merge (a b : Answer) : Answer := if a.rank < b.rank then b else a
/-- KEY_POLICY and FIR_POLICY values as answers (R121). -/
def policyAns (p : Nat) : Answer := if p = 0 then .intra else if p = 1 then .sweep else .reref

/-- Record a pending request (R150, R151): bit 0 host, 1 PLI, 2 FIR, 3 loss of KR_PEND. -/
def LoopSt.request (l : LoopSt) (bit : Nat) (a : Answer) : LoopSt :=
  { l with
    krHost := l.krHost || decide (bit = 0), krPli := l.krPli || decide (bit = 1), krFir := l.krFir || decide (bit = 2)
    krLoss := l.krLoss || decide (bit = 3), krAns := l.krAns.merge a }
/-- KR_PEND. -/
def LoopSt.krPend (l : LoopSt) : Nat := b2n l.krHost + 2 * b2n l.krPli + 4 * b2n l.krFir + 8 * b2n l.krLoss

/-! ### Slots -/

/-- SHORT or LONG (R173). -/
def Slot8.held (t : Slot8) : Bool := t.term == .short || t.term == .long
/-- The slot becomes LOST (R169). -/
def Slot8.lose (t : Slot8) : Slot8 := { t with term := .lost, acked := false, clean := false }
/-- A slot of the session. -/
def Session.slot (x : Session) (i : Nat) : Slot8 := x.slots.getD i {}
/-- Change a slot. -/
def Session.slotMod (x : Session) (i : Nat) (f : Slot8 → Slot8) : Session :=
  { x with slots := x.slots.mapIdx (fun j t => if j = i then f t else t) }

/-- The cascade of R170. -/
def Session.cascade : Nat → Session → Session
  | 0, x => x
  | n + 1, x =>
    let lost := (x.slots.filter (fun t => t.term == .lost)).map (·.picNum)
    Session.cascade n { x with slots := x.slots.map (fun t =>
      if t.held && !t.acked && t.refs.any (lost.contains ·) then t.lose else t) }

/-- Slots of the session that hold a picture for which `p` holds become LOST, with the cascade and the request of an encode
session (R150, R169, R170); nothing where no slot is hit. -/
def Session.lose (x : Session) (p : Slot8 → Bool) : Session :=
  if !x.slots.any (fun t => t.held && p t) then x
  else
    let x1 := { x with slots := x.slots.map (fun t => if t.held && p t then t.lose else t) }
    if x.kind = .decode then x1
    else
      let x2 := Session.cascade 8 x1
      { x2 with loop := x2.loop.request 3 (policyAns x2.rcNow.keyPolicy) }

/-- The ranking of R173: indices of SHORT and LONG slots by falling picture number. -/
def Session.ranked (x : Session) : List Nat :=
  sortBy (fun a b => decide ((x.slot a).picNum ≥ (x.slot b).picNum))
    ((List.range x.slots.length).filter (fun i => (x.slot i).held))

/-- The newest ACKED slot. -/
def Session.newestAcked (x : Session) : Option Nat := x.ranked.find? (fun i => (x.slot i).acked)

/-- The slot becomes EMPTY and its buffer's count is dropped (R169). -/
def slotEmpty (sid i : Nat) (s : State) : State :=
  let t := (sessOf s sid).slot i
  let s1 := sessMod sid (fun x => x.slotMod i (fun _ => {})) s
  if t.handle = 0 then s1 else dropRef 0 t.handle s1

/-! ### Recorded feedback -/

/-- The pending item an arriving one merges with (R521). -/
def FbKind.sameAs : FbKind → FbKind → Bool
  | .ack a, .ack b => a == b
  | .loss a, .loss b => a == b
  | .pli, .pli => true
  | .fir _ _, .fir _ _ => true
  | .keyReq _, .keyReq _ => true
  | .setRc _, .setRc _ => true
  | _, _ => false
/-- What the pending item becomes (R521); `pol` is the answer of a host request that names none. -/
def FbKind.mergeWith (pol : Answer) : FbKind → FbKind → FbKind
  | .fir _ _, .fir s q => .fir s q
  | .keyReq a, .keyReq b => .keyReq (((if a = .none then pol else a)).merge (if b = .none then pol else b))
  | .setRc _, .setRc r => .setRc r
  | k, _ => k
/-- Is the item a KEY_REQUEST? -/
def FbKind.isKeyReq : FbKind → Bool
  | .keyReq _ => true
  | _ => false
/-- Is the item a SESSION_SET_RC? -/
def FbKind.isSetRc : FbKind → Bool
  | .setRc _ => true
  | _ => false
/-- Is the item a FIR? -/
def FbKind.isFir : FbKind → Bool
  | .fir _ _ => true
  | _ => false
/-- Is the item a report of the rate loop: RR or CCFB? -/
def FbKind.isRate : FbKind → Bool
  | .rr _ _ => true
  | .ccfb .. => true
  | _ => false
/-- Is the item a CCFB? -/
def FbKind.isCcfb : FbKind → Bool
  | .ccfb .. => true
  | _ => false

/-- Take the first item of the list for which `p` holds out of it. -/
def dropFirst {α : Type} (p : α → Bool) : List α → List α
  | [] => []
  | a :: l => if p a then l else a :: dropFirst p l

/-- The holdoff of R154 covers an arrival. -/
def LoopSt.holds (l : LoopSt) (arrival : Nat) : Bool := match l.holdEnd with
  | none => false
  | some t => decide (arrival < t)

/-- KEY_POLICY for a host request that names no answer (R151): a SESSION_SET_RC that stands before the request acts before
it, in arrival order (R157). -/
def Session.hostPolicy (x : Session) : Answer :=
  policyAns (if (x.fb.takeWhile (fun f => !f.kind.isKeyReq)).any (·.kind.isSetRc) then x.rc else x.rcNow).keyPolicy

/-- Record an item in area M (R41, R156, R521). -/
def Session.record (x : Session) (arrival : Nat) (k : FbKind) : Session :=
  let stale := match k with
    | .ack p => !x.slots.any (fun t => t.held && t.picNum == p)
    | .loss p => !x.slots.any (fun t => t.held && t.picNum == p)
    | _ => false
  if stale then { x with loop := { x.loop with ackStale := x.loop.ackStale + 1 } }
  else if x.fb.any (fun f => f.kind.sameAs k) then
    { x with
      fb := x.fb.map (fun f => if f.kind.sameAs k then
        { f with kind := f.kind.mergeWith x.hostPolicy k, hold := f.hold && x.loop.holds arrival } else f)
      loop := { x.loop with fbMerged := x.loop.fbMerged + 1 } }
  else
    let item : FbItem := { arrival := arrival, kind := k, hold := x.loop.holds arrival }
    if x.fb.length < 64 then { x with fb := x.fb ++ [item] }
    else
      let l := if x.fb.any (·.kind.isCcfb) then dropFirst (fun f : FbItem => f.kind.isCcfb) x.fb
        else dropFirst (fun f : FbItem => f.kind.isRate) x.fb
      { x with fb := l ++ [item], loop := { x.loop with fbDropped := x.loop.fbDropped + 1 } }

/-- Type code of a log entry (R230). -/
def FbKind.code : FbKind → Nat
  | .rr _ _ => 0 | .pli => 1 | .fir _ _ => 2 | .ccfb .. => 3 | .ack _ => 4 | .loss _ => 5 | .setRc _ => 6 | .keyReq _ => 7
/-- Bytes 16 to 31 of a log entry (R230). -/
def FbKind.words : FbKind → List Nat
  | .rr _ smp => [smp.getD 0, 0, 0, 0]
  | .ccfb q l e rd _ _ => [q, l, e, rd.getD 0 / 1000]
  | .ack p => [p, 0, 0, 0]
  | .loss p => [p, 0, 0, 0]
  | _ => [0, 0, 0, 0]

/-- The item takes effect at a row: its log entry waits to be written, at most 256 of them (R230, R521). -/
def Session.logItem (x : Session) (f : FbItem) (pic row : Nat) : Session :=
  if x.hs.fblogCount = 0 then x
  else
    let t := clkFmt f.arrival
    let w : FbWait := {
      index := x.hs.fblogNext
      words := [t % 2 ^ 32, t / 2 ^ 32 % 2 ^ 32, pic % 2 ^ 32, row % 2 ^ 12 + f.kind.code * 2 ^ 12] ++ f.kind.words }
    let l := x.loop.fbWait ++ [w]
    let above := decide (l.length > 256)
    { x with
      hs := { x.hs with fblogNext := (x.hs.fblogNext + 1) % 2 ^ 32 }
      loop := { x.loop with fbWait := if above then l.tail else l, fbLost := x.loop.fbLost + b2n above }
      pics := x.pics.map (fun p => if p.num = pic then
          { p with fbFirst := if p.fbCount = 0 then x.hs.fblogNext else p.fbFirst, fbCount := p.fbCount + 1 }
        else p) }

/-! ### Pictures -/

/-- A picture of a session. -/
def Session.pic (x : Session) (num : Nat) : Option Pic := x.pics.find? (fun p => p.num == num)
/-- Change a picture of a session. -/
def picMod (sid num : Nat) (f : Pic → Pic) (s : State) : State :=
  sessMod sid (fun x => { x with pics := x.pics.map (fun p => if p.num = num then f p else p) }) s

/-- Row record `n` of a picture. -/
def Pic.row (p : Pic) (n : Nat) : RowRec := (p.rows.find? (fun r => r.row == n)).getD { row := n }
/-- Change a row record. -/
def Pic.rowMod (p : Pic) (n : Nat) (f : RowRec → RowRec) : Pic :=
  if p.rows.any (fun r => r.row == n) then { p with rows := p.rows.map (fun r => if r.row = n then f r else r) }
  else { p with rows := p.rows ++ [f { row := n }] }

/-- Has the picture started (R36)? -/
def Pic.began (p : Pic) : Bool := p.st == .started || p.st == .sent
/-- Bits of the rows that have left the entropy stage, with the headers (R129). -/
def Pic.leftBits (p : Pic) : Nat := p.hdrBits + ((p.rows.filter (·.left6)).map (·.bits)).sum

/-- QP of a report byte: the AV1 qindex or the QP. -/
def qp8 (v : Nat) : Nat := v % 256

/-- The 64 words of a picture's report (R230). -/
def reportWords (x : Session) (p : Pic) : Tab Nat :=
  let size := if p.status = 0 then 8 * p.bytes else p.leftBits
  let w := fun i v t => putW32 i v t
  let cap := clkFmt p.capture
  w 0 p.num <| w 1 size <| w 2 p.t <| w 3 p.h <| w 4 (p.dRow0 / 256) <| w 5 (p.dNRow0 / 256) <|
  w 6 ((p.aRow0 / 256) % 2 ^ 32).toNat <| w 7 x.loop.rnet <| w 8 x.loop.srtt <|
  w 9 (p.kEnd % 2 ^ 16 + qp8 p.qp0 * 2 ^ 16 + qp8 p.qpLow * 2 ^ 24) <|
  w 10 (qp8 p.qpHigh + p.forced % 256 * 2 ^ 8 + p.skipped % 256 * 2 ^ 16 + p.sweepK % 64 * 2 ^ 24 + b2n p.inSweep * 2 ^ 30) <|
  w 11 (p.krMask + p.answer.code * 2 ^ 4 + x.loop.krDropped % 2 ^ 16 * 2 ^ 16) <|
  w 12 (((p.refMask.map (2 ^ ·)).sum) % 256 + p.target % 8 * 2 ^ 8) <| w 13 x.loop.fbLost <| w 14 p.fbFirst <|
  w 15 p.fbCount <| w 16 (cap % 2 ^ 32) <| w 17 (cap / 2 ^ 32) []

/-- The host writes that go immediately before a picture's completion: log entries up to those it counts, and its report
(R230, R231, R239). -/
def pictureWrites (x : Session) (p : Pic) : List Out :=
  let logs := (x.loop.fbWait.filter (fun f => decide (f.index < p.fbFirst + p.fbCount))).map (fun f =>
    Out.hostWr x.owner (x.hs.fblogBase + 32 * (f.index % max 1 x.hs.fblogCount)) 32 false (tputs [] 0 f.words))
  let rep := Out.hostWr x.owner (x.hs.reportBase + 256 * (p.num % max 1 x.hs.reportCount)) 256 false (reportWords x p)
  logs ++ (if x.hs.reportCount = 0 then [] else [rep])

/-- NOTES of a picture completion (R229). -/
def Pic.notes (p : Pic) : Nat :=
  b2n p.overrun + 2 * b2n p.srcOver + 4 * b2n p.concealed + 8 * b2n p.damaged + 16 * b2n p.shownExisting + 32 * b2n p.grey +
    64 * b2n p.key + 128 * b2n p.sweepStart + 256 * b2n (p.answer == .reref) + 512 * b2n p.demoted

/-- What a picture's completion carries (R229). -/
def picRes (sid : Nat) (x : Session) (p : Pic) : Res :=
  if x.kind = .decode then
    { r0 := p.num + p.order % 2 ^ 32 * 2 ^ 32
      r1 := (if p.status = 0 then p.outFrame else 0) + ((p.kinds.map (2 ^ ·)).sum) % 2 ^ 16 * 2 ^ 32
      r2 := p.dmg, r3 := if x.fmt.std = .av1 then p.renderW % 2 ^ 16 + p.renderH % 2 ^ 16 * 2 ^ 16 else 0
      notes := p.notes, sid := some sid, urgent := decide (x.lc = 0) }
  else
    let began := p.rowsWritten > 0
    { r0 := p.num + (if p.status = 0 then p.bytes else ceilDiv p.leftBits 8) % 2 ^ 32 * 2 ^ 32
      r1 := p.num % max 1 x.hs.reportCount + p.handle % 2 ^ 32 * 2 ^ 32
      r2 := if p.departed then clkFmt p.depFirst else 0, r3 := if p.departed then clkFmt p.depLast else 0
      notes := p.notes, sid := some sid, urgent := decide (x.lc = 0)
      pre := if began then pictureWrites x p else [] }

/-- Write the completions of ended pictures that no earlier picture holds back (R87, R233); `n` bounds them. -/
def flushPics : Nat → Nat → State → State
  | 0, _, s => s
  | n + 1, sid, s =>
    let x := sessOf s sid
    match x.pics with
    | [] => s
    | p :: l =>
      if p.st ≠ .ended then s
      else
        let r := picRes sid x { p with srcOver := x.ing.lost.any (fun g => g.1 == p.num) }
        let began := decide (p.rowsWritten > 0)
        let s1 := sessMod sid (fun x => { x with
          pics := l
          donePic := p.num
          ing := if x.fmt.rowStream then { x.ing with
              lost := x.ing.lost.filter (fun g => decide (g.1 > p.num)), mixed := x.ing.mixed.filter (fun g => decide (g.1 > p.num)) }
            else x.ing
          loop := if began && x.kind != .decode then
              { x.loop with fbWait := x.loop.fbWait.filter (fun f => decide (f.index ≥ p.fbFirst + p.fbCount)) }
            else x.loop }) s
        let s2 := match p.cmd with
          | none => s1
          | some c =>
            if x.silent then settleDeletes (slotFree (some c) { s1 with out := r.pre.reverse ++ s1.out })
            else complete c p.status r s1
        flushPics n sid s2

/-- Completions in order, as far as they can go. -/
def flushAll (sid : Nat) (s : State) : State := flushPics ((sessOf s sid).pics.length) sid s

/-- Drop the counts a picture took on its captured references (R161). -/
def dropCaptured (sid num : Nat) (s : State) : State :=
  match (sessOf s sid).pic num with
  | none => s
  | some p =>
    if p.refsDone then s
    else forAll p.captured (fun h s => dropRef 0 h s) (picMod sid num (fun p => { p with refsDone := true }) s)

/-- Lines of row `n` of a picture of the session (R84, R86). -/
def Session.rowLines (x : Session) (n : Nat) : Nat := min 64 (x.height - 64 * n)

/-- The source of a picture is given back: its half is no longer busy (R82), or its lines count as released up to the
lines accepted (R84). -/
def sourceFree (sid num : Nat) (s : State) : State :=
  let x := sessOf s sid
  match x.pic num with
  | none => s
  | some p =>
    if x.kind = .decode then s
    else if x.fmt.rowStream then
      sessMod sid (fun x => { x with ing := { x.ing with dropPics := x.ing.dropPics ++ [num] }.advance }) s
    else
      sessMod sid (fun x => { x with ing := if p.srcIdx = 0 then { x.ing with half0Busy := false }
        else { x.ing with half1Busy := false } }) s

/-- Has the last block row of a picture left stage 1? -/
def Pic.ingested (p : Pic) (rows : Nat) : Bool := (p.row (rows - 1)).left1

/-- Change the bucket entry of a picture (R129). -/
def bktMod (sid num : Nat) (f : Bkt → Bkt) (s : State) : State :=
  sessMod sid (fun x => { x with loop := { x.loop with
    hist := x.loop.hist.map (fun b => if b.num = num then f b else b)
    sExact := match x.loop.hist with
      | b :: _ => if b.num = num then (f b).s else x.loop.sExact
      | [] => x.loop.sExact } }) s

/-- A picture ends before its time with a status: its buffers and source are given back; a started picture ended by a
fence loses its target slot, and its coded size is that of the rows that had left the entropy stage (R36, R82, R84, R129, R161, R210,
R428). The completion follows in order. -/
def endPic (sid num st : Nat) (s : State) : State :=
  let x := sessOf s sid
  match x.pic num with
  | none => s
  | some p =>
    if p.st = .ended then s
    else
      let rows := if x.kind = .decode then max 1 p.nRows else x.nRows
      let s1 := if p.ingested rows then s else sourceFree sid num s
      let s2 := dropCaptured sid num s1
      let s3 := if p.bsBuf ≠ 0 then dropRef 0 p.bsBuf s2 else s2
      let s4 := if x.kind = .decode ∧ !p.ingested rows ∧ p.buf ≠ 0 then dropRef 0 p.buf s3 else s3
      let bound := (sessOf s4 sid).slots.any (fun t => decide (p.slotBuf ≠ 0) && decide (t.handle = p.slotBuf))
      let s5 := if p.slotBuf ≠ 0 ∧ (x.kind = .decode ∨ !p.began) then dropRef 0 p.slotBuf s4 else s4
      let s6 := if st = stFenced ∧ p.began ∧ bound then
          sessMod sid (fun x => x.lose (fun t => decide (t.handle = p.slotBuf))) s5
        else s5
      let s7 := if x.kind = .decode then s6 else bktMod sid num (fun b => { b with s := some p.leftBits }) s6
      picMod sid num (fun p => { p with st := .ended, status := st, bsBuf := 0, slotBuf := 0, outFrame := 0 }) s7

/-! ### Packets and rows of a session -/

/-- Take a session's packets out of every row work queue. -/
def dropPkts (sid : Nat) (s : State) : State :=
  { s with pels := s.pels.map (fun p => (p.1, { p.2 with queue := p.2.queue.filter (fun k => k.sid != sid) })) }

/-- Is a row of the session in a core (in flight or draining)? -/
def rowsIn (s : State) (sid : Nat) : Bool := s.cores.any (fun c => c.2.rows.any (fun r => r.sid == sid))
/-- Is a packet of the session queued? -/
def queued (s : State) (sid : Nat) : Bool := s.pels.any (fun p => p.2.queue.any (fun k => k.sid == sid))

/-- Ask the cores that hold rows of the session to fence it (R405, R407). -/
def askFence (sid : Nat) (s : State) : State :=
  { s with cores := s.cores.map (fun c =>
      if c.2.rows.any (fun r => r.sid == sid) ∧ !c.2.fences.contains sid then (c.1, { c.2 with fences := c.2.fences ++ [sid] })
      else c) }

/-- Class a packet or row is read as (R55). -/
def readAs (lc : Nat) (promoted : Bool) : Nat := if promoted then 1 else lc

/-- Stage 1 takes its next block (R90): unless a block is in it, one of the highest class among the rows in flight, and
within it of the row given to the core first. -/
def stage1Take (c : Core) : Core :=
  if c.rows.any (fun r => decide (r.entered > r.left.getD 0 0)) then c
  else
    let l := c.rows.filter (fun r => r.slot.isSome && decide (r.entered < r.blocks))
    let best := l.foldl (fun b r => match b with
      | none => some r
      | some q =>
        let cr := readAs r.lc r.promoted
        let cq := readAs q.lc q.promoted
        if cr < cq ∨ (cr = cq ∧ r.order < q.order) then some r else some q) (none : Option CoreRow)
    match best with
    | none => c
    | some r => { c with rows := c.rows.map (fun q => if q.order = r.order then { q with entered := q.entered + 1 } else q) }

/-- Take every row of a session out of a core, with its blocks (R210, R407, R427). -/
def Core.dropRows (c : Core) (p : CoreRow → Bool) : Core :=
  let gone := (c.rows.filter p).map (·.order)
  let keep := c.flow.mapIdx (fun i o => (i, o))
  let live := fun n => ((keep.take n).filter (fun e => !gone.contains e.2)).length
  stage1Take { c with
    rows := c.rows.filter (fun r => !p r)
    flow := c.flow.filter (fun o => !gone.contains o)
    pos := c.pos.map live }

/-- Take every packet and row of a session out of the queues and cores (R210, R241, R427). -/
def abandon (sid : Nat) (s : State) : State :=
  let s1 := dropPkts sid s
  { s1 with cores := s1.cores.map (fun c => (c.1, { c.2.dropRows (fun r => r.sid == sid) with
    fences := c.2.fences.filter (· != sid) })) }

/-! ### Rings -/

/-- Ring bytes used in a core's 2,048 KiB (R83). -/
def ringUsed (s : State) (core : Nat) : Nat :=
  ((s.sess.filter (fun p => p.2.ing.ringCore == some core)).map (fun p =>
    ringBytes p.2.fmt.ringDepth p.2.width p.2.fmt.bitDepth)).sum

/-- Requester number of a session's n-th kind of buffer for the BPM (R361). -/
def sessRid (sid n : Nat) : Nat := 2 ^ 20 + sid * 4 + n
/-- Class the BPM counts a session's buffers under (R359). -/
def sessCls (x : Session) : Nat := if x.lc ≤ 1 then 0 else 1

/-- Place the ring of a row-stream session in the core's ring space, else in a frame buffer (R83). -/
def placeRing (sid core : Nat) (s : State) : State :=
  let x := sessOf s sid
  if !x.fmt.rowStream ∨ x.kind ≠ .encode then s
  else
    let b := ringBytes x.fmt.ringDepth x.width x.fmt.bitDepth
    let s0 := sessMod sid (fun x => { x with ing := { x.ing with ringCore := none, inDram := false, ringHandle := 0 } }) s
    if ringUsed s0 core + b ≤ 2048 * 1024 then
      let s1 := if x.ing.ringHandle ≠ 0 then dropRef 0 x.ing.ringHandle s0 else s0
      sessMod sid (fun x => { x with ing := { x.ing with ringCore := some core } }) s1
    else if x.ing.ringHandle ≠ 0 then
      sessMod sid (fun y => { y with ing := { y.ing with inDram := true, ringHandle := x.ing.ringHandle } }) s0
    else
      let (r, s1) := bpmAlloc { ty := .frame, size := b, cls := sessCls x, sid := some sid, owner := x.owner } s0
      sessMod sid (fun y => { y with ing := { y.ing with inDram := true, ringHandle := match r with
        | .ok h => h
        | _ => 0 } }) s1

/-- Source lines of the session that are accepted and not released, as 8-line groups (R83, R84). -/
def Session.liveGroups (x : Session) : List (Nat × Nat) :=
  let g := x.ing
  let grp := fun pic a b => ((List.range (ceilDiv b 8)).filter (fun k => decide (8 * k + 8 > a))).map (fun k => (pic, k))
  if g.relPic < g.writePic then
    grp g.relPic g.relLines x.height ++
      ((List.range (g.writePic - g.relPic - 1)).map (fun i => grp (g.relPic + 1 + i) 0 x.height)).flatten ++
      grp g.writePic 0 g.dbLines
  else grp g.writePic g.relLines g.dbLines

/-! ### Binding -/

/-- Subport a session's packets use names the Ethernet port's polder (R246, R512). -/
def ethPolderOf (sub : Nat) : Nat := if sub < 4 then 91 else 92

/-- EVT_SESSION_MOVED (R236). -/
def evtMoved (sid old new cause : Nat) (s : State) : State :=
  let t := b2n (decide ((sessOf s sid).kind = .tandem))
  evtSess sid 0x0010 1 (old + t * 2 ^ 6 + new * 2 ^ 8 + t * 2 ^ 14 + cause * 2 ^ 16) 0 0 0 0 s

/-- CDID of R35: that of the cluster record, else 0. -/
def cdidOf (s : State) : Nat := match s.sec.cluster with
  | none => 0
  | some (_, _, c, _, _) => c

/-- Name of the watermark key in use (R325): that of the cluster while SEC's working store holds it. -/
def kWm (s : State) : Nat := match s.sec.cluster with
  | some (i, _, _, _, w) => if s.sec.loaded then Config.derive w i else Config.derive 0 0
  | none => Config.derive 0 0

/-- Take the session's keys out of every watermark unit. -/
def wmClear (sid : Nat) (s : State) : State :=
  { s with cores := s.cores.map (fun c => (c.1, { c.2 with wm := terase c.2.wm sid })) }

/-- Load K_wm and P into the watermark units of the session's core or cores (R324, R325); decode sessions carry no watermark. -/
def wmLoad (sid : Nat) (s : State) : State :=
  let x := sessOf s sid
  let one := fun (c : Nat) (s : State) =>
    coreMod c (fun k => { k with wm := tput k.wm sid (kWm s, wmPayload (cdidOf s) sid x.epoch) }) s
  let s1 := wmClear sid s
  if x.kind = .decode then s1
  else if x.kind = .tandem then one (x.core + 1) (one x.core s1)
  else one x.core s1

/-- Bind the session to a core, in the state it then takes. -/
def bindTo (sid core : Nat) (st : SState) (s : State) : State :=
  wmLoad sid (sessMod sid (fun x => { x with st := st, core := core, peloton := core / 8, ethPolder := ethPolderOf x.egress }) s)

/-- The state a session takes when a binding becomes live again: QUIESCED under HELD_Q, ACTIVE with held pictures after a
move other than one from STRANDED, else BOUND (R36). -/
def Session.boundState (x : Session) : SState :=
  if x.heldQ then .quiesced
  else if x.st = .moving then (if x.pics ≠ [] ∧ x.moveFrom ≠ .stranded then .active else .bound)
  else if x.st = .stranded then .bound else x.st

/-- EVT_TANDEM_SPLIT (R236). -/
def evtSplit (k cause : Nat) (s : State) : State := evtPf 0x0021 6 (2 * k + cause * 2 ^ 8) 0 s

/-- Is a session bound to the pair, or stranded from it (R192)? -/
def pairHeld (s : State) (k : Nat) : Bool :=
  s.sess.any (fun p => p.2.st != .free && p.2.st != .exported && p.2.core / 2 == k)

/-- A HALF_FENCED pair that holds no session becomes SINGLE (R192, R211). -/
def pairSettle (k : Nat) (s : State) : State :=
  let p := pairOf s k
  if p.st = .halfFenced ∧ !pairHeld s k then
    evtSplit k (if p.atAdmit then 2 else 1) (pairMod k (fun _ => {}) s)
  else s

/-- The new binding is in effect: state, the pending SESSION_MOVE's completion, the event (R36). -/
def moveEnd (sid cause : Nat) (s : State) : State :=
  let x := sessOf s sid
  let s1 := sessMod sid (fun x => { x with
    st := x.boundState, heldQ := false, pend := .none, pendSlot := none, moveReq := none, moveTo := none }) s
  let s2 := match x.pendSlot with
    | none => s1
    | some c => complete c stOk { sid := some sid } s1
  evtMoved sid x.oldCore x.core cause (pairSettle (x.oldCore / 2) s2)

/-- Class default of NAR_QHIGH, KEY_POLICY, DSCP, ROW_FLUSH and PACE_WINDOW (R49, R121, R247, R515, R524). -/
def narDefault (lc : Nat) : Nat := if lc = 0 then 5 else if lc = 1 then 10 else 25
def keyDefault (lc : Nat) : Nat := if lc ≤ 1 then 2 else 0
def dscpDefault (lc : Nat) : Nat := if lc ≤ 1 then 46 else 0
def paceDefault (lc num den : Nat) : Nat :=
  if lc = 0 then 40 else if lc = 1 then 200 else if lc = 2 then 2000 else min (1000000 * den / max 1 num) 100000

/-- A new latency class, with every field that holds its class default derived again (R62, R524). -/
def Session.setClass (x : Session) (lc : Nat) : Session :=
  let d := x.classDef
  let c := { x.rc with
    narQhigh := if d.contains 0 then narDefault lc else x.rc.narQhigh
    keyPolicy := if d.contains 1 then keyDefault lc else x.rc.keyPolicy }
  let w := { x.nw with
    dscp := if d.contains 2 then dscpDefault lc else x.nw.dscp
    rowFlush := if d.contains 3 then decide (lc ≤ 1) else x.nw.rowFlush
    paceWindow := if d.contains 4 then paceDefault lc x.rateNum x.rateDen else x.nw.paceWindow }
  { x with lc := lc, rc := c, nw := w }

/-- Make a new binding (R36, R62, R65, R83): the ring is placed again and its lines are copied before the binding takes
effect. `lost`: the ring lay in a sealed core. Causes: 0 host, 1 automatic, 2 stranding. -/
def rebind (sid core cause : Nat) (lost : Bool) (s : State) : State :=
  let old := (sessOf s sid).core
  let held := (sessOf s sid).liveGroups
  let src := (sessOf s sid).ing.ringCore
  let s1 := placeRing sid core (bindTo sid core (sessOf s sid).st (sessMod sid (fun x => { x with oldCore := old }) s))
  let x := sessOf s1 sid
  let s2 := if lost then sessMod sid (fun x => { x with ing := { x.ing with lost := x.ing.lost ++ held, ring := [] } }) s1 else s1
  if x.fmt.rowStream ∧ x.kind = .encode ∧ !lost then
    let s3 := sessMod sid (fun x => { x with
      ing := { x.ing with copying := some s.now, copyFrom := src }, nextCause := cause }) s2
    if cause = 0 ∧ x.st = .moving then s3 else moveEnd sid cause s3
  else moveEnd sid cause s2

/-- The core a SESSION_MOVE asks for, or the placement of R60 and R61 (R62). Answers none where the session does not fit. -/
def moveTarget (s : State) (x : Session) (lc : Nat) (req : Option (Option Nat × Option Nat × Option Nat)) : Option Nat :=
  match req with
  | some (_, some c, _) => if fits s x.kind x.load lc c then some c else none
  | some (some p, none, _) => placeIn s x.kind x.load lc [p]
  | _ => place s x.kind x.load lc

/-! ### Budgets -/

/-- Sessions that hold budget: neither FREE, EXPORTED nor CLOSING. -/
def budgeted (s : State) : List (Nat × Session) :=
  s.sess.filter (fun p => p.2.st != .free && p.2.st != .exported && p.2.st != .closing)

/-- Budgeted DRAM demand of the device (R30). -/
def dramDemand (s : State) : Nat :=
  ((budgeted s).map (fun p => let x := p.2
    demandOf x.kind x.width x.height x.rateNum x.rateDen (x.fmt.rowStream && !x.ing.inDram))).sum
/-- 85% of the peak of the controllers in service and not sealed, at their trained rates, in bits per second (R30, R332). -/
def dramLimit (s : State) : Nat :=
  ((List.range 16).map (fun n => if (mcOf s n).inService && polOpen s (72 + n) then (if (mcOf s n).slow then 38400000000 else 76800000000) else 0)).sum
    * 8 * 85 / 100

/-- Egress sums of R31 with session `sid` on a subport at `peak`, whatever it counts at present. -/
def egressOk (s : State) (sid sub peak : Nat) : Bool :=
  let l := (budgeted s).filter (fun p => p.2.kind != .decode && p.1 != sid)
  let on := ((l.filter (fun p => p.2.egress == sub)).map (fun p => p.2.nw.wirePeak)).sum
  let all := (l.map (fun p => p.2.nw.wirePeak)).sum
  decide (on + peak ≤ subRate s sub) && decide (all + peak ≤ 800000000000)

/-- May a session whose Ethernet polder is sealed use its ALT_PORT (R246): enabled, its polder open? -/
def altOpen (s : State) (x : Session) : Bool :=
  decide (x.nw.altPort < 8) && decide (subRate s x.nw.altPort ≠ 0) && polOpen s (ethPolderOf x.nw.altPort)

/-- Checks 5 to 7 of R42 for a move to core `c`: the status of the first that fails. The format is what it was, and of the
buffers only that of a ring that moves to DRAM is new (R83). -/
def moveRefused (sid c : Nat) (s : State) : Option Nat :=
  let t := placeRing sid c s
  let x := sessOf t sid
  if dramDemand t > dramLimit t then some stDramBudget
  else if x.kind ≠ .decode ∧ !egressOk t sid x.egress x.nw.wirePeak then some stEgressBudget
  else if x.ing.inDram ∧ x.ing.ringHandle = 0 then some stNoMemory
  else none

/-- A quiesced SESSION_MOVE is carried out: the old binding is released, checks 4 to 7 of R42 run, and a refusal leaves the
session bound where it was (R36, R42, R62). A session whose Ethernet polder is sealed goes to its ALT_PORT (R65, R246; log
37). -/
def doMove (sid : Nat) (s : State) : State :=
  let x := sessOf s sid
  let lc := match x.moveReq with
    | some (_, _, some l) => l
    | _ => x.lc
  let s1 := sessMod sid (fun x => { x with st := .moving }) s
  let back := fun st s => match x.pendSlot with
    | none => s
    | some c => finish c st (sessMod sid (fun y => { y with
        st := x.moveFrom, pend := .none, pendSlot := none, moveReq := none }) s)
  let away := decide (x.kind ≠ .decode) && !polOpen s (ethPolderOf x.egress)
  if away ∧ !altOpen s x then back stFenced s1
  else
    match moveTarget s1 x lc x.moveReq with
    | none => back stNoCapacity s1
    | some c =>
      let s2 := sessMod sid (fun x =>
        let y := if lc = x.lc then x else x.setClass lc
        if away then { y with egress := y.nw.altPort } else y) s1
      match moveRefused sid c s2 with
      | some st => back st s1
      | none => rebind sid c 0 (decide (x.ing.ringCore.any (fun k => !polOpen s k))) s2

/-! ### Sealing of an export and quiescence -/

/-- Image length of an export (R66). -/
def imageLen (x : Session) : Nat :=
  4096 + 8192 + ((x.slots.filter (·.held)).map (·.packed)).sum

/-- The host buffer is compared with the image: SEALING, or QUIESCED with ST_BUFFER_SHORT (R36, R66). -/
def startSeal (sid : Nat) (s : State) : State :=
  let x := sessOf s sid
  let len := imageLen x
  if x.expLen ≥ len then sessMod sid (fun x => { x with st := .sealing }) s
  else
    let s1 := sessMod sid (fun x => { x with st := .quiesced, pend := .none, pendSlot := none }) s
    match x.pendSlot with
    | none => s1
    | some c => complete c stBufferShort { r0 := len, sid := some sid } s1

/-- What the session's work lets it do: leave ACTIVE, or act on its pending command once every started picture has
completed (R36). -/
def settle (sid : Nat) (s : State) : State :=
  let x := sessOf s sid
  match x.st with
  | .active =>
    if x.pics = [] ∧ !rowsIn s sid ∧ !queued s sid then sessMod sid (fun x => { x with st := .bound }) s else s
  | .quiescing =>
    if x.pics.any (·.began) ∨ x.pics.any (fun p => p.st == .ended) then s
    else
      match x.pend with
      | .quiesce =>
        let s1 := sessMod sid (fun x => { x with st := .quiesced, pend := .none, pendSlot := none }) s
        (match x.pendSlot with
         | none => s1
         | some c => complete c stOk { sid := some sid } s1)
      | .move => doMove sid s
      | .exporting => startSeal sid s
      | .none => s
  | _ => s

/-- After pictures have ended: their completions, then what the session may do. -/
def afterEnd (sid : Nat) (s : State) : State := settle sid (flushAll sid s)

/-- The pending command of a session ends with a status (R36). -/
def endPend (sid st : Nat) (s : State) : State :=
  match (sessOf s sid).pendSlot with
  | none => sessMod sid (fun x => { x with pend := .none }) s
  | some c =>
    let s1 := sessMod sid (fun x => { x with pend := .none, pendSlot := none, moveReq := none }) s
    if (sessOf s sid).silent then slotFree (some c) s1 else complete c st { sid := some sid } s1

/-! ### Closing -/

/-- Forget retries of the session's buffers, giving back what they have taken. -/
def dropRetries (sid : Nat) (s : State) : State :=
  forAll [0, 1, 2, 3] (fun n s =>
    match tfind s.bpm.retries (sessRid sid n) with
    | none => s
    | some t =>
      let s1 := ticketsClear (some (sessRid sid n)) { s with bpm := { s.bpm with retries := terase s.bpm.retries (sessRid sid n) } }
      match t.got with
      | none => s1
      | some h => dropRef 0 h s1) s

/-- Give back every buffer and reservation of a session (R36, R66, R72, R169). -/
def releaseSession (sid : Nat) (s : State) : State :=
  let x := sessOf s sid
  let s1 := forAll (List.range x.slots.length) (fun i s => slotEmpty sid i s) s
  let hs := [x.ing.srcBuf0, x.ing.srcBuf1, x.ing.ringHandle].filter (· ≠ 0) ++ x.outs.map (·.1)
  let s2 := forAll hs (fun h s => dropRef 0 h s) s1
  let s3 := forAll x.rsv (fun r s => bpmUnreserve r.1 sid r.2 s) s2
  wmClear sid <| sessMod sid (fun x => { x with
    rsv := [], outs := []
    ing := { x.ing with srcBuf0 := 0, srcBuf1 := 0, ringHandle := 0, ringCore := none } }) (dropRetries sid s3)

/-- Session packets that are discarded count in PKT_CNT[i] (R246, R256, R257, R280). -/
def pktCnt (i n : Nat) (s : State) : State := rcnt (0x220C0 + 4 * i) 0 32 n s

/-- Device time as a 64-bit NTP time stamp (R263). -/
def ntpNow (s : State) : Nat :=
  let ns := devNs s
  ((ns / 1000000000 + 2208988800 - s.time.utc) % 2 ^ 32) * 2 ^ 32 + ns % 1000000000 * 2 ^ 32 / 1000000000

/-- RTP time stamp of a device time (R251). -/
def rtpTs (base ns : Nat) : Nat := (base + ns * 9 / 100000) % 2 ^ 32

/-- Is the next-hop entry of the session valid (R248, R280)? -/
def hopValid (s : State) (x : Session) : Bool := bitAt (rget s (0x22800 + 8 * x.nw.nhIndex)) 48

/-- Bytes of a compound SRTCP packet of the session: SR, SDES, BYE, index and tag, as an IP datagram (R249, R256, R263). -/
def srDatagram (x : Session) (bye : Bool) : Nat :=
  (if x.nw.ipVer = 4 then 28 else 48) + 28 + roundUp (11 + x.nw.cname.length) 4 + (if bye then 8 else 0) + 4 + 16
/-- Bytes of an Ethernet frame that carries a datagram (R249). -/
def frameLen (x : Session) (datagram : Nat) : Nat := max 64 (datagram + 18 + (if bitAt x.nw.vlan 15 then 4 else 0))

/-- Send a compound SRTCP packet of the session (R246, R256, R257, R263): without keys or with the index exhausted it is
counted, on a down link or without a next hop it is discarded. -/
def sendSr (sid : Nat) (bye : Bool) (s : State) : State :=
  let x := sessOf s sid
  if x.keys.send = 0 ∨ x.tr.srtcpIndex ≥ 2 ^ 31 then pktCnt 4 1 s
  else if !(subOf s x.egress).up ∨ !hopValid s x then pktCnt 4 1 s
  else
    ethTx x.egress .rtcp sid x.tr.srtcpIndex (frameLen x (srDatagram x bye))
      (emit (.senderReport sid (ntpNow s) (rtpTs x.nw.tsBase (devNs s)) x.tr.packets x.tr.octets bye)
        (sessMod sid (fun x => { x with tr := { x.tr with srtcpIndex := x.tr.srtcpIndex + 1 } }) s))

/-- SESSION_CLOSE is accepted (R36, R38, R263): the pending command and every picture end with ST_ABORTED; its packets leave the
queues, and its cores are asked to fence it. -/
def closeSession (sid : Nat) (slot : Option Nat) (s : State) : State :=
  let x := sessOf s sid
  let s := if x.kind ≠ .decode ∧ x.st ≠ .exported ∧ x.tr.firstRtp.isSome ∧ x.keys.send ≠ 0 ∧ polOpen s x.ethPolder then
      sendSr sid true s
    else s
  let s1 := endPend sid stAborted (sessMod sid (fun x => { x with
    st := .closing, closeSlot := slot, ing := { x.ing with copying := none, waiting := [] } }) s)
  let s2 := forAll x.pics (fun p s => endPic sid p.num stAborted s) s1
  askFence sid (dropPkts sid (flushAll sid s2))

end Sys2Proof.Machine
end

