-- ==== Sys2Proof/Machine/Source.lean ====
section
/-! DEFINITION. The source of a picture as stage 1 reads it (R73 to R78, R84, R88): samples converted to the encode bit depth
and padded, activities (R107), decimations (R95) and hints (R76). -/

namespace Sys2Proof.Machine

/-! ### Bytes of the window -/

/-- Key of a ring byte of a picture's line (R84): planes 0 luma or RGBA, 1 chroma, 2 hints. -/
def ringAt (x : Session) (num line plane at' : Nat) : Nat :=
  (num * x.height + line) % max 1 x.fmt.ringDepth * 2 ^ 24 + plane * 2 ^ 22 + at'

/-- A byte of line `i` of a plane of a picture's source (R78, R82, R84): of its half, or of the ring. What nothing has
written, and what R80 calls undefined, is free. -/
def srcByte (s : State) (x : Session) (p : Pic) (plane i at' : Nat) : Nat :=
  let sy := strideY x.fmt.srcFmt x.width
  if x.fmt.rowStream then
    let line := i * (if plane = 0 then 1 else if plane = 1 then 2 else 16)
    let k := ringAt x p.num line plane at'
    match (if x.ing.mixed.contains (p.num, line / 8) then none else tfind x.ing.ring k) with
    | some b => b.toNat
    | none => (Config.freeByte (k + 2 ^ 40 * p.num + s.free * 2 ^ 80)).toNat
  else
    let base := if plane = 0 then i * sy else if plane = 1 then sy * alignH x.height + i * sy
      else hintOff x.fmt.srcFmt x.width x.height + i * hintStride x.width
    (bufByte s (hKey (if p.srcIdx = 0 then x.ing.srcBuf0 else x.ing.srcBuf1)) (base + at')).toNat

/-! ### Conversion to the encode bit depth (R75) -/

/-- A 10-bit sample rounded to 8 bits. -/
def to8 (v : Nat) : Nat := min 255 ((v + 2) / 4)

/-- A sample of SRC_FMT 0 or 1 at the encode bit depth. -/
def toDepth (fmt depth v : Nat) : Nat :=
  if fmt = 0 ∧ depth = 10 then v * 4 else if fmt = 1 ∧ depth = 8 then to8 v else v

/-- Sample `k` of a line of SRC_FMT 0 or 1 (R73). -/
def srcSample (s : State) (x : Session) (p : Pic) (plane i k : Nat) : Nat :=
  toDepth x.fmt.srcFmt x.fmt.bitDepth
    (if x.fmt.srcFmt = 0 then srcByte s x p plane i k
     else (srcByte s x p plane i (2 * k) + srcByte s x p plane i (2 * k + 1) * 2 ^ 8) / 2 ^ 6)

/-- A coefficient with 14 fractional bits, rounded half up. -/
def coef14 (num den : Int) : Int := divHalfUp (num * 2 ^ 14) den

/-- K_r and K_b of the declared matrix, in ten-thousandths. -/
def lumaWeights (matrix : Nat) : Int × Int := if matrix = 0 then (2126, 722) else (2627, 593)

/-- Sum of the products, rounded half up, moved by `off` and kept within the bit depth. -/
def mixRgb (depth : Nat) (off : Int) (c v : Int × Int × Int) : Nat :=
  (clampI ((c.1 * v.1 + c.2.1 * v.2.1 + c.2.2 * v.2.2 + 2 ^ 13) / 2 ^ 14 + off) 0 (2 ^ depth - 1)).toNat

/-- Y (0), Cb (1) or Cr (2) of an RGB pixel: limited range spans 219 and 224 steps from 16 at 8 bits, 4 times that at 10;
full range spans all codes. -/
def rgbTo (matrix range depth plane : Nat) (v : Int × Int × Int) : Nat :=
  let (kr, kb) := lumaWeights matrix
  let kg := 10000 - kr - kb
  let four : Int := if depth = 10 then 4 else 1
  let ySpan := if range = 0 then 219 * four else 2 ^ depth - 1
  let cSpan := if range = 0 then 224 * four else 2 ^ depth - 1
  let mid : Int := 2 ^ (depth - 1)
  match plane with
  | 0 => mixRgb depth (if range = 0 then 16 * four else 0)
      (coef14 (kr * ySpan) (10000 * 255), coef14 (kg * ySpan) (10000 * 255), coef14 (kb * ySpan) (10000 * 255)) v
  | 1 => mixRgb depth mid (coef14 (-kr * cSpan) (2 * (10000 - kb) * 255), coef14 (-kg * cSpan) (2 * (10000 - kb) * 255),
      coef14 cSpan (2 * 255)) v
  | _ => mixRgb depth mid (coef14 cSpan (2 * 255), coef14 (-kg * cSpan) (2 * (10000 - kr) * 255),
      coef14 (-kb * cSpan) (2 * (10000 - kr) * 255)) v

/-- An RGBA pixel converted (R73, R75); A is ignored. -/
def rgbaAt (s : State) (x : Session) (p : Pic) (plane k i : Nat) : Nat :=
  let b := fun j => ((srcByte s x p 0 i (4 * k + j) : Nat) : Int)
  rgbTo x.fmt.matrix x.fmt.range x.fmt.bitDepth plane (b 0, b 1, b 2)

/-- Chroma of every pixel filtered by [1, 2, 1]/4 on an even column, edges replicated. -/
def rgbaRow (s : State) (x : Session) (p : Pic) (plane k i : Nat) : Nat :=
  let c := fun j => rgbaAt s x p plane (min j (x.width - 1)) i
  (c (2 * k - 1) + 2 * c (2 * k) + c (2 * k + 1) + 2) / 4

/-- A luma sample of the source, replicated beyond the right and bottom edges (R75, R78, R88). -/
def srcLuma (s : State) (x : Session) (p : Pic) (k i : Nat) : Nat :=
  let k' := min k (x.width - 1)
  let i' := min i (x.height - 1)
  if x.fmt.srcFmt = 2 then rgbaAt s x p 0 k' i' else srcSample s x p 0 i' k'

/-- A chroma sample of the source (`plane` 1 Cb, 2 Cr), replicated likewise. -/
def srcChroma (s : State) (x : Session) (p : Pic) (plane k i : Nat) : Nat :=
  let k' := min k (x.width / 2 - 1)
  let i' := min i (x.height / 2 - 1)
  if x.fmt.srcFmt = 2 then (rgbaRow s x p plane k' (2 * i') + rgbaRow s x p plane k' (2 * i' + 1) + 1) / 2
  else srcSample s x p 1 i' (2 * k' + (plane - 1))

/-! ### Pipeline blocks (R88) -/

/-- Side of a search block and QP unit in luma samples: 64, or the macroblock of AVC (R95, R107). -/
def unitSide (std : Std) : Nat := if std = .avc then 16 else 64

/-- Luma positions of the search blocks of pipeline block `j` of block row `n`: one CTU or superblock, or a run of 16
macroblocks of the stripe in raster order. -/
def blockUnits (std : Std) (w h n j : Nat) : List (Nat × Nat) :=
  if std = .avc then
    let m := ceilDiv w 16
    let total := m * min 4 (ceilDiv h 16 - 4 * n)
    ((List.range 16).map (· + 16 * j)).filterMap (fun k => if k < total then some (k % m * 16, 64 * n + k / m * 16) else none)
  else [(64 * j, 64 * n)]

/-- The samples of a square, in raster order. -/
def square (side : Nat) (f : Nat → Nat → Nat) (x0 y0 : Nat) : List Nat :=
  (List.range (side * side)).map (fun i => f (x0 + i % side) (y0 + i / side))

/-- Variance + 1 of an 8×8 block of a square `side` wide, times 4096 (R107). -/
def act8 (side : Nat) (l : List Nat) (bx by' : Nat) : Nat :=
  let v := (List.range 64).map (fun i => l.getD ((by' * 8 + i / 8) * side + bx * 8 + i % 8) 0)
  64 * (v.map (fun a => a * a)).sum - v.sum * v.sum + 4096

/-- Sum of the activities of a QP unit's 8×8 blocks, times 4096. -/
def unitAct (side : Nat) (l : List Nat) : Nat :=
  ((List.range (side / 8 * (side / 8))).map (fun b => act8 side l (b % (side / 8)) (b / (side / 8)))).sum

/-- The decimation by `k` of a square `side` wide: means of k×k areas of its samples at 8 bits, rounded half up (R95). -/
def decimate (depth side k : Nat) (l : List Nat) : List Nat :=
  let n := side / k
  (List.range (n * n)).map (fun i =>
    let area := (List.range (k * k)).map (fun j =>
      let v := l.getD ((i / n * k + j / k) * side + i % n * k + j % k) 0
      if depth = 10 then to8 v else v)
    (area.sum + k * k / 2) / (k * k))

/-! ### Hints (R76) -/

/-- A signed 16-bit field. -/
def signed16 (v : Nat) : Int := if v % 2 ^ 16 < 2 ^ 15 then (v % 2 ^ 16 : Nat) else (v % 2 ^ 16 : Nat) - 2 ^ 16

/-- The hint entry of the 16×16 block at column `bx` and row `by'`, if it is used. -/
def hintAt (s : State) (x : Session) (p : Pic) (bx by' : Nat) : Option Hint :=
  if !x.fmt.hintEn ∨ bx ≥ ceilDiv x.width 16 ∨ by' ≥ ceilDiv x.height 16 then none
  else
    let v := ((List.range 8).map (fun i => srcByte s x p 2 by' (8 * bx + i) * 2 ^ (8 * i))).sum
    if bitAt v 48 then some { v := { x := signed16 (bitsOf v 0 16), y := signed16 (bitsOf v 16 16) }, depth := bitsOf v 32 16, x := bx, y := by' }
    else none

/-- The valid hints of an area of 16×16 blocks. -/
def hintsIn (s : State) (x : Session) (p : Pic) (bx by' w h : Nat) : List Hint :=
  (List.range (w * h)).filterMap (fun i => hintAt s x p (bx + i % max 1 w) (by' + i / max 1 w))

/-- Lower median of integers. -/
def medianOf (l : List Int) : Int := (sortBy (fun a b => decide (a ≤ b)) l).getD ((l.length - 1) / 2) 0
/-- Component-wise median of vectors, if there is any. -/
def medianVec (l : List Vec) : Option Vec :=
  if l = [] then none else some { x := medianOf (l.map (·.x)), y := medianOf (l.map (·.y)) }

/-- What stage 1 makes of block `j` of block row `n` (R89). -/
def readBlock (s : State) (x : Session) (p : Pic) (n j : Nat) : BlkData :=
  let side := unitSide x.fmt.std
  let us := blockUnits x.fmt.std x.width x.height n j
  let lum := us.map (fun u => square side (srcLuma s x p) u.1 u.2)
  { luma := lum, cb := us.map (fun u => square (side / 2) (srcChroma s x p 1) (u.1 / 2) (u.2 / 2))
    cr := us.map (fun u => square (side / 2) (srcChroma s x p 2) (u.1 / 2) (u.2 / 2))
    acts := lum.map (unitAct side), dec1 := lum.map (decimate x.fmt.bitDepth side 4), dec2 := lum.map (decimate x.fmt.bitDepth side 2)
    hints := (us.map (fun u => hintsIn s x p (u.1 / 16) (u.2 / 16) (side / 16) (side / 16))).flatten
    rowHint := if j = 0 then medianVec ((hintsIn s x p 0 (4 * n) (ceilDiv x.width 16) 4).map (·.v)) else none }

/-- QP units' 8×8 blocks of a picture. -/
def Session.actBlocks (x : Session) : Nat :=
  if x.fmt.std = .avc then ceilDiv x.width 16 * ceilDiv x.height 16 * 4 else x.nBlk * x.nRows * 64

/-- The mean unit activity of a picture from the sum of its activities (R107), rounded half up. -/
def Session.meanAct (x : Session) (sum : Nat) : Nat :=
  let d := 4096 * max 1 x.actBlocks
  (2 * sum + d) / (2 * d)

/-- round(s × log2(act / A)) within −6 to +6, for act = num / den: the k with 2^(2k−1) ≤ (act/A)^(2s) < 2^(2k+1); the two
sides are never equal (R107). -/
def aqOffset (s num den a : Nat) : Int :=
  if a = 0 then 0
  else
    let up := num ^ (2 * s)
    let down := (den * a) ^ (2 * s)
    let ge := fun k : Int => if 2 * k - 1 ≥ 0 then decide (up ≥ down * 2 ^ (2 * k - 1).toNat) else decide (up * 2 ^ (1 - 2 * k).toNat ≥ down)
    (-6 : Int) + (((List.range 12).map (fun (i : Nat) => (i : Int) - 5)).filter ge).length

/-- The block QP of a unit (R107): `code` is the row's QP or qindex. -/
def blockQp (std : Std) (c : RcSet) (code : Nat) (a : Int) : Nat :=
  (clampI ((code : Int) + (if std = .av1 then 4 * a else a)) c.qpMin c.qpMax).toNat

end Sys2Proof.Machine
end

