-- ==== Sys2Proof/Machine/Motion.lean ====
section
/-! DEFINITION. The motion search (R95 to R102): costs, the coarse window, seeds, levels 1 to 3 and the limits on positions.
Vectors are in quarter luma pixels, but for final vectors, which are in eighths. -/

namespace Sys2Proof.Machine

/-! ### Costs (R95, R103) -/

/-- Qstep of AV1 in 1/32: dc_q / 8 from the 8-bit table, dc_q / 32 from the 10-bit one (R103). -/
def av1Step (depth qindex : Nat) : Nat := Config.dcQ depth qindex * (if depth = 8 then 4 else 1)

/-- The greatest r below 2^n with r^6 ≤ v. -/
def root6 : Nat → Nat → Nat → Nat
  | 0, _, r => r
  | n + 1, v, r => root6 n v (if (r + 2 ^ n) ^ 6 ≤ v then r + 2 ^ n else r)

/-- floor(√λ × b), λ = 0.09 × Qstep², Qstep = 2^((QP − 4)/6) or AV1's step (R103). -/
def rootLambda (std : Std) (depth qp b : Nat) : Nat :=
  if std = .av1 then 3 * b * av1Step depth qp / 320
  else root6 24 ((3 * b) ^ 6 * 2 ^ qp / (10 ^ 6 * 16)) 0

/-- b(d) of a difference from the predictor (R95). -/
def vecBits (v p : Vec) : Nat := 2 * (Nat.log2 ((v.x - p.x).natAbs + 1) + Nat.log2 ((v.y - p.y).natAbs + 1)) + 2

/-- Sum of absolute differences of a square of side `n` against a reference read at a position. -/
def sadAt (n : Nat) (src : List Nat) (ref : Int → Int → Nat) (px py : Int) : Nat :=
  ((List.range (n * n)).map (fun i =>
    ((src.getD i 0 : Nat) - (ref (px + (i % n : Nat)) (py + (i / n : Nat)) : Nat) : Int).natAbs)).sum

/-- The allowed position of least cost, the first found on a tie (R95). -/
def bestOf (ok : Vec → Bool) (cost : Vec → Nat) : List Vec → Option Vec → Option Vec
  | [], b => b
  | v :: l, b => bestOf ok cost l (if !ok v then b else match b with
    | none => some v
    | some w => if cost v < cost w then some v else b)

/-- The positions within ±a × ±b of a centre, line by line. -/
def gridAt (a b : Nat) (c : Vec) : List Vec :=
  (List.range ((2 * a + 1) * (2 * b + 1))).map (fun i =>
    { x := c.x - a + (i % (2 * a + 1) : Nat), y := c.y - b + (i / (2 * a + 1) : Nat) })

/-- x / y to the nearest integer, ties away from zero, for a positive `y`. -/
def divAway (x y : Int) : Int := if x ≥ 0 then (2 * x + y) / (2 * y) else -((2 * -x + y) / (2 * y))

/-- A vector scaled by num / den (R97). -/
def Vec.scale (v : Vec) (num den : Int) : Vec := { x := divAway (v.x * num) den, y := divAway (v.y * num) den }
/-- A vector in units of `k` of its own. -/
def Vec.unit (v : Vec) (k : Int) : Vec := v.scale 1 k
/-- A vector times `k`. -/
def Vec.times (v : Vec) (k : Int) : Vec := { x := v.x * k, y := v.y * k }

/-! ### Reading a reference (R162, R165) -/

/-- A packed unit of a slot buffer. -/
def refUnit (s : State) (x : Session) (k u : Nat) : UnitPix :=
  let total := packUnits x.width x.height
  let e := (bufByte s k (256 + 2 * u)).toNat + (bufByte s k (257 + 2 * u)).toNat * 2 ^ 8
  unpackUnit x.fmt.bitDepth e
    (bufBytes s k (slotData x.fmt.std total + u * unitRaw x.fmt.bitDepth) (min (unitRaw x.fmt.bitDepth) (32 * entrySectors e)))

/-- An integer position clamped to 0 to n − 1. -/
def clampPos (v : Int) (n : Nat) : Nat := (clampI v 0 ((n : Int) - 1)).toNat

/-- A luma sample of a reference at 8 bits; positions outside the picture read its edge. -/
def refLuma (s : State) (x : Session) (k : Nat) (px py : Int) : Nat :=
  let a := clampPos px x.width
  let b := clampPos py x.height
  let v := (refUnit s x k (b / 64 * x.nBlk + a / 64)).luma.getD (b % 64 * 64 + a % 64) 0
  if x.fmt.bitDepth = 10 then to8 v else v

/-- A sample of a reference's decimation by `f` = 4 (level 1) or 2 (level 2). -/
def refDec (s : State) (x : Session) (k f : Nat) (px py : Int) : Nat :=
  let n := 64 / f
  let a := clampPos px (ceilDiv x.width f)
  let b := clampPos py (ceilDiv x.height f)
  let u := b / n * x.nBlk + a / n
  (bufByte s k (slotDec x.fmt.std x.fmt.bitDepth (packUnits x.width x.height) + 1280 * u + (if f = 4 then 0 else 256) +
    b % n * n + a % n)).toNat

/-! ### The limits of R102 and R146 -/

/-- Interpolation taps before and after a sample. -/
def tapsOf (std : Std) : Int × Int := if std = .avc then (2, 3) else (3, 4)

/-- G of R146. -/
def cleanGuard (std : Std) : Nat := if std = .av1 then 16 else 8

/-- Is luma position (a, b) of a reference with extents `ext` in its usable clean region (R146)? -/
def usableAt (x : Session) (ext : List Nat) (a b : Nat) : Bool :=
  if ext.getD (b / 64) 0 = x.refUnits then true
  else
    let g := cleanGuard x.fmt.std
    let lo := (b - g) / 64
    let hi := min (b + g) (x.height - 1) / 64
    let e := ((List.range (hi + 1 - lo)).map (fun i => ext.getD (lo + i) 0)).foldl min x.refUnits
    decide (a + g < unitSide x.fmt.std * e)

/-- May a prediction block at a position of the reference be used (R102): `inside` says the block lies in the clean region. -/
def reachOk (x : Session) (n : Nat) (inside : Bool) (ext : List Nat) (px py : Int) (w h : Nat) : Bool :=
  let (t0, t1) := tapsOf x.fmt.std
  let xl := px - t0
  let xr := px + w - 1 + t1
  let yt := py - t0
  let yb := py + h - 1 + t1
  decide (xl ≥ -64) && decide (xr ≤ (x.width : Int) + 63) && decide (yt ≥ -64) && decide (yb ≤ (x.height : Int) + 63) &&
    (decide (n + 10 ≥ x.nRows) || decide (yb ≤ 64 * ((n : Int) + 10) - 9)) &&
    (!inside ||
      let lo := clampPos yt x.height
      (List.range (clampPos yb x.height + 1 - lo)).all (fun i => usableAt x ext (clampPos xr x.width) (lo + i)))

/-- The range of vectors a standard codes (R102), in eighths. -/
def vecCodes (std : Std) (v : Vec) : Bool :=
  match std with
  | .avc => decide (-16384 ≤ v.x) && decide (v.x ≤ 16382) && decide (-4096 ≤ v.y) && decide (v.y ≤ 4094)
  | .av1 => decide (v.x.natAbs ≤ 16383) && decide (v.y.natAbs ≤ 16383)
  | .hevc => true

/-! ### Earlier vectors (R96, R97) -/

/-- Vectors of a coded block's prediction blocks within an area: area covered, index of the reference, vector. -/
def areaVecs (m : BlkMot) (x0 y0 side : Nat) : List (Nat × Nat × Vec) :=
  (m.preds.map (fun p =>
    let w := min (p.x + p.w) (x0 + side) - max p.x x0
    let h := min (p.y + p.h) (y0 + side) - max p.y y0
    match p.mode with
    | .intra _ _ => []
    | .inter _ l0 l1 => if w * h = 0 then [] else (l0.toList ++ l1.toList).map (fun r => (w * h, r.1, r.2)))).flatten

/-- The entry that covers the largest area, the first on a tie. -/
def largest : List (Nat × Nat × Vec) → Option (Nat × Nat × Vec) → Option (Nat × Nat × Vec)
  | [], b => b
  | e :: l, b => largest l (match b with
    | none => some e
    | some f => if e.1 > f.1 then some e else b)

/-- The coded blocks of a picture still known. -/
def LoopSt.motOf (l : LoopSt) (num : Nat) : Tab BlkMot := ((l.mots.find? (fun e => e.1 == num)).map (·.2)).getD []
/-- The previous coded picture of a picture, with its coded blocks. -/
def LoopSt.motBefore (l : LoopSt) (num : Nat) : Option (Nat × Tab BlkMot) :=
  match l.mots.dropWhile (fun e => e.1 != num) with
  | [] => l.mots.head?
  | _ :: t => t.head?

/-- Pictures from a reference to a picture. -/
def picDist (num ref : Nat) : Int := (((num + 2 ^ 32 - ref % 2 ^ 32) % 2 ^ 32 : Nat) : Int)

/-- The median of the final vectors of a row's inter blocks for the first reference (R96), in quarters; zero if none. -/
def rowVec (x : Session) (t : Tab BlkMot) (n : Nat) : Vec :=
  let vs := ((List.range x.nBlk).map (fun j => (tget ({} : BlkMot) t (n * x.nBlk + j)).preds.filterMap (fun p =>
    match p.mode with
    | .inter _ (some (0, v)) _ => some v
    | _ => none))).flatten
  ((medianVec vs).getD ({} : Vec)).unit 2

/-- C_n of the coarse window (R96), in quarters: a multiple of 4 pixels within ±256 and ±128. -/
def coarseCentre (x : Session) (p : Pic) (n : Nat) (rowHint : Option Vec) : Vec :=
  let row : Vec := if n ≥ 2 then rowVec x (x.loop.motOf p.num) (n - 2)
    else match x.loop.motBefore p.num with
      | none => {}
      | some e => rowVec x e.2 n
  let d := picDist p.num (p.refs.getD 0 0)
  let hint : Vec := match rowHint with
    | none => row
    | some v => v.scale d 1
  let mid := fun (a b : Int) (lim : Int) => clampI (16 * divAway (a + b) 32) (-lim) lim
  { x := mid row.x hint.x 1024, y := mid row.y hint.y 512 }

/-- A vector kept within the coarse window. -/
def keepWindow (c v : Vec) : Vec := { x := clampI v.x (c.x - 4096) (c.x + 4096), y := clampI v.y (c.y - 2048) (c.y + 2048) }

/-- Keep the seeds that no earlier one is within 2 level-1 pixels of. -/
def apart : List Vec → List Vec → List Vec
  | [], kept => kept
  | v :: l, kept =>
    apart l (if kept.any (fun w => decide ((v.x - w.x).natAbs ≤ 32) && decide ((v.y - w.y).natAbs ≤ 32)) then kept else kept ++ [v])

/-- The seeds of a search block at (x0, y0) for the reference of a rank (R97). -/
def seedsOf (x : Session) (p : Pic) (n j unit x0 y0 rank : Nat) (c : Vec) (hints : List Hint) : List Vec :=
  let side := unitSide x.fmt.std
  let target := picDist p.num (p.refs.getD rank 0)
  let above := if n = 0 then none
    else
      let m := tget ({} : BlkMot) (x.loop.motOf p.num) ((n - 1) * x.nBlk + j)
      match largest ((areaVecs m x0 (y0 - 64) side).filter (fun e => e.2.1 == rank)) none with
      | some e => some (e.2.2.unit 2)
      | none => (m.full.find? (fun f => f.1 == unit && f.2.1 == rank)).map (·.2.2)
  let colo := match x.loop.motBefore p.num with
    | none => none
    | some (num, t) =>
      let m := tget ({} : BlkMot) t (n * x.nBlk + j)
      match largest (areaVecs m x0 y0 side) none with
      | none => none
      | some (_, r, v) =>
        let d := picDist num (m.refs.getD r 0)
        if d = 0 then none else some (v.scale target (2 * d))
  let hint := (medianVec (hints.map (·.v))).map (fun v => v.scale target 1)
  apart ((above.toList ++ colo.toList ++ hint.toList ++ [({} : Vec)]).map (keepWindow c)) []

/-! ### Levels 1 to 3 (R98 to R100) -/

/-- Clean extents of the reference of a rank: as its rows are decided while it is one of the last pictures, else as captured
(R145). -/
def Session.refExtOf (x : Session) (p : Pic) (rank : Nat) : List Nat :=
  ((x.loop.exts.find? (fun e => p.refs[rank]? == some e.1)).map (·.2)).getD (p.refExt.getD rank [])

/-- What one search of a block needs. -/
structure SearchArgs where
  x0 : Nat
  y0 : Nat
  side : Nat
  /-- Source at 8 bits: full, halved and quartered. -/
  full : List Nat
  half : List Nat
  quarter : List Nat
  hints : List Hint
  split : Nat
  centre : Vec
  seeds : List Vec
  deriving DecidableEq, Repr

/-- The results of level 1 in level-1 pixels (R98): `r` reads the decimation, `rate` is M(v), `ok` judges a block. -/
def level1 (a : SearchArgs) (r : Int → Int → Nat) (rate : Vec → Nat) (ok : Int → Int → Nat → Bool) : List Vec :=
  let n := a.side / 4
  let good := fun v : Vec => ok (a.x0 + 4 * v.x) (a.y0 + 4 * v.y) a.side
  let cost := fun v : Vec => 16 * sadAt n a.quarter r ((a.x0 / 4 : Nat) + v.x) ((a.y0 / 4 : Nat) + v.y) + rate (v.times 16)
  let near := a.seeds.flatMap (fun v => gridAt 8 4 (v.unit 16))
  let c := a.centre.unit 16
  let raster := (gridAt 32 16 ({} : Vec)).map (fun v => { x := c.x + 8 * v.x, y := c.y + 8 * v.y : Vec })
  let fine := match bestOf good cost raster none with
    | none => []
    | some v => gridAt 3 3 v
  let all := near ++ raster ++ fine
  match bestOf good cost all none with
  | none => []
  | some b => b :: (bestOf (fun v => good v && (decide ((v.x - b.x).natAbs ≥ 2) || decide ((v.y - b.y).natAbs ≥ 2))) cost all none).toList

/-- A square part of a square of samples. -/
def subSquare (side n ox oy : Nat) (l : List Nat) : List Nat :=
  (List.range (n * n)).map (fun i => l.getD ((oy + i / n) * side + ox + i % n) 0)

/-- Level 2 in level-2 pixels (R99): the vector of the block and those of its quadrants. -/
def level2 (a : SearchArgs) (r : Int → Int → Nat) (rate : Vec → Nat) (ok : Int → Int → Nat → Bool) (coarse : List Vec) :
    Option Vec × List (Option Vec) :=
  let n := a.side / 2
  let cost := fun (n' ox oy : Nat) (v : Vec) =>
    4 * sadAt n' (subSquare n n' ox oy a.half) r ((a.x0 / 2 + ox : Nat) + v.x) ((a.y0 / 2 + oy : Nat) + v.y) + rate (v.times 8)
  let good := fun (n' ox oy : Nat) (v : Vec) => ok (a.x0 + 2 * (ox + v.x)) (a.y0 + 2 * (oy + v.y)) (2 * n')
  let v2 := bestOf (good n 0 0) (cost n 0 0) (coarse.flatMap (fun v => gridAt 3 3 (v.times 2))) none
  let deps := a.hints.map (·.depth)
  let wide := decide (deps.foldl max 0 - deps.foldl min 65535 > a.split)
  let quads := (List.range 4).map (fun q =>
    let ox := q % 2 * (n / 2)
    let oy := q / 2 * (n / 2)
    let own := a.hints.filter (fun h => decide ((16 * h.x - a.x0) / (a.side / 2) = q % 2) && decide ((16 * h.y - a.y0) / (a.side / 2) = q / 2))
    let more := if wide then (match medianVec (own.map (·.v)) with
      | none => []
      | some v => gridAt 2 2 (v.unit 8)) else []
    bestOf (good (n / 2) ox oy) (cost (n / 2) ox oy) ((match v2 with
      | none => []
      | some v => gridAt 2 2 v) ++ more) none)
  (v2, quads)

/-- The squares of a search block that keep a best position: its own size and 32, 16 and 8, as (offset, offset, size). -/
def searchSquares (side : Nat) : List (Nat × Nat × Nat) :=
  ([64, 32, 16, 8].filter (fun n => decide (n ≤ side))).flatMap (fun n =>
    let k := side / n
    (List.range (k * k)).map (fun i => (i % k * n, i / k * n, n)))

/-- Level 3 (R100): the best full-pixel position of every square, in quarters. -/
def level3 (a : SearchArgs) (r : Int → Int → Nat) (rate : Vec → Nat) (ok : Int → Int → Nat → Bool) (v2 : Option Vec)
    (quads : List (Option Vec)) : List (Nat × Nat × Nat × Vec) :=
  let around := fun o : Option Vec => match o with
    | none => []
    | some v => gridAt 2 2 (v.times 2)
  (searchSquares a.side).filterMap (fun (ox, oy, n) =>
    let q := ox / (a.side / 2) + 2 * (oy / (a.side / 2))
    let cands := around v2 ++ (if n = a.side then [] else around (quads.getD q none))
    let cost := fun v : Vec =>
      sadAt n (subSquare a.side n ox oy a.full) r ((a.x0 + ox : Nat) + v.x) ((a.y0 + oy : Nat) + v.y) + rate (v.times 4)
    (bestOf (fun v => ok ((a.x0 + ox : Nat) + v.x) ((a.y0 + oy : Nat) + v.y) n) cost cands none).map (fun v =>
      (a.x0 + ox, a.y0 + oy, n, v.times 4)))

/-- Does search block at column `x0` lie in the clean region of row `n` of the picture (R147)? -/
def insideClean (x : Session) (p : Pic) (n x0 : Nat) : Bool := decide (x0 / unitSide x.fmt.std < p.extents.getD n 0)

/-- The QP a search block is coded with (R107). -/
def unitQp (x : Session) (p : Pic) (n : Nat) (act : Nat) : Nat :=
  let cells := if x.fmt.std = .avc then 4 else 64
  let a := if p.actRef = 0 then 0 else aqOffset x.fmt.aqStrength act (4096 * cells) p.actRef
  blockQp x.fmt.std p.rc (p.row n).code a

/-- The search of one search block in the reference of a rank (R98 to R100). -/
def searchUnit (s : State) (x : Session) (p : Pic) (n j unit rank : Nat) (d : BlkData) (x0 y0 : Nat) (rowHint : Option Vec) : Found :=
  let side := unitSide x.fmt.std
  let k := hKey (p.captured.getD rank 0)
  let ext := x.refExtOf p rank
  let hints := d.hints.filter (fun h => decide (h.x / (side / 16) = x0 / side) && decide (h.y / (side / 16) = y0 / side))
  let centre := coarseCentre x p n rowHint
  let seeds := seedsOf x p n j unit x0 y0 rank centre hints
  let full := (d.luma.getD unit []).map (fun v => if x.fmt.bitDepth = 10 then to8 v else v)
  let a : SearchArgs := {
    x0 := x0, y0 := y0, side := side, full := full, half := d.dec2.getD unit [], quarter := d.dec1.getD unit [], hints := hints
    split := x.fmt.depthSplit, centre := centre, seeds := seeds }
  let qp := unitQp x p n (d.acts.getD unit 0)
  let rate := fun v : Vec => rootLambda x.fmt.std x.fmt.bitDepth qp (vecBits v (seeds.headD ({} : Vec)))
  let ok := fun (px py : Int) (w : Nat) => reachOk x n (insideClean x p n x0) ext px py w w &&
    vecCodes x.fmt.std { x := 8 * (px - x0), y := 8 * (py - y0) }
  let l1 := level1 a (refDec s x k 4) rate ok
  let l2 := level2 a (refDec s x k 2) rate ok l1
  { unit := unit, rank := rank, coarse := l1, mid := l2.1, quads := l2.2, full := level3 a (refLuma s x k) rate ok l2.1 l2.2 }

/-- The search of a pipeline block (R95 to R102), in up to three references by rank. -/
def searchBlock (s : State) (x : Session) (p : Pic) (n j : Nat) (d : BlkData) (rowHint : Option Vec) : List Found :=
  let us := blockUnits x.fmt.std x.width x.height n j
  (List.range us.length).flatMap (fun u => (List.range (min 3 p.refMask.length)).map (fun r =>
    searchUnit s x p n j u r d (us.getD u (0, 0)).1 (us.getD u (0, 0)).2 rowHint))

end Sys2Proof.Machine
end

