-- ==== Sys2Proof/Machine/Content.lean ====
section
/-! DEFINITION. What the rules allow a block to hold (R102, R104 to R106, R108, R115 to R117, R119, R138, R139, R144, R147), and
what they make of it: levels (R109) and watermark steering (R327), filter settings (R110), and the bytes of a row (R112, R113). -/

namespace Sys2Proof.Machine

/-! ### Prediction blocks -/

/-- Sizes of a prediction block (R106, R115 to R117). -/
def predSizes (std : Std) (intra : Bool) : List (Nat × Nat) :=
  match std with
  | .av1 => [(64, 64), (32, 32), (16, 16), (8, 8), (64, 32), (32, 16), (16, 8), (32, 64), (16, 32), (8, 16)]
  | .hevc => [(64, 64), (32, 32), (16, 16), (8, 8)]
  | .avc => if intra then [(16, 16), (8, 8), (4, 4)] else [(16, 16), (16, 8), (8, 16), (8, 8)]

/-- Is the mode intra? -/
def PredMode.isIntra : PredMode → Bool
  | .intra _ _ => true
  | .inter _ _ _ => false

/-- The luma and chroma modes that R104 evaluates, for a block of width `w`. -/
def intraOk (std : Std) (w : Nat) (l : LumaMode) (c : ChromaMode) : Bool :=
  match l with
  | .mode m d =>
    match std with
    | .av1 => decide (m ≤ 12) && decide (d.natAbs ≤ 3) && (decide (d = 0) || (decide (1 ≤ m) && decide (m ≤ 8))) &&
        (match c with
          | .luma | .dc => true
          | .cfl a b => decide (a.natAbs ≤ 16) && decide (b.natAbs ≤ 16)
          | _ => false)
    | .hevc => decide (m ≤ 34) && decide (d = 0) && (c == .luma || c == .planar || c == .dc)
    | .avc => decide (m ≤ if w = 16 then 3 else 8) && decide (d = 0) &&
        (c == .dc || c == .horizontal || c == .vertical || c == .plane)

/-- Is the mode horizontal prediction, which always qualifies in the clean region (R147)? -/
def alwaysClean (std : Std) (w : Nat) (l : LumaMode) : Bool :=
  match l with
  | .mode m d => match std with
    | .av1 => decide (m = 2) && decide (d = 0)
    | .hevc => decide (m = 10) && decide (w = 32)
    | .avc => decide (m = 1)

/-- Does the mode read samples above and to the right of the block (R147), filtering of the reference samples counted? -/
def readsRight (std : Std) (w : Nat) (l : LumaMode) : Bool :=
  match l with
  | .mode m _ => match std with
    | .av1 => decide (m = 3) || decide (m = 8)
    | .hevc => decide (m ≠ 1) && decide (m ≠ 10) && decide (m ≠ 26)
    | .avc => decide (w ≠ 16) && (decide (m = 3) || decide (m = 7) || decide (w = 8))

/-- Is luma position (a, b) of the picture within its own clean region, or outside the picture (R147)? -/
def cleanHere (x : Session) (p : Pic) (a b : Nat) : Bool :=
  decide (a ≥ x.width) || decide (a / unitSide x.fmt.std < p.extents.getD (b / 64) 0)

/-- A block of the clean region takes no intra mode that reads outside it (R147). -/
def intraClean (x : Session) (p : Pic) (b : Pred) (l : LumaMode) : Bool :=
  b.y == 0 || alwaysClean x.fmt.std b.w l ||
    (cleanHere x p (min (b.x + b.w - 1) (x.width - 1)) (b.y - 1) &&
      (!readsRight x.fmt.std b.w l || cleanHere x p (min (b.x + 2 * b.w - 1) (x.width - 1)) (b.y - 1)))

/-- May an inter block read its reference of a rank with a vector in eighths (R102, R105, R147)? -/
def interReach (x : Session) (p : Pic) (n : Nat) (b : Pred) (r : Nat × Vec) : Bool :=
  decide (r.1 < min 3 p.refMask.length) && vecCodes x.fmt.std r.2 &&
    reachOk x n (insideClean x p n b.x) (x.refExtOf p r.1) (b.x + r.2.x / 8) (b.y + r.2.y / 8) b.w b.h

/-- Is the vector one that level 4 can reach from the full-pixel vectors of level 3: half and quarter steps, and with
allow_high_precision_mv an eighth (R101, R115)? -/
def fromSearch (std : Std) (qBase : Nat) (d : BlkData) (b : Pred) (r : Nat × Vec) : Bool :=
  let lim := if std = .av1 ∧ qBase < 128 then 7 else 6
  let fine := std = .av1 ∧ qBase < 128
  (fine || (decide (r.2.x % 2 = 0) && decide (r.2.y % 2 = 0))) &&
    d.found.any (fun f => f.rank == r.1 && f.full.any (fun (fx, fy, n, v) =>
      decide (fx < b.x + b.w) && decide (b.x < fx + n) && decide (fy < b.y + b.h) && decide (b.y < fy + n) &&
      decide ((r.2.x - 2 * v.x).natAbs ≤ lim) && decide ((r.2.y - 2 * v.y).natAbs ≤ lim)))

/-- Is the inter candidate one of R105? -/
def interOk (std : Std) (qBase : Nat) (d : BlkData) (b : Pred) (f : InterForm) (l0 l1 : Option (Nat × Vec)) : Bool :=
  match f, l0, l1 with
  | .search, some r, none => fromSearch std qBase d b r
  | .merge k, some _, none => decide (std = .hevc) && decide (k < 5)
  | .nearest, some _, none => decide (std = .av1)
  | .near, some _, none => decide (std = .av1)
  | .global, some r, none => decide (std = .av1) && decide (r.2 = {})
  | .newNew, some r, some q => decide (std = .av1) && decide (r.1 ≠ q.1) && fromSearch std qBase d b r && fromSearch std qBase d b q
  | .nearestNearest, some r, some q => decide (std = .av1) && decide (r.1 ≠ q.1)
  | .pSkip, some r, none => decide (std = .avc) && b.skip && decide (b.w = 16) && decide (b.h = 16) && decide (r.1 = 0)
  | .predicted, some _, none => decide (std = .avc)
  | _, _, _ => false

/-- A block of a skip row: no residual and a zero vector to the first-ranked slot (R138). -/
def skipPred (std : Std) (b : Pred) : Bool :=
  b.skip && (match b.mode with
    | .inter f (some r) none => decide (r = (0, {})) && (match std with
      | .av1 => decide (f = .global)
      | .hevc => decide (b.w = 64) && decide (b.h = 64) && (match f with
        | .merge k => decide (k < 5)
        | .zero => true
        | _ => false)
      | .avc => decide (b.w = 16) && decide (b.h = 16) && (decide (f = .pSkip) || decide (f = .zero)))
    | _ => false)

/-- A block of a flat row: intra DC with no residual (R139). -/
def flatPred (std : Std) (b : Pred) : Bool :=
  b.skip && (match b.mode with
    | .intra (.mode m d) c => decide (d = 0) && decide (c ≠ .plane) && (match std with
      | .av1 => decide (m = 0)
      | .hevc => decide (m = 1)
      | .avc => decide (m = 2) && decide (b.w = 16))
    | _ => false)

/-- Is the prediction block one the rules allow in its row (R102, R104, R105, R138, R139, R144, R147, R148)? -/
def predOk (x : Session) (p : Pic) (n : Nat) (d : BlkData) (b : Pred) : Bool :=
  let r := p.row n
  let u := b.x / unitSide x.fmt.std
  let fresh := decide (r.clean0 ≤ u) && decide (u < p.extents.getD n 0)
  let clean := insideClean x p n b.x
  let legal := match b.mode with
    | .intra l c => intraOk x.fmt.std b.w l c && (!clean || intraClean x p b l)
    | .inter f l0 l1 => !p.key && !fresh && (l0.toList ++ l1.toList).all (interReach x p n b) &&
        (interOk x.fmt.std p.qBase d b f l0 l1 || decide (r.kind = .skip))
  (predSizes x.fmt.std b.mode.isIntra).contains (b.w, b.h) && decide (b.x % b.w = 0) && decide (b.y % b.h = 0) && legal &&
    (match r.kind with
      | .skip => if fresh then flatPred x.fmt.std b else skipPred x.fmt.std b
      | .flat => flatPred x.fmt.std b
      | _ => true)

/-- The prediction blocks lie in the block's squares and cover each 4×4 of them within the picture once (R106). -/
def coversOnce (side w h : Nat) (us : List (Nat × Nat)) (ps : List Pred) : Bool :=
  ps.all (fun b => us.any (fun u => decide (u.1 ≤ b.x) && decide (b.x + b.w ≤ u.1 + side) && decide (u.2 ≤ b.y) &&
      decide (b.y + b.h ≤ u.2 + side))) &&
    us.all (fun u => (List.range (side / 4 * (side / 4))).all (fun i =>
      let a := u.1 + i % (side / 4) * 4
      let b := u.2 + i / (side / 4) * 4
      decide (a ≥ w) || decide (b ≥ h) ||
        decide ((ps.filter (fun p => decide (p.x ≤ a) && decide (a < p.x + p.w) && decide (p.y ≤ b) && decide (b < p.y + p.h))).length = 1)))

/-- The modes of a block are ones that mode decision may choose (R104 to R106, R119). -/
def modesOk (x : Session) (p : Pic) (n j : Nat) (d : BlkData) (ps : List Pred) : Bool :=
  coversOnce (unitSide x.fmt.std) x.width x.height (blockUnits x.fmt.std x.width x.height n j) ps && ps.all (predOk x p n d)

/-! ### Transform blocks (R108, R109, R327) -/

/-- Is the transform block one the rules allow (R108, R115 to R117)? -/
def tuOk (std : Std) (ps : List Pred) (t : Tu) : Bool :=
  let sq := decide (t.w = t.h)
  match predAt ps t.x t.y with
  | none => false
  | some b =>
    !b.skip && decide (t.plane ≤ 2) && decide (t.coefs.length ≤ t.w * t.h) && (match std with
      | .av1 => [4, 8, 16, 32].contains t.w && [4, 8, 16, 32].contains t.h && decide (t.w ≤ 2 * t.h) && decide (t.h ≤ 2 * t.w) &&
          decide (t.tx ≠ .skip) && decide (t.tx ≠ .dst)
      | .hevc => sq && [4, 8, 16, 32].contains t.w && (match t.tx with
          | .dct => !(decide (t.w = 4) && decide (t.plane = 0) && b.mode.isIntra)
          | .skip => decide (t.w = 4)
          | .dst => decide (t.w = 4) && decide (t.plane = 0) && b.mode.isIntra
          | _ => false)
      | .avc => sq && decide (t.tx = .dct) && (decide (t.w = 4) || (decide (t.w = 8) && decide (t.plane = 0))))

/-- One step of Qstep in the fine unit of `Tu.coefs`. -/
def qUnit : Nat := 65536

/-- sign(c) × floor(|c| / Qstep + f), f = 1/3 in intra blocks and 1/6 in inter blocks (R109 step 1). -/
def quantise (intra : Bool) (c : Int) : Int :=
  let k := if intra then 3 else 6
  let m := (k * c.natAbs + qUnit) / (k * qUnit)
  if c < 0 then -(m : Int) else m

/-- The levels of a transform block after steps 1 and 2 of R109. -/
def tuLevels (intra : Bool) (t : Tu) : List Int :=
  let l := t.coefs.map (quantise intra)
  if !intra && t.zeroed && l.all (fun v => decide (v.natAbs ≤ 1)) && decide ((l.filter (· ≠ 0)).length ≤ 2) then l.map (fun _ => 0)
  else l

/-- Transform blocks with their levels (R109 steps 1 and 2). -/
def quantTus (ps : List Pred) (ts : List Tu) : List (Tu × List Int) :=
  ts.map (fun t => (t, tuLevels (((predAt ps t.x t.y).map (·.mode.isIntra)).getD true) t))

/-- The counted levels of an area among a row's blocks, in coding order: block, transform block, place, level (R327). -/
def areaLevels (ax ay : Nat) (ds : List BlkData) : List ((Nat × Nat × Nat) × WmLevel) :=
  (ds.mapIdx (fun b d => (d.tus.mapIdx (fun i e =>
    if e.1.plane = 0 ∧ e.1.x / 32 = ax ∧ e.1.y / 32 = ay then
      (e.2.mapIdx (fun k v => ((b, i, k), ({ level := v, coef := (e.1.coefs.getD k 0).natAbs } : WmLevel)))).drop 1
    else [])).flatten)).flatten

/-- Put a level in its place. -/
def putLevel (at' : Nat × Nat × Nat) (v : Int) (ds : List BlkData) : List BlkData :=
  ds.mapIdx (fun b d => if b ≠ at'.1 then d
    else { d with tus := d.tus.mapIdx (fun i e => if i ≠ at'.2.1 then e
      else (e.1, e.2.mapIdx (fun k w => if k = at'.2.2 then v else w))) })

/-- The areas whose last square is among a block's (R326): the right and bottom ones cover the coded area. -/
def areasDone (side w h : Nat) (us : List (Nat × Nat)) : List (Nat × Nat) :=
  if side = 64 then us.flatMap (fun u => (List.range 4).filterMap (fun q =>
      let a := u.1 / 32 + q % 2
      let b := u.2 / 32 + q / 2
      if 32 * a < w ∧ 32 * b < h then some (a, b) else none))
  else us.filterMap (fun u =>
    if (u.1 % 32 = 16 ∨ u.1 + 16 ≥ w) ∧ (u.2 % 32 = 16 ∨ u.2 + 16 ≥ h) then some (u.1 / 32, u.2 / 32) else none)

/-- Watermark steering over areas of a row's blocks (R109 step 3, R326, R327), with K_wm and the payload. -/
def steerAreas (k payload w h : Nat) : List (Nat × Nat) → List BlkData → List BlkData
  | [], ds => ds
  | a :: l, ds =>
    let ls := areaLevels a.1 a.2 ds
    let new := wmSteer qUnit (wmTarget payload (Config.aes k (wmBlock a.1 a.2 w h) % 2 ^ 32)) (ls.map (·.2))
    let changed := (ls.zip new).filter (fun e => e.1.2.level != e.2.level)
    steerAreas k payload w h l (changed.foldl (fun ds e => putLevel e.1.1 e.2.level ds) ds)

/-! ### Filter settings (R110) -/

/-- AV1 loop filter level and cdef_damping_minus_3. -/
def av1Filter (q : Nat) : Nat × Nat := (min 63 (q / 4 - 2), min 3 (q / 64))

/-- The four CDEF presets of a base_q_idx: primary and secondary strength. -/
def cdefPresets (q : Nat) : List (Nat × Nat) :=
  if q < 64 then [(0, 0), (1, 0), (2, 1), (4, 2)] else if q < 160 then [(0, 0), (2, 1), (4, 2), (6, 2)]
  else [(0, 0), (4, 2), (8, 2), (12, 4)]

/-- The choice of filter parameters is one of R110's: a preset for AV1; SAO off, band or one of four edge classes for HEVC. -/
def filterOk (std : Std) (o : BlockOut) : Bool :=
  match std with
  | .av1 => decide (o.cdef < 4) && decide (o.sao = 0)
  | .hevc => decide (o.sao < 6) && decide (o.cdef = 0)
  | .avc => decide (o.cdef = 0) && decide (o.sao = 0)

/-! ### Coded bytes (R112, R113) -/

/-- Insert emulation prevention bytes, with the last two bytes released of the unit; gives the bytes and the last two. -/
def emulate : List Byte → List Byte → List Byte × List Byte
  | last, [] => ([], last)
  | last, b :: l =>
    if last = [0, 0] ∧ b.toNat ≤ 3 then
      let r := emulate [3, b] l
      (3 :: b :: r.1, r.2)
    else
      let r := emulate ((last ++ [b]).drop ((last ++ [b]).length - 2)) l
      (b :: r.1, r.2)

/-- A carry into the bytes held back: the run of 0xFF becomes 0 and the byte before it grows by one. -/
def addCarry : List Byte → List Byte
  | [] => []
  | b :: l => (b + 1) :: l.map (fun _ => 0)

/-- Bytes that no later carry can change, and those held back: a trailing run of 0xFF and the byte before it (R112). -/
def holdBack (l : List Byte) : List Byte × List Byte :=
  let run := (l.reverse.takeWhile (· == 0xFF)).length
  let n := l.length - (run + 1)
  (l.take n, l.drop n)

/-- A unit's bytes as a row releases them: the piece of the notice, the bytes for the buffer, and where the coder then
stands. -/
def releaseUnit (std : Std) (flush : Bool) (t : TileOut) (u : UnitOut) : NalPiece × List Byte × TileOut :=
  let raw := (if u.carry then addCarry t.held else t.held) ++ u.bytes
  let (out, held) := if u.ends || flush then (raw, []) else holdBack raw
  let last := if u.starts then [] else t.last
  let (bytes, last') := if std = .av1 then (out, last) else emulate last out
  let all := (if u.starts ∧ std ≠ .av1 then [0, 0, 0, 1] else []) ++ bytes
  ({ len := all.length, cut := if u.kind = .temporalDelimiter then all.length else min u.cut all.length, starts := u.starts, ends := u.ends },
    all, { off := t.off + all.length, held := held, last := if u.ends then [] else last' })

/-- Release a row's units: pieces, writes (place and bytes), and the regions; region `k` begins at k × `size` (R207); nothing marks the seam (R205). -/
def releaseRow (std : Std) (size : Nat) (flush : Bool) : List UnitOut → Tab TileOut → List NalPiece × List (Nat × List Byte) × Tab TileOut
  | [], t => ([], [], t)
  | u :: l, t =>
    let o := tget {} t u.tile
    let (piece, bytes, o') := releaseUnit std flush o u
    let (ps, ws, t') := releaseRow std size flush l (tset {} t u.tile o')
    (piece :: ps, (u.tile * size + o.off, bytes) :: ws, t')

/-- The units before the slices or tiles of a picture (R113). -/
def leadUnits (std : Std) (rowSlices key start : Bool) : List UnitKind :=
  match std with
  | .av1 => [.temporalDelimiter] ++ (if key || start then [.sequenceHeader] else []) ++ (if rowSlices then [.frameHeader] else [])
  | .hevc => (if key || start then [.vps, .sps, .pps] else []) ++ (if start && !key then [.recoverySei] else [])
  | .avc => (if key || start then [.sps, .pps] else []) ++ (if start && !key then [.recoverySei] else [])

/-- The unit that carries the blocks (R113, R118). -/
def bodyUnit (std : Std) (rowSlices : Bool) : UnitKind :=
  match std with
  | .av1 => if rowSlices then .tileGroup else .frame
  | _ => .slice

/-- Are the units begun so far those of R113, in order? With the last row the whole list has come. -/
def unitsOk (lead : List UnitKind) (body : UnitKind) (last : Bool) (ks : List UnitKind) : Bool :=
  let rest := ks.drop lead.length
  (lead.take ks.length == ks.take lead.length) && rest.all (· == body) && (!last || !rest.isEmpty)

/-- A row's units are ones the entropy and output stages give (R112, R113, R125): of the picture's kinds, whole at its end,
and the picture at most B bits. -/
def codedOk (x : Session) (p : Pic) (last : Bool) (us : List UnitOut) (ps : List NalPiece) : Bool :=
  let b := p.bm.size x.rateNum x.rateDen
  unitsOk (leadUnits x.fmt.std x.fmt.rowSlices p.key p.sweepStart) (bodyUnit x.fmt.std x.fmt.rowSlices) last
      (p.units ++ (us.filter (·.starts)).map (·.kind)) &&
    decide (8 * (p.bytes + (ps.map (·.len)).sum) ≤ b) && (!last || (us.getLast?.map (·.ends)).getD false) &&
    us.all (fun u => decide (u.tile < max 1 x.regions))

end Sys2Proof.Machine
end

