-- ==== Sys2Proof/Machine/SlotRec.lean ====
section
/-! DEFINITION. Slot records of a sealed image (R167, R315): what an export takes from a slot buffer and what an import writes
into a new one. -/

namespace Sys2Proof.Machine

/-- Write bytes of a buffer of the session, unless its controller's polder is sealed. -/
def storeBytes (handle off : Nat) (l : List Byte) (s : State) : State :=
  if handle = 0 ∨ !mcUsable s (bufMc s (hKey handle)) then s else bufWrite (hKey handle) off l s

/-- Samples as bytes. -/
def pixBytes (l : List Nat) : List Byte := l.map (BitVec.ofNat 8)

/-- A little-endian number of bytes. -/
def leNat (l : List Byte) : Nat := l.foldr (fun b n => b.toNat + 256 * n) 0

/-- Coded width, height and bit depth as a slot header gives them (R163). -/
def hdrDims (l : List Byte) : Nat × Nat × Nat :=
  (leNat ((l.drop 8).take 2), leNat ((l.drop 10).take 2), leNat ((l.drop 12).take 1))

/-- The used sectors of the units from `u` on. -/
def usedSectors (s : State) (k data raw : Nat) : Nat → Nat → List Byte
  | 0, _ => []
  | n + 1, u =>
    bufBytes s k (data + u * raw) (32 * entrySectors (leNat (bufBytes s k (256 + 2 * u) 2))) ++ usedSectors s k data raw n (u + 1)

/-- The slot record of a slot buffer (R167). -/
def slotRecord (s : State) (std : Std) (handle : Nat) : List Byte :=
  let k := hKey handle
  let hdr := bufBytes s k 0 256
  let (w, h, depth) := hdrDims hdr
  let u := packUnits w h
  hdr ++ bufBytes s k 256 (2 * u) ++ bufBytes s k (slotMotion u) (1024 * u) ++
    (if std = .av1 then bufBytes s k (slotSaved u) 24576 else []) ++ usedSectors s k (slotData std u) (unitRaw depth) u 0

/-- Write the units of a slot record, and for an encode session their decimations, built again (R67, R95, R167). -/
def storeUnits (std : Std) (depth handle total : Nat) (enc : Bool) (lens : List Byte) : Nat → Nat → List Byte → State → State
  | 0, _, _, s => s
  | n + 1, u, l, s =>
    let e := leNat ((lens.drop (2 * u)).take 2)
    let bytes := l.take (32 * entrySectors e)
    let s1 := storeBytes handle (slotData std total + u * unitRaw depth) bytes s
    let v := unpackUnit depth e bytes
    let s2 := if !enc then s1
      else storeBytes handle (slotDec std depth total + 1280 * u) (pixBytes (decimate depth 64 4 v.luma ++ decimate depth 64 2 v.luma)) s1
    storeUnits std depth handle total enc lens n (u + 1) (l.drop (32 * entrySectors e)) s2

/-- Write a slot record into a new slot buffer (R315). -/
def storeRecord (std : Std) (handle : Nat) (enc : Bool) (l : List Byte) (s : State) : State :=
  let (w, h, depth) := hdrDims l
  let u := packUnits w h
  let lens := (l.drop 256).take (2 * u)
  let saved := if std = .av1 then 24576 else 0
  let motion := (l.drop (256 + 2 * u)).take (1024 * u)
  storeUnits std depth handle u enc lens u 0 (l.drop (256 + 1026 * u + saved))
    (storeBytes handle (slotSaved u) ((l.drop (256 + 1026 * u)).take saved)
      (storeBytes handle (slotMotion u) motion (storeBytes handle 256 lens (storeBytes handle 0 (l.take 256) s))))

end Sys2Proof.Machine
end

