-- ==== Sys2Proof/Machine/SessOpen.lean ====
section
/-! DEFINITION. Admission (R42 to R48, R114, R160, R298), the parameter blocks (R512 to R516, R523 to R525), SESSION_OPEN and
SESSION_IMPORT. -/

namespace Sys2Proof.Machine

/-- A field with a default: all ones takes it (R523). -/
def dflt (v n d : Nat) : Nat := if v = 2 ^ n - 1 then d else v
/-- Is `v` in lo..hi? -/
def inR (v lo hi : Nat) : Bool := decide (lo ≤ v) && decide (v ≤ hi)
/-- Is `v` a power of two between 2^a and 2^b? -/
def pow2In (v a b : Nat) : Bool := ((List.range (b - a + 1)).map (fun i => 2 ^ (a + i))).contains v

/-- The standard of a code. -/
def stdOf : Nat → Option Std
  | 0 => some .av1 | 1 => some .hevc | 2 => some .avc | _ => none
/-- The kind of a code (R512). -/
def kindOf : Nat → Option SKind
  | 0 => some .encode | 1 => some .tandem | 2 => some .decode | _ => none

/-- Area C read at offset `o`, each field of all ones taking that of `d` (R514, R525). -/
def readRc (b : HostBuf) (o : Nat) (d : RcSet) : RcSet :=
  { rcMode := dflt (b.fld o 0 8) 8 d.rcMode, bufTarget := dflt (b.fld o 8 8) 8 d.bufTarget
    rowQpStep := dflt (b.fld o 16 8) 8 d.rowQpStep, keyRatio := dflt (b.fld o 24 8) 8 d.keyRatio
    rcTarget := dflt (b.fld (o + 4) 0 32) 32 d.rcTarget, rcPeak := dflt (b.fld (o + 8) 0 32) 32 d.rcPeak
    rcFloor := dflt (b.fld (o + 12) 0 32) 32 d.rcFloor, bufDelay := dflt (b.fld (o + 16) 0 32) 32 d.bufDelay
    qpMin := dflt (b.fld (o + 20) 0 16) 16 d.qpMin, qpMax := dflt (b.fld (o + 20) 16 16) 16 d.qpMax
    cqQp := dflt (b.fld (o + 24) 0 16) 16 d.cqQp, vbrWindow := dflt (b.fld (o + 24) 16 16) 16 d.vbrWindow
    narQhigh := dflt (b.fld (o + 28) 0 16) 16 d.narQhigh, sweepLen := dflt (b.fld (o + 28) 16 16) 16 d.sweepLen
    refreshPeriod := dflt (b.fld (o + 32) 0 32) 32 d.refreshPeriod
    intraPeriod := dflt (b.fld (o + 36) 0 32) 32 d.intraPeriod
    keyPolicy := dflt (b.fld (o + 40) 0 8) 8 d.keyPolicy, firPolicy := dflt (b.fld (o + 40) 8 8) 8 d.firPolicy
    keyHoldoff := dflt (b.fld (o + 40) 16 16) 16 d.keyHoldoff
    forceQp := dflt (b.fld (o + 44) 0 16) 16 d.forceQp
    forceEn := decide (dflt (b.fld (o + 44) 16 8) 8 (b2n d.forceEn) ≠ 0)
    narHold := decide (dflt (b.fld (o + 44) 24 8) 8 (b2n d.narHold) ≠ 0) }

/-- FORCE_EN and NAR_HOLD are 0, 1 or all ones (R514). -/
def rcFlagsOk (b : HostBuf) (o : Nat) : Bool :=
  [0, 1, 255].contains (b.fld (o + 44) 16 8) && [0, 1, 255].contains (b.fld (o + 44) 24 8)

/-- Row QP limits in the standard's units (R121). -/
def qpRange (std : Std) (v : Nat) : Bool := if std = .av1 then inR v 1 255 else decide (v ≤ 51)

/-- The ranges of R121 and R158. -/
def rcOk (std : Std) (num den : Nat) (c : RcSet) : Bool :=
  decide (c.rcMode ≤ 3) && decide (c.bufTarget ≤ 15) && inR c.rowQpStep 1 12 && inR c.keyRatio 1 16 &&
    inR c.rcTarget 100000 1000000000 && inR c.rcPeak c.rcTarget 1000000000 && inR c.rcFloor 100000 c.rcTarget &&
    (decide (c.bufDelay = 0xFFFFFFFF) || (decide (1000000 * den ≤ c.bufDelay * num) && decide (c.bufDelay ≤ 2000000))) &&
    qpRange std c.qpMin && qpRange std c.qpMax && decide (c.qpMin ≤ c.qpMax) && inR c.cqQp c.qpMin c.qpMax &&
    inR c.vbrWindow 1 60 && inR c.narQhigh 1 100 && inR c.sweepLen 4 64 &&
    (decide (c.refreshPeriod = 0) || inR c.refreshPeriod c.sweepLen 65535) && decide (c.intraPeriod ≤ 65535) &&
    decide (c.keyPolicy ≤ 2) && decide (c.firPolicy ≤ 1) && decide (c.keyHoldoff ≤ 1000) &&
    (!c.forceEn || (if std = .av1 then inR c.forceQp 1 255 else decide (c.forceQp ≤ 51)))

/-- The defaults of R121 for a class and a target. -/
def rcDefaults (std : Std) (lc target qmin qmax : Nat) : RcSet :=
  let q := if std = .av1 then 120 else 30
  { rcTarget := target, rcPeak := target, rcFloor := max 100000 (target / 8)
    qpMin := if std = .av1 then 20 else 10, qpMax := if std = .av1 then 255 else 51
    cqQp := max qmin (min q qmax), narQhigh := narDefault lc, keyPolicy := keyDefault lc }

/-- Number formed from `n` bytes at byte offset `o`, first byte highest. -/
def beBytes (b : HostBuf) (o : Nat) : Nat → Nat
  | 0 => 0
  | n + 1 => beBytes b o n * 256 + (b.byte (o + n)).toNat

/-- A unicast address (R247). -/
def unicast (ver a : Nat) : Bool :=
  if ver = 4 then decide (a ≠ 0) && decide (a < 224 * 2 ^ 24) else decide (a ≠ 0) && decide (a < 0xFF * 2 ^ 120)

/-- Area D read at offset `o` (R515): for SESSION_OPEN. -/
def readNet (b : HostBuf) (o lc num den r0 : Nat) : NetSet :=
  let ver := b.fld o 24 8
  let sup := dflt (b.fld (o + 0x48) 0 8) 8 0
  let n := if ver = 4 then 4 else 16
  { port := b.fld o 0 8, altPort := dflt (b.fld o 8 8) 8 15, nhIndex := b.fld o 16 8, ipVer := ver
    vlan := dflt (b.fld (o + 4) 0 16) 16 0, dscp := dflt (b.fld (o + 4) 16 8) 8 (dscpDefault lc)
    ecn := dflt (b.fld (o + 4) 24 8) 8 2, hopLimit := dflt (b.fld (o + 8) 0 16) 16 64
    mtu := dflt (b.fld (o + 8) 16 16) 16 1280, flowLabel := dflt (b.fld (o + 12) 0 32) 32 0
    localIp := beBytes b (o + 0x10) n, remoteIp := beBytes b (o + 0x20) n
    localPort := b.fld (o + 0x30) 0 16, remotePort := b.fld (o + 0x30) 16 16, wirePeak := b.fld (o + 0x34) 0 32
    paceWindow := dflt (b.fld (o + 0x38) 0 32) 32 (paceDefault lc num den)
    paceBurst := dflt (b.fld (o + 0x3C) 0 8) 8 16
    rowFlush := decide (dflt (b.fld (o + 0x3C) 8 8) 8 (if lc ≤ 1 then 1 else 0) ≠ 0)
    pt := dflt (b.fld (o + 0x3C) 16 8) 8 96, picnumId := dflt (b.fld (o + 0x3C) 24 8) 8 1
    srInterval := dflt (b.fld (o + 0x40) 0 16) 16 50, srtpSuite := dflt (b.fld (o + 0x40) 16 8) 8 1
    supply := sup
    ssrc := if bitAt sup 0 then b.fld (o + 0x44) 0 32 else Config.random r0 % 2 ^ 32
    seqBase := if bitAt sup 1 then b.fld (o + 0x4C) 0 16 else Config.random (r0 + 1) % 2 ^ 16
    tsBase := if bitAt sup 2 then b.fld (o + 0x50) 0 32 else Config.random (r0 + 2) % 2 ^ 32
    cname := b.bytes (o + 0x60) (b.fld (o + 0x40) 24 8 % 64) }

/-- The ranges of R247 and R248. -/
def netOk (s : State) (b : HostBuf) (o : Nat) (w : NetSet) : Bool :=
  decide (subRate s w.port ≠ 0) && (decide (w.altPort = 15) || decide (subRate s w.altPort ≠ 0)) &&
    (decide (w.ipVer = 4) || decide (w.ipVer = 6)) && unicast w.ipVer w.localIp && unicast w.ipVer w.remoteIp &&
    (!bitAt w.vlan 15 || inR (w.vlan % 4096) 1 4094) && decide (w.dscp ≤ 63) && decide (w.ecn ≤ 2) &&
    inR w.hopLimit 1 255 && inR w.mtu 1280 9000 && decide (w.flowLabel ≤ 0xFFFFF) && decide (w.localPort ≠ 0) &&
    decide (w.remotePort ≠ 0) && inR w.wirePeak 1000000 (subRate s w.port) && inR w.paceWindow 10 100000 &&
    inR w.paceBurst 1 64 && [0, 1, 255].contains (b.fld (o + 0x3C) 8 8) && inR w.pt 96 127 && decide (w.picnumId ≤ 14) &&
    inR w.srInterval 10 5000 && decide (w.srtpSuite ≤ 1) && inR (b.fld (o + 0x40) 24 8) 1 32 &&
    (decide (b.fld (o + 0x48) 0 8 ≤ 7) || decide (b.fld (o + 0x48) 0 8 = 255)) &&
    !s.sess.any (fun p => p.2.st != .free && p.2.kind != .decode && p.2.nw.ipVer == w.ipVer &&
      p.2.nw.localIp == w.localIp && p.2.nw.localPort == w.localPort)

/-- Area B read from the block (R513). -/
def readFmt (b : HostBuf) (std : Std) (dec : Bool) : FmtSet :=
  let slots := dflt (b.fld 0x11C 0 8) 8 (if dec then 8 else 4)
  { std := std, bitDepth := if dec then 10 else b.fld 0x100 8 8, level := dflt (b.fld 0x100 16 8) 8 0
    constrainedHigh := decide (dflt (b.fld 0x100 24 8) 8 0 = 1), srcFmt := b.fld 0x104 0 8
    rowStream := !dec && decide (dflt (b.fld 0x104 8 8) 8 0 = 1), matrix := dflt (b.fld 0x104 16 8) 8 0
    range := dflt (b.fld 0x104 24 8) 8 0, ringDepth := dflt (b.fld 0x108 0 16) 16 144
    hintEn := decide (dflt (b.fld 0x108 16 8) 8 0 = 1), aqStrength := dflt (b.fld 0x108 24 8) 8 2
    depthSplit := dflt (b.fld 0x10C 0 32) 32 4096, rowSlices := decide (dflt (b.fld 0x110 0 8) 8 0 = 1)
    keepBitstream := decide (dflt (b.fld 0x110 8 8) 8 0 = 1), outFrames := dflt (b.fld 0x118 0 8) 8 4
    hashCheck := decide (dflt (b.fld 0x118 8 8) 8 1 = 1), grainApply := decide (dflt (b.fld 0x118 16 8) 8 1 = 1)
    opPoint := dflt (b.fld 0x118 24 8) 8 0, refSlots := slots
    longMax := if dec then 0 else dflt (b.fld 0x11C 8 8) 8 (if slots = 1 then 0 else 1) }

/-- A flag byte: 0, 1 or all ones. -/
def flag8 (b : HostBuf) (o lo : Nat) : Bool := [0, 1, 255].contains (b.fld o lo 8)

/-- The ranges of area B that the kind uses (R159, R513). -/
def fmtOk (b : HostBuf) (kind : SKind) (f : FmtSet) : Bool :=
  if kind = .decode then
    inR f.outFrames 2 32 && flag8 b 0x118 8 && flag8 b 0x118 16 && decide (f.opPoint ≤ 31) && decide (f.refSlots = 8)
  else
    (decide (f.bitDepth = 8) || decide (f.bitDepth = 10)) &&
      (decide (b.fld 0x100 16 8 = 255) || (levelsOf f.std).any (fun l => l.code == f.level)) && flag8 b 0x100 24 &&
      decide (f.srcFmt ≤ 2) && flag8 b 0x104 8 && flag8 b 0x104 16 && flag8 b 0x104 24 &&
      (decide (kind = .tandem) || [80, 144, 208].contains f.ringDepth) && flag8 b 0x108 16 && decide (f.aqStrength ≤ 3) &&
      decide (f.depthSplit ≤ 65535) && flag8 b 0x110 0 && flag8 b 0x110 8 && inR f.refSlots 1 8 && decide (f.longMax ≤ 2) &&
      decide (f.longMax + 1 ≤ f.refSlots)

/-- Area E (R516). -/
def readHost (b : HostBuf) : HostSet :=
  let cnt := dflt (b.fld 0x418 0 32) 32 0
  { reportBase := b.w64 0x400, reportCount := b.fld 0x408 0 32
    fblogBase := if cnt = 0 then 0 else dflt (b.w64 0x410) 64 0, fblogCount := cnt
    ingestPort := b.fld 0x420 0 8, ingestStream := b.fld 0x420 8 8 }

/-- The ranges of area E (R230, R516). -/
def hostOk (h : HostSet) (prot : Bool) : Bool :=
  decide (h.reportBase % 4096 = 0) && pow2In h.reportCount 1 12 &&
    (decide (h.fblogCount = 0) || (pow2In h.fblogCount 6 16 && decide (h.fblogBase % 4096 = 0))) &&
    (!prot || decide (h.ingestPort ≤ 1))

/-- Area F, from the policy at 0x800 of the block (R299). -/
def readPolicy (b : HostBuf) : Policy :=
  let o := 0x800
  { exportOk := bitAt (b.fld (o + 4) 16 16) 0, rekeyOnImport := bitAt (b.fld (o + 4) 16 16) 1
    publisherId := b.fld (o + 8) 0 32, minSvn := (List.range 4).map (fun i => b.fld (o + 12) (8 * i) 8)
    playerRoots := (List.range (min 4 (b.fld (o + 16) 0 8))).map (fun i => beBytes b (o + 32 + 48 * i) 48) }
/-- The policy's own form (R299), part of its verification. -/
def policyForm (b : HostBuf) : Bool :=
  decide (b.w32 (0x800 / 4) = 0x50504C4E) && decide (b.fld 0x804 0 16 = 1) && inR (b.fld 0x810 0 8) 1 4
/-- Length of the policy given (R299). -/
def policyLen (b : HostBuf) : Nat := 228 + b.fld (0x800 + 224) 0 16 + 96

/-- The session a SESSION_OPEN block describes, before admission; none for a value out of range (R512 to R516, R523,
R524). `r0`: the first random number it may draw. -/
def parseOpen (s : State) (b : HostBuf) (fn qid r0 : Nat) : Option Session :=
  match kindOf (b.fld 0 12 2), stdOf (b.fld 0x100 0 8) with
  | some kind, some std =>
    let lc := b.fld 0 14 2
    let prot := bitAt (b.fld 0 0 32) 22
    let dec := decide (kind = .decode)
    let nq := dflt (b.fld 4 0 16) 16 qid
    let num := b.fld 0x10 0 32
    let den := b.fld 0x14 0 32
    let qmin := dflt (b.fld 0x214 0 16) 16 (if std = .av1 then 20 else 10)
    let qmax := dflt (b.fld 0x214 16 16) 16 (if std = .av1 then 255 else 51)
    let rc := readRc b 0x200 (rcDefaults std lc (b.fld 0x204 0 32) qmin qmax)
    let fmt := readFmt b std dec
    let nw := readNet b 0x300 lc num den r0
    let hs := readHost b
    let ones := fun o lo n => decide (b.fld o lo n = 2 ^ n - 1)
    let cd := [(0, ones 0x21C 0 16), (1, ones 0x228 0 8), (2, ones 0x304 16 8), (3, ones 0x33C 8 8), (4, ones 0x338 0 32)]
    if !inR num 1 480000 ∨ !inR den 1 65535 ∨ num < den ∨ num > 480 * den ∨ nq > 255 ∨ !holdsPair s fn nq then
      none
    else if !fmtOk b kind fmt ∨ (dec && prot) ∨ (prot && fmt.keepBitstream) then none
    else if !dec && (!rcOk std num den rc || !rcFlagsOk b 0x200 || !netOk s b 0x300 nw || !hostOk hs prot) then none
    else
      let base : Session := {
        kind := kind, lc := lc, protected' := prot, hold := bitAt (b.fld 0 0 32) 23, notifyQid := nq, owner := fn
        width := b.fld 0xC 0 16, height := b.fld 0xC 16 16, rateNum := num, rateDen := den
        epoch := Config.random (r0 + 3) % 2 ^ 40, fmt := fmt
        load := loadOf kind (b.fld 0xC 0 16) (b.fld 0xC 16 16) num den, slots := List.replicate 8 {} }
      some (if dec then base
        else { base with
          rc := rc, rcNow := rc, nw := nw, hs := hs, egress := nw.port, bm := rc.model
          classDef := (cd.filter (·.2)).map (·.1), pol := if prot then readPolicy b else {}
          tr := { rtpSeq := nw.seqBase, lastTs := nw.tsBase }, loop := { rnet := rc.rcTarget } })
  | _, _ => none

/-! ### Admission -/

/-- Check 3 of R42: geometry, profile, level (R74; R195 for a tandem). Answers the level and the reference slots. -/
def formatOk (x : Session) : Option (Nat × Nat) :=
  if x.kind = .decode then
    if inR x.width 1 8192 && inR x.height 1 4352 then some (0, 8) else none
  else
    let even := decide (x.width % 2 = 0) && decide (x.height % 2 = 0)
    let geo := match x.kind with
      | .tandem => inR x.width 1280 8192 && inR x.height 1282 4352 && !x.fmt.rowStream
      | _ => inR x.width 128 4096 && inR x.height 128 2304
    if !(even && geo) ∨ (x.fmt.std = .avc ∧ x.fmt.bitDepth = 10) then none
    else
      let m := x.bm
      chooseLevel x.fmt.std x.width x.height x.rateNum x.rateDen m.rD (m.size x.rateNum x.rateDen) x.fmt.refSlots
        (if x.fmt.level = 0 then none else some x.fmt.level)

/-- Lowest free range of `len` 2 MiB units of BAR2's 32,768 (R77). -/
def freeWindow (s : State) (len : Nat) : Option Nat :=
  let used := (s.sess.filter (fun p => p.2.st != .free && p.2.ing.winLen != 0)).map (fun p => (p.2.ing.winBase, p.2.ing.winLen))
  let cand := sortBy (fun a b => decide (a ≤ b)) (0 :: used.map (fun w => w.1 + w.2))
  cand.find? (fun b => decide (b + len ≤ 32768) && used.all (fun w => decide (b + len ≤ w.1) || decide (w.1 + w.2 ≤ b)))

/-- Quotas of R47. -/
def quotaOk (s : State) (fn load : Nat) : Bool :=
  if fn = 0 then true
  else
    let l := s.sess.filter (fun p => p.2.st != .free && p.2.owner == fn)
    decide (l.length < (func s fn).sessQuota) &&
      decide (((l.filter (fun p => p.2.st != .exported)).map (fun p => p.2.load)).sum + load ≤ (func s fn).loadQuota)

/-- Reserve `n` buffers of a size in the smallest frame pool that holds them (R160). -/
def reserveFrames (sid size n : Nat) (s : State) : Option State :=
  match fitPools s .frame size with
  | [] => none
  | p :: _ =>
    match bpmReserve p sid n s with
    | (true, s1) => some (sessMod sid (fun x => { x with rsv := x.rsv ++ [(p, n)] }) s1)
    | (false, _) => none

/-- Draw a frame buffer for the session. -/
def drawFrame (sid size : Nat) (s : State) : Option (Nat × State) :=
  let x := sessOf s sid
  match bpmAlloc { ty := .frame, size := size, cls := sessCls x, sid := some sid, owner := x.owner } s with
  | (.ok h, s1) => some (h, s1)
  | _ => none

/-- Size of an output frame (R185): the source layout without a hint plane. -/
def outFrameSize (x : Session) : Nat := planesEnd 1 x.width x.height
/-- Size of the session's slot buffers. -/
def Session.slotBytes (x : Session) : Nat :=
  slotBufSize x.fmt.std x.fmt.bitDepth x.width x.height (decide (x.kind ≠ .decode))

/-- Check 7 of R42: window, slot buffers, source buffers, ring, output frames, a bitstream pool. -/
def reserveAll (sid core : Nat) (s : State) : Option State :=
  let x := sessOf s sid
  let s1 := reserveFrames sid x.slotBytes (x.fmt.refSlots + 2) s
  if x.kind = .decode then s1.bind (reserveFrames sid (outFrameSize x) x.fmt.outFrames)
  else if (fitPools s .bitstream x.bitBuf).isEmpty then none
  else
    match freeWindow s (windowUnits x.fmt.srcFmt x.width x.height x.fmt.rowStream) with
    | none => none
    | some wb =>
      let s2 := s1.map (sessMod sid (fun x => { x with
        ing := { x.ing with winBase := wb, winLen := windowUnits x.fmt.srcFmt x.width x.height x.fmt.rowStream } }))
      if x.fmt.rowStream then
        s2.bind (fun s3 =>
          let s4 := placeRing sid core s3
          let g := (sessOf s4 sid).ing
          if g.inDram ∧ g.ringHandle = 0 then none else some s4)
      else
        let b := pictureBuf x.fmt.srcFmt x.width x.height
        s2.bind (fun s3 => (reserveFrames sid b 2 s3).bind (fun s4 =>
          (drawFrame sid b s4).bind (fun (h0, s5) => (drawFrame sid b s5).map (fun (h1, s6) =>
            sessMod sid (fun x => { x with ing := { x.ing with srcBuf0 := h0, srcBuf1 := h1 } }) s6))))

/-- Would the ring of a new row-stream session lie in the core's ring space (R83)? -/
def ringFits (s : State) (x : Session) (core : Nat) : Bool :=
  decide (ringUsed s core + ringBytes x.fmt.ringDepth x.width x.fmt.bitDepth ≤ 2048 * 1024)

/-- Image types in the order of R283 whose running SVN a policy bounds. -/
def svnOk (s : State) (p : Policy) : Bool :=
  (List.range 4).all (fun i => decide (p.minSvn.getD i 0 ≤ (tget ({} : Img) s.sec.images i).svn))

/-- Does the ingest stream a protected session names meet R318? Answers its certificate. -/
def ingestStream (s : State) (hs : HostSet) : Option Nat :=
  match (port s (hs.ingestPort + 1)).ide.find? (fun e => e.1 != 0 && e.2.secure && e.2.streamId == hs.ingestStream) with
  | some (_, t) => if t.peerRoot then some t.cert else none
  | none => none

/-- Is content protection usable (check 8 of R298)? -/
def protectUp (s : State) : Bool := decide (s.sec.lc = 2) && decide (s.sec.dbgLevel = 0) && s.sec.cluster.isSome

/-- Admission of a session (R42, R43, R298): a status, or the SID and the state with it bound. `pol`: the policy's
signature chain verifies (true for an import, which does not run check 9). -/
def admission (x0 : Session) (isImport pol : Bool) (s : State) : Nat ⊕ (Nat × State) :=
  let sid := lowFree s.sess 0
  if sid ≥ 4096 then .inl stNoContext
  else if !quotaOk s x0.owner x0.load then .inl stVfQuota
  else
    match formatOk x0 with
    | none => .inl stFormatLimit
    | some (lvl, slots) =>
      let x := { x0 with fmt := { x0.fmt with level := lvl, refSlots := slots, longMax := min x0.fmt.longMax (slots - 1) } }
      match place s x.kind x.load x.lc with
      | none => .inl stNoCapacity
      | some c =>
        if dramDemand s + demandOf x.kind x.width x.height x.rateNum x.rateDen (x.fmt.rowStream && ringFits s x c) >
            dramLimit s then .inl stDramBudget
        else if x.kind ≠ .decode ∧ !egressOk s sid x.egress x.nw.wirePeak then .inl stEgressBudget
        else
          let s1 := bindTo sid c .bound (sessMod sid (fun _ => { x with gid := cdidOf s * 4096 + sid }) s)
          match reserveAll sid c s1 with
          | none => .inl stNoMemory
          | some s2 =>
            if !x.protected' then .inr (sid, s2)
            else if !protectUp s then .inl stNotPermitted
            else if !isImport && !pol then .inl stAuthFail
            else if !svnOk s x.pol then .inl stAuthFail
            else
              match ingestStream s x.hs with
              | none => if isImport then .inr (sid, s2) else .inl stAuthFail
              | some cert => .inr (sid, sessMod sid (fun x => { x with keys := { x.keys with certHash := cert } }) s2)

/-- SEC's part in an admission: the XTS key slot (R308), and the watermark keys of the bound core (R325). -/
def secAdmit (sid : Nat) (s : State) : State :=
  wmLoad sid { s with sec := { s.sec with xts := tput s.sec.xts sid (Config.random (s.sec.drbg + 1)), drbg := s.sec.drbg + 1 } }

/-- What the completion of SESSION_OPEN and SESSION_IMPORT carries (R229). -/
def openRes (sid : Nat) (s : State) : Res :=
  let x := sessOf s sid
  { r0 := sid + x.gid * 2 ^ 12, r1 := x.ing.winBase + x.ing.winLen * 2 ^ 32, sid := some sid }

/-- What a refused open counts: SEC_CNT[2] counts a policy whose verification failed (R298, R300, R329). -/
def openRefused (st : Nat) (pol : Bool) (s : State) : State :=
  if st = stAuthFail ∧ !pol then pgBlock ⟨.sec, 0⟩ (rcnt 0x60A0 0 32 1 s) else s

/-- SESSION_OPEN (R36, R42, R225, R298, R523): the block the device read at PTR0, none for a failed read; `pol` says
whether the publisher policy verifies under R300; where it does not, SEC_CNT[2] counts it (R329). -/
def execSessionOpen (slot : Nat) (blk : Option HostBuf) (pol : Bool) (s : State) : Host.Outcome State Fault Refusal :=
  .next (runCmd slot 0x10 anyField (fun c s =>
    match blk with
    | none => finish slot stDmaError s
    | some b =>
      let prot := bitAt (b.fld 0 0 32) 22
      let len := c.arg 24 0 32
      if len < 2048 ∨ (prot ∧ len < 2048 + policyLen b) then finish slot stInvalidField s
      else
        match parseOpen s b c.fn c.qid s.sec.drbg with
        | none => finish slot stInvalidField s
        | some x =>
          match admission x false (pol && (!prot || policyForm b)) s with
          | .inl st => finish slot st (openRefused st pol s)
          | .inr (sid, s1) =>
            let s2 := secAdmit sid { s1 with sec := { s1.sec with drbg := s1.sec.drbg + 4 } }
            complete slot stOk (openRes sid s2) s2) s)

/-- Cluster id and generation of the device. -/
def clusterId (s : State) : Option (Nat × Nat) := s.sec.cluster.map (fun (i, g, _, _, _) => (i, g))

/-- Give the slots an image carries new buffers, and write their records into them (R68, R167, R315). -/
def importSlots (sid : Nat) (recs : List (Nat × List Byte)) (s : State) : Option State :=
  let x := sessOf s sid
  (List.range 8).foldl (fun r i => r.bind (fun s1 =>
    if (x.slot i).held then
      (drawFrame sid x.slotBytes s1).map (fun (h, s2) =>
        let s3 := sessMod sid (fun x => x.slotMod i (fun t => { t with handle := h })) s2
        match recs.find? (fun r => r.1 == i) with
        | none => s3
        | some r => storeRecord x.fmt.std h (decide (x.kind ≠ .decode)) r.2 s3)
    else some (sessMod sid (fun x => x.slotMod i (fun t => { t with handle := 0 })) s1))) (some s)

/-- The context an import starts from (R69, R70, R307): what belongs to this device starts again. -/
def importContext (x : Session) (fn : Nat) : Session :=
  let ans := policyAns x.rcNow.keyPolicy
  { x with
    st := .free, pend := .none, pendSlot := none, owner := fn, hold := x.hold, heldQ := false, demoted := false
    epoch := (x.epoch + 1) % 2 ^ 40, ing := { writePic := x.nextPic, relPic := x.nextPic }, pics := [], rateWin := []
    moveTo := none, lastMove := none, moveReq := none, outs := [], rsv := [], closeSlot := none, egress := x.nw.port
    started := max 1 x.started, silent := false, stall := false
    tr := { x.tr with firstRtp := none, srNext := none, depart := [], spanEnd := 0, carry := 0, carryEl := 0, carryFrag := false
                      rekeyWait := x.pol.rekeyOnImport
                      firs := if x.tr.firValid then [(x.tr.firSsrc, x.tr.firSeq)] else [] }
    loop := if x.kind = .decode then x.loop else { x.loop with krAns := x.loop.krAns.merge ans, lastHalve := none
                                                               ccfbSilent := false, rtcpSilent := false } }

/-- SESSION_IMPORT (R36, R42, R68, R298, R315): the image at PTR0, none for a failed read. An image is taken any number of
times (R71). -/
def execSessionImport (slot : Nat) (img : Option SealedImage) (s : State) : Host.Outcome State Fault Refusal :=
  .next (runCmd slot 0x16 anyField (fun c s =>
    match img with
    | none => finish slot stDmaError s
    | some m =>
      if !m.magicOk ∨ !m.lengthOk ∨ !m.tagOk ∨ clusterId s ≠ some (m.cluster, m.generation) then finish slot stSealMismatch s
      else
        let x := importContext m.ctx c.fn
        if !holdsPair s c.fn x.notifyQid then finish slot stInvalidField s
        else if x.protected' ∧ !protectUp s then finish slot stNotPermitted s
        else if x.protected' ∧ !svnOk s x.pol then finish slot stAuthFail s
        else
          match admission x true true s with
          | .inl st => finish slot st s
          | .inr (sid, s1) =>
            match importSlots sid m.recs s1 with
            | none => finish slot stNoMemory s
            | some s2 =>
              let s3 := secAdmit sid s2
              complete slot stOk (openRes sid s3) s3) s)

end Sys2Proof.Machine
end

