-- ==== Sys2Proof/Machine/SessQuery.lean ====
section
/-! DEFINITION. The 8,192 bytes of a context record as SESSION_QUERY writes them (R511 to R522, R526). -/

namespace Sys2Proof.Machine

/-- Codes of KIND, STATE, PEND_CMD, STANDARD and TERM (R512, R513, R518). -/
def SKind.code : SKind → Nat
  | .encode => 0 | .tandem => 1 | .decode => 2
def SState.code : SState → Nat
  | .free => 0 | .bound => 1 | .active => 2 | .quiescing => 3 | .quiesced => 4 | .moving => 5 | .sealing => 6
  | .exported => 7 | .stranded => 8 | .closing => 9
def PendCmd.code : PendCmd → Nat
  | .none => 0 | .quiesce => 1 | .move => 2 | .exporting => 3
def Std.code : Std → Nat
  | .av1 => 0 | .hevc => 1 | .avc => 2
def Term.code : Term → Nat
  | .empty => 0 | .short => 1 | .long => 2 | .lost => 3

/-- A list of (byte offset, 32-bit value) as words. -/
def wordsAt (l : List (Nat × Nat)) (t : Tab Nat) : Tab Nat := l.foldl (fun t e => putW32 (e.1 / 4) e.2 t) t
/-- A list of (byte offset, 64-bit value) as words. -/
def quadsAt (l : List (Nat × Nat)) (t : Tab Nat) : Tab Nat := l.foldl (fun t e => putW64 (e.1 / 4) e.2 t) t

/-- An IP address as little-endian words of its network-order bytes (R511, R515). -/
def ipWords (o ver a : Nat) : List (Nat × Nat) :=
  let n := if ver = 4 then 1 else 4
  (List.range n).map (fun i =>
    let w := a / 2 ^ (32 * (n - 1 - i)) % 2 ^ 32
    (o + 4 * i, w / 2 ^ 24 + w / 2 ^ 16 % 256 * 2 ^ 8 + w / 2 ^ 8 % 256 * 2 ^ 16 + w % 256 * 2 ^ 24))

/-- A list of bytes as little-endian words from an offset. -/
def byteWords (o : Nat) (l : List Byte) : List (Nat × Nat) :=
  (List.range (ceilDiv l.length 4)).map (fun i =>
    (o + 4 * i, ((List.range 4).map (fun j => (l.getD (4 * i + j) 0#8).toNat * 2 ^ (8 * j))).sum))

/-- Area A (R512). -/
def areaA (sid : Nat) (x : Session) : List (Nat × Nat) :=
  [(0, sid + x.kind.code * 2 ^ 12 + x.lc * 2 ^ 14 + x.st.code * 2 ^ 16 + x.pend.code * 2 ^ 20 + b2n x.protected' * 2 ^ 22 +
      b2n x.hold * 2 ^ 23 + b2n x.demoted * 2 ^ 24 + b2n x.decRefuse * 2 ^ 25 + b2n x.heldQ * 2 ^ 26),
   (4, x.notifyQid + x.owner * 2 ^ 16), (8, x.core + x.peloton * 2 ^ 6 + x.ethPolder * 2 ^ 9 + x.load * 2 ^ 16),
   (0xC, x.width + x.height * 2 ^ 16), (0x10, x.rateNum), (0x14, x.rateDen), (0x18, x.epoch % 2 ^ 32),
   (0x1C, x.epoch / 2 ^ 32 + x.gid * 2 ^ 8), (0x20, x.ing.winBase), (0x24, x.ing.winLen), (0x28, x.nextPic),
   (0x2C, x.donePic), (0x30, x.measRate), (0x34, (x.classDef.map (2 ^ ·)).sum)]

/-- Area B (R513). -/
def areaB (x : Session) : List (Nat × Nat) :=
  let f := x.fmt
  [(0x100, f.std.code + f.bitDepth * 2 ^ 8 + f.level * 2 ^ 16 + b2n f.constrainedHigh * 2 ^ 24),
   (0x104, f.srcFmt + b2n f.rowStream * 2 ^ 8 + f.matrix * 2 ^ 16 + f.range * 2 ^ 24),
   (0x108, f.ringDepth + b2n f.hintEn * 2 ^ 16 + f.aqStrength * 2 ^ 24), (0x10C, f.depthSplit),
   (0x110, b2n f.rowSlices + b2n f.keepBitstream * 2 ^ 8 + b2n x.ing.inDram * 2 ^ 16),
   (0x118, f.outFrames + b2n f.hashCheck * 2 ^ 8 + b2n f.grainApply * 2 ^ 16 + f.opPoint * 2 ^ 24),
   (0x11C, f.refSlots + f.longMax * 2 ^ 8)]

/-- Areas C, D and E (R514 to R516). -/
def areaCDE (x : Session) : List (Nat × Nat) :=
  let c := x.rc
  let w := x.nw
  [(0x200, c.rcMode + c.bufTarget * 2 ^ 8 + c.rowQpStep * 2 ^ 16 + c.keyRatio * 2 ^ 24), (0x204, c.rcTarget),
   (0x208, c.rcPeak), (0x20C, c.rcFloor), (0x210, c.bufDelay), (0x214, c.qpMin + c.qpMax * 2 ^ 16),
   (0x218, c.cqQp + c.vbrWindow * 2 ^ 16), (0x21C, c.narQhigh + c.sweepLen * 2 ^ 16), (0x220, c.refreshPeriod),
   (0x224, c.intraPeriod), (0x228, c.keyPolicy + c.firPolicy * 2 ^ 8 + c.keyHoldoff * 2 ^ 16),
   (0x22C, c.forceQp + b2n c.forceEn * 2 ^ 16 + b2n c.narHold * 2 ^ 24),
   (0x300, w.port + w.altPort * 2 ^ 8 + w.nhIndex * 2 ^ 16 + w.ipVer * 2 ^ 24),
   (0x304, w.vlan + w.dscp * 2 ^ 16 + w.ecn * 2 ^ 24), (0x308, w.hopLimit + w.mtu * 2 ^ 16), (0x30C, w.flowLabel),
   (0x330, w.localPort + w.remotePort * 2 ^ 16), (0x334, w.wirePeak), (0x338, w.paceWindow),
   (0x33C, w.paceBurst + b2n w.rowFlush * 2 ^ 8 + w.pt * 2 ^ 16 + w.picnumId * 2 ^ 24),
   (0x340, w.srInterval + w.srtpSuite * 2 ^ 16 + w.cname.length * 2 ^ 24), (0x344, w.ssrc), (0x348, w.supply), (0x34C, w.seqBase),
   (0x350, w.tsBase), (0x408, x.hs.reportCount), (0x418, x.hs.fblogCount), (0x41C, x.hs.fblogNext),
   (0x420, x.hs.ingestPort + x.hs.ingestStream * 2 ^ 8)] ++
  ipWords 0x310 w.ipVer w.localIp ++ ipWords 0x320 w.ipVer w.remoteIp ++ byteWords 0x360 w.cname

/-- Area F: bytes 0 to 223 of the policy (R299, R516). -/
def areaF (x : Session) : List (Nat × Nat) :=
  if !x.protected' then []
  else
    let p := x.pol
    let root := fun i r => (List.range 12).map (fun k =>
      let w := r / 2 ^ (32 * (11 - k)) % 2 ^ 32
      (0x520 + 48 * i + 4 * k, w / 2 ^ 24 + w / 2 ^ 16 % 256 * 2 ^ 8 + w / 2 ^ 8 % 256 * 2 ^ 16 + w % 256 * 2 ^ 24))
    [(0x500, 0x50504C4E), (0x504, 1 + b2n p.exportOk * 2 ^ 16 + b2n p.rekeyOnImport * 2 ^ 17), (0x508, p.publisherId),
     (0x50C, ((List.range 4).map (fun i => p.minSvn.getD i 0 * 2 ^ (8 * i))).sum), (0x510, p.playerRoots.length)] ++
    (p.playerRoots.mapIdx root).flatten

/-- Area G (R517). -/
def areaG (x : Session) : List (Nat × Nat) × List (Nat × Nat) :=
  let t := x.tr
  ([(0x600, t.rtpSeq), (0x604, t.roc), (0x608, t.srtcpIndex), (0x60C, t.lastTs), (0x610, t.packets), (0x614, t.octets),
    (0x618, t.keyGen), (0x61C, b2n t.keyed + b2n t.rekeyWait * 2), (0x630, t.highest), (0x638, t.firSsrc),
    (0x63C, t.firSeq + b2n t.firValid * 2 ^ 8)],
   [(0x620, ((t.replay.filter (· < 64)).map (2 ^ ·)).sum), (0x628, ((t.replay.filter (64 ≤ ·)).map (fun i => 2 ^ (i - 64))).sum),
    (0x640, match t.oldKeyUntil with
      | none => 0
      | some none => 2 ^ 64 - 1
      | some (some u) => clkFmt u),
    (0x648, clkFmt (t.srNext.getD 0))])

/-- Area H (R518). -/
def areaH (x : Session) : List (Nat × Nat) :=
  (x.slots.mapIdx (fun i t =>
    [(0x700 + 0x20 * i, t.handle), (0x704 + 0x20 * i, t.picNum),
     (0x708 + 0x20 * i, t.term.code + b2n t.acked * 4 + b2n t.clean * 8 + b2n t.damaged * 16),
     (0x70C + 0x20 * i, t.order), (0x710 + 0x20 * i, t.packed)])).flatten

/-- A signed value in a field of `n` bits. -/
def signedBits (v : Int) (n : Nat) : Nat := (v % (2 ^ n : Nat)).toNat

/-- Area I (R519). -/
def areaI (x : Session) : List (Nat × Nat) × List (Nat × Nat) :=
  let l := x.loop
  let time := fun o => clkFmt (o.getD 0)
  ([(0x818, l.rnet), (0x81C, l.srtt), (0x820, l.kU + l.kL * 2 ^ 16), (0x824, l.act), (0x828, l.t), (0x82C, l.h),
    (0x830, l.qp0 % 256 + l.qpLow % 256 * 2 ^ 8 + l.qpHigh % 256 * 2 ^ 16 + l.qpLast % 256 * 2 ^ 24),
    (0x834, l.forced % 256 + l.skipped % 256 * 2 ^ 8 + l.sweepK * 2 ^ 16 + b2n l.inSweep * 2 ^ 24),
    (0x838, l.krPend + l.krAns.code * 2 ^ 4 + l.krDropped % 2 ^ 16 * 2 ^ 16),
    (0x890, ((l.defer.filter (· < 32)).map (2 ^ ·)).sum),
    (0x894, ((l.defer.filter (fun n => 32 ≤ n && n < 64)).map (fun n => 2 ^ (n - 32))).sum),
    (0x898, ((l.defer.filter (64 ≤ ·)).map (fun n => 2 ^ (n - 64))).sum),
    (0x8A0, l.refBufWait), (0x8A4, l.ackStale), (0x8A8, l.fbDropped), (0x8AC, l.fbMerged), (0x8B0, l.rerefPic),
    (0x8B4, b2n l.rerefOn), (0x8B8, l.lastKey), (0x8BC, l.lastSweep), (0x8C0, l.sHat), (0x8C4, l.sExact.getD 0),
    (0x8C8, x.fb.length % 64 * 2 ^ 8 + x.fb.length * 2 ^ 16), (0x8D0, l.recLeft)] ++
   (l.oMin.mapIdx (fun i e => (0x860 + 4 * i, signedBits e.2 32))),
   [(0x800, l.d), (0x808, l.dN), (0x810, signedBits l.a 64), (0x840, time l.holdEnd), (0x848, time l.lastDec),
    (0x850, time l.lastCcfb), (0x858, time l.lastRtcp)])

/-- Area J (R520). -/
def areaJ (m : Nat) (t : Tab ModelRow) : List (Nat × Nat) :=
  (t.map (fun e =>
    let o := 0xA00 + 0x240 * m + 8 * e.1
    [(o, e.2.b), (o + 4, signedBits e.2.qp 16 + b2n e.2.valid * 2 ^ 16 + b2n e.2.skip * 2 ^ 17)])).flatten

/-- Area K (R514). -/
def areaK (x : Session) : List (Nat × Nat) :=
  [(0xE80, x.bm.rT), (0xE84, x.bm.rP), (0xE88, x.bm.tau), (0xE8C, b2n x.bm.waiting + x.bm.mode * 2 ^ 8)]

/-- A list of 16-bit values from an offset. -/
def halfWords (o : Nat) (l : List Nat) : List (Nat × Nat) :=
  (List.range (ceilDiv l.length 2)).map (fun i => (o + 4 * i, l.getD (2 * i) 0 + l.getD (2 * i + 1) 0 * 2 ^ 16))

/-- Area L (R520). -/
def areaL (x : Session) : List (Nat × Nat) :=
  halfWords 0x1000 x.loop.ext ++ (x.slots.mapIdx (fun i t => halfWords (0x1090 + 0x90 * i) t.extents)).flatten

/-- Area M: the pending items from entry 0 (R521). -/
def areaM (x : Session) : List (Nat × Nat) :=
  (x.fb.mapIdx (fun i f =>
    let t := clkFmt f.arrival
    ([t % 2 ^ 32, t / 2 ^ 32, 0xFFFFFFFF, f.kind.code * 2 ^ 12] ++ f.kind.words).mapIdx (fun j w => (0x1600 + 32 * i + 4 * j, w)))).flatten

/-- The record, area N zeroed (R526). -/
def contextWords (sid : Nat) (x : Session) : Tab Nat :=
  wordsAt (areaA sid x ++ areaB x ++ areaCDE x ++ areaF x ++ (areaG x).1 ++ areaH x ++ (areaI x).1 ++ areaJ 0 x.mInter ++
      areaJ 1 x.mKey ++ areaK x ++ areaL x ++ areaM x)
    (quadsAt ([(0x400, x.hs.reportBase), (0x410, x.hs.fblogBase)] ++ (areaG x).2 ++ (areaI x).2) [])

end Sys2Proof.Machine
end

