-- ==== Sys2Proof/Machine/SessCmds.lean ====
section
/-! DEFINITION. The session commands after admission (R36 to R41, R62, R66, R82, R87, R122, R150, R178, R185, R193, R224,
R525, R526) and the session engine's own events (R48, R63, R142, R154, R306). -/

namespace Sys2Proof.Machine

/-- The frame of a session command: a session whose record has lost both copies accepts only SESSION_CLOSE (R427), and an
EXPORTED or CLOSING one nothing else (R40). `sts`: the states that accept the command. -/
def sessCmd (slot opc : Nat) (ok : Slot → State → Bool) (sts : List SState) (body : Slot → Nat → Session → State → State)
    (s : State) : State :=
  runCmd slot opc ok (fun c s =>
    let x := sessOf s c.sid
    if x.ctxLost ∨ !sts.contains x.st then finish slot stBadState s
    else body c c.sid x s) s

/-- SESSION_CLOSE (R36, R38). -/
def execSessionClose (slot : Nat) (s : State) : Host.Outcome State Fault Refusal :=
  .next (runCmd slot 0x11 anyField (fun c s =>
    if (sessOf s c.sid).st = .closing then finish slot stBadState s
    else closeSession c.sid (some slot) (hold slot s)) s)

/-- SESSION_QUIESCE (R36, R37). -/
def execSessionQuiesce (slot : Nat) (s : State) : Host.Outcome State Fault Refusal :=
  .next (sessCmd slot 0x12 anyField [.bound, .active] (fun _ sid _ s =>
    settle sid (sessMod sid (fun x => { x with st := .quiescing, pend := .quiesce, pendSlot := some slot }) (hold slot s))) s)

/-- SESSION_RESUME (R36). -/
def execSessionResume (slot : Nat) (s : State) : Host.Outcome State Fault Refusal :=
  .next (sessCmd slot 0x13 anyField [.quiesced] (fun _ sid _ s =>
    complete slot stOk { sid := some sid } (sessMod sid (fun x => { x with st := .bound }) s)) s)

/-- Field check of SESSION_MOVE (R224): a CORE that cannot hold the session's kind. -/
def moveFieldOk (c : Slot) (s : State) : Bool :=
  let x := sessOf s c.sid
  let k := c.arg 24 4 6
  if c.arg 24 10 1 = 0 then true
  else if x.kind = .tandem then decide (k % 2 = 0) && inTandem s k
  else !inTandem s k

/-- SESSION_MOVE (R36, R62, R224). -/
def execSessionMove (slot : Nat) (s : State) : Host.Outcome State Fault Refusal :=
  .next (sessCmd slot 0x14 (fun c s => !owns s c.fn c.sid || moveFieldOk c s) [.bound, .active, .quiesced, .stranded] (fun c sid x s =>
    let req := some (if c.arg 24 3 1 = 1 then some (c.arg 24 0 3) else none,
      if c.arg 24 10 1 = 1 then some (c.arg 24 4 6) else none, if c.arg 24 13 1 = 1 then some (c.arg 24 11 2) else none)
    let s1 := sessMod sid (fun x => { x with
      pend := .move, pendSlot := some slot, moveReq := req, moveFrom := if x.st = .active then .bound else x.st }) (hold slot s)
    if x.st = .quiesced ∨ x.st = .stranded then doMove sid s1
    else settle sid (sessMod sid (fun x => { x with st := .quiescing }) s1)) s)

/-- SESSION_EXPORT (R36, R66, R297). -/
def execSessionExport (slot : Nat) (s : State) : Host.Outcome State Fault Refusal :=
  .next (sessCmd slot 0x15 anyField [.bound, .active, .quiesced] (fun c sid x s =>
    if x.protected' ∧ !x.pol.exportOk then finish slot stProtected s
    else
      let s1 := sessMod sid (fun x => { x with
        pend := .exporting, pendSlot := some slot, expAddr := c.ptr0, expLen := c.arg 24 0 32 }) (hold slot s)
      if x.st = .quiesced then startSeal sid s1
      else settle sid (sessMod sid (fun x => { x with st := .quiescing }) s1)) s)

/-- The header of a sealed image (R314). -/
def sealHeader (sid : Nat) (x : Session) (s : State) : Tab Nat :=
  let (cl, gen) := (clusterId s).getD (0, 0)
  let lens := quadsAt (x.slots.mapIdx (fun i t => (0x30 + 8 * i, if t.held then t.packed else 0)))
    (quadsAt [(0x18, x.epoch), (0x20, imageLen x), (0x28, x.fmt.refSlots)] [])
  wordsAt ([(0, 0x49534C4E), (4, 1 + b2n x.protected' * 2 ^ 16 + b2n x.pol.rekeyOnImport * 2 ^ 17), (8, cl),
      (0xC, gen + x.kind.code * 2 ^ 16 + x.lc * 2 ^ 24), (0x10, cdidOf s + sid * 2 ^ 16)] ++
    (List.range 8).map (fun i => (0x70 + 4 * i, Config.random (s.sec.drbg + i) % 2 ^ 32)) ++
    (List.range 3).map (fun i => (0x90 + 4 * i, Config.random (s.sec.drbg + 8 + i) % 2 ^ 32))) lens

/-- SEAL_DONE (R36, R66, R308, R314): SEC reports the sealed image written; `ok` is false where the host write failed,
which ends the export with ST_DMA_ERROR. -/
def execSealDone (sid : Fin 4096) (ok : Bool) (s : State) : Host.Outcome State Fault Refusal :=
  let x := sessOf s sid
  .next (if x.st ≠ .sealing then s
    else if !ok then endPend sid stDmaError (sessMod sid (fun x => { x with st := .quiesced }) s)
    else
      let len := imageLen x
      let s1 := emit (.sealedImage x.owner x.expAddr len (sealHeader sid x s)
        ((x.slots.filter (·.held)).map (fun t => slotRecord s x.fmt.std t.handle))) { s with sec := { s.sec with
        drbg := s.sec.drbg + 11, xts := terase s.sec.xts sid } }
      let s2 := forAll x.pics (fun p s => endPic sid p.num stBadState s) s1
      let s3 := releaseSession sid (flushAll sid s2)
      let s4 := sessMod sid (fun x => { x with
        st := .exported, keys := {}, tr := { x.tr with keyed := false }, pend := .none, pendSlot := none }) s3
      match x.pendSlot with
      | none => s4
      | some c => complete c stOk { r0 := len, sid := some sid.val } s4)

/-- SESSION_QUERY (R526): `ok` says whether the host write went through. -/
def execSessionQuery (slot : Nat) (ok : Bool) (s : State) : Host.Outcome State Fault Refusal :=
  .next (runCmd slot 0x17 anyField (fun c s =>
    let x := sessOf s c.sid
    if x.ctxLost then finish slot stBadState s
    else if c.arg 24 0 32 < 8192 then finish slot stBufferShort s
    else if !ok then finish slot stDmaError s
    else complete slot stOk { sid := some c.sid, pre := [.hostWr c.fn c.ptr0 8192 true (contextWords c.sid x)] } s) s)

/-- The area D fields that SESSION_SET_RC may not change are all ones (R525). -/
def netFixed (b : HostBuf) : Bool :=
  [(0x100, 0, 32), (0x104, 0, 16), (0x108, 0, 32), (0x10C, 0, 32), (0x110, 0, 32), (0x114, 0, 32), (0x118, 0, 32),
   (0x11C, 0, 32), (0x120, 0, 32), (0x124, 0, 32), (0x128, 0, 32), (0x12C, 0, 32), (0x130, 0, 32), (0x134, 0, 32),
   (0x13C, 16, 16), (0x140, 16, 16), (0x144, 0, 32), (0x148, 0, 8), (0x14C, 0, 16), (0x150, 0, 32), (0x160, 0, 32),
   (0x164, 0, 32), (0x168, 0, 32), (0x16C, 0, 32), (0x170, 0, 32), (0x174, 0, 32), (0x178, 0, 32), (0x17C, 0, 32)].all
    (fun e => decide (b.fld e.1 e.2.1 e.2.2 = 2 ^ e.2.2 - 1))

/-- The area D fields of Source R (R515, R525). -/
def readNetRc (b : HostBuf) (w : NetSet) : NetSet :=
  { w with
    dscp := dflt (b.fld 0x104 16 8) 8 w.dscp, ecn := dflt (b.fld 0x104 24 8) 8 w.ecn
    paceWindow := dflt (b.fld 0x138 0 32) 32 w.paceWindow, paceBurst := dflt (b.fld 0x13C 0 8) 8 w.paceBurst
    rowFlush := decide (dflt (b.fld 0x13C 8 8) 8 (b2n w.rowFlush) ≠ 0)
    srInterval := dflt (b.fld 0x140 0 16) 16 w.srInterval }
/-- Their ranges (R247). -/
def netRcOk (b : HostBuf) (w : NetSet) : Bool :=
  decide (w.dscp ≤ 63) && decide (w.ecn ≤ 2) && inR w.paceWindow 10 100000 && inR w.paceBurst 1 64 && flag8 b 0x13C 8 &&
    inR w.srInterval 10 5000

/-- SESSION_SET_RC (R122, R158, R225, R525): the block the device read at PTR0, none for a failed read. On a decode session no
field is used. -/
def execSessionSetRc (slot : Nat) (blk : Option HostBuf) (s : State) : Host.Outcome State Fault Refusal :=
  .next (runCmd slot 0x18 (fun c _ => decide (c.arg 24 0 32 = 256) || decide (c.arg 24 0 32 = 512)) (fun c s =>
    match blk with
    | none => finish slot stDmaError s
    | some b =>
      let sid := c.sid
      let x := sessOf s sid
      let both := decide (c.arg 24 0 32 = 512)
      let rc := readRc b 0 x.rc
      let nw := if both then readNetRc b x.nw else x.nw
      if x.kind ≠ .decode ∧ (!rcOk x.fmt.std x.rateNum x.rateDen rc ∨ !rcFlagsOk b 0 ∨ (both ∧ (!netFixed b ∨ !netRcOk b nw))) then
        finish slot stInvalidField s
      else if x.ctxLost ∨ x.st = .exported ∨ x.st = .closing then finish slot stBadState s
      else if x.kind = .decode then complete slot stOk { sid := some sid } s
      else
          let m := rc.model
          let size := m.size x.rateNum x.rateDen
          let change := decide (m.rD ≠ x.bm.rD) || decide (size ≠ x.bm.size x.rateNum x.rateDen)
          let lvlOk := (levelsOf x.fmt.std).any (fun l => l.code == x.fmt.level && decide (m.rD ≤ l.br) && decide (size ≤ l.cpb))
          if change && !lvlOk then finish slot stFormatLimit s
          else if change && (fitPools s .bitstream
              (bitBufSize x.kind x.fmt.std x.fmt.rowSlices x.width x.height size)).isEmpty then finish slot stNoMemory s
          else
            let wrote := fun o lo n => decide (b.fld o lo n ≠ 2 ^ n - 1)
            let gone := (if wrote 0x1C 0 16 then [0] else []) ++ (if wrote 0x28 0 8 then [1] else []) ++
              (if both && wrote 0x104 16 8 then [2] else []) ++ (if both && wrote 0x13C 8 8 then [3] else []) ++
              (if both && wrote 0x138 0 32 then [4] else [])
            complete slot stOk { sid := some sid } (sessMod sid (fun x => (({ x with
              rc := rc, nw := nw, bm := { x.bm with waiting := change }
              classDef := x.classDef.filter (fun k => !gone.contains k) } : Session).record (devNs s) (.setRc rc))) s)) s)

/-- KEY_REQUEST (R150, R224). -/
def execKeyRequest (slot : Nat) (s : State) : Host.Outcome State Fault Refusal :=
  .next (sessCmd slot 0x19 anyField [.bound, .active, .quiescing, .quiesced, .moving, .sealing, .stranded] (fun c sid x s =>
    if x.kind = .decode then finish slot stBadState s
    else complete slot stOk { sid := some sid }
      (sessMod sid (fun x => x.record (devNs s) (.keyReq (answerOf (c.arg 24 0 2)))) s)) s)

/-! ### Submission -/

/-- Pixels submitted in the last second, at the model time `now` (R48). -/
def windowPixels (x : Session) (now : Nat) : Nat :=
  ((x.rateWin.filter (fun e => decide (e.1 + psMs 1000 > now))).map (·.2)).sum

/-- A picture is submitted: the measured rate, and demotion when it exceeds the declared one by more than 2% (R48). -/
def submitRate (sid : Nat) (s : State) : State :=
  let x := sessOf s sid
  let win := (x.rateWin.filter (fun e => decide (e.1 + psMs 1000 > s.now))) ++ [(s.now, x.width * x.height)]
  let px := (win.map (·.2)).sum
  let above := decide (px * 100 * x.rateDen > 102 * (x.width * x.height * x.rateNum))
  let s1 := sessMod sid (fun x => { x with
    rateWin := win, measRate := ceilDiv px 1000000, demoted := x.demoted || above }) s
  if above && !x.demoted then
    evtSess sid 0x0012 3 (ceilDiv px 1000000) (ceilDiv (x.width * x.height * x.rateNum) (x.rateDen * 1000000)) 0 0 0 s1
  else s1

/-- RATE_DEMOTION_END (R48): the measured rate is at or below the declared rate again. -/
def execRateDemotionEnd (sid : Fin 4096) (s : State) : Host.Outcome State Fault Refusal :=
  let x := sessOf s sid
  let px := windowPixels x s.now
  .next (if x.demoted && decide (px * x.rateDen ≤ x.width * x.height * x.rateNum) then
      sessMod sid (fun x => { x with demoted := false, measRate := ceilDiv px 1000000 }) s
    else s)

/-- May pictures be submitted in this state: coded, or held (R39)? -/
def Session.takesPics (x : Session) : Bool :=
  match x.st with
  | .bound | .active | .quiesced | .moving | .stranded => true
  | .quiescing => x.pend != .exporting
  | _ => false

/-- Job packets of the session in the row work queues. -/
def pktsOf (s : State) (sid : Nat) (p : Pkt → Bool) : Nat :=
  (s.pels.map (fun e => (e.2.queue.filter (fun k => k.sid == sid && p k)).length)).sum

/-- Lines of a picture announced by accepted doorbells (R85, R86). -/
def linesReady (x : Session) (num : Nat) : Nat :=
  let g := x.ing
  if num < g.writePic then x.height else if num = g.writePic then (if g.dbAny then g.dbLines else 0) else 0

/-- Is the start threshold of row `n` of the picture met (R86)? -/
def thresholdMet (x : Session) (p : Pic) (n : Nat) : Bool :=
  if x.kind ≠ .encode ∨ !x.fmt.rowStream then true
  else decide (linesReady x p.num ≥ min (64 * (n + 1) + 8) x.height) && (decide (x.ing.writePic > p.num) || x.ing.dbAny)

/-- Rows of a picture that a packet can name: of a decoded one only row 0 until its headers are parsed. -/
def rowCount (x : Session) (p : Pic) : Nat := if x.kind = .decode then (if p.parsed then p.nRows else 1) else x.nRows

/-- The next row the session engine writes a packet for, in the session's one order (R86), or in a band of a tandem (R197):
the picture and the row. -/
def nextRow (x : Session) (low : Bool) : Option (Pic × Nat) :=
  let live := x.pics.filter (fun p => p.st != .ended && (x.st != .quiescing || p.began) && !p.unsupported)
  if x.kind = .tandem then
    if low then
      (live.find? (fun p => p.began && decide (p.lowWritten < x.nRows - x.upRows))).map (fun p => (p, x.upRows + p.lowWritten))
    else (live.find? (fun p => decide (p.rowsWritten < x.upRows))).map (fun p => (p, p.rowsWritten))
  else
    match live.find? (fun p => decide (p.rowsWritten < rowCount x p) || (decide (x.kind = .decode) && !p.parsed)) with
    | none => none
    | some p => if p.rowsWritten < rowCount x p then some (p, p.rowsWritten) else none

/-- Does the session write packets now (R36, R83)? -/
def codes (x : Session) : Bool :=
  (x.st == .bound || x.st == .active || x.st == .quiescing) && x.ing.copying.isNone && !x.ctxLost

/-- Fewer than two packets of the session (of the band) are queued (R86, R197). -/
def queueRoom (s : State) (sid : Nat) (low : Bool) : Bool :=
  let x := sessOf s sid
  decide (pktsOf s sid (fun k => if x.kind = .tandem then decide (k.row ≥ x.upRows) == low else true) < 2)

/-- Note the time at which both conditions of R86 are first true for the next row. -/
def noteReady (sid : Nat) (s : State) : State :=
  let one := fun low s =>
    let x := sessOf s sid
    match nextRow x low with
    | none => s
    | some (p, n) =>
      if codes x ∧ queueRoom s sid low ∧ thresholdMet x p n then
        picMod sid p.num (fun p => if low then { p with lowSince := some (p.lowSince.getD (devNs s)) }
          else { p with readySince := some (p.readySince.getD (devNs s)) }) s
      else s
  if (sessOf s sid).kind = .tandem then one true (one false s) else one false s

/-- Put a picture in its place: row-stream pictures by number, others at the end. -/
def insertPic (byNum : Bool) (p : Pic) : List Pic → List Pic
  | [] => [p]
  | q :: l => if byNum ∧ p.num < q.num then p :: q :: l else q :: insertPic byNum p l

/-- ENCODE_PICTURE (R39, R82, R87, R224). -/
def execEncodePicture (slot : Nat) (s : State) : Host.Outcome State Fault Refusal :=
  .next (runCmd slot 0x20 anyField (fun c s =>
    let sid := c.sid
    let x := sessOf s sid
    let num := c.arg 24 0 32
    let half := c.arg 28 0 1
    let cap := c.arg 32 0 64
    let capNs := if cap = 0 then devNs s else fmtNs cap
    if x.kind = .decode ∨ x.ctxLost ∨ !x.takesPics then finish slot stBadState s
    else if x.fmt.rowStream then
      match x.pic num with
      | some p =>
        if p.rowsWritten > 0 ∨ p.boundCmd ∨ p.st ≠ .waiting then finish slot stBadState s
        else
          { hold slot (picMod sid num (fun p => { p with cmd := some slot, boundCmd := true, capture := capNs }) s) with
            slots := tput s.slots slot { c with started := true, picture := some (sid, num) } }
      | none =>
        if num < x.nextPic ∨ num < x.ing.writePic then finish slot stBadState s
        else
          let s1 := sessMod sid (fun x => { x with
            pics := insertPic true { num := num, cmd := some slot, boundCmd := true, capture := capNs } x.pics }) s
          { s1 with slots := tput s1.slots slot { c with started := true, picture := some (sid, num) } }
    else if (if half = 0 then x.ing.half0Busy else x.ing.half1Busy) then finish slot stSourceBusy s
    else
      let s1 := sessMod sid (fun x => { x with
        ing := if half = 0 then { x.ing with half0Busy := true } else { x.ing with half1Busy := true }
        pics := x.pics ++ [{ num := num, cmd := some slot, boundCmd := true, srcIdx := half, capture := capNs }] }) s
      noteReady sid (submitRate sid
        { s1 with slots := tput s1.slots slot { c with started := true, picture := some (sid, num) } })) s)

/-- DECODE_PICTURE (R39, R178, R226). -/
def execDecodePicture (slot : Nat) (s : State) : Host.Outcome State Fault Refusal :=
  .next (runCmd slot 0x21 anyField (fun c s =>
    let sid := c.sid
    let x := sessOf s sid
    let h := c.arg 24 0 32
    let off := c.arg 28 0 32
    let len := c.arg 32 0 32
    if x.kind ≠ .decode ∨ x.ctxLost ∨ !x.takesPics then finish slot stBadState s
    else
      match cmdBuf s c.fn h with
      | none => finish slot stBadHandle s
      | some _ =>
        if off + len > bufSize s h then finish slot stInvalidField s
        else
          let num := x.nextPic
          let s1 := sessMod sid (fun x => { x with
            nextPic := (x.nextPic + 1) % 2 ^ 32
            pics := x.pics ++ [{ num := num, cmd := some slot, boundCmd := true, buf := h, off := off, len := len }] }) (addRef 0 h s)
          noteReady sid (submitRate sid
            { s1 with slots := tput s1.slots slot { c with started := true, picture := some (sid, num) } })) s)

/-- FRAME_RELEASE (R40, R185). -/
def execFrameRelease (slot : Nat) (s : State) : Host.Outcome State Fault Refusal :=
  .next (runCmd slot 0x22 anyField (fun c s =>
    let x := sessOf s c.sid
    let h := c.arg 24 0 32
    if x.kind ≠ .decode ∨ x.ctxLost ∨ x.st = .exported then finish slot stBadState s
    else if x.outs.any (fun o => o.1 == h && o.2) then
      complete slot stOk { sid := some c.sid }
        (sessMod c.sid (fun x => { x with outs := x.outs.map (fun o => if o.1 = h then (h, false) else o) }) s)
    else finish slot stBadHandle s) s)

/-! ### Tandems -/

/-- TANDEM_JOIN (R192, R193). -/
def execTandemJoin (slot : Nat) (s : State) : Host.Outcome State Fault Refusal :=
  .next (runCmd slot 0x30 (fun c _ => decide (c.arg 24 0 6 % 2 = 0)) (fun c s =>
    let k := c.arg 24 0 6 / 2
    if (pairOf s k).st ≠ .single ∨ pairHeld s k then finish slot stBadState s
    else if !coreUp s (2 * k) ∨ !coreUp s (2 * k + 1) then finish slot stFenced s
    else pairMod k (fun _ => { st := .joining, joinSlot := some slot, since := s.now }) (hold slot s)) s)

/-- TANDEM_SPLIT (R192, R193). -/
def execTandemSplit (slot : Nat) (s : State) : Host.Outcome State Fault Refusal :=
  .next (runCmd slot 0x31 (fun c _ => decide (c.arg 24 0 6 % 2 = 0)) (fun c s =>
    let k := c.arg 24 0 6 / 2
    if (pairOf s k).st ≠ .joined ∨ pairHeld s k then finish slot stBadState s
    else finish slot stOk (pairMod k (fun _ => {}) s)) s)

/-- SEAM_TRAINED (R192). -/
def execSeamTrained (k : Fin 32) (s : State) : Host.Outcome State Fault Refusal :=
  .next (let p := pairOf s k
    if p.st ≠ .joining ∨ !coreUp s (2 * k) ∨ !coreUp s (2 * k + 1) then s
    else
      let s1 := pairMod k (fun _ => { st := .joined, trained := true, enabled := true }) s
      match p.joinSlot with
      | none => s1
      | some c => finish c stOk s1)

/-- SEAM_TRAIN_TIMEOUT (R192): 20 µs without training. -/
def execSeamTrainTimeout (k : Fin 32) (s : State) : Host.Outcome State Fault Refusal :=
  .next (let p := pairOf s k
    if p.st ≠ .joining ∨ s.now < p.since + psUs 20 then s
    else
      let s1 := pairMod k (fun _ => {}) s
      match p.joinSlot with
      | none => s1
      | some c => finish c stSeamTrain s1)

/-! ### The session engine's own events -/

/-- The session is at a picture boundary: none of its rows is queued, in a core, or still to be written of a started
picture (R63). -/
def atBoundary (s : State) (sid : Nat) : Bool :=
  let x := sessOf s sid
  (x.st == .bound || x.st == .active) && x.ing.copying.isNone && !rowsIn s sid && !queued s sid &&
    x.pics.all (fun p => !p.began || decide (p.rowsWritten + p.lowWritten ≥ rowCount x p))

/-- Does the score `a` lie at least 128 below `b` (R63)? -/
def lower128 (a b : Nat × Nat) : Bool := decide (a.1 * b.2 + 128 * a.2 * b.2 ≤ b.1 * a.2)

/-- The peloton with the highest score, ties to the lower number (R63); one with no capacity has no score. -/
def worstPel (s : State) : Nat :=
  ((List.range 8).filter (fun p => decide (pelCap s p ≠ 0))).foldl
    (fun b p => if pelCap s b = 0 ∨ fracLt (pelScore s b 0) (pelScore s p 0) then p else b) 0

/-- REBALANCE_EVAL (R63): every 100 ms. -/
def execRebalanceEval (s : State) : Host.Outcome State Fault Refusal :=
  .next (if s.now < s.rebalanceAt ∨ !s.boot.ready ∨ isFatal s then s
    else
      let src := worstPel s
      let s1 := { s with rebalanceAt := s.now + psMs 100 }
      let mine := s.sess.filter (fun p => p.2.st.live && p.2.core / 8 == src)
      if mine.any (fun p => p.2.moveTo.isSome) then s1
      else
        let can := (mine.filter (fun p => decide (p.2.lc ≥ 2) && (p.2.st == .bound || p.2.st == .active) &&
            (match p.2.lastMove with
             | none => true
             | some t => decide (t + psMs 1000 ≤ s.now)))).filterMap (fun p =>
          match placeIn s p.2.kind p.2.load p.2.lc ((List.range 8).filter (· ≠ src)) with
          | none => none
          | some c => if lower128 (pelScore s (c / 8) p.2.load) (pelScore s src 0) then some (p.1, c) else none)
        match can with
        | [] => s1
        | (sid, c) :: _ => sessMod sid (fun x => { x with moveTo := some c }) s1)

/-- The core an overloaded core's session moves to within its peloton (R63 case 1), chosen as R61 binds. -/
def innerMove (s : State) (x : Session) : Option Nat :=
  let p := x.core / 8
  let cap := (if x.kind = .tandem then 2 else 1) * gearCap (gearOf s p).run
  if coreLoad s x.core ≤ cap then none
  else pickCore s x.kind x.lc ((fitCores s x.kind x.load x.lc p).filter (fun c =>
    decide (c ≠ x.core) && decide (coreLoad s c + x.load ≤ cap)))

/-- AUTO_MOVE (R63): at a session's picture boundary a chosen move is carried out if it still fits, else dropped. -/
def execAutoMove (sid : Fin 4096) (s : State) : Host.Outcome State Fault Refusal :=
  let x := sessOf s sid
  .next (if x.lc < 2 ∨ !atBoundary s sid ∨ isFatal s then s
    else
      let go := fun c => rebind sid c 1 false (sessMod sid (fun x => { x with moveTo := none, lastMove := some s.now }) s)
      match x.moveTo with
      | some c => if autoFits s x.kind x.load x.lc c then go c else sessMod sid (fun x => { x with moveTo := none }) s
      | none => match innerMove s x with
        | some c => go c
        | none => s)

/-- A CLOSING session becomes FREE (R36, R72, R308, R527). -/
def freeSession (sid : Nat) (s : State) : State :=
  let x := sessOf s sid
  let s1 := releaseSession sid s
  srOrders (pairSettle (x.core / 2) { s1 with
    sess := terase s1.sess sid, sec := { s1.sec with xts := terase s1.sec.xts sid }
    net := { s1.net with tx := s1.net.tx.filter (fun t => t.sid != sid) } })

/-- SESSION_CLOSE_DRAINED (R36, R72, R308, R527): a CLOSING session with no row in flight. -/
def execSessionCloseDrained (sid : Fin 4096) (s : State) : Host.Outcome State Fault Refusal :=
  let x := sessOf s sid
  .next (if x.st ≠ .closing ∨ rowsIn s sid then s
    else
      let s3 := freeSession sid s
      match x.closeSlot with
      | none => s3
      | some c => complete c stOk { sid := some sid.val } s3)

/-- HOLDOFF_END (R154): a held FIR is held no longer, so that it acts at the next row 0. Other items stay judged by their
arrival within the holdoff. -/
def execHoldoffEnd (sid : Fin 4096) (s : State) : Host.Outcome State Fault Refusal :=
  .next (match (sessOf s sid).loop.holdEnd with
    | some t =>
      if devNs s < t then s
      else sessMod sid (fun x => { x with fb := x.fb.map (fun f => { f with hold := f.hold && !f.kind.isFir }) }) s
    | none => s)

/-- Later of the last RTCP of a kind and the first RTP packet on the wire (R142). -/
def silenceFrom (x : Session) (last : Option Nat) : Option Nat := x.tr.firstRtp.map (fun t => max t (last.getD 0))

/-- CCFB_SILENCE (R142): 500 ms without a CCFB block. -/
def execCcfbSilence (sid : Fin 4096) (s : State) : Host.Outcome State Fault Refusal :=
  let x := sessOf s sid
  .next (match silenceFrom x x.loop.lastCcfb with
    | none => s
    | some t => if devNs s < t + 500000000 then s
      else sessMod sid (fun x => { x with loop := { x.loop with ccfbSilent := true } }) s)

/-- RTCP_SILENCE (R142, R143): every 1,000 ms without RTCP halves R_net, and the entry writes EVT_FEEDBACK_LOST. -/
def execRtcpSilence (sid : Fin 4096) (s : State) : Host.Outcome State Fault Refusal :=
  let x := sessOf s sid
  .next (match silenceFrom x x.loop.lastRtcp with
    | none => s
    | some t =>
      let from' := if x.loop.rtcpSilent then x.loop.lastHalve.getD t else t
      if devNs s < from' + 1000000000 then s
      else
        let s1 := sessMod sid (fun x => { x with loop := { x.loop with
          rtcpSilent := true, lastHalve := some (from' + 1000000000), lastDec := some (devNs s)
          rnet := if x.rcNow.narHold then x.loop.rnet else max x.rcNow.rcFloor ((x.loop.rnet + 1) / 2) } }) s
        if x.loop.rtcpSilent then s1 else evtSess sid 0x0015 3 0 0 0 0 0 s1)

/-- OLD_KEY_LAPSE (R306): 2 s after the first RTP packet under the new keys. -/
def execOldKeyLapse (sid : Fin 4096) (s : State) : Host.Outcome State Fault Refusal :=
  .next (match (sessOf s sid).tr.oldKeyUntil with
    | some (some t) =>
      if devNs s < t then s
      else sessMod sid (fun x => { x with tr := { x.tr with oldKeyUntil := none }, keys := { x.keys with oldRecv := none } }) s
    | _ => s)

end Sys2Proof.Machine
end

