-- ==== Sys2Proof/Machine/Ingest.lean ====
section
/-! DEFINITION. The ingest window (R77 to R87): writes into halves and rings, the control page, row doorbells, and the end of
a ring copy. -/

namespace Sys2Proof.Machine

/-- The session whose window an offset of BAR2 lies in (R77). -/
def windowOf (s : State) (addr : Nat) : Option (Nat × Session) :=
  s.sess.find? (fun p => p.2.st != .free && decide (p.2.ing.winBase * 2 ^ 21 ≤ addr) &&
    decide (addr < (p.2.ing.winBase + p.2.ing.winLen) * 2 ^ 21))

/-- Bytes of a picture layout of the session's window, B of R78. -/
def Session.picBytes (x : Session) : Nat := pictureBuf x.fmt.srcFmt x.width x.height
/-- Offset of the control page in the window (R78). -/
def Session.ctlOff (x : Session) : Nat := x.picBytes * (if x.fmt.rowStream then 1 else 2)

/-- The luma line a byte of the picture layout belongs to, its plane and its place in the line (R78): 0 luma or RGBA, 1
chroma, 2 hints. None for a byte between planes. -/
def Session.lineAt (x : Session) (off : Nat) : Option (Nat × Nat × Nat) :=
  let sy := strideY x.fmt.srcFmt x.width
  let ha := alignH x.height
  let ho := hintOff x.fmt.srcFmt x.width x.height
  let sh := hintStride x.width
  if off < sy * ha then some (off / sy, 0, off % sy)
  else if off < planesEnd x.fmt.srcFmt x.width x.height then some (2 * ((off - sy * ha) / sy), 1, (off - sy * ha) % sy)
  else if ho ≤ off ∧ off < ho + sh * (ha / 16) then some (16 * ((off - ho) / sh), 2, (off - ho) % sh)
  else none

/-- Ring position of a line of the write picture, and of the first unreleased line (R84). -/
def Session.ringPos (x : Session) (line : Nat) : Nat := x.ing.writePic * x.height + line
def Session.ringFirst (x : Session) : Nat := x.ing.relPic * x.height + x.ing.relLines

/-- Does the ring take a write to the line now (R84)? -/
def Session.ringTakes (x : Session) (line : Nat) : Bool := decide (x.ringPos line < x.ringFirst + x.fmt.ringDepth)

/-- Key of a byte in the ring's contents. -/
def Session.ringKey (x : Session) (line plane at' : Nat) : Nat :=
  x.ringPos line % max 1 x.fmt.ringDepth * 2 ^ 24 + plane * 2 ^ 22 + at'

/-- Numbered bytes of a write. -/
def numbered (off : Nat) (data : List Byte) : List (Nat × Byte) := data.mapIdx (fun i b => (off + i, b))

/-- A row-stream write to the picture layout (R84): lines at or past H are ignored, accepted bytes go into the ring, and a
refused line marks its 8-line group lost, with one event per picture. -/
def ringWrite (sid port off : Nat) (data : List Byte) (s : State) : State :=
  let x := sessOf s sid
  let cells := (numbered off data).filterMap (fun e => (x.lineAt e.1).map (fun l => (l, e.2)))
  let judged := cells.filter (fun c => decide (c.1.1 < x.height))
  let taken := judged.filter (fun c => x.ringTakes c.1.1)
  let lost := ((judged.filter (fun c => !x.ringTakes c.1.1)).map (fun c => (x.ing.writePic, c.1.1 / 8))).eraseDups
  let top := (taken.map (fun c => c.1.1 + 1)).foldl max x.ing.accLines
  let s1 := sessMod sid (fun x => { x with
    ing := ({ x.ing with
      ring := taken.foldl (fun t c => tput t (x.ringKey c.1.1 c.1.2.1 c.1.2.2) c.2) x.ing.ring
      wrote := x.ing.wrote ++ ((taken.map (fun c => (c.1.1 / 8, port))).eraseDups).filter (fun g => !x.ing.wrote.contains g)
      accLines := top, overrun := x.ing.overrun || !lost.isEmpty
      lost := x.ing.lost ++ lost.filter (fun g => !x.ing.lost.contains g)
      ovrEvt := if lost.isEmpty then x.ing.ovrEvt else some x.ing.writePic } : Ingest).advance }) s
  if lost.isEmpty ∨ x.ing.ovrEvt = some x.ing.writePic then s1
  else evtSess sid 0x0013 2 (x.ing.writePic % 2 ^ 32 + 8 * lost.length % 2 ^ 16 * 2 ^ 32) 0 0 0 0 s1

/-- A frame-mode write to a half (R82): discarded while a submitted picture holds the half. -/
def halfWrite (sid off : Nat) (data : List Byte) (s : State) : State :=
  let x := sessOf s sid
  let b := max 1 x.picBytes
  let h := if off / b = 0 then x.ing.srcBuf0 else x.ing.srcBuf1
  if (if off / b = 0 then x.ing.half0Busy else x.ing.half1Busy) then
    sessMod sid (fun x => { x with ing := { x.ing with wrBusy := true } }) s
  else if h = 0 ∨ !mcUsable s (bufMc s (hKey h)) then s
  else bufWrite (hKey h) (off % b) data s

/-- An ignored doorbell (R85). -/
def dbReject (sid lines : Nat) (s : State) : State :=
  let g := (sessOf s sid).ing
  let s1 := sessMod sid (fun x => { x with ing := { x.ing with dbErr := true, dbEvt := some x.ing.writePic } }) s
  if g.dbEvt = some g.writePic then s1
  else evtSess sid 0x0014 2 (g.writePic % 2 ^ 32 + lines % 2 ^ 16 * 2 ^ 32) 0 0 0 0 s1

/-- The 8-line groups a doorbell announces that another port wrote: what the core reads there is undefined (R80). -/
def Ingest.announce (g : Ingest) (port lines : Nat) : List (Nat × Nat) :=
  (g.wrote.filter (fun w => w.2 != port && decide (8 * w.1 < lines))).map (fun w => (g.writePic, w.1))

/-- A row doorbell at the core, from a port (R80, R85, R87): the first accepted one of a picture starts it, the final one moves
the write picture on. -/
def srcDoorbell (sid port pic lines : Nat) (s : State) : State :=
  let x := sessOf s sid
  let g := x.ing
  if !x.fmt.rowStream ∨ !polOpen s 94 then s
  else if pic ≠ g.writePic % 2 ^ 16 ∨ (g.dbAny ∧ lines < g.dbLines) ∨ lines > x.height ∨
      (lines % 8 ≠ 0 ∧ lines ≠ x.height) then dbReject sid lines s
  else
    let num := g.writePic
    let s1 :=
      if g.dbAny then s
      else if !x.takesPics ∨ x.ctxLost then
        sessMod sid (fun x => { x with ing := { x.ing with dropPics := x.ing.dropPics ++ [num] } }) s
      else
        submitRate sid (if (x.pic num).isSome then s
          else sessMod sid (fun x => { x with pics := insertPic true { num := num, capture := devNs s } x.pics }) s)
    let s2 := sessMod sid (fun x => { x with
      ing := (if lines = x.height then
          { x.ing with writePic := num + 1, dbLines := 0, dbAny := false, accLines := 0, wrote := []
                       mixed := x.ing.mixed ++ x.ing.announce port lines }
        else { x.ing with dbLines := lines, dbAny := true
                          mixed := x.ing.mixed ++ x.ing.announce port lines
                          wrote := x.ing.wrote.filter (fun w => decide (8 * w.1 ≥ lines)) }).advance }) s1
    noteReady sid s2

/-- Bytes as 32-bit little-endian words. -/
def wordsOf : List Byte → List Nat
  | a :: b :: c :: d :: l => (a.toNat + b.toNat * 2 ^ 8 + c.toNat * 2 ^ 16 + d.toNat * 2 ^ 24) :: wordsOf l
  | _ => []

/-- A 32-bit write to the control page (R79). -/
def ctlWrite (sid port off v : Nat) (s : State) : State :=
  if off = 0 then srcDoorbell sid port (bitsOf v 16 16) (bitsOf v 0 16) s
  else if off = 8 then
    sessMod sid (fun x => { x with ing := { x.ing with
      overrun := x.ing.overrun && !bitAt v 0, dbErr := x.ing.dbErr && !bitAt v 1, wrBusy := x.ing.wrBusy && !bitAt v 2 } }) s
  else s

/-- The words of a control-page write of 4 or 8 aligned bytes; any other is ignored (R492). -/
def ctlWrites (sid port : Nat) : Nat → List Nat → State → State
  | _, [], s => s
  | off, v :: l, s => ctlWrites sid port (off + 4) l (ctlWrite sid port off v s)

/-- A write from a port into the session's window at an offset from its base; while the ring is copied it waits (R83). -/
def windowWrite (sid port off : Nat) (data : List Byte) (s : State) : State :=
  let x := sessOf s sid
  if x.ing.copying.isSome then
    sessMod sid (fun x => { x with ing := { x.ing with waiting := x.ing.waiting ++ [(port, off, data)] } }) s
  else if off ≥ x.ctlOff then
    if off % 4 = 0 ∧ (data.length = 4 ∨ (data.length = 8 ∧ off % 8 = 0)) then ctlWrites sid port (off - x.ctlOff) (wordsOf data) s
    else s
  else if x.fmt.rowStream then ringWrite sid port off data s
  else halfWrite sid off data s

/-- The port a requester's BAR2 writes arrive on: 0 H (the PF alone has BAR2), 1 P0, 2 P1 (R213). -/
def reqPort : Req → Option Nat
  | .fn f => if f.val = 0 then some 0 else none
  | .peer p => some (p.val + 1)
  | _ => none

/-- May a write of the port, on an IDE stream, change the window of the session (R318)? -/
def windowTakes (s : State) (x : Session) (p : Nat) (ide : Option Nat) : Bool :=
  !x.protected' || (decide (p = x.hs.ingestPort + 1) && decide (ide = some x.hs.ingestStream) &&
    (port s p).ide.any (fun e =>
      e.1 != 0 && e.2.secure && e.2.streamId == x.hs.ingestStream && e.2.cert == x.keys.certHash))

/-- A BAR2 write that reaches the device: stray, discarded under R318, or one for a window (R214, R318, R427, R435). -/
def bar2Write (req : Req) (ide : Option Nat) (addr : Nat) (data : List Byte) (s : State) : State :=
  match reqPort req with
  | none => s
  | some p =>
    if !polOpen s (88 + p) ∨ isFatal s ∨ !s.boot.ready then s
    else
      match windowOf s addr with
      | none => rcnt 0x100A0 0 32 1 s
      | some (sid, x) =>
        if !windowTakes s x p ide then pgBlock ⟨.sec, 0⟩ (rcnt 0x6098 0 32 1 s)
        else
          let s1 := rcnt (0x900A0 + 0x1000 * p) 0 64 data.length s
          if x.st = .exported ∨ x.st = .closing then s1
          else windowWrite sid p (addr - x.ing.winBase * 2 ^ 21) data s1

/-- INGEST_WRITE (R77 to R85, R214, R318): a posted write of the requester, on the IDE stream named, at an offset of BAR2. -/
def execIngestWrite (req : Req) (ide : Option Nat) (addr : Nat) (data : List Byte) (s : State) :
    Host.Outcome State Fault Refusal := .next (bar2Write req ide addr data s)

/-- The four bytes of a word. -/
def leBytes (v : Nat) : List Byte := (List.range 4).map (fun i => BitVec.ofNat 8 (bitsOf v (8 * i) 8))

/-- SRC_DB (R79, R85): a write of the doorbell register in the control page of the session's window. -/
def execSrcDb (req : Req) (ide : Option Nat) (sid : Fin 4096) (pic lines : W16) (s : State) :
    Host.Outcome State Fault Refusal :=
  let x := sessOf s sid
  .next (if x.st = .free ∨ x.ing.winLen = 0 then s
    else bar2Write req ide (x.ing.winBase * 2 ^ 21 + x.ctlOff) (leBytes (pic.toNat * 2 ^ 16 + lines.toNat)) s)

/-- RING_COPY_DONE (R36, R83): the copy ends, the binding takes effect, and the writes that waited are judged in order. -/
def execRingCopyDone (sid : Fin 4096) (s : State) : Host.Outcome State Fault Refusal :=
  let x := sessOf s sid
  .next (match x.ing.copying with
    | none => s
    | some _ =>
      let s1 := sessMod sid (fun x => { x with ing := { x.ing with copying := none, waiting := [] } }) s
      let s2 := if x.st = .moving then moveEnd sid x.nextCause s1 else s1
      noteReady sid (forAll x.ing.waiting (fun w s => windowWrite sid w.1 w.2.1 w.2.2 s) s2))

/-- SRC_STAT (R79). -/
def srcStat (x : Session) : Nat :=
  let g := x.ing
  b2n g.overrun + 2 * b2n g.dbErr + 4 * b2n g.wrBusy + 16 * b2n g.half0Busy + 32 * b2n g.half1Busy +
    (if x.fmt.rowStream then g.writePic % 2 ^ 16 * 2 ^ 16 else 0)
/-- RING_RELEASED (R79). -/
def ringReleased (x : Session) : Nat :=
  if x.fmt.rowStream then x.ing.relLines % 2 ^ 16 + x.ing.relPic % 2 ^ 16 * 2 ^ 16 else 0
/-- RING_CFG (R79). -/
def ringCfg (x : Session) : Nat := if x.fmt.rowStream then x.fmt.ringDepth + b2n x.ing.inDram * 2 ^ 16 else 0

/-- A 32-bit word read from BAR2 (R79, R214). -/
def bar2Word (s : State) (addr : Nat) : Nat :=
  match windowOf s addr with
  | none => 0
  | some (_, x) =>
    let off := addr - x.ing.winBase * 2 ^ 21
    if off = x.ctlOff + 8 then srcStat x else if off = x.ctlOff + 0x10 then ringReleased x
    else if off = x.ctlOff + 0x18 then ringCfg x else 0

end Sys2Proof.Machine
end

