-- ==== Sys2Proof/Machine/Sched.lean ====
section
/-! DEFINITION. Row 0 of a picture and the row scheduler (R50 to R59, R86, R87, R91, R92, R94, R150 to R157, R160, R161, R169,
R171, R173 to R176, R197, R555). -/

namespace Sys2Proof.Machine

/-! ### Feedback and commands that act at row 0 (R156) -/

/-- A discarded request (R154). -/
def LoopSt.discard (l : LoopSt) : LoopSt := { l with krDropped := l.krDropped + 1 }

/-- An acknowledgement is applied (R153, R169) to the slot whose PIC_NUM is the picture named (R172). -/
def Session.applyAck (x : Session) (pic : Nat) : Session :=
  let hit := fun t : Slot8 => t.held && t.picNum == pic
  if x.slots.any hit then
    { x with
      slots := x.slots.map (fun t => if hit t then { t with acked := true } else t)
      loop := { x.loop with rerefOn := x.loop.rerefOn && decide (pic < x.loop.rerefPic) } }
  else { x with loop := { x.loop with ackStale := x.loop.ackStale + 1 } }

/-- A loss report is applied (R150, R154, R169, R170): the slot becomes LOST with the cascade; the report's own request is
discarded inside a holdoff when it names a picture coded before the answering one. -/
def Session.applyLoss (x : Session) (hold : Bool) (pic : Nat) : Session :=
  let hit := fun t : Slot8 => t.held && t.picNum == pic
  if !x.slots.any hit then { x with loop := { x.loop with ackStale := x.loop.ackStale + 1 } }
  else
    let x1 := { x with slots := x.slots.map (fun t => if hit t then t.lose else t) }
    let x2 := Session.cascade 8 x1
    let more := x2.slots != x1.slots
    let ans := policyAns x.rcNow.keyPolicy
    let l := if hold && decide (pic < x2.loop.holdPic) then x2.loop.discard else x2.loop.request 3 ans
    { x2 with loop := if more then l.request 3 ans else l }

/-- One item of area M that acts at row 0 (R150, R151, R154, R156); `pol` answers a host request that names none. -/
def Session.applyItem (x : Session) (pol : Answer) (f : FbItem) : Session :=
  let c := x.rcNow
  match f.kind with
  | .ack p => x.applyAck p
  | .loss p => x.applyLoss f.hold p
  | .pli => { x with loop := if f.hold then x.loop.discard else x.loop.request 1 (policyAns c.keyPolicy) }
  | .fir sender seq =>
    if tfind x.tr.firs sender = some (seq % 2 ^ 8) then x
    else { x with
      tr := { x.tr with firSsrc := sender, firSeq := seq % 2 ^ 8, firValid := true, firs := tput x.tr.firs sender (seq % 2 ^ 8) }
      loop := x.loop.request 2 (policyAns c.firPolicy) }
  | .keyReq a => { x with loop := x.loop.request 0 (if a = .none then pol else a) }
  | _ => x

/-- Does the item stay in area M at row 0: a report of the rate loop, which acts at a row decision (R156), or a FIR held
until the holdoff ends (R154)? -/
def FbItem.stays (f : FbItem) : Bool := f.kind.isRate || (f.kind.isFir && f.hold)

/-- Every other item recorded acts, in arrival order, and is logged (R156, R157). -/
def Session.applyItems (x : Session) (num : Nat) : Session :=
  (x.fb.filter (fun f => !f.stays)).foldl (fun y f => (y.applyItem x.hostPolicy f).logItem f num 0)
    { x with fb := x.fb.filter (·.stays) }

/-! ### Slots at row 0 -/

/-- Oldest of the slots that pass (R174). -/
def Session.oldest (x : Session) (p : Slot8 → Bool) : Option Nat :=
  (x.ranked.filter (fun i => p (x.slot i))).getLast?

/-- R175: promotion of the newest ACKED slot, and release of LONG slots above LONG_MAX. -/
def promoteLong (sid : Nat) (s : State) : State :=
  let x := sessOf s sid
  let s1 := match x.newestAcked with
    | none => s
    | some i => if (x.slot i).term = .short ∧ x.fmt.longMax ≥ 1 then
        sessMod sid (fun x => x.slotMod i (fun t => { t with term := .long })) s
      else s
  forAll [0, 1, 2] (fun _ s =>
    let y := sessOf s sid
    if ((y.slots.filter (fun t => t.term == .long)).length) > y.fmt.longMax then
      match y.oldest (fun t => t.term == .long) with
      | none => s
      | some i => slotEmpty sid i s
    else s) s1

/-- The target slot of an encode picture that is no key picture (R174). -/
def Session.target (x : Session) : Nat :=
  let l := List.range (max 1 x.fmt.refSlots)
  let first := fun t => l.find? (fun i => (x.slot i).term == t)
  let new := x.newestAcked
  let long := (x.ranked.filter (fun i => (x.slot i).term == .long && new != some i)).getLast?
  (first .empty).getD ((first .lost).getD ((x.oldest (fun t => t.term == .short && !t.acked)).getD
    ((x.oldest (fun t => t.term == .short)).getD (long.getD (new.getD 0)))))

/-- The REFMASK of a picture that is no key picture, in rank order (R153, R176). -/
def Session.mask (x : Session) (reref : Bool) : List Nat :=
  let l := if reref then x.ranked.filter (fun i => (x.slot i).acked)
    else if x.loop.rerefOn then
      x.ranked.filter (fun i => (x.slot i).acked || decide ((x.slot i).picNum ≥ x.loop.rerefPic))
    else x.ranked
  l.take 3

/-- Order value of a picture (R555). -/
def orderOf (std : Std) (d : Nat) : Nat := match std with
  | .hevc => d | .avc => 2 * d | .av1 => d % 128

/-- Pictures since a picture number. -/
def since (num last : Nat) : Nat := (num + 2 ^ 32 - last % 2 ^ 32) % 2 ^ 32

/-- Area C as it governs a picture while a change of the buffer model waits for a key picture (R122). -/
def RcSet.masked (c : RcSet) (m : BufModel) : RcSet :=
  { c with
    rcMode := m.mode, rcTarget := if m.mode = 0 then m.rT else c.rcTarget
    rcPeak := if m.mode = 0 then c.rcPeak else m.rP, bufDelay := m.tau }

/-- What row 0 of an encode picture decides (R149, R151 to R153, R161, R173 to R176). -/
structure Row0 where
  key : Bool := false
  answer : Answer := .none
  krMask : Nat := 0
  start : Bool := false
  mask : List Nat := []
  target : Nat := 0
  deriving DecidableEq, Repr

/-- Decide row 0 from the session's marks, after the items have acted; `c` is area C without masking. -/
def Session.row0 (x : Session) (c : RcSet) (num : Nat) : Row0 :=
  let l := x.loop
  let pend := l.krPend
  let reref := decide (pend ≠ 0) && l.krAns == .reref
  let mask := x.mask reref
  let key := decide (x.started = 0) || (decide (c.intraPeriod ≠ 0) && decide (since num l.lastKey ≥ c.intraPeriod)) ||
    decide (since num l.lastKey ≥ 2 ^ 30) || (decide (pend ≠ 0) && l.krAns == .intra) || mask.isEmpty
  let ans := if pend = 0 then .none else if key then .intra else l.krAns
  let newer := if since num l.lastKey < since num l.lastSweep then l.lastKey else l.lastSweep
  let due := decide (c.refreshPeriod ≠ 0) && decide (since num newer ≥ c.refreshPeriod)
  { key := key, answer := ans, krMask := pend, start := !key && (ans == .sweep || due)
    mask := if key then [] else mask, target := if key then 0 else x.target }

/-- Holdoff, cleared requests, sweep position and REREF restriction after row 0 (R149, R153, R154). -/
def LoopSt.afterRow0 (l : LoopSt) (r : Row0) (c : RcSet) (num now : Nat) : LoopSt :=
  let l1 := if r.answer = .none then l
    else { l with
      krHost := false, krPli := false, krFir := false, krLoss := false, krAns := .none
      holdEnd := some (now + max (c.keyHoldoff * 1000000) (l.srtt * 1000)), holdPic := num }
  let l2 := if r.key then { l1 with inSweep := false, lastKey := num }
    else if r.start then { l1 with inSweep := true, sweepK := 0, sweepL := c.sweepLen, lastSweep := num }
    else if l1.inSweep then
      if l1.sweepK + 1 ≥ l1.sweepL then { l1 with inSweep := false } else { l1 with sweepK := l1.sweepK + 1 }
    else l1
  if r.answer = .reref then { l2 with rerefOn := true, rerefPic := num } else l2

/-- What the headers of a picture signal of the marks (R177): by the slots as the picture captures its references (DEDUCED,
log 66), the references the decoder already holds, the target and the REFMASK in rank order. -/
def Session.signal (x : Session) (key : Bool) (target : Nat) (mask : List Nat) : Signal :=
  let held := (List.range 8).filter (fun i => (x.slot i).held)
  match x.fmt.std with
  | .av1 => if key then { refresh := 0xFF }
      else { refresh := 2 ^ target, refIdx := (List.range 7).map (fun k => if k < 3 then mask.getD k (mask.headD 0) else mask.headD 0) }
  | .hevc => if key then {}
      else { rps := held.map (fun i => ((x.slot i).order, (x.slot i).term == .long, mask.contains i)) }
  | .avc => if key then {}
      else
        let now := held.map (fun i => ((x.slot i).picNum, i, (x.slot i).term == .long))
        let gone := x.loop.marked.filter (fun m => !now.any (fun k => k.1 == m.1) || decide (m.2.1 = target))
        { mmco := gone.map (fun m => if m.2.2 then (2, m.1, m.2.1) else (1, m.1, 0)) ++
            (now.filter (fun k => k.2.2 && k.2.1 != target && !x.loop.marked.contains k)).map (fun k => (3, k.1, k.2.1)) ++
            [(4, 0, x.fmt.refSlots)]
          list := mask.map (fun i => (x.slot i).picNum) }

/-- The parameter sets a picture writes (R113) with the buffer model they signal (R125), and the recovery point SEI. -/
def Session.params (x : Session) (key start : Bool) (sweepL : Nat) (bm : BufModel) (g : Signal) : Signal :=
  if !key && !start then g
  else { g with
    params := true
    bitRate := bm.rD
    buffer := bm.size x.rateNum x.rateDen
    delay := if x.fmt.std ≠ .av1 then none
      else if bm.tau = 0xFFFFFFFF then some (180000 * x.rateDen, x.rateNum) else some (bm.tau * 9, 100)
    recovery := if start && !key && x.fmt.std != .av1 then some (sweepL - 1) else none }

/-- The references the decoder holds after a picture with those marks (R177). -/
def Session.markedAfter (x : Session) (num : Nat) (key : Bool) (target : Nat) : List (Nat × Nat × Bool) :=
  (if key then [] else ((List.range 8).filter (fun i => (x.slot i).held && i != target)).map (fun i =>
    ((x.slot i).picNum, i, (x.slot i).term == .long))) ++ [(num, target, false)]

/-- Bind a picture's buffer to its target slot (R161, R169). -/
def bindSlot (sid i : Nat) (t : Slot8) (s : State) : State :=
  sessMod sid (fun x => x.slotMod i (fun _ => t)) (slotEmpty sid i s)

/-- Row 0 of an encode picture, at the writing of its row 0 packet (R152, R156, R157, R161). -/
def startEncode (sid num : Nat) (s : State) : State :=
  let s1 := promoteLong sid (sessMod sid (fun x => x.applyItems num) s)
  let x := sessOf s1 sid
  match x.pic num with
  | none => s
  | some p =>
    let r := x.row0 x.rc num
    let bm := if r.key ∨ !x.bm.waiting then x.rc.model else x.bm
    let c := if bm.waiting then x.rc.masked bm else x.rc
    let l := x.loop.afterRow0 r c num (devNs s)
    let held := r.mask.map (fun i => (x.slot i).handle)
    let refs := r.mask.map (fun i => (x.slot i).picNum)
    let s2 := forAll held (fun h s => addRef 0 h s) s1
    let s3 := if r.key then forAll (List.range 8) (fun i s => slotEmpty sid i s) s2 else s2
    let s4 := sessMod sid (fun x => { x with
      loop := if r.start then { x.loop with exts := [] } else x.loop
      pics := if r.start then x.pics.map (fun q => if q.num ≠ num then { q with oldSweep := true } else q) else x.pics
      slots := if r.start then x.slots.map (fun t => if t.held then { t with clean := false, extents := [] } else { t with extents := [] })
        else x.slots }) s3
    let t : Slot8 := {
      handle := p.slotBuf, picNum := num, term := .short, order := orderOf x.fmt.std (since num (if r.key then num else l.lastKey))
      clean := r.key || !l.inSweep || decide (l.sweepK + 1 ≥ l.sweepL), refs := refs }
    let s5 := bindSlot sid r.target t s4
    sessMod sid (fun y => { y with
      loop := { l with exts := if r.start then [] else l.exts, marked := x.markedAfter num r.key r.target }, bm := { bm with waiting := bm.waiting && !r.key }, rcNow := c, started := y.started + 1
      nextPic := (num + 1) % 2 ^ 32
      pics := y.pics.map (fun q => if q.num ≠ num then q
        else { q with
          st := .started, key := r.key, sweepStart := r.start, answer := r.answer, krMask := r.krMask, refMask := r.mask
          captured := held, refs := refs, target := r.target, demoted := y.demoted, rc := c, rcOld := y.rcNow, bm := bm
          bmOld := y.bm, sweepK := l.sweepK, inSweep := l.inSweep, sweepL := l.sweepL, ord := y.started
          nRows := y.nRows, order := t.order
          refExt := r.mask.map (fun i => if r.start then [] else (x.slot i).extents)
          refOrd := r.mask.map (fun i => ((x.slot i).order, (x.slot i).term == .long))
          sig := x.params r.key r.start l.sweepL bm (x.signal r.key r.target r.mask) }) }) s5

/-- Row 0 of a decode picture: it captures every SHORT and LONG slot (R161, R182). -/
def startDecode (sid num : Nat) (s : State) : State :=
  let x := sessOf s sid
  let m := (List.range 8).filter (fun i => (x.slot i).held)
  let s1 := forAll (m.map (fun i => (x.slot i).handle)) (fun h s => addRef 0 h s) s
  picMod sid num (fun p => { p with
    st := .started, refMask := m, captured := m.map (fun i => (x.slot i).handle), refs := m.map (fun i => (x.slot i).picNum)
    demoted := x.demoted, ord := x.started, target := 8 })
    (sessMod sid (fun x => { x with started := x.started + 1 }) s1)

/-! ### What a row 0 packet needs first (R87, R94, R160, R185) -/

/-- Take the n-th kind of buffer of a session, retrying under R361. -/
def sessAlloc (sid n : Nat) (ty : PoolTy) (size : Nat) (s : State) : Option Nat × State :=
  let rid := sessRid sid n
  match tfind s.bpm.retries rid with
  | some t => match t.got with
    | some h => (some h, { s with bpm := { s.bpm with retries := terase s.bpm.retries rid } })
    | none => (none, s)
  | none =>
    let x := sessOf s sid
    match bpmAlloc { ty := ty, size := size, cls := sessCls x, sid := some sid, owner := x.owner, rid := some rid } s with
    | (.ok h, s1) => (some h, s1)
    | (_, s1) => (none, s1)

/-- The command slot of a row-stream picture that no command binds (R87). -/
def takeSlot (sid num : Nat) (s : State) : State :=
  let x := sessOf s sid
  match x.pic num with
  | none => s
  | some p =>
    if p.cmd.isSome ∨ !slotFor s x.owner then s
    else
      let i := lowFree s.slots 0
      let c : Slot := { fn := x.owner, qid := x.notifyQid, order := s.fetchOrder, started := true, picture := some (sid, num) }
      picMod sid num (fun p => { p with cmd := some i })
        { s with slots := tput s.slots i c, fetchOrder := s.fetchOrder + 1 }

/-- The bitstream buffer (R94). -/
def takeBits (sid num : Nat) (s : State) : State :=
  let x := sessOf s sid
  match x.pic num with
  | none => s
  | some p =>
    if p.bsBuf ≠ 0 ∨ x.kind = .decode then s
    else match sessAlloc sid 0 .bitstream x.bitBuf s with
      | (some h, s1) => picMod sid num (fun p => { p with bsBuf := h }) s1
      | (none, s1) => s1

/-- The slot buffer, counting the picture in REF_BUF_WAIT when the first attempt fails (R160). -/
def takeSlotBuf (sid num : Nat) (s : State) : State :=
  let x := sessOf s sid
  match x.pic num with
  | none => s
  | some p =>
    if p.slotBuf ≠ 0 then s
    else match sessAlloc sid 1 .frame x.slotBytes s with
      | (some h, s1) => picMod sid num (fun p => { p with slotBuf := h }) s1
      | (none, s1) =>
        if p.bufWaited ∨ !polOpen s 93 then s1
        else picMod sid num (fun p => { p with bufWaited := true })
          (sessMod sid (fun x => { x with loop := { x.loop with refBufWait := x.loop.refBufWait + 1 } }) s1)

/-- The output frame of a decode picture (R185): one neither held by the host nor in use, else a new one of the OUT_FRAMES
reserved. -/
def takeOut (sid num : Nat) (s : State) : State :=
  let x := sessOf s sid
  match x.pic num with
  | none => s
  | some p =>
    if p.outFrame ≠ 0 ∨ x.kind ≠ .decode then s
    else
      match x.outs.find? (fun o => !o.2 && !x.pics.any (fun q => q.outFrame == o.1)) with
      | some o => picMod sid num (fun p => { p with outFrame := o.1 }) s
      | none =>
        if x.outs.length ≥ x.fmt.outFrames then s
        else match sessAlloc sid 2 .frame (outFrameSize x) s with
          | (some h, s1) =>
            picMod sid num (fun p => { p with outFrame := h }) (sessMod sid (fun x => { x with outs := x.outs ++ [(h, false)] }) s1)
          | (none, s1) => s1

/-- Everything a row 0 packet needs is held. -/
def Pic.ready0 (p : Pic) (x : Session) : Bool :=
  p.cmd.isSome && decide (p.slotBuf ≠ 0) && (if x.kind = .decode then decide (p.outFrame ≠ 0) else decide (p.bsBuf ≠ 0))

/-! ### Job packets -/

/-- Entries of a peloton's queue: words written. -/
def Pel.entries (p : Pel) : Nat := (p.queue.map (·.written)).sum
/-- Entries held by packets, with the words still to come. -/
def Pel.taken (p : Pel) : Nat := (p.queue.map (·.words.length)).sum
/-- Address of a register of a PEL page. -/
def aPel (p off : Nat) : Nat := 0x40000 + p * 0x1000 + off

/-- PEL_RWQ_STAT.HIGH (R509). -/
def rwqHigh (p : Nat) (s : State) : State :=
  if (pelOf s p).entries > rfld s (aPel p 0x80) 0 9 then rfset (aPel p 0x84) 9 1 1 s else s

/-- Class of a session's packets (R48). -/
def Session.cls (x : Session) : Nat := if x.demoted then 3 else x.lc

/-- The words of a row's packet (R52). -/
def packetWords (x : Session) (sid : Nat) (p : Pic) (n ready : Nat) : List Nat :=
  let kind := match x.kind with
    | .encode => 0 | .decode => 1 | .tandem => 2
  let hint := decide (x.kind = .decode) && decide (n > 0) && decide (p.subst ≠ 0)
  let len := if hint then 4 else 3
  let core := if x.kind = .tandem then x.core / 2 * 2 else x.core
  let w0 := x.cls * 2 ^ 62 + kind * 2 ^ 60 + sid * 2 ^ 48 + p.num % 2 ^ 16 * 2 ^ 32 + n % 2 ^ 12 * 2 ^ 20 + len * 2 ^ 16 +
    ((p.refMask.map (2 ^ ·)).sum % 256) * 2 ^ 8 + core % 8
  let w2 := if x.kind = .decode then p.off % 2 ^ 32 * 2 ^ 32 + p.buf % 2 ^ 32
    else x.rowLines n * 2 ^ 48 + 64 * n % 2 ^ 16 * 2 ^ 32 +
      (if x.fmt.rowStream then (p.num * x.height + 64 * n) % max 1 x.fmt.ringDepth
       else if p.srcIdx = 0 then x.ing.srcBuf0 else x.ing.srcBuf1)
  [w0, clkFmt ready, w2] ++ (if hint then [p.subst] else [])

/-- Write words of the session's incomplete packet (of the band); a packet is complete with its last word (R54, R56). -/
def packetGo (sid pel k : Nat) (low : Bool) (s : State) : State :=
  let x := sessOf s sid
  let mine := fun q : Pkt => q.sid == sid && decide (q.written < q.words.length) && decide (x.kind = .tandem → (decide (q.row ≥ x.upRows) = low))
  rwqHigh pel (pelMod pel (fun p => { p with queue := p.queue.map (fun q =>
    if mine q then { q with written := min q.words.length (q.written + k), time := s.now } else q) }) s)

/-- Is a packet of the session (of the band) incomplete? -/
def packetOpen (s : State) (sid : Nat) (low : Bool) : Bool :=
  let x := sessOf s sid
  (pelOf s x.peloton).queue.any (fun q => q.sid == sid && decide (q.written < q.words.length) &&
    decide (x.kind = .tandem → (decide (q.row ≥ x.upRows) = low)))

/-- May the engine write packets for the session: the DMA/BPM and management polders open, no fatal state (R427, R435)? -/
def engineUp (s : State) : Bool := polOpen s 94 && !isFatal s && !s.boot.warm

/-- Begin the packet of the session's next row (R36, R53, R86, R91): `k` words of it. -/
def packetBegin (sid k : Nat) (low : Bool) (s : State) : State :=
  let x := sessOf s sid
  match nextRow x low with
  | none => s
  | some (p0, n) =>
    if !codes x ∨ !queueRoom s sid low ∨ !thresholdMet x p0 n then s
    else
      let s1 := if n = 0 then takeOut sid p0.num (takeSlotBuf sid p0.num (takeBits sid p0.num (takeSlot sid p0.num s))) else s
      match (sessOf s1 sid).pic p0.num with
      | none => s1
      | some p =>
        if n = 0 ∧ !p.ready0 x then s1
        else
          let lc := x.cls
          let len := (packetWords x sid p n 0).length
          if 256 - (pelOf s1 x.peloton).taken < len + (if lc = 0 then 0 else 16) then
            if x.stall then s1
            else rcnt (aPel x.peloton 0xA0) 0 32 1 (sessMod sid (fun x => { x with stall := true }) s1)
          else
            let s2 := if n ≠ 0 then s1 else if x.kind = .decode then startDecode sid p.num s1 else startEncode sid p.num s1
            let y := sessOf s2 sid
            let q := (y.pic p.num).getD p
            let ready := if low then q.lowSince.getD (devNs s) else q.readySince.getD (devNs s)
            let pk : Pkt := {
              sid := sid, pic := p.num, row := n, lc := lc, core := if x.kind = .tandem then (if n < x.upRows then x.core / 2 * 2 else x.core / 2 * 2 + 1) else x.core
              words := packetWords y sid q n ready, written := 0, order := (pelOf s2 x.peloton).nextOrder, time := s.now }
            let s3 := pelMod x.peloton (fun e => { e with queue := e.queue ++ [pk], nextOrder := e.nextOrder + 1 }) s2
            let s4 := sessMod sid (fun x => { x with stall := false, st := if x.st = .bound then .active else x.st }) s3
            let s5 := picMod sid p.num (fun p => if low then { p with lowWritten := p.lowWritten + 1, lowSince := none }
              else { p with rowsWritten := p.rowsWritten + 1, readySince := none }) s4
            noteReady sid (packetGo sid x.peloton k low s5)

/-- JOB_PACKET_WRITE (R52, R53, R86, R87, R94, R161): the session engine writes `k` words: of the packet it has begun for
the session (for the band of a tandem), else of its next row's. -/
def execJobPacketWrite (sid : Fin 4096) (low : Bool) (k : Nat) (s : State) : Host.Outcome State Fault Refusal :=
  let x := sessOf s sid
  .next (if !engineUp s ∨ k = 0 then s
    else if packetOpen s sid low then packetGo sid x.peloton k low s
    else packetBegin sid k low s)

/-! ### The scheduler -/

/-- Judge every waiting packet of a peloton against the age limit (R55, R510). -/
def promoteAged (p : Nat) (s : State) : State :=
  let lim := rfld s (aPel p 0x98) 0 8 * psUs 500
  pelMod p (fun e => { e with queue := e.queue.map (fun q =>
    { q with promoted := decide (q.lc ≥ 2) && decide (q.written = q.words.length) && decide (s.now > q.time + lim) }) }) s

/-- AGE_PROMOTION (R55). -/
def execAgePromotion (p : Fin 8) (s : State) : Host.Outcome State Fault Refusal := .next (promoteAged p s)

/-- The picture before one of the session, while it is in hand. -/
def Session.prevPic (x : Session) (num : Nat) : Option Pic :=
  ((x.pics.takeWhile (fun p => p.num != num)).getLast?)

/-- First and last block row a packet of a picture covers (R182). -/
def Pic.span (p : Pic) (n : Nat) : Nat × Nat := p.tiles.getD n (n, n)

/-- Block row `m` of a picture has completed stage 5; a picture that has ended counts as complete. -/
def Pic.rowDone5 (p : Pic) (m : Nat) : Bool :=
  p.st == .ended || (List.range (max 1 p.nRows)).all (fun k =>
    let (a, b) := p.span k
    !(decide (a ≤ m) && decide (m ≤ b)) || (p.row k).left5)

/-- Last block row of a picture. -/
def Pic.lastRow (p : Pic) : Nat := ((List.range (max 1 p.nRows)).map (fun k => (p.span k).2)).foldl max 0

/-- Condition 2 of R92: the references captured and the previous picture are far enough. -/
def refsReady (x : Session) (p : Pic) (n : Nat) : Bool :=
  let m := (p.span n).2 + 9
  let far := fun q : Pic => q.rowDone5 (min m q.lastRow)
  (x.pics.all (fun q => decide (q.num = p.num) || !p.refs.contains q.num || q.ord ≥ p.ord || far q)) &&
    (match x.prevPic p.num with
     | none => true
     | some q => far q)

/-- Has the last row of a picture left stage 1; has row `n`? A picture not in hand has. -/
def gone1 (q : Option Pic) (n : Nat) : Bool := match q with
  | none => true
  | some q => q.st == .ended || (q.row n).left1

/-- Blocks of a row of a picture that have left a stage in some core (of those in hand). -/
def blocksLeft (s : State) (sid num row stage : Nat) : Nat :=
  ((s.cores.map (fun c => (c.2.rows.filter (fun r => r.sid == sid && r.pic == num && r.row == row)).map
    (fun r => r.left.getD (stage - 1) 0))).flatten).foldl max 0

/-- Is the row of a packet eligible (R92, R197)? -/
def rowEligible (s : State) (k : Pkt) : Bool :=
  let x := sessOf s k.sid
  match x.pic k.pic with
  | none => true
  | some p =>
    let prev := x.prevPic k.pic
    let c1 :=
      if x.kind = .tandem then
        let up := x.upRows
        if k.row = 0 then gone1 prev (up - 1)
        else if k.row = up then
          ((p.row (up - 1)).left1 || decide (blocksLeft s k.sid k.pic (up - 1) 1 > min 3 (x.nBlk - 1))) && gone1 prev (x.nRows - 1)
        else (p.row (k.row - 1)).left1
      else if k.row = 0 then (match prev with
        | none => true
        | some q => q.st == .ended || (q.row (max 1 q.nRows - 1)).left1)
      else (p.row (k.row - 1)).left1
    p.st == .ended || (c1 && refsReady x p k.row)

/-- Does the core hold an LC0 or LC1 session (R50)? -/
def coreKeeps (s : State) (c : Nat) : Bool := (coreSessions s c).any (fun p => decide (p.2.lc ≤ 1))

/-- The row slot a packet may take on the core (R50, R507): slot 3 is kept for LC0 and LC1 rows. -/
def slotForRow (s : State) (c : Nat) (k : Pkt) : Option Nat :=
  let r := coreOf s c
  let free := fun i => !r.rows.any (fun w => w.slot == some i)
  if r.rows.any (fun w => w.slot.isSome && w.sid == k.sid && w.pic == k.pic) then none
  else if !coreKeeps s c then [0, 1, 2, 3].find? free
  else if k.lc ≤ 1 then [3, 0, 1, 2].find? free
  else [0, 1, 2].find? free

/-- The complete packets for the core that are eligible now, with the slot each would take. -/
def candidates (s : State) (c : Nat) : List (Pkt × Nat) :=
  (pelOf s (c / 8)).queue.filterMap (fun k =>
    if k.core = c ∧ k.written = k.words.length ∧ rowEligible s k then (slotForRow s c k).map (fun i => (k, i)) else none)

/-- The class a packet is read as (R55). -/
def Pkt.read (k : Pkt) : Nat := readAs k.lc k.promoted

/-- The packets that may be next: of the highest class, the first of each class of their own in its order (R54). -/
def classHeads (l : List (Pkt × Nat)) : List (Pkt × Nat) :=
  let top := l.filter (fun e => l.all (fun q => decide (e.1.read ≤ q.1.read)))
  top.filter (fun e => top.all (fun q => decide (q.1.lc ≠ e.1.lc) || decide (e.1.order ≤ q.1.order)))

/-- The earliest written (R55, R59). -/
def earliest : List (Pkt × Nat) → Option (Pkt × Nat)
  | [] => none
  | a :: l => match earliest l with
    | none => some a
    | some b => if a.1.time < b.1.time ∨ (a.1.time = b.1.time ∧ a.1.order ≤ b.1.order) then some a else some b

/-- The oldest packet of the highest class; where a promoted packet is read as LC1 beside others, by write time (R54, R55). -/
def pickPacket (l : List (Pkt × Nat)) : Option (Pkt × Nat) := earliest (classHeads l)

/-- May the core take rows: its own polder, its peloton's and the pair's state allow (R192, R211, R427)? -/
def coreTakes (s : State) (c : Nat) : Bool :=
  coreUp s c && (match (pairOf s (c / 2)).st with
    | .single | .joined => true
    | _ => false)

/-- Take a packet out of the queue and give it to the core (R54, R91). -/
def giveRow (c : Nat) (k : Pkt) (slot : Nat) (s : State) : State :=
  let x := sessOf s k.sid
  let p := x.pic k.pic
  let blocks := if x.kind = .decode then max 1 ((p.map (·.blocks)).getD 1) else x.nBlk
  let s1 := pelMod (c / 8) (fun e => { e with queue := e.queue.filter (fun q => q.order != k.order) }) s
  let s2 := coreMod c (fun r => stage1Take { r with
    nextOrder := r.nextOrder + 1, underrun := false
    rows := r.rows ++ [{
      sid := k.sid, pic := k.pic, row := k.row, lc := k.lc, promoted := k.promoted, slot := some slot, blocks := blocks
      order := r.nextOrder, decode := decide (x.kind = .decode) }] }) s1
  noteReady k.sid s2

/-- The packets of a queue that an uncorrectable read of packet `k` discards: it and the `n` complete ones that follow it in
its class (R59). -/
def Pel.lost (p : Pel) (k : Pkt) (n : Nat) : List Pkt :=
  k :: ((p.queue.filter (fun q => decide (q.lc = k.lc) && decide (q.order > k.order) && decide (q.written = q.words.length))).take n)

/-- The session engine writes lost packets again at the tail of their class, with their write times (R59). -/
def Pel.rewrite (p : Pel) (l : List Pkt) : Pel :=
  { p with
    nextOrder := p.nextOrder + l.length
    queue := p.queue.filter (fun q => !l.any (fun r => r.order == q.order)) ++
      l.mapIdx (fun i q => { q with order := p.nextOrder + i }) }

/-- ROW_DISPATCH (R50, R54 to R59, R91, R92): the scheduler fills a free row slot of the core. `ecc`: the read met an error: 0
corrected; n + 1 not, and the packet and the n that follow it are written again. -/
def execRowDispatch (core : Fin 64) (ecc : Option Nat) (s : State) : Host.Outcome State Fault Refusal :=
  let pel := core.val / 8
  .next (if !coreTakes s core ∨ isFatal s then s
    else
      let s0 := promoteAged pel s
      match pickPacket (candidates s0 core) with
      | some (k, i) =>
        match ecc with
        | some (n + 1) => raise 0x11 pel (rcnt (aPel pel 0xA8) 0 32 1 (pelMod pel (fun e => e.rewrite (e.lost k n)) s0))
        | some 0 => raise 0x10 pel (rcnt (aPel pel 0xA4) 0 32 1 (giveRow core k i s0))
        | none => giveRow core k i s0
      | none =>
        let r := coreOf s0 core
        if r.underrun ∨ r.rows.any (·.slot.isSome) ∨
            !(pelOf s0 pel).queue.any (fun q => decide (q.core = core.val) && decide (q.written < q.words.length)) then s0
        else rcnt (aPel pel 0x9C) 0 32 1 (coreMod core (fun r => { r with underrun := true }) s0))

end Sys2Proof.Machine
end

