-- ==== Sys2Proof/Machine/RateCtl.lean ====
section
/-! DEFINITION. The rate-control loop (R122 to R149, R156 to R158, R208): its arithmetic, the buckets, the network-adaptive
rate, and the decision of a block row. -/

namespace Sys2Proof.Machine

/-! ### Arithmetic of R127 -/

/-- TL[i]: 256 × log2(1 + i / 256), rounded. -/
def logTab (i : Nat) : Nat := (Nat.log2 ((256 + i) ^ 512) - 4096 + 1) / 2

/-- log2 of a positive integer in 1/256 (R127). -/
def lg (x : Nat) : Int :=
  let k := Nat.log2 x
  let i := if k ≥ 8 then x / 2 ^ (k - 8) % 256 else x * 2 ^ (8 - k) % 256
  (256 * k + logTab i : Nat)

/-- Is 65,536 × 2^(j/256) at least 65,536 + t − 1/2? -/
def expLe (j t : Nat) : Bool := decide ((131072 + 2 * t - 1) ^ 256 ≤ 2 ^ j * 131072 ^ 256)

/-- TE[j]: 65,536 × (2^(j/256) − 1), rounded, found bit by bit. -/
def expTab (j : Nat) : Nat :=
  ((List.range 16).map (fun k => 2 ^ (15 - k))).foldl (fun t b => if expLe j (t + b) then t + b else t) 0

/-- `v` × 2^(y/256) for a nonnegative `v`, rounded (R127). -/
def mulPow (v : Nat) (y : Int) : Nat :=
  let m := v * (65536 + expTab (y % 256).toNat)
  let k := y / 256 - 16
  if k ≥ 0 then m * 2 ^ k.toNat else (m + 2 ^ ((-k).toNat - 1)) / 2 ^ (-k).toNat

/-- QPe of a QP or a qindex, in 1/256 QP (R103, R127). -/
def qpe (std : Std) (depth v : Nat) : Int := match std with
  | .av1 => 6 * (lg (max 1 (Config.dcQ depth v)) - (if depth = 8 then 768 else 1280)) + 1024
  | _ => 256 * v

/-- The qindex of a list nearest to a QPe, ties to the lower (R127). -/
def nearIdx (depth : Nat) (q : Int) : List Nat → Nat
  | [] => 1
  | i :: l => l.foldl (fun b k => if (qpe .av1 depth k - q).natAbs < (qpe .av1 depth b - q).natAbs then k else b) i

/-- The QP or qindex a row of QPe `q` is coded with; `base` is the base qindex of an AV1 picture after its row 0 (R134). -/
def qpCode (x : Session) (q : Int) (base : Option Nat) : Nat := match x.fmt.std with
  | .av1 => match base with
    | none => nearIdx x.fmt.bitDepth q ((List.range 255).map (· + 1))
    | some b => nearIdx x.fmt.bitDepth q ((List.range 255).map (· + 1) |>.filter (fun i => i % 4 == b % 4))
  | _ => (divHalfUp q 256).toNat

/-! ### Network-adaptive rate (R140 to R143) -/

/-- The report is congested, with its delivery rate (R141, R142). -/
def congested (x : Session) (c : RcSet) : FbKind → Option (Bool × Option Nat)
  | .ccfb q _ _ rd l2 ce => some (decide (q > c.narQhigh * 1000) || l2 || ce, rd)
  | .rr lossy _ => if x.loop.ccfbSilent && lossy then some (true, none) else none
  | _ => none

/-- R_net after a report that arrived at `t` (R141). `free` stands for Δt of a first report, which no rule gives. -/
def netAfter (x : Session) (c : RcSet) (t : Nat) (k : FbKind) (free : Nat) : LoopSt :=
  let l := x.loop
  match congested x c k with
  | none => l
  | some (true, rd) =>
    let recent := match l.lastDec with
      | none => false
      | some d => decide (t ≤ d + l.srtt * 1000)
    if recent then l
    else
      let r := match rd with
        | some d => min l.rnet ((85 * d + 50) / 100)
        | none => (85 * l.rnet + 50) / 100
      { l with rnet := max c.rcFloor r, lastDec := some t }
  | some (false, _) =>
    match k with
    | .ccfb q lo e _ _ _ =>
      if q * 4 < c.narQhigh * 1000 ∧ lo = 0 ∧ e = 0 then
        let dt := match l.prevReport with
          | some p => min (t - p) 100000000
          | none => free % 100000001
        { l with rnet := min c.rcPeak (l.rnet + (l.rnet * 4 * dt + 5000000000) / 10000000000) }
      else l
    | _ => l

/-- One report acts (R141 to R143): SRTT from the sample of a receiver report, R_net unless NAR_HOLD. -/
def Session.applyReport (x : Session) (c : RcSet) (free : Nat) (f : FbItem) : Session :=
  let l := if c.narHold then x.loop else netAfter x c f.arrival f.kind free
  { x with loop := match f.kind with
    | .rr _ (some s) => { l with srtt := (7 * l.srtt + s + 4) / 8 }
    | .ccfb .. => { l with prevReport := some f.arrival }
    | _ => l }

/-- Every report recorded acts at row `n` of picture `num`, and is logged (R156). -/
def Session.applyReports (x : Session) (c : RcSet) (num n free : Nat) : Session :=
  (x.fb.filter (·.kind.isRate)).foldl (fun y f => (y.applyReport c free f).logItem f num n)
    { x with fb := x.fb.filter (fun f => !f.kind.isRate) }

/-! ### Buckets (R124, R129, R131, R132) -/

/-- A rate per picture, in 1/256 bit. -/
def perPic (x : Session) (r : Nat) : Nat := (divHalfUp (256 * r * x.rateDen : Nat) (max 1 x.rateNum : Nat)).toNat

/-- D, D_N and A before a picture, from those before the last one and its coded size in bits. -/
def bktStep (x : Session) (b : Bkt) (d n : Nat) (a : Int) (size : Nat) : Nat × Nat × Int :=
  let d1 := d + 256 * size - b.drainD
  let n1 := if b.enterN then d1 else n + 256 * size - b.drainN
  let fall := a * x.rateDen / (256 * b.window * max 1 x.rateNum : Nat)
  let a1 := if b.zeroA then 0 else a - 256 * fall + 256 * size - b.drainT
  (d1, n1, a1)

/-- Make the newest entry of a history exact, and those before it (R129). -/
def bktFix (x : Session) : List Bkt → List Bkt
  | [] => []
  | b :: l =>
    if b.exact then b :: l
    else match bktFix x l with
      | [] => [{ b with exact := true }]
      | q :: r => match q.exact, q.s with
        | true, some z =>
          let (d, n, a) := bktStep x b q.d q.n q.a z
          { b with d := d, n := n, a := a, exact := true } :: q :: r
        | _, _ => b :: q :: r

/-- Make the entry of a picture exact. -/
def bktFixAt (x : Session) (num : Nat) : List Bkt → List Bkt
  | [] => []
  | b :: l => if b.num = num then bktFix x (b :: l) else b :: bktFixAt x num l

/-- The entry of a picture; the entry before it. -/
def bktOf (num : Nat) (l : List Bkt) : Option Bkt := l.find? (fun b => b.num == num)
def bktPrev (num : Nat) (l : List Bkt) : Option Bkt := ((l.dropWhile (fun b => b.num != num)).tail).head?

/-- Row at which the exact coded size of the picture before replaces its estimate (R129, R208). -/
def Session.repRow (x : Session) : Nat := if x.kind = .tandem then x.upRows + 2 else if x.nRows = 2 then 0 else 2

/-- ŝ of the picture before (R129, R208). -/
def sHat (x : Session) (b : Bkt) : Nat :=
  if x.kind = .tandem then (divHalfUp ((256 * b.h + x.loop.kU * b.re) * x.nRows : Nat) (256 * max 1 x.upRows : Nat)).toNat
  else (x.loop.kU * b.re + 128) / 256 + b.h

/-- The row model of a type (R133, R136). -/
def Session.model (x : Session) (key : Bool) : Tab ModelRow := if key then x.mKey else x.mInter

/-- b'_m and QP'_m, with the defaults of R133. -/
def Session.modelRow (x : Session) (key : Bool) (m : Nat) : Nat × Int :=
  let r := tget {} (x.model key) m
  if r.valid then (r.b, r.qp) else ((if key then 1024 else 128) * x.nBlk, 32 * 256)

/-- The rows of a picture enter its row model (R136): a skip or flat row leaves the values. -/
def Session.learn (x : Session) (b : Bkt) : Session :=
  let upd := fun t : Tab ModelRow => b.rows.foldl (fun t r =>
    tset {} t r.1 (if r.2.skip then { tget {} t r.1 with skip := true } else r.2)) t
  let y := if b.key then { x with mKey := upd x.mKey } else { x with mInter := upd x.mInter }
  { y with loop := { y.loop with hist := y.loop.hist.map (fun q => if q.num = b.num then { q with rows := [] } else q) } }

/-- B, B_c and D_t of a buffer model, bits (R123, R131). -/
def Session.bC (x : Session) (p : Pic) : Nat := let b := p.bm.size x.rateNum x.rateDen; b - b / 8
def Session.dT (x : Session) (p : Pic) : Nat := x.bC p * p.rc.bufTarget / 16

/-- H_p (R131). -/
def hardLimit (x : Session) (p : Pic) (d : Nat) : Nat := (256 * x.bC p - d + 128) / 256

/-- T_p of row 0 (R131), within floor(R / 4f) to H_p; in capped VBR and CQ not used. -/
def budget (x : Session) (p : Pic) (h d n : Nat) : Nat :=
  if p.rc.rcMode = 1 ∨ p.rc.rcMode = 2 then 0
  else
    let r := if p.rc.rcMode = 3 then x.loop.rnet else p.rc.rcTarget
    let fill := if p.rc.rcMode = 3 then n else d
    let num := max 1 x.rateNum
    let k := if p.key then p.rc.keyRatio else 1
    let t : Int := ((k * r * x.rateDen * 1024 : Nat) + ((256 * x.dT p : Nat) - (fill : Int)) * num) / (1024 * num : Nat)
    (min (max t (r * x.rateDen / (4 * num) : Nat)) h).toNat

/-- Row 0 of a picture at the loop: the buckets, H_p and T_p, and A of R107 (R122, R129, R131, R208). -/
def openBucket (sid num : Nat) (s : State) : State :=
  let x0 := sessOf s sid
  match x0.pic num with
  | none => s
  | some p =>
    let modeNew := decide (p.rc.rcMode ≠ p.rcOld.rcMode)
    let enter := modeNew && decide (p.rc.rcMode = 3)
    let x1 := if enter then { x0 with loop := { x0.loop with rnet := p.rc.rcTarget } } else x0
    let two := decide (x1.kind ≠ .tandem) && decide (x1.nRows = 2)
    let tan := decide (x1.kind = .tandem)
    let hist := if tan then x1.loop.hist else bktFix x1 x1.loop.hist
    let b0 : Bkt := {
      num := num, key := p.key, drainD := perPic x1 p.bmOld.rD, drainN := perPic x1 x1.loop.rnet
      drainT := perPic x1 p.rc.rcTarget, window := p.rc.vbrWindow, zeroA := modeNew, enterN := enter }
    let est := (hist.head?).map (fun q => sHat x1 q)
    let b := match hist.head? with
      | none => { b0 with exact := true }
      | some q =>
        let size := if two then q.s.getD (sHat x1 q) else sHat x1 q
        let (d, n, a) := if tan then bktStep x1 b0 q.dE q.nE q.aE size else bktStep x1 b0 q.d q.n q.a size
        { b0 with d := d, n := n, a := a, dE := d, nE := n, aE := a, exact := two && q.exact && q.s.isSome }
    let old := if tan then (hist.drop 1).head? else if two then hist.head? else none
    let x2 := { x1 with loop := { x1.loop with
      hist := (b :: hist).take 4, sHat := est.getD 0, sExact := none } }
    let a := if tan then ((hist.drop 1).head?.map (·.act)).getD 0 else x1.loop.act
    let x3 := match old with
      | none => x2
      | some q => x2.learn q
    let h := hardLimit x3 p b.d
    let t := budget x3 p h b.d b.n
    sessMod sid (fun _ => { x3 with
      loop := { x3.loop with d := b.d, dN := b.n, a := b.a, t := t, h := h }
      pics := x3.pics.map (fun q => if q.num ≠ num then q
        else { q with t := t, h := h, dRow0 := b.d, dNRow0 := b.n, aRow0 := b.a, aVbr := b.a, rNet := x3.loop.rnet, actRef := a }) }) s

/-- The exact size of the picture before replaces its estimate (R129), H_p is computed again, and its rows enter the row
model (R136). -/
def replaceBucket (sid num : Nat) (s : State) : State :=
  let x := sessOf s sid
  match x.pic num with
  | none => s
  | some p =>
    let hist := bktFixAt x num x.loop.hist
    match bktOf num hist with
    | none => s
    | some b =>
      let h := hardLimit x p b.d
      let y := { x with
        loop := { x.loop with hist := hist, d := b.d, dN := b.n, a := b.a, h := h, sExact := (bktPrev num hist).bind (·.s) }
        pics := x.pics.map (fun q => if q.num ≠ num then q else { q with h := h, dRow0 := b.d, dNRow0 := b.n, aRow0 := b.a }) }
      let z := if x.kind = .tandem then y else match bktPrev num hist with
        | none => y
        | some q => y.learn q
      sessMod sid (fun _ => z) s

/-! ### The decision of a block row -/

/-- The row lies in the lower band of a tandem. -/
def Session.low (x : Session) (n : Nat) : Bool := decide (x.kind = .tandem) && decide (n ≥ x.upRows)

/-- Does the decision of row `n` have what it needs (R111, R128, R129, R208)? -/
def decideReady (x : Session) (p : Pic) (n : Nat) : Bool :=
  let back := if x.low n then 3 else 2
  let h := x.loop.hist
  let known := fun b : Option Bkt => match b with
    | none => true
    | some q => q.s.isSome
  (decide (n < back) || (p.row (n - back)).left6) &&
    (decide (n ≠ x.repRow) || (if n = 0 then known h.head? else known (bktPrev p.num h))) &&
    (decide (x.kind ≠ .tandem) || decide (n ≠ 0) || known ((h.drop 1).head?))

/-- κ after the update of R130 at row `n` from row `m`. -/
def kappa (old : Nat) (r : RowRec) : Nat :=
  match r.kind with
  | .skip | .flat => old
  | _ => max 128 (min 1024 (divHalfUp (256 * r.bits : Nat) (r.re + 1 : Nat)).toNat)

/-- S_n (R128, R208). -/
def bitsSoFar (x : Session) (p : Pic) (n : Nat) : Int :=
  let exact := fun k => ((List.range (n + 1 - k)).map (fun m => (p.row m).bits)).sum
  if x.low n then
    let k := x.loop.kL
    let re2 := (p.row (n - 2)).re
    if n = x.upRows then
      (p.hdrBits + exact 3 + (k * re2 + 128) / 256 : Nat) + (p.row (n - 1)).t
    else (p.hdrBits + exact 3 + (k * (re2 + (p.row (n - 1)).re) + 128) / 256 : Nat)
  else
    (p.hdrBits + (if n ≥ 2 then exact 2 else 0) + (if n ≥ 1 then (x.loop.kU * (p.row (n - 1)).re + 128) / 256 else 0) : Nat)

/-- r × b'_m × 2^(−(q − QP'_m) / 6) (R133), multiplied from left to right. -/
def rowAt (x : Session) (key : Bool) (r m : Nat) (q : Int) : Nat :=
  let (b, q') := x.modelRow key m
  mulPow (r * b) (divHalfUp (q' - q) 6)

/-- ρ_n in 1/256 (R133). -/
def rho (x : Session) (p : Pic) (n : Nat) (sn : Int) : Nat :=
  if n = 0 then 256
  else
    let ph := ((List.range n).map (fun m => rowAt x p.key 1 m (p.row m).qp)).sum
    if ph = 0 then (if sn = 0 then 256 else 2048)
    else (clampI (divHalfUp (256 * sn) (ph : Nat)) 64 2048).toNat

/-- What a row decision comes to. -/
structure RowDec where
  qp : Int := 0
  code : Nat := 0
  t : Int := 0
  kind : RowKind := .normal
  force : Bool := false
  skip : Bool := false
  deriving DecidableEq, Repr

/-- Decide row `n` (R131 to R139, R158), with S_n; `free` stands for what no rule gives. -/
def decide' (x : Session) (p : Pic) (n : Nat) (sn : Int) (free : Nat) : RowDec :=
  let c := p.rc
  let std := x.fmt.std
  let dep := x.fmt.bitDepth
  let lo := qpe std dep c.qpMin
  let hi := qpe std dep c.qpMax
  let r := rho x p n sn
  let rest := (List.range (x.nRows - n)).map (· + n)
  let cbr := decide (c.rcMode = 0) || decide (c.rcMode = 3)
  let (b, q') := x.modelRow p.key n
  let wSum := (rest.map (fun m => (x.modelRow p.key m).1)).sum
  let t : Int := if !cbr ∨ wSum = 0 then (Config.freeNat free : Int)
    else max 64 (divHalfUp (((p.t : Int) - sn) * b) (wSum : Nat))
  let q :=
    if c.forceEn then qpe std dep c.forceQp
    else if cbr then
      let star := if r * b = 0 then (Config.freeNat (free + 1) : Int) else q' + 6 * (lg (r * b) - lg t.toNat - 2048)
      let whole := 256 * divHalfUp star 256
      let stepped := if n = 0 then whole
        else
          let last := (p.row (n - 1)).qp
          clampI whole (last - 256 * c.rowQpStep) (last + 256 * c.rowQpStep)
      clampI stepped lo hi
    else
      let base := qpe std dep c.cqQp
      let dv := if c.rcMode = 1 then clampI (divHalfUp (6 * p.aVbr) (c.rcTarget * max 1 c.vbrWindow : Nat)) (-3072) 3072 else 0
      clampI (if std = .av1 then base + dv else 256 * divHalfUp (base + dv) 256) lo hi
  let pi : Int := sn + ((rest.map (fun m => (rowAt x p.key r m hi + 128) / 256)).sum : Nat)
  let u : Int := if cbr && !c.forceEn then p.t else p.h
  let force := p.forceFrom.isSome || (decide (n ≥ 1) && decide (pi > u))
  let skip := p.skipFrom.isSome || (decide (n ≥ 1) && (decide (8 * pi > 9 * u) || decide (pi > p.h)))
  let lost := x.fmt.rowStream && x.ing.lost.any (fun g => g.1 == p.num && decide (g.2 / 8 = n))
  let kind : RowKind := if skip || lost then (if p.key then .flat else .skip) else if force then .forced else .normal
  let qf := if kind = .flat ∨ kind = .forced then hi else q
  { qp := qf, code := qpCode x qf (if n = 0 then none else some p.qBase), t := t, kind := kind
    force := force, skip := skip }

/-- The refresh units of a sweep before picture `k` (R144). -/
def unitsAt (x : Session) (l k : Nat) : Nat := k * x.refUnits / max 1 l

/-- Clean extent of row `n` after the picture (R145, R148). -/
def extentOf (x : Session) (p : Pic) (n : Nat) (kind : RowKind) : Nat :=
  if !p.inSweep then x.refUnits
  else
    let before := if p.sweepStart then 0 else x.loop.ext.getD n 0
    if kind = .skip ∧ p.sweepK + 1 < p.sweepL then before else unitsAt x p.sweepL (p.sweepK + 1)

/-- A list of `len` numbers with entry `n` set. -/
def setAt (l : List Nat) (len n v : Nat) : List Nat := (List.range len).map (fun i => if i = n then v else l.getD i 0)

/-- Put a decision into the picture's and the session's records (R126, R136, R145, R148). -/
def Session.takeDec (x : Session) (num n : Nat) (d : RowDec) : Session :=
  match x.pic num with
  | none => x
  | some p =>
    let e := extentOf x p n d.kind
    let def' := decide (d.kind = .skip) && p.inSweep && decide (p.sweepK + 1 < p.sweepL)
    let from' := if !p.inSweep then x.refUnits else if p.sweepStart then 0 else x.loop.ext.getD n 0
    let p1 := p.rowMod n (fun r => { r with kind := d.kind, qp := d.qp, code := d.code, t := d.t, clean0 := from' })
    let p2 := { p1 with
      sig := if n = 0 ∧ x.fmt.std = .av1 then { p.sig with filter := av1Filter d.code } else p.sig
      qBase := if n = 0 then d.code else p.qBase, qp0 := if n = 0 then d.code else p.qp0
      qpLow := if n = 0 then d.code else min p.qpLow d.code, qpHigh := max p.qpHigh d.code
      forced := p.forced + b2n (d.kind == .forced), skipped := p.skipped + b2n (d.kind == .skip)
      forceFrom := if d.force ∧ p.forceFrom.isNone then some n else p.forceFrom
      skipFrom := if d.skip ∧ p.skipFrom.isNone then some n else p.skipFrom
      overrun := p.overrun || d.force || d.skip, extents := setAt p.extents x.nRows n e
      kEnd := if x.low n then x.loop.kL else x.loop.kU }
    { x with
      pics := x.pics.map (fun q => if q.num = num then p2 else q)
      slots := if p.oldSweep then x.slots
        else x.slots.map (fun t => if p.slotBuf ≠ 0 ∧ t.handle = p.slotBuf then { t with extents := p2.extents } else t)
      loop := { x.loop with
        exts := if p.oldSweep then x.loop.exts else ((num, p2.extents) :: x.loop.exts.filter (fun e => e.1 != num)).take 4
        t := p2.t, h := p2.h, qp0 := p2.qp0, qpLow := p2.qpLow, qpHigh := p2.qpHigh, qpLast := d.code, forced := p2.forced
        skipped := p2.skipped, ext := setAt x.loop.ext x.nRows n e
        defer := x.loop.defer.filter (· ≠ n) ++ (if def' then [n] else []) } }

/-- R135: T_p after a change of R_net. -/
def rescale (x : Session) (p : Pic) (n : Nat) (sn : Int) : Pic :=
  if p.rc.rcMode ≠ 3 ∨ n = 0 ∨ x.low n ∨ p.rNet = x.loop.rnet ∨ p.rNet = 0 then p
  else { p with t := (sn + divHalfUp (((p.t : Int) - sn) * x.loop.rnet) (p.rNet : Nat)).toNat, rNet := x.loop.rnet }

/-- The decision of block row `n` of a picture, as its block 0 enters stage 3, with the header bits formed since the last
decision (R128 to R139, R156, R208); the first picture decided after new keys takes them (R306). -/
def decideRow (sid num n hdr : Nat) (s : State) : State :=
  match (sessOf s sid).pic num with
  | none => s
  | some p0 =>
    let free := s.free
    let s0 := { s with free := s.free + 3 }
    let s1 := bktMod sid num (fun b => { b with h := b.h + hdr })
      (picMod sid num (fun p => { p with hdrBits := p.hdrBits + hdr }) s0)
    let s2 := sessMod sid (fun x => if x.low n then x else x.applyReports (if n = 0 then p0.rcOld else p0.rc) num n free) s1
    let s3 := sessMod sid (fun x =>
      let back := if x.low n then 3 else 2
      if n < back then x
      else
        let r := p0.row (n - back)
        { x with loop := if x.low n then { x.loop with kL := kappa x.loop.kL r } else { x.loop with kU := kappa x.loop.kU r } }) s2
    let s3' := if n = 0 then sessMod sid (fun x =>
        if x.tr.rekeyPending ∧ x.keys.nextSend.isSome then
          { x with tr := { x.tr with rekeyPending := false }
                   pics := x.pics.map (fun (q : Pic) => if q.num = num then { q with newKey := true } else q) }
        else x) s3 else s3
    let s4 := if n = 0 then bktMod sid num (fun b => { b with h := b.h + hdr }) (openBucket sid num s3')
      else if n = (sessOf s3 sid).repRow then replaceBucket sid num s3 else s3
    sessMod sid (fun x => match x.pic num with
      | none => x
      | some p =>
        let sn := bitsSoFar x p n
        let p1 := rescale x p n sn
        let y := { x with pics := x.pics.map (fun (q : Pic) => if q.num = num then p1 else q) }
        y.takeDec num n (decide' y p1 n sn (free + 1))) s4

end Sys2Proof.Machine
end

