-- ==== Sys2Proof/Machine/Recon.lean ====
section
/-! DEFINITION. What stages 5 to 7 write (R95, R110, R112, R162 to R165, R185, R207): packed units, motion field and decimations in the
slot buffer, the slot header, output frames, and the bitstream. -/

namespace Sys2Proof.Machine

/-- Coded width, height and bit depth of a picture: of the session, or of the stream decoded. -/
def Session.coded (x : Session) (p : Pic) : Nat × Nat × Nat :=
  if x.kind = .decode then (p.width, p.height, p.depth) else (x.width, x.height, x.fmt.bitDepth)

/-- Sum of the SECTORS fields of a picture's unit length table (R163). -/
def Pic.sectors (p : Pic) : Nat := (p.lens.map (fun e => entrySectors e.2)).sum

/-- Pack a unit of a picture and write it: sectors, length entry, and for an encode session its decimations, level 1 first
(R95, R162, R165). -/
def storeUnit (sid num : Nat) (u : UnitPix) (s : State) : State :=
  let x := sessOf s sid
  match x.pic num with
  | none => s
  | some p =>
    let (w, h, depth) := x.coded p
    let total := packUnits w h
    if u.unit ≥ total then s
    else
      let v := padUnit depth w h (ceilDiv w 64) u
      let (e, bytes) := packUnit depth v
      let s1 := storeBytes p.slotBuf (256 + 2 * u.unit) (leN 2 e)
        (storeBytes p.slotBuf (slotData x.fmt.std total + u.unit * unitRaw depth) bytes s)
      let s2 := if x.kind = .decode then s1
        else storeBytes p.slotBuf (slotDec x.fmt.std depth total + 1280 * u.unit)
          (pixBytes (decimate depth 64 4 v.luma ++ decimate depth 64 2 v.luma)) s1
      picMod sid num (fun p => { p with lens := tset 0 p.lens u.unit e }) s2

/-- The 8×8 cells prediction blocks lie in, by column and row. -/
def predCells (ps : List Pred) : List (Nat × Nat) :=
  (ps.flatMap (fun b =>
    let n := ceilDiv (b.x % 8 + b.w) 8
    let m := ceilDiv (b.y % 8 + b.h) 8
    (List.range (n * m)).map (fun i => (b.x / 8 + i % max 1 n, b.y / 8 + i / max 1 n)))).eraseDups

/-- Write the motion field entries of prediction blocks (R110, R162, R164). -/
def storeMotion (sid num : Nat) (ps : List Pred) (s : State) : State :=
  let x := sessOf s sid
  match x.pic num with
  | none => s
  | some p =>
    let (w, h, _) := x.coded p
    let total := packUnits w h
    forAll (predCells ps) (fun c s =>
      let u := c.2 / 8 * ceilDiv w 64 + c.1 / 8
      match predAt ps (8 * c.1) (8 * c.2) with
      | none => s
      | some b =>
        if u ≥ total then s
        else storeBytes p.slotBuf (slotMotion total + 1024 * u + 16 * (c.2 % 8 * 8 + c.1 % 8)) (leN 16 (motionEntry b.mode)) s) s

/-- What the slot header says of a picture (R163). For AV1 the entries are those of ref_frame_idx (R177). -/
def Session.slotHdr (x : Session) (p : Pic) : SlotHdr :=
  let (w, h, depth) := x.coded p
  let enc := if x.fmt.std = .av1 then
      (if p.key then [] else (List.range 7).map (fun i => p.refOrd.getD (if i < 3 ∧ i < p.refOrd.length then i else 0) (0, false)))
    else p.refOrd
  { picNum := p.num % 2 ^ 32, order := p.order, width := w, height := h, depth := depth
    ftype := if x.kind = .decode then p.ftype else if p.key then 0 else 1
    concealed := p.concealed, damaged := p.damaged, grey := p.grey, sectors := p.sectors
    l0 := if x.kind = .decode then p.lists.1 else enc, l1 := if x.kind = .decode then p.lists.2 else [] }

/-- Write the slot header (R163). -/
def storeHeader (sid num : Nat) (s : State) : State :=
  let x := sessOf s sid
  match x.pic num with
  | none => s
  | some p => storeBytes p.slotBuf 0 (slotHeader (x.slotHdr p)) s

/-- Write the AV1 saved state of a picture, the rest of its area 0 (R164). -/
def storeSaved (sid num : Nat) (l : List Byte) (s : State) : State :=
  let x := sessOf s sid
  match x.pic num with
  | none => s
  | some p =>
    if x.fmt.std ≠ .av1 then s
    else
      let (w, h, _) := x.coded p
      storeBytes p.slotBuf (slotSaved (packUnits w h)) ((l ++ List.replicate (24576 - l.length) 0).take 24576) s

/-- Write samples of an output frame, in the layout of R78 for SRC_FMT 0 or 1 (R185). -/
def storeRun (handle w h depth : Nat) (r : PixRun) (s : State) : State :=
  let fmt := if depth = 8 then 0 else 1
  let sy := strideY fmt w
  let (pw, ph) := if r.plane = 0 then (w, h) else (ceilDiv w 2, ceilDiv h 2)
  if r.plane > 2 ∨ r.y ≥ ph then s
  else
    forAll ((r.samples.mapIdx (fun i v => (r.x + i, v))).filter (fun e => decide (e.1 < pw))) (fun e s =>
      let k := if r.plane = 0 then e.1 else 2 * e.1 + (r.plane - 1)
      let base := (if r.plane = 0 then 0 else sy * alignH h) + r.y * sy
      storeBytes handle (base + k * srcBytes fmt) (if depth = 8 then leN 1 e.2 else leN 2 (e.2 % 2 ^ 10 * 2 ^ 6)) s) s

end Sys2Proof.Machine
end

