-- ==== Sys2Proof/Machine/Pipe.lean ====
section
/-! DEFINITION. The block pipeline of a core (R88 to R112, R161, R178 to R190), the wavefront and the seam link of a tandem
(R198 to R203). What the rules leave to the standards' arithmetic comes with the command (log 7). -/

namespace Sys2Proof.Machine

/-! ### Blocks in the stages -/

/-- Blocks that have left stage `st` (2 to 7), of those in flow. -/
def Core.posAt (c : Core) (st : Nat) : Nat := c.pos.getD (st - 2) 0
/-- Blocks that have entered what stage `st` (2 to 7) takes from. -/
def Core.fedTo (c : Core) (st : Nat) : Nat := if st = 2 then c.flow.length else c.posAt (st - 1)

/-- The row and block in stage `st` that leaves next (R90). -/
def Core.front (c : Core) (st : Nat) : Option (CoreRow × Nat) :=
  if st = 1 then (c.rows.find? (fun r => decide (r.entered > r.left.getD 0 0))).map (fun r => (r, r.left.getD 0 0))
  else if c.posAt st < c.fedTo st then
    match c.flow[c.posAt st]? with
    | none => none
    | some o => (c.rows.find? (fun r => r.order == o)).map (fun r => (r, r.left.getD (st - 1) 0))
  else none

/-- Blocks that may stand between the end of stage `st` and the end of the next (R89, R199). -/
def stageRoom (lowTandem : Bool) (st : Nat) : Nat := if st = 5 ∧ lowTandem then 129 else 3

/-- Has the core room behind stage `st` (R89, R91, R199)? -/
def Core.roomAfter (c : Core) (st : Nat) (low lastOfRow : Bool) : Bool :=
  if st = 7 then true
  else if st = 6 then true
  else
    decide (c.fedTo (st + 1) - c.posAt (st + 1) < stageRoom low st) &&
      (decide (st ≠ 1) || !lastOfRow || decide ((c.rows.filter (fun r => r.slot.isNone)).length < 6))

/-- Block `j` of the row of a picture has left a stage; a row not in a core has if its record says so. -/
def blockGone (s : State) (x : Session) (sid num row stage j : Nat) : Bool :=
  let r := ((x.pic num).map (fun p => p.row row)).getD {}
  let flag := match stage with
    | 1 => r.left1 | 3 => r.left3 | 5 => r.left5 | 6 => r.left6 | _ => r.done
  flag || decide (blocksLeft s sid num row stage > j)

/-- A record of a kind for the picture has been received over the seam (for a block, of that block). -/
def seamGot (s : State) (x : Session) (sid num kind : Nat) (block : Option Nat) : Bool :=
  (pairOf s (x.core / 2)).recs.any (fun r => r.kind == kind && r.sid == sid && r.pic == num &&
    (match block with
     | none => true
     | some b => r.block == b))

/-- The waits of a block of an encode row at the entry of a stage, judged as it would leave it (R93, R111, R198, R208). -/
def stageWaits (s : State) (c : Core) (r : CoreRow) (j st : Nat) : Bool :=
  let x := sessOf s r.sid
  match x.pic r.pic with
  | none => false
  | some p =>
    if p.st = .ended ∨ r.decode then false
    else
      let up := x.upRows
      let n := x.nBlk - 1
      let gone := fun stage k => blockGone s x r.sid r.pic (r.row - 1) stage k
      let seam := decide (x.kind = .tandem) && decide (r.row = up)
      let wave :=
        if st = 2 then decide (r.row ≠ 0) && !gone 3 (if seam then min (j + 2) n else j)
        else if !seam then false
        else if st = 3 then !gone 4 (min (j + 1) n)
        else if st = 5 then !(gone 5 (min (j + 1) n) && seamGot s x r.sid r.pic 0 (some (min (j + 1) n)))
        else if st = 6 then !(gone 6 n && seamGot s x r.sid r.pic 2 none)
        else false
      let dec := decide (st = 2) && decide (j = 0) && !(decideReady x p r.row && decide (c.posAt 3 = c.posAt 2))
      wave || dec

/-- Move block `j` of a row out of stage `st` in the core's records. -/
def Core.pass (c : Core) (r : CoreRow) (st : Nat) : Core :=
  let c1 := { c with rows := c.rows.map (fun (q : CoreRow) =>
    if q.order = r.order then { q with left := q.left.mapIdx (fun i v => if i = st - 1 then v + 1 else v) } else q) }
  if st = 1 then { c1 with flow := c1.flow ++ [r.order] }
  else
    let pos := c1.pos.mapIdx (fun i v => if i = st - 2 then v + 1 else v)
    if st = 7 then { c1 with flow := c1.flow.tail, pos := pos.map (· - 1) } else { c1 with pos := pos }

/-! ### What an encode block does (R82, R84, R90, R107, R111, R112, R161, R202) -/

/-- The lines of a block row are released, or the half its picture held (R82, R84). -/
def releaseLines (sid num n : Nat) (s : State) : State :=
  let x := sessOf s sid
  let last := decide (n + 1 = x.nRows)
  match x.pic num with
  | none => s
  | some p =>
    if x.fmt.rowStream then
      sessMod sid (fun x => { x with ing :=
        if x.ing.relPic ≠ num then x.ing
        else if last then ({ x.ing with relPic := num + 1, relLines := 0 } : Ingest).advance
        else { x.ing with relLines := max x.ing.relLines (min (64 * (n + 1)) x.height) } }) s
    else if last then
      sessMod sid (fun x => { x with ing := if p.srcIdx = 0 then { x.ing with half0Busy := false }
        else { x.ing with half1Busy := false } }) s
    else s

/-- Send a record over the seam of the session's pair (R202). -/
def seamSend (x : Session) (r : SeamRec) (s : State) : State := pairMod (x.core / 2) (fun p => { p with sent := p.sent ++ [r] }) s

/-- Set a slot's packed size once the last block row has passed stage 5 (R518). -/
def setPacked (sid num : Nat) (s : State) : State :=
  sessMod sid (fun x => match x.pic num with
    | none => x
    | some p => { x with slots := x.slots.map (fun t => if p.slotBuf ≠ 0 ∧ t.handle = p.slotBuf then
        { t with packed := packedSize x.fmt.std (x.coded p).1 (x.coded p).2.1 p.sectors } else t) }) s

/-- What a coded block leaves for later searches (R96, R97). -/
def LoopSt.keepMot (l : LoopSt) (num at' : Nat) (m : BlkMot) : LoopSt :=
  { l with mots := if l.mots.any (fun e => e.1 == num) then l.mots.map (fun e => if e.1 = num then (e.1, tput e.2 at' m) else e)
      else ((num, [(at', m)]) :: l.mots).take 3 }

/-- The entry of block `j` of a row for later searches. -/
def BlkData.mot (d : BlkData) (std : Std) (refs : List Nat) (ps : List Pred) : BlkMot :=
  { preds := ps, refs := refs
    full := d.found.filterMap (fun f => (f.full.find? (fun e => e.2.2.1 == unitSide std)).map (fun e => (f.unit, f.rank, e.2.2.2))) }

/-- A block of an encode row, holding `d`, leaves a stage. At the end of a row its bytes are written before the notice of it
is queued (R20). -/
def encBlock (sid num n j st : Nat) (d : BlkData) (o : BlockOut) (s : State) : State :=
  let x := sessOf s sid
  let lastB := decide (j + 1 = x.nBlk)
  let lastR := decide (n + 1 = x.nRows)
  let tan := decide (x.kind = .tandem)
  match st with
  | 1 =>
    let s1 := picMod sid num (fun p => { (if lastB then p.rowMod n (fun r => { r with left1 := true }) else p) with
      act := p.act + (readBlock s x p n j).acts.sum }) s
    if !lastB then s1
    else
      let s2 := releaseLines sid num n s1
      if lastR then
        sessMod sid (fun x => match x.pic num with
          | none => x
          | some p => { x with loop := { x.loop with
              act := x.meanAct p.act
              hist := x.loop.hist.map (fun b => if b.num = num then { b with act := x.meanAct p.act } else b) } }) s2
      else s2
  | 2 => if j = 0 then decideRow sid num n o.hdr s else s
  | 3 =>
    let s0 := sessMod sid (fun x => { x with loop := x.loop.keepMot num (n * x.nBlk + j) (d.mot x.fmt.std
      (((x.pic num).map (·.refs)).getD []) o.preds) }) s
    let s1 := picMod sid num (fun p => p.rowMod n (fun r => { r with re := r.re + o.est, left3 := r.left3 || lastB })) s0
    if tan && decide (n ≥ x.upRows) then s1 else bktMod sid num (fun b => { b with re := b.re + o.est }) s1
  | 4 => if lastB && lastR then dropCaptured sid num s else s
  | 5 =>
    let pel := x.core / 8
    let s0 := storeMotion sid num d.preds (forAll o.units (storeUnit sid num) s)
    let s1 := rcnt (aPel pel 0xE0) 0 64 o.misses (rcnt (aPel pel 0xD8) 0 64 o.hits
      (picMod sid num (fun p => if lastB then p.rowMod n (fun r => { r with left5 := true }) else p) s0))
    let s2 := if tan && decide (n + 1 = x.upRows) then seamSend x { kind := 0, sid := sid, pic := num, row := n, block := j } s1 else s1
    if lastB && lastR then setPacked sid num (storeHeader sid num (storeSaved sid num o.saved s2)) else s2
  | 6 =>
    let s1 := picMod sid num (fun p => p.rowMod n (fun r => { r with bits := r.bits + o.bits, left6 := r.left6 || lastB })) s
    if !lastB then s1
    else
      let r : RowRec := (((sessOf s1 sid).pic num).map (fun p => p.row n)).getD {}
      let skip := decide (r.kind = .skip) || decide (r.kind = .flat)
      let s2 := bktMod sid num (fun b => { b with rows := b.rows ++ [(n, { b := r.bits, qp := r.qp, valid := true, skip := skip })] }) s1
      if !tan then s2
      else if n + 1 = x.upRows then seamSend x { kind := 2, sid := sid, pic := num, row := n } s2
      else if n + 2 = x.upRows ∨ n + 3 = x.upRows then seamSend x { kind := 1, sid := sid, pic := num, row := n } s2
      else if lastR then seamSend x { kind := 3, sid := sid, pic := num, row := n } s2
      else s2
  | _ =>
    if !lastB then s
    else
      let p0 := (x.pic num).getD {}
      let (pieces, ws, t) := releaseRow x.fmt.std x.region lastR o.coded p0.tout
      let bytes := (pieces.map (·.len)).sum
      let cols := x.tileCols
      let notes := (List.range cols).map (fun c =>
        let l := ((pieces.zip o.coded).filter (fun e => decide (cols = 1) || decide (e.2.tile % cols = c))).map (·.1)
        ({ row := n, col := c, last := lastR && decide (c + 1 = cols), bytes := (l.map (·.len)).sum, pieces := l, time := devNs s } : RowNotice))
      let s0 := forAll ws (fun w s => storeBytes p0.bsBuf w.1 w.2 s) s
      let s1 := picMod sid num (fun p => { (p.rowMod n (fun r => { r with done := true })) with
        notices := p.notices ++ notes, bytes := p.bytes + bytes, tout := t
        units := p.units ++ (o.coded.filter (·.starts)).map (·.kind) }) s0
      let total := (((sessOf s1 sid).pic num).map (·.bytes)).getD 0
      if lastR then bktMod sid num (fun b => { b with s := some (8 * total) }) s1 else s1

/-! ### What a decode block does (R178 to R190) -/

/-- The picture is refused (R180). -/
def refusePic (sid num : Nat) (s : State) : State :=
  let s1 := sessMod sid (fun x => { x with decRefuse := true }) (picMod sid num (fun p => { p with unsupported := true, parsed := true }) s)
  afterEnd sid (endPic sid num stStreamUnsupported s1)

/-- Newest intact slot of a class, as the slots stand before the picture's own marking (R184, R187). -/
def Session.intact (x : Session) (long : Bool) : Option Nat :=
  x.ranked.find? (fun i => !(x.slot i).damaged &&
    (decide (x.fmt.std = .av1) || decide ((x.slot i).term = if long then .long else .short)))

/-- What the references of a picture resolve to: the slots, missing ones with their substitutes (R187). -/
def Session.resolve (x : Session) (refs : List RefName) : List (RefName × Bool × Option Nat) :=
  refs.map (fun r =>
    match r.slot with
    | some i => if (x.slot i).held then (r, false, some i) else (r, true, x.intact r.long)
    | none => (r, true, x.intact r.long))

/-- A pair of EVT_REF_MISSING (R236). -/
def missPair (r : RefName) (sub : Option Nat) : Nat :=
  r.order % 2 ^ 24 + (sub.getD 15) % 16 * 2 ^ 24 + r.list % 2 * 2 ^ 28 + 2 ^ 31

/-- EVT_REF_MISSING (R187, R236). -/
def evtMissing (sid num : Nat) (l : List Nat) (s : State) : State :=
  let p := fun i => l.getD i 0
  evtSess sid 0x0016 4 (num % 2 ^ 32 + p 0 * 2 ^ 32) (p 1 + p 2 * 2 ^ 32) (p 3 + p 4 * 2 ^ 32) (p 5 + p 6 * 2 ^ 32) (p 7) s

/-- The stream's marking process acts (R169, R184). -/
def applyMarks (sid : Nat) (l : List (Nat × Term)) (s : State) : State :=
  forAll l (fun m s =>
    if m.2 = .empty then slotEmpty sid m.1 s
    else sessMod sid (fun x => x.slotMod m.1 (fun t => if t.held ∧ m.2 ≠ .lost then { t with term := m.2 } else t)) s) s

/-- The slots a decoded picture fills (R184): those AV1 names, or the lowest EMPTY slot for a reference picture. -/
def fillSlots (x : Session) (h : DecHead) : List Nat :=
  if x.fmt.std = .av1 then h.refresh.filter (· < 8)
  else if !h.isRef then []
  else ((List.range 8).find? (fun i => (x.slot i).term == .empty)).toList ++
    (if (List.range 8).any (fun i => (x.slot i).term == .empty) then []
     else ((List.range 8).find? (fun i => (x.slot i).term == .lost)).toList)

/-- Bind the picture's buffer to the slots it fills, one count for each (R161, R169). -/
def fillTargets (sid buf : Nat) (t : Slot8) : List Nat → State → State
  | [], s => s
  | i :: l, s => fillTargets sid buf t l (bindSlot sid i t (addRef 0 buf s))

/-- The headers of a picture that is shown from a slot (R185). -/
def showExisting (sid num i : Nat) (h : DecHead) (s : State) : State :=
  let t := (sessOf s sid).slot i
  picMod sid num (fun p => { p with
    parsed := true, shownExisting := true, nRows := 1, blocks := max 1 h.blocks, order := t.order, grey := t.grey
    concealed := t.concealed, damaged := t.damaged, renderW := h.renderW, renderH := h.renderH, depth := h.depth, outW := h.outW
    outH := h.outH }) (applyMarks sid h.marks s)

/-- The headers of a decoded picture are parsed in stage 1 of row 0 (R178 to R187, R190). -/
def parseHead (sid num : Nat) (h : DecHead) (s : State) : State :=
  let x := sessOf s sid
  if !h.supported ∨ (x.decRefuse ∧ !h.resync) then refusePic sid num s
  else
    match h.showExisting with
    | some i => showExisting sid num i h s
    | none =>
      match x.pic num with
      | none => s
      | some p =>
        let res := x.resolve h.refs
        let miss := (res.filter (fun r => r.2.1)).take 8
        let used := (res.filterMap (fun r => r.2.2)).eraseDups
        let allGrey := h.inter && !res.isEmpty && res.all (fun r => r.2.2.isNone)
        let run := !h.resync && x.loop.greyRun
        let carry := run && h.inter && !res.isEmpty && res.all (fun r => r.2.1 || (match r.2.2 with
          | none => true
          | some i => (x.slot i).grey))
        let grey := allGrey || carry
        let left := x.loop.recLeft
        let conc := !miss.isEmpty || decide (left > 0)
        let s1 := if miss.isEmpty then s else evtMissing sid num (miss.map (fun r => missPair r.1 r.2.2)) s
        let s2 := applyMarks sid h.marks s1
        let s3 := if h.key then forAll (List.range 8) (fun i s => if h.refresh.contains i then s else slotEmpty sid i s) s2 else s2
        let fills := fillSlots (sessOf s3 sid) h
        let t : Slot8 := { handle := p.slotBuf, picNum := num, term := .short, order := h.order, concealed := conc, grey := grey
                           refs := used.map (fun i => (x.slot i).picNum) }
        let s4 := fillTargets sid p.slotBuf t fills s3
        picMod sid num (fun p => { p with
          parsed := true, nRows := max 1 h.rows, blocks := max 1 h.blocks, tiles := h.tiles, order := h.order, hidden := h.hidden
          concealed := conc, grey := grey, renderW := h.renderW, renderH := h.renderH, refMask := used
          outFrame := if h.hidden then 0 else p.outFrame
          width := h.width, height := h.height, depth := h.depth, outW := h.outW, outH := h.outH
          ftype := if h.key then 0 else if h.inter then 1 else 2, refOrd := h.refs.map (fun r => (r.order, r.long))
          lists := ((h.refs.filter (fun r => decide (r.list = 0))).map (fun r => (r.order, r.long)),
            (h.refs.filter (fun r => decide (r.list ≠ 0))).map (fun r => (r.order, r.long)))
          kinds := if miss.isEmpty then p.kinds else p.kinds ++ [5]
          subst := (((miss.head?).bind (fun r => r.2.2)).map (fun i => (x.slot i).handle)).getD 0 })
          (sessMod sid (fun x => { x with
            decRefuse := false
            loop := { x.loop with greyRun := run || allGrey
                                  recLeft := match h.recovery with
                                    | some k => k
                                    | none => left - 1 } }) s4)

/-- The damaged region of an error is concealed (R186, R188). -/
def Pic.err (p : Pic) (e : DecErr) : Pic :=
  let first := p.kinds.filter (· ≠ 5) = []
  let region := e.kind ≠ 5 ∧ e.kind ≠ 7
  { p with
    kinds := if p.kinds.contains e.kind then p.kinds else p.kinds ++ [e.kind]
    dmg := p.dmg + (if region then e.blocks else 0), concealed := p.concealed || decide region
    damaged := p.damaged || decide (e.kind ≠ 5)
    firstDmg := if first then e.block else p.firstDmg, firstDmgRow := if first then e.row else p.firstDmgRow
    firstErrOff := if first then e.off else p.firstErrOff }

/-- Errors a block meets (R186, R188): REF_READ_ERROR makes the slot LOST. -/
def decErrs (sid num : Nat) (l : List DecErr) (s : State) : State :=
  forAll l (fun e s =>
    let s1 := picMod sid num (fun p => p.err e) s
    if e.kind = 6 then sessMod sid (fun x => x.slotMod e.slot (fun t => if t.held then t.lose else t)) s1 else s1) s

/-- A decoded picture is complete (R186, R229, R236): its event, its slots' DAMAGED, its buffers, its output frame. -/
def decEnd (sid num : Nat) (s : State) : State :=
  match (sessOf s sid).pic num with
  | none => s
  | some p =>
    let bits := (p.kinds.map (2 ^ ·)).sum % 2 ^ 16
    let s1 := if p.kinds = [] then s
      else evtSess sid 0x0017 5 (num % 2 ^ 32 + bits * 2 ^ 32)
        (p.dmg % 2 ^ 32 + p.firstDmg % 2 ^ 16 * 2 ^ 32 + p.firstDmgRow % 2 ^ 16 * 2 ^ 48) p.firstErrOff 0 0 s
    let s2 := sessMod sid (fun x => { x with
      slots := x.slots.map (fun t => if p.slotBuf ≠ 0 ∧ t.handle = p.slotBuf then
        { t with damaged := p.damaged, concealed := t.concealed || p.concealed } else t)
      outs := x.outs.map (fun o => if o.1 = p.outFrame then (o.1, true) else o) }) s1
    let s3 := if p.slotBuf ≠ 0 then dropRef 0 p.slotBuf (if p.shownExisting then s2 else storeHeader sid num s2) else s2
    afterEnd sid (picMod sid num (fun p => { p with st := .ended, status := stOk, slotBuf := 0 }) s3)

/-- A block of a decode row, holding `d`, leaves a stage. -/
def decBlock (sid num n j st : Nat) (d : BlkData) (o : BlockOut) (s : State) : State :=
  let s0 := decErrs sid num o.errs
    (if st = 1 ∧ n = 0 ∧ j = 0 ∧ !((((sessOf s sid).pic num).map (·.parsed)).getD true) then parseHead sid num (o.head.getD {}) s else s)
  let x := sessOf s0 sid
  match x.pic num with
  | none => s0
  | some p =>
    if p.st = .ended then s0
    else
      let lastB := decide (j + 1 = p.blocks)
      let lastR := decide (n + 1 = p.nRows)
      if st = 1 then
        if !lastB then s0
        else
          let s1 := picMod sid num (fun p => p.rowMod n (fun r => { r with left1 := true })) s0
          noteReady sid (if lastR ∧ p.buf ≠ 0 then dropRef 0 p.buf (picMod sid num (fun p => { p with buf := 0 }) s1) else s1)
      else if st = 3 then picMod sid num (fun p => p.rowMod n (fun r => { r with left3 := r.left3 || lastB })) s0
      else if st = 4 then (if lastB && lastR then dropCaptured sid num s0 else s0)
      else if st = 5 then
        let pel := x.core / 8
        let s2 := if p.shownExisting then s0 else storeMotion sid num d.preds (forAll o.units (storeUnit sid num) s0)
        let s1 := rcnt (aPel pel 0xE0) 0 64 o.misses (rcnt (aPel pel 0xD8) 0 64 o.hits
          (picMod sid num (fun p => if lastB then p.rowMod n (fun r => { r with left5 := true }) else p) s2))
        if lastB && lastR && !p.shownExisting then setPacked sid num (storeSaved sid num o.saved s1) else s1
      else if st = 6 then
        let s2 := if p.outFrame = 0 then s0 else forAll o.shown (storeRun p.outFrame p.outW p.outH p.depth) s0
        if !lastB then s2
        else
          let s1 := picMod sid num (fun p => p.rowMod n (fun r => { r with left6 := true, done := true })) s2
          if ((List.range (max 1 p.nRows)).all (fun k => decide (k = n) || (p.row k).done)) then decEnd sid num s1 else s1
      else s0

/-! ### BLOCK_STAGE_DONE -/

/-- Address of a register of a CORE page (R507). -/
def aCore (c off : Nat) : Nat := 0x50000 + c * 0x1000 + off

/-- Effects of a block on the picture's records; a row of an ended picture drains without any. -/
def blockEffect (r : CoreRow) (j st : Nat) (o : BlockOut) (s : State) : State :=
  match (sessOf s r.sid).pic r.pic with
  | none => s
  | some p =>
    if p.st = .ended then s
    else if r.decode then decBlock r.sid r.pic r.row j st (r.blks.getD j {}) o s
    else encBlock r.sid r.pic r.row j st (r.blks.getD j {}) o s

/-- Change the blocks of a row that a core holds. -/
def blksMod (c : Nat) (r : CoreRow) (g : List BlkData → List BlkData) (s : State) : State :=
  coreMod c (fun k => { k with rows := k.rows.map (fun q => if q.order = r.order then { q with blks := g q.blks } else q) }) s

/-- Change block `j` of a list. -/
def blkAt (j : Nat) (g : BlkData → BlkData) (l : List BlkData) : List BlkData := l.mapIdx (fun i d => if i = j then g d else d)

/-- What a stage leaves in the block itself (R89): its source and decimations, what the search found, its modes, its levels
steered under the session's key and payload, its filter parameters. -/
def blockData (c : Nat) (r : CoreRow) (j st : Nat) (o : BlockOut) (s : State) : State :=
  let x := sessOf s r.sid
  match x.pic r.pic with
  | none => s
  | some p =>
    if p.st = .ended then s
    else if r.decode then
      blksMod c r (fun l => if st = 1 then l ++ [{}] else if st = 2 then blkAt j (fun d => { d with preds := o.preds }) l else l) s
    else
      let us := blockUnits x.fmt.std x.width x.height r.row j
      match st with
      | 1 => blksMod c r (fun l => l ++ [readBlock s x p r.row j]) s
      | 2 => blksMod c r (blkAt j (fun d => { d with
          found := searchBlock s x p r.row j d ((r.blks.getD 0 {}).rowHint), qps := d.acts.map (unitQp x p r.row) })) s
      | 3 => blksMod c r (blkAt j (fun d => { d with preds := o.preds })) s
      | 4 =>
        let key := tget (0, 0) (coreOf s c).wm r.sid
        blksMod c r (fun l => steerAreas key.1 key.2 x.width x.height (areasDone (unitSide x.fmt.std) x.width x.height us)
          (blkAt j (fun d => { d with tus := quantTus d.preds o.tus }) l)) s
      | 5 => blksMod c r (blkAt j (fun d => { d with cdef := if x.fmt.std = .av1 then (cdefPresets p.qBase).getD o.cdef (0, 0) else (0, 0)
                                                     sao := o.sao })) s
      | _ => s

/-- Samples of a unit are whole planes. -/
def UnitPix.whole (u : UnitPix) : Bool :=
  decide (u.luma.length = 4096) && decide (u.cb.length = 1024) && decide (u.cr.length = 1024)

/-- After the units of the block, every unit of a block row has been written. -/
def rowWritten (p : Pic) (us : List UnitPix) (n row : Nat) : Bool :=
  (List.range n).all (fun i => decide (tget 0 p.lens (row * n + i) ≠ 0) || us.any (fun u => decide (u.unit = row * n + i)))

/-- Is what the block gives one of the things the rules allow the stage to make of it (log 7)? A stage makes nothing else. -/
def contentOk (s : State) (r : CoreRow) (j st : Nat) (o : BlockOut) : Bool :=
  let x := sessOf s r.sid
  match x.pic r.pic with
  | none => true
  | some p =>
    if p.st = .ended then true
    else if r.decode then decide (st ≠ 5) || o.units.all (·.whole)
    else
      let d := r.blks.getD j {}
      let lastB := decide (j + 1 = x.nBlk)
      let lastR := decide (r.row + 1 = x.nRows)
      match st with
      | 3 => modesOk x p r.row j d o.preds
      | 4 => o.tus.all (tuOk x.fmt.std d.preds)
      | 5 => filterOk x.fmt.std o &&
          o.units.all (fun u => u.whole && decide (u.unit / x.nBlk ≤ r.row) && decide (r.row ≤ u.unit / x.nBlk + 1)) &&
          (!lastB || ((decide (r.row = 0) || rowWritten p o.units x.nBlk (r.row - 1)) && (!lastR || rowWritten p o.units x.nBlk r.row)))
      | 7 => !lastB || codedOk x p lastR o.coded (releaseRow x.fmt.std x.region lastR o.coded p.tout).1
      | _ => true

/-- Blocks of the row once its headers are known (R181). -/
def rowBlocks (s : State) (r : CoreRow) : Nat :=
  if r.decode then (match (sessOf s r.sid).pic r.pic with
    | some p => if p.parsed then max 1 p.blocks else r.blocks
    | none => r.blocks) else r.blocks

/-- A row's last block has left the last stage. -/
def rowEnd (c : Nat) (r : CoreRow) (s : State) : State :=
  let s1 := rcnt (aCore c 0xC0) 0 64 1 (coreMod c (fun k => { k with rows := k.rows.filter (fun q => q.order != r.order) }) s)
  settle r.sid s1

/-- The core's records after a block has left a stage: a decode row's last stage is 6 (R181). -/
def passBlock (c : Nat) (r : CoreRow) (j st : Nat) (s : State) : State :=
  let s1 := coreMod c (fun k => k.pass r st) s
  let s2 := coreMod c (fun k => { k with rows := k.rows.map (fun q =>
    if q.order = r.order then { q with blocks := rowBlocks s r } else q) }) s1
  let total := rowBlocks s r
  let s3 := if st = 1 ∧ j + 1 = total then
      noteReady r.sid (coreMod c (fun k => { k with rows := k.rows.map (fun q => if q.order = r.order then { q with slot := none } else q) }) s2)
    else s2
  let s4 := if st = 6 ∧ r.decode then coreMod c (fun k => k.pass r 7) s3 else s3
  let s5 := if (st = 7 ∨ (st = 6 ∧ r.decode)) ∧ j + 1 = total then rowEnd c r s4 else s4
  coreMod c stage1Take s5

/-- BLOCK_STAGE_DONE (R88 to R112, R181, R198): the block that stage `st` + 1 of the core works on leaves it, with what the
stage made of it. -/
def execBlockStageDone (core : Fin 64) (st : Fin 7) (o : BlockOut) (s : State) : Host.Outcome State Fault Refusal :=
  let n := st.val + 1
  let c := coreOf s core
  .next (if !polOpen s core ∨ !polOpen s (64 + core.val / 8) ∨ isFatal s then s
    else match c.front n with
      | none => s
      | some (r, j) =>
        let low := decide (core.val % 2 = 1) && decide ((pairOf s (core.val / 2)).st = .joined)
        if !c.roomAfter n low (decide (j + 1 = r.blocks)) ∨ stageWaits s c r j n ∨ (tget {} c.ctx n).stalled ∨ c.fenced.contains (r.sid, n) ∨
          !contentOk s r j n o then s
        else passBlock core r j n (blockData core r j n o (blockEffect r j n o s)))

/-! ### The seam link (R201 to R203) -/

/-- The first record of a direction that waits on the link: kinds 0 to 2 go down, kind 3 up (R202). -/
def seamFirst (p : Pair) (kind : Nat) : Option SeamRec :=
  p.sent.find? (fun r => if kind = 3 then decide (r.kind = 3) else decide (r.kind ≠ 3))

/-- A record of a kind arrives, after `fails` failed flit checks (R201, R203): each of the first four is a replay; a fifth
is the failure of the link at the receiving core. -/
def seamArrive (k kind fails : Nat) (s : State) : State :=
  let p := pairOf s k
  let rx := 2 * k + (if kind = 3 then 0 else 1)
  if p.st ≠ .joined then s
  else
    match seamFirst p kind with
    | none => s
    | some r =>
      if r.kind ≠ kind then s
      else
        let n := min fails 4
        let s1 := rcnt (aCore rx 0xD4) 0 32 n s
        let s2 := forAll (List.range n) (fun _ s => raise 0x07 rx s) s1
        if fails ≥ 5 then raise 0x08 rx (pairMod k (fun p => { p with fails := p.fails + 1 }) s2)
        else pairMod k (fun p => { p with
          sent := dropFirst (fun q => q == r) p.sent
          recs := r :: p.recs.filter (fun q => q.sid != r.sid || decide (q.pic + 2 > r.pic)) }) s2

/-- SEAM_BOUNDARY_RECORD (R202). -/
def execSeamBoundaryRecord (k : Fin 32) (fails : Nat) (s : State) : Host.Outcome State Fault Refusal := .next (seamArrive k 0 fails s)
/-- SEAM_SNAPSHOT_RECORD (R202). -/
def execSeamSnapshotRecord (k : Fin 32) (fails : Nat) (s : State) : Host.Outcome State Fault Refusal := .next (seamArrive k 1 fails s)
/-- SEAM_ENTROPY_HANDOVER (R202). -/
def execSeamEntropyHandover (k : Fin 32) (fails : Nat) (s : State) : Host.Outcome State Fault Refusal := .next (seamArrive k 2 fails s)
/-- SEAM_MODEL_RECORD (R202). -/
def execSeamModelRecord (k : Fin 32) (fails : Nat) (s : State) : Host.Outcome State Fault Refusal := .next (seamArrive k 3 fails s)

end Sys2Proof.Machine
end

