-- ==== Sys2Proof/Machine/Packets.lean ====
section
/-! DEFINITION. The packetiser (R249 to R263): payloads, sequence numbers and time stamps, pacing, what a subport sends next,
the end of a picture, and sender reports. -/

namespace Sys2Proof.Machine

/-! ### Sizes (R249, R250, R252 to R254) -/

/-- IP header bytes. -/
def Session.ipHead (x : Session) : Nat := if x.nw.ipVer = 4 then 20 else 40
/-- Bytes of the header extension (R252). -/
def Session.extHead (x : Session) : Nat := if x.nw.picnumId ≠ 0 then 12 else 0
/-- The largest RTP payload that MTU allows (R249, R251, R252, R256). -/
def Session.payloadLimit (x : Session) : Nat := x.nw.mtu - x.ipHead - 8 - 12 - x.extHead - 16
/-- Wire size in bytes of a packet with a payload (R250). -/
def Session.wireSize (x : Session) (payload : Nat) : Nat :=
  x.ipHead + 8 + 12 + x.extHead + payload + 16 + (if bitAt x.nw.vlan 15 then 42 else 38)

/-- The packetiser's cutting of a row's bytes into payloads: sizes, newest first, and what is still open. -/
structure Cut where
  out : List Nat := []
  closed : Nat := 0
  el : Nat := 0
  frag : Bool := false
  deriving DecidableEq, Repr

/-- Pieces of `cap` bytes, and the rest. -/
def chop (cap n : Nat) : List Nat := List.replicate (n / max 1 cap) cap ++ (if n % max 1 cap = 0 then [] else [n % max 1 cap])

/-- Bytes of a fragmentation unit's headers, and of the NAL unit header they replace (R253: RFC 7798, RFC 6184). -/
def fuHead (std : Std) : Nat := if std = .hevc then 3 else 2
def nalHead (std : Std) : Nat := if std = .hevc then 2 else 1

/-- Take a piece of a NAL unit (R253, R254): a whole one that fits is one packet, else fragmentation units. -/
def Cut.nal (std : Std) (lim : Nat) (flush : Bool) (c : Cut) (p : NalPiece) : Cut :=
  let el := if p.starts then p.len - 4 else c.el + p.len
  let frag := !p.starts && c.frag
  let cap := lim - fuHead std
  let n := if frag then el else el - nalHead std
  if p.ends then
    if !frag ∧ el ≤ lim then { out := el :: c.out }
    else { out := ((chop cap n).map (· + fuHead std)).reverse ++ c.out }
  else
    let l := if flush then chop cap n else List.replicate (n / max 1 cap) cap
    if l = [] then { c with el := el, frag := frag }
    else { out := (l.map (· + fuHead std)).reverse ++ c.out, el := if flush then 0 else n % max 1 cap, frag := true }

/-- Bytes of a LEB128 length. -/
def lebLen (n : Nat) : Nat := if n < 128 then 1 else if n < 16384 then 2 else 3
/-- The longest OBU element that fits `r` bytes with its length. -/
def maxEl (r : Nat) : Nat :=
  if r ≤ 1 then 0 else if r ≤ 128 then r - 1 else if r = 129 then 127 else if r ≤ 16385 then r - 2
  else if r = 16386 then 16383 else r - 3
/-- Bytes an element takes with its length. -/
def elCost (n : Nat) : Nat := if n = 0 then 0 else lebLen n + n

/-- Add OBU bytes to the open element, sending every packet they fill (R253); `f` bounds the packets. -/
def Cut.add : Nat → Nat → Nat → Cut → Cut
  | 0, _, _, c => c
  | f + 1, lim, n, c =>
    let room := maxEl (lim - 1 - c.closed)
    if c.el + n < room ∨ (c.el + n = 0 ∧ room = 0) then { c with el := c.el + n }
    else Cut.add f lim (c.el + n - room) { out := (1 + c.closed + elCost room) :: c.out, frag := true }

/-- The open element has ended: a packet it leaves no room in is full. -/
def Cut.close (lim : Nat) (c : Cut) : Cut :=
  let k := c.closed + elCost c.el
  if maxEl (lim - 1 - k) = 0 then { out := (1 + k) :: c.out } else { c with closed := k, el := 0, frag := false }

/-- Take a piece of an OBU (R253). -/
def Cut.obu (lim : Nat) (c : Cut) (p : NalPiece) : Cut :=
  let n := p.len - p.cut
  if n = 0 ∧ p.starts ∧ p.ends then c
  else
    let c1 := Cut.add (n + 2) lim n (if p.starts then { c with frag := false } else c)
    if p.ends then (if c1.closed + c1.el = 0 then { c1 with frag := false } else c1.close lim) else c1

/-- Send the partial packet of an AV1 row. -/
def Cut.flush (c : Cut) : Cut :=
  if c.closed + c.el = 0 then c else { out := (1 + c.closed + elCost c.el) :: c.out, frag := decide (c.el ≠ 0) }

/-- The payloads of a row notice, in order, and what stays open (R253, R254). -/
def cutRow (x : Session) (flush : Bool) (c : Cut) (l : List NalPiece) : Cut :=
  let lim := x.payloadLimit
  if x.fmt.std = .av1 then
    let c1 := l.foldl (fun c p => c.obu lim p) c
    if flush then c1.flush else c1
  else l.foldl (fun c p => c.nal x.fmt.std lim flush p) c

/-! ### Pacing (R259, R261) -/

/-- Nanoseconds from the start of a span of `S` wire bits to the packet with `b` wire bits before it. -/
def spanAt (w : NetSet) (S b : Nat) : Nat :=
  if S * 1000000 ≤ w.wirePeak * w.paceWindow then b * 1000000000 / max 1 w.wirePeak
  else if S * 1000000 ≥ w.paceBurst * w.wirePeak * w.paceWindow then b * 1000000000 / max 1 (w.paceBurst * w.wirePeak)
  else b * (w.paceWindow * 1000) / max 1 S

/-- Is the row beyond the largest pacing rate (R261)? -/
def overBurst (w : NetSet) (S : Nat) : Bool := decide (S * 1000000 > w.paceBurst * w.wirePeak * w.paceWindow)

/-! ### The end of a picture -/

/-- Packetiser lane of a session (R359): its request port at the BPM. -/
def laneOf (x : Session) : Nat := 9 + x.egress / 4

/-- The last packet of an encode picture has left or been discarded (R226, R229). -/
def pictureSent (sid num : Nat) (s : State) : State :=
  let x := sessOf s sid
  match x.pic num with
  | none => s
  | some p =>
    if p.st = .ended ∨ !p.lastFormed ∨ p.pktsOut > 0 then s
    else
      let keep := x.fmt.keepBitstream && !x.protected' && decide (p.bsBuf ≠ 0)
      let s1 := if keep then bufMod (hKey p.bsBuf) (fun b => { b with hostHeld := true }) s
        else if p.bsBuf ≠ 0 then dropRef (laneOf x) p.bsBuf s else s
      afterEnd sid (picMod sid num (fun p => { p with
        st := .ended, status := stOk, handle := if keep then p.bsBuf else 0, bsBuf := 0, slotBuf := 0 }) s1)

/-! ### ROW_PACKETISE -/

/-- RTP time stamp of a picture (R251). -/
def Session.stamp (x : Session) (capture : Nat) : Nat :=
  let t := rtpTs x.nw.tsBase capture
  let d := (t + 2 ^ 32 - x.tr.lastTs % 2 ^ 32) % 2 ^ 32
  if x.tr.tsValid ∧ (d = 0 ∨ d ≥ 2 ^ 31) then (x.tr.lastTs + 1) % 2 ^ 32 else t

/-- The next sequence number and rollover counter; an exhausted index stays (R251, R257). -/
def Transport.nextSeq (t : Transport) : Transport :=
  if t.roc ≥ 2 ^ 32 then t
  else if t.rtpSeq = 65535 then { t with rtpSeq := 0, roc := t.roc + 1 } else { t with rtpSeq := t.rtpSeq + 1 }

/-- The key RTP is formed under now, 0 for none (R256, R306, R307). -/
def Session.rtpKey (x : Session) : Nat := if x.tr.rekeyWait then 0 else x.keys.rtp

/-- Form the packets of a row: payload sizes in order, wire bits before each (R251, R256, R259). -/
def formPkts (x : Session) (sid : Nat) (p : Pic) (last noHop : Bool) (ts t0 S : Nat) :
    List Nat → Nat → Nat → Transport → List TxPkt → Transport × List TxPkt
  | [], _, _, t, l => (t, l.reverse)
  | n :: r, b, i, t, l =>
    let w := x.wireSize n
    let k : TxPkt := {
      sid := sid, pic := p.num, seq := t.roc * 65536 + t.rtpSeq, lc := x.cls, len := w, due := t0 + spanAt x.nw S b, order := i
      lastOfPic := last && r.isEmpty, firstOfPic := decide (p.pktsFormed = 0) && l.isEmpty, payload := n, ts := ts
      key := x.rtpKey, dead := noHop || decide (x.rtpKey = 0) || decide (t.roc ≥ 2 ^ 32) }
    formPkts x sid p last noHop ts t0 S r (b + 8 * w) (i + 1) t.nextSeq (k :: l)

/-- The picture whose row notice the packetiser takes next: the first not yet wholly packetised (R112, R254). -/
def Session.packing (x : Session) : Option Pic := x.pics.find? (fun p => !p.lastFormed && p.st != .ended)

/-- Releases kept for a lane while the BPM is sealed (R427). -/
def keptOf (s : State) (lane : Nat) : Nat := (s.bpm.kept.filter (fun o => o.2.1 == lane)).length

/-- A picture's first row takes its time stamp, and the keys of R306 if it starts them. -/
def firstRow (sid : Nat) (p : Pic) (s : State) : State :=
  if p.pktsFormed > 0 ∨ p.notices.any (fun n => n.row = 0) = false then s
  else
    sessMod sid (fun x =>
      let ts := x.stamp p.capture
      { x with
        tr := { x.tr with
          lastTs := ts, tsValid := true, carry := 0, carryEl := 0, carryFrag := false
          roc := if p.newKey then 0 else x.tr.roc }
        keys := if p.newKey then { x.keys with rtp := x.keys.nextSend.getD x.keys.rtp } else x.keys
        pics := x.pics.map (fun (q : Pic) => if q.num = p.num then { q with ts := ts } else q) }) s

/-- Packetise a row notice (R254, R255, R259, R261): the ready time is the present device time. -/
def packRow (sid : Nat) (num : Nat) (note : RowNotice) (s : State) : State :=
  let x := sessOf s sid
  match x.pic num with
  | none => s
  | some p =>
    let flush := note.last || x.nw.rowFlush
    let c := cutRow x flush { closed := x.tr.carry, el := x.tr.carryEl, frag := x.tr.carryFrag } note.pieces
    let sizes := c.out.reverse
    let S := (sizes.map (fun n => 8 * x.wireSize n)).sum
    let tr := devNs s
    let t0 := max tr x.tr.spanEnd
    let (t, pk) := formPkts x sid p note.last (!hopValid s x) p.ts t0 S sizes 0 s.net.nextOrder x.tr []
    let s1 := if sizes ≠ [] ∧ (overBurst x.nw S ∨ x.tr.spanEnd > tr) then pktCnt 5 1 s else s
    let s2 := sessMod sid (fun x => { x with
      tr := { t with carry := c.closed, carryEl := c.el, carryFrag := c.frag, spanEnd := t0 + spanAt x.nw S S }
      pics := x.pics.map (fun (q : Pic) => if q.num ≠ num then q
        else { q with
          notices := q.notices.filter (fun m => decide (m.row ≠ note.row) || decide (m.col ≠ note.col)), packed := q.packed + 1
          pktsFormed := q.pktsFormed + sizes.length, pktsOut := q.pktsOut + sizes.length
          lastFormed := note.last, st := if note.last then .sent else q.st }) }) s1
    pictureSent sid num { s2 with net := { s2.net with tx := s2.net.tx ++ pk, nextOrder := s2.net.nextOrder + sizes.length } }

/-- The row notice of a picture that the packetiser takes next, in bitstream order, if it has come (R112, R207). -/
def Session.nextNotice (x : Session) (p : Pic) : Option RowNotice :=
  match x.noticeOrder[p.packed]? with
  | none => none
  | some k => p.notices.find? (fun n => n.col == k.1 && n.row == k.2)

/-- ROW_PACKETISE (R207, R255): the next row notice of the session's picture in hand. -/
def execRowPacketise (sid : Fin 4096) (s : State) : Host.Outcome State Fault Refusal :=
  let x := sessOf s sid
  .next (if isFatal s ∨ s.boot.warm ∨ x.kind = .decode ∨ !polOpen s (ethPolderOf x.egress) ∨ keptOf s (laneOf x) ≥ 1024 then s
    else
      match x.packing with
      | none => s
      | some p =>
        match x.nextNotice p with
        | none => s
        | some n => packRow sid p.num n (firstRow sid p s))

/-! ### PACKET_SEND (R246, R260, R262) -/

/-- Does packet `a` go before `b` (R260)? -/
def TxPkt.before (a b : TxPkt) : Bool :=
  if a.lc ≠ b.lc then decide (a.lc < b.lc)
  else if a.due ≠ b.due then decide (a.due < b.due)
  else if a.sid ≠ b.sid then decide (a.sid < b.sid)
  else decide (a.order < b.order)

/-- The packet a subport sends now: due, first by R260. -/
def nextTx (s : State) (sub : Nat) : Option TxPkt :=
  (s.net.tx.filter (fun t => decide (t.due ≤ devNs s) && decide ((sessOf s t.sid).egress = sub))).foldl
    (fun r t => match r with
      | none => some t
      | some u => if t.before u then some t else some u) none

/-- A draw between `lo` and `hi` (R263). -/
def drawIn (lo hi : Nat) (s : State) : Nat × State :=
  let (k, s1) := takeFree s
  (lo + Config.random k % (hi - lo + 1), s1)

/-- The first RTP packet on the wire on this device sets the first sender report (R263). -/
def armSr (sid : Nat) (s : State) : State :=
  let x := sessOf s sid
  if x.tr.firstRtp.isSome then s
  else
    let iv := x.nw.srInterval * 1000000
    let (d, s1) := drawIn (iv * 3 / 4) iv s
    sessMod sid (fun x => { x with tr := { x.tr with firstRtp := some (devNs s), srNext := some (devNs s + d) } }) s1

/-- The packet goes out at the present device time: its stamp, the record of R262, the counts of R263, the keys of R306. -/
def sendPkt (sub : Nat) (t : TxPkt) (s : State) : State :=
  let now := devNs s
  let s1 := armSr t.sid s
  let s2 := sessMod t.sid (fun x =>
    let new := decide (t.key ≠ x.keys.send)
    { x with
      keys := if new then { x.keys with send := t.key, nextSend := if x.keys.nextSend = some t.key then none else x.keys.nextSend }
        else x.keys
      tr := { x.tr with
        packets := (x.tr.packets + 1) % 2 ^ 32, octets := (x.tr.octets + t.payload) % 2 ^ 32
        depart := ((t.seq, now, 8 * t.len) :: x.tr.depart).take 2048
        srtcpIndex := if new then 0 else x.tr.srtcpIndex
        oldKeyUntil := if new then x.tr.oldKeyUntil.map (fun _ => some (now + 2000000000)) else x.tr.oldKeyUntil }
      pics := x.pics.map (fun (p : Pic) => if p.num ≠ t.pic then p
        else { p with
          departed := true, depFirst := if t.firstOfPic then now else p.depFirst
          depLast := if t.lastOfPic then now else p.depLast }) }) s1
  let x := sessOf s2 t.sid
  ethTx sub .rtp t.sid t.seq (t.len - 20) (emit (.rtp t.sid t.seq t.ts t.pic t.lastOfPic t.payload t.key)
    (if x.st = .free then s else s2))

/-- PACKET_SEND (R246, R257, R260): a subport takes the packet that is first among those due; on a link that is down, and
for a packet formed without key or next hop, it is discarded and counted. -/
def execPacketSend (sub : Fin 8) (s : State) : Host.Outcome State Fault Refusal :=
  .next (if isFatal s ∨ s.boot.warm ∨ s.now < (subOf s sub).busyUntil ∨ !polOpen s (ethPolderOf sub) then s
    else
      match nextTx s sub with
      | none => s
      | some t =>
        let s1 := { s with net := { s.net with tx := dropFirst (fun u => u == t) s.net.tx } }
        let s2 := if t.dead ∨ !(subOf s sub).up then pktCnt 4 1 s1 else sendPkt sub t s1
        pictureSent t.sid t.pic (picMod t.sid t.pic (fun p => { p with pktsOut := p.pktsOut - 1 }) s2))

/-! ### Sender reports (R263) -/

/-- The states in which sender reports are sent. -/
def SState.reports : SState → Bool
  | .bound | .active | .quiescing | .quiesced | .moving | .stranded => true
  | _ => false

/-- SR_SEND (R257, R263): the report that falls due, and the draw of the next. -/
def execSrSend (sid : Fin 4096) (s : State) : Host.Outcome State Fault Refusal :=
  let x := sessOf s sid
  .next (match x.tr.srNext with
    | none => s
    | some t =>
      if devNs s < t ∨ isFatal s ∨ s.boot.warm ∨ x.kind = .decode ∨ !x.st.reports ∨ !polOpen s (ethPolderOf x.egress) then s
      else
        let iv := x.nw.srInterval * 1000000
        let (d, s1) := drawIn (iv * 3 / 4) (iv * 5 / 4) s
        sendSr sid false (sessMod sid (fun x => { x with tr := { x.tr with srNext := some (devNs s + d) } }) s1))

end Sys2Proof.Machine
end

