-- ==== Sys2Proof/Machine/TimeUnit.lean ====
section
/-! DEFINITION. Device time (R271 to R278, R281): the clock, its steps and rate, the two PTP domains, their servos, and the
state machine of the time unit. Rates are held in 1/65536 ppb (log 40). -/

namespace Sys2Proof.Machine

/-! ### The clock (R272) -/

/-- Clamp of adj, in 1/65536 ppb (R272). -/
def adjMax : Int := 200000 * 65536
/-- What the clock gains per TCLK cycle in 2⁻³² ns (R272). -/
def addend (adj : Int) : Nat := (5368709120 + 5368709120 * adj / (1000000000 * 65536)).toNat

/-- A device-time stamp after a step of the clock. -/
def shiftNs (d : Int) (t : Nat) : Nat := ((t : Int) + d).toNat

/-- A session's scheduled times and the starts of its intervals after a step of the clock (R259; log 41). -/
def Session.shift (d : Int) (x : Session) : Session :=
  let g := shiftNs d
  { x with
    tr := { x.tr with
      spanEnd := g x.tr.spanEnd, srNext := x.tr.srNext.map g, firstRtp := x.tr.firstRtp.map g
      oldKeyUntil := x.tr.oldKeyUntil.map (·.map g) }
    loop := { x.loop with
      holdEnd := x.loop.holdEnd.map g, lastDec := x.loop.lastDec.map g, lastCcfb := x.loop.lastCcfb.map g
      lastRtcp := x.loop.lastRtcp.map g, prevReport := x.loop.prevReport.map g, lastHalve := x.loop.lastHalve.map g } }

/-- The clock steps by `d` ns: every scheduled time moves with it, and TIME_STAT.STEP is set (R259, R281). -/
def clockStep (d : Int) (s : State) : State :=
  let s1 := { s with
    clk := ((s.clk : Int) + d * 2 ^ 32).toNat
    net := { s.net with tx := s.net.tx.map (fun (t : TxPkt) => { t with due := shiftNs d t.due }) }
    sess := s.sess.map (fun p => (p.1, p.2.shift d)) }
  pgBlock ⟨.time, 0⟩ (rfset 0x23084 6 1 1 s1)

/-! ### Domains -/

/-- Address of TIME_DOMCFG[d]. -/
def aDom (d : Nat) : Nat := 0x23090 + 8 * d
/-- A domain's record. -/
def ptp (s : State) (d : Nat) : Ptp := tget {} s.time.doms d
/-- Change a domain's record. -/
def ptpMod (d : Nat) (f : Ptp → Ptp) (s : State) : State := { s with time := { s.time with doms := tmod {} s.time.doms d f } }
/-- Is the domain enabled (R281)? -/
def domOn (s : State) (d : Nat) : Bool := rfld s (aDom d) 12 1 == 1
/-- A signed field. -/
def signed (n v : Nat) : Int := if v < 2 ^ (n - 1) then v else (v : Int) - 2 ^ n
/-- `x` × 2^k. -/
def mulPow2 (x k : Int) : Int := if k ≥ 0 then x * 2 ^ k.toNat else x / 2 ^ (-k).toNat
/-- Picoseconds of 2^k seconds, times `n`. -/
def psLog (n : Nat) (k : Int) : Nat := (mulPow2 (n * 1000000000000) k).toNat
/-- Is the domain usable (R275)? -/
def Ptp.usable (p : Ptp) : Bool := p.master.isSome && decide (p.good.length = 16) && p.good.all id
/-- LOCK_THRESH in ns. -/
def lockThresh (s : State) : Int := rfld s 0x23080 16 14

/-- STATE of R278. -/
def TimeSt.code : TimeSt → Nat
  | .freerun => 0 | .acquire => 1 | .locked => 2 | .freewheel => 3 | .manual => 4

/-- EVT_TIME (R278). -/
def evtTime (step : Bool) (size : Int) (s : State) : State :=
  evtPf 0x0025 8 (s.time.st.code + s.time.active % 2 * 8 + b2n step * 16 + b2n (ptp s 0).usable * 32 + b2n (ptp s 1).usable * 64)
    (size % 2 ^ 64).toNat s

/-- A transition of the time unit (R277, R500). -/
def timeGo (st : TimeSt) (active : Nat) (step : Bool) (size : Int) (s : State) : State :=
  let changed := decide (s.time.st ≠ st)
  let s1 := { s with time := { s.time with st := st, active := active, run := 0 } }
  evtTime step size (if changed then pgBlock ⟨.time, 0⟩ s1 else s1)

/-- Step the clock by −o of a domain: both domains' offsets move with it. -/
def stepOff (d : Nat) (s : State) : State :=
  let o := (ptp s d).o
  let f := fun (p : Ptp) => { p with t2 := p.t2 - o, o := p.o - o }
  clockStep (-o) (ptpMod 0 f (ptpMod 1 f s))

/-- Make a domain the active one in LOCKED (R277): its offset is slewed, or from FREEWHEEL stepped where it exceeds 1 ms. -/
def switchTo (d : Nat) (s : State) : State :=
  let o := (ptp s d).o
  if s.time.st = .freewheel ∧ (o > 1000000 ∨ o < -1000000) then timeGo .locked d true (-o) (stepOff d s)
  else timeGo .locked d false o s

/-- The transitions that a new offset or a newly usable domain allows (R277). -/
def timeSettle (s : State) : State :=
  match s.time.st with
  | .freerun =>
    (match [0, 1].find? (fun d => domOn s d && (ptp s d).master.isSome && (ptp s d).delay.isSome && (ptp s d).oValid) with
     | none => s
     | some d => timeGo .acquire d true (-(ptp s d).o) (stepOff d s))
  | .acquire => if s.time.run ≥ 16 then timeGo .locked s.time.active false (ptp s s.time.active).o s else s
  | .locked =>
    let sel := rfld s 0x23080 1 2
    if sel = 0 ∨ sel = 3 ∨ sel - 1 = s.time.active ∨ !(ptp s (sel - 1)).usable then s else switchTo (sel - 1) s
  | .freewheel =>
    (match [0, 1].find? (fun d => (ptp s d).usable) with
     | none => s
     | some d => switchTo d s)
  | .manual => s

/-- A domain is lost (R275, R277). -/
def domainLost (d : Nat) (s : State) : State :=
  let s1 := ptpMod d (fun p => { p with master := none, foreign := [], good := [], oValid := false, synced := false, two := none
                                        req := none, delay := none }) s
  if s1.time.active ≠ d then s1
  else
    match s1.time.st with
    | .acquire => timeGo .freerun d false 0 s1
    | .locked => if (ptp s1 (1 - d)).usable then switchTo (1 - d) s1 else timeGo .freewheel d false 0 s1
    | _ => s1

/-! ### The servo (R274, R276) -/

/-- The offset of the last Sync after the mean path delay (R276, R281 ASYM). -/
def Ptp.offset (p : Ptp) (asym : Int) : Option Int := p.delay.map (fun d => p.t2 - p.t1 - (d + asym))

/-- A Sync has been completed (R275, R276): offset, its check against the rate estimate's prediction, i, p and adj. -/
def syncDone (d : Nat) (t1 t2 : Int) (s : State) : State :=
  let s1 := ptpMod d (fun p => { p with t1 := t1, t2 := t2, synced := true, lastSync := s.now, two := none }) s
  let p := ptp s1 d
  match p.offset (signed 16 (rfld s (aDom d) 16 16)) with
  | none => s1
  | some o =>
    let pred := p.o + mulPow2 (s.adj - p.integ) p.syncLog / 65536
    let ok := decide ((o - pred).natAbs < (lockThresh s).toNat)
    let i := clampI (p.integ - mulPow2 (o * 65536) (-p.syncLog) / 64) (-adjMax) adjMax
    let slew : Int := rfld s 0x23080 8 8 * 1000 * 65536
    let pr := clampI (-(mulPow2 (o * 65536) (-p.syncLog) / 8)) (-slew) slew
    let s2 := ptpMod d (fun p => { p with o := o, oValid := true, integ := i
                                          good := if p.oValid then (ok :: p.good).take 16 else p.good }) s1
    let live := decide (s.time.active = d) && (s.time.st == .acquire || s.time.st == .locked)
    let s3 := if live then { s2 with
        adj := clampI (i + pr) (-adjMax) adjMax
        time := { s2.time with run := if o.natAbs < (lockThresh s).toNat then s2.time.run + 1 else 0 } } else s2
    timeSettle s3

/-- Is the first data set better than the second (R274)? Lists compare in order. -/
def dsBetter : List Nat → List Nat → Bool
  | [], [] => false
  | [], _ => true
  | _, [] => false
  | a :: l, b :: m => if a = b then dsBetter l m else decide (a < b)

/-- The master the BMCA selects: the best among those with two Announce messages in the last four intervals (R274). -/
def Ptp.best (p : Ptp) (now : Nat) : Option Foreign :=
  (p.foreign.filter (fun f => decide (f.count ≥ 2) && decide (now ≤ f.last + psLog 4 f.log))).foldl
    (fun r f => match r with
      | none => some f
      | some g => if dsBetter f.ds g.ds then some f else some g) none

/-- An Announce message (R274): a message with stepsRemoved of 255 or more does not qualify. -/
def announceIn (d src : Nat) (ds : List Nat) (steps : Nat) (utc : Option Nat) (log : Int) (s : State) : State :=
  if steps ≥ 255 then s
  else
    let s1 := ptpMod d (fun p =>
      let old := p.foreign.find? (fun f => f.id == src)
      let n := match old with
        | none => 1
        | some f => if s.now ≤ f.last + psLog 4 f.log then f.count + 1 else 1
      { p with foreign := p.foreign.filter (fun f => f.id != src) ++
          [{ id := src, ds := ds, count := n, last := s.now, log := log, utc := utc }] }) s
    let best := (ptp s1 d).best s.now
    let s2 := if best.map (·.id) = (ptp s1 d).master ∨ best.isNone then s1
      else ptpMod d (fun p => { p with master := best.map (·.id), good := [], oValid := false, synced := false, two := none
                                       req := none, delay := none, lastSync := s.now }) s1
    if s2.time.active = d ∧ (ptp s2 d).master = some src then
      match utc with
      | none => s2
      | some u => { s2 with time := { s2.time with utc := u } }
    else s2

/-- A PTP message of a domain, arrived at the present device time (R273, R274). -/
def ptpIn (d : Nat) (m : PtpMsg) (s : State) : State :=
  let p := ptp s d
  let now : Int := devNs s
  match m with
  | .announce src ds steps utc log => timeSettle (announceIn d src ds steps utc log s)
  | .sync src seq two t1 corr log =>
    if p.master ≠ some src then s
    else
      let s1 := ptpMod d (fun p => { p with syncLog := log }) s
      if two then ptpMod d (fun p => { p with two := some (seq, now, corr) }) s1 else syncDone d (t1 + corr) now s1
  | .followUp src seq t1 corr =>
    (match p.two with
     | none => s
     | some (q, t2, c) => if p.master ≠ some src ∨ q ≠ seq then s else syncDone d (t1 + corr + c) t2 s)
  | .delayResp src seq t4 corr log =>
    (match p.req with
     | none => s
     | some (q, t3) =>
       if p.master ≠ some src ∨ q ≠ seq ∨ !p.synced then s
       else
         let dl := ((p.t2 - p.t1) + (t4 - corr - t3)) / 2
         timeSettle (ptpMod d (fun p =>
           let p1 := { p with delay := some dl, req := none, reqLog := log }
           match p.oValid, p1.offset (signed 16 (rfld s (aDom d) 16 16)) with
           | false, some o => { p1 with o := o, oValid := true }
           | _, _ => p1) s))
  | .other => s

/-- A received PTP message goes to the enabled domains it belongs to (R268, R275). -/
def ptpFrame (sub dom tr : Nat) (m : PtpMsg) (s : State) : State :=
  forAll [0, 1] (fun d s =>
    if domOn s d ∧ rfld s (aDom d) 0 8 = dom ∧ rfld s (aDom d) 8 3 = sub ∧ rfld s (aDom d) 11 1 = tr then ptpIn d m s else s) s

/-- DELAY_REQ_SEND (R260, R274): at the master's interval; the departure stamp is t3. -/
def execDelayReqSend (d : Fin 2) (s : State) : Host.Outcome State Fault Refusal :=
  let p := ptp s d
  let sub := rfld s (aDom d) 8 3
  .next (if !domOn s d ∨ p.master.isNone ∨ !(subOf s sub).up ∨ isFatal s ∨ s.boot.warm then s
    else
      let s1 := ptpMod d (fun p => { p with req := some (p.reqSeq, (devNs s : Int)), reqSeq := (p.reqSeq + 1) % 65536 }) s
      ethTx sub .ptp d p.reqSeq (if rfld s (aDom d) 11 1 = 0 then 64 else 90) s1)

/-- PTP_DOMAIN_LOST (R275): no Sync completed for max(4 Sync intervals, 100 ms), or no Announce of the master for three of
its intervals. -/
def execPtpDomainLost (d : Fin 2) (s : State) : Host.Outcome State Fault Refusal :=
  let p := ptp s d
  .next (match p.master with
    | none => s
    | some m =>
      let ann : Bool := match p.foreign.find? (fun f => f.id == m) with
        | none => true
        | some f => decide (s.now ≥ f.last + psLog 3 f.log)
      let late : Nat := p.lastSync + max (psLog 4 p.syncLog) (psMs 100)
      if decide (s.now ≥ late) || ann then domainLost d s else s)

/-! ### The host's writes (R277, R281) -/

/-- TIME_CTRL.MODE is written 1 (R277). -/
def timeManual (s : State) : State :=
  if isFatal s then s
    else
      let s1 := rfset 0x23080 0 1 1 s
      if s.time.st = .manual then s1 else timeGo .manual s.time.active false 0 s1

/-- TIME_MANUAL (R277): TIME_CTRL.MODE written 1. -/
def execTimeManual (s : State) : Host.Outcome State Fault Refusal :=
  .next (timeManual s)

/-- TIME_CTRL.MODE is written 0 (R277). -/
def timePtp (s : State) : State :=
  if isFatal s then s
    else
      let s1 := rfset 0x23080 0 1 0 s
      if s.time.st ≠ .manual then s1 else timeSettle (timeGo .freerun s.time.active false 0 s1)

/-- TIME_PTP (R277): TIME_CTRL.MODE written 0. -/
def execTimePtp (s : State) : Host.Outcome State Fault Refusal :=
  .next (timePtp s)

/-- TIME_SET is written (R281). -/
def timeSet (v : W64) (s : State) : State :=
  if isFatal s ∨ s.time.st ≠ .manual then s
    else
      let s1 := clockStep ((fmtNs v.toNat : Int) - devNs s) s
      { s1 with clk := fmtNs v.toNat * 2 ^ 32 }

/-- TIME_SET (R281): in MANUAL the clock steps to the value. -/
def execTimeSet (v : W64) (s : State) : Host.Outcome State Fault Refusal :=
  .next (timeSet v s)

/-- TIME_RATE is written (R272, R281). -/
def timeRate (v : W32) (s : State) : State :=
  if isFatal s ∨ s.time.st ≠ .manual then s
    else { s with adj := clampI (signed 32 v.toNat * 65536) (-adjMax) adjMax }

/-- TIME_RATE (R272, R281): in MANUAL sets adj, clamped. -/
def execTimeRate (v : W32) (s : State) : Host.Outcome State Fault Refusal :=
  .next (timeRate v s)

/-- One TCLK cycle with nothing commanded (R272, R453, R454): model time moves, and the device clock gains its addend while
the root PLL is locked; TCLK is MCLK in frequency and phase, and the page headers' interrupt levels are sampled (R501; log 1). -/
def tick (s : State) : State :=
  micSample { s with now := s.now + 1250, clk := if s.boot.rootLock then s.clk + addend s.adj else s.clk }

end Sys2Proof.Machine
end

