-- ==== Sys2Proof/Machine/Eth.lean ====
section
/-! DEFINITION. Ethernet subports (R243 to R246, R279, R556), received frames (R264 to R269), and the host transmit ring
(R270). -/

namespace Sys2Proof.Machine

/-! ### Links (R246, R278, R279, R556) -/

/-- EVT_LINK of a subport (R278). -/
def evtSub (sub : Nat) (up : Bool) (s : State) : State :=
  evtPf 0x0024 8 (sub + b2n up * 16 + (2 - rfld s (0x20080 + 0x1000 * (sub / 4)) 0 2) * 256) 0 s

/-- A subport's link changes: UP, CHANGED, the event (R279, R500). -/
def setLink (sub : Nat) (up : Bool) (s : State) : State :=
  if (subOf s sub).up = up then s
  else
    evtSub sub up (pgBlock ⟨.eth, sub / 4⟩ (rfset (0x200A8 + 0x1000 * (sub / 4)) (4 + sub % 4) 1 1
      (subMod sub (fun b => { b with up := up }) s)))

/-- ETH_LINK_UP (R556): PCS lock and FEC alignment of an enabled subport are done. -/
def execEthLinkUp (sub : Fin 8) (s : State) : Host.Outcome State Fault Refusal :=
  .next (if subRate s sub = 0 ∨ !polOpen s (ethPolderOf sub) ∨ isFatal s ∨ s.boot.warm ∨ s.boot.perst then s
    else setLink sub true s)

/-- ETH_LINK_DOWN (R246). -/
def execEthLinkDown (sub : Fin 8) (s : State) : Host.Outcome State Fault Refusal := .next (setLink sub false s)

/-- Does a session name the subport in PORT or ALT_PORT (R279)? -/
def subNamed (s : State) (sub : Nat) : Bool :=
  s.sess.any (fun p => p.2.st != .free && p.2.kind != .decode && (p.2.nw.port == sub || p.2.nw.altPort == sub))

/-- The links of a port's subports that are no longer enabled, or all of them, go down. -/
def dropLinks (p : Nat) (all : Bool) (s : State) : State :=
  forAll [0, 1, 2, 3] (fun i s => if all ∨ subRate s (4 * p + i) = 0 then setLink (4 * p + i) false s else s) s

/-- ETH_MODE is written (R279): a named port keeps its split, a named subport its enable. -/
def writeEthMode (p v : Nat) (s : State) : State :=
  let a := 0x20080 + 0x1000 * p
  let old := rget s a
  let l := [0, 1, 2, 3].filter (fun i => subNamed s (4 * p + i))
  let split := if bitsOf v 0 2 = 3 ∨ l ≠ [] then bitsOf old 0 2 else bitsOf v 0 2
  let en := ([0, 1, 2, 3].map (fun i => b2n (bitAt v (4 + i) || (bitAt old (4 + i) && l.contains i)) * 2 ^ i)).sum
  let change := decide (split ≠ bitsOf old 0 2)
  let s0 := if change then dropLinks p true s else s
  dropLinks p false (rset a (split + en * 16) s0)

/-- ETH_MODE_WRITE (R279). -/
def execEthModeWrite (p : Fin 2) (v : W32) (s : State) : Host.Outcome State Fault Refusal :=
  .next (if !polOpen s (91 + p) ∨ isFatal s then s else writeEthMode p v.toNat s)

/-! ### Received RTCP (R140, R142, R256, R258, R264 to R267) -/

/-- The middle-and-low 48 bits of the NTP time of a device time: 16 bits of seconds, 32 of fraction (R263). -/
def ntp48 (s : State) (ns : Nat) : Nat :=
  ((ns / 1000000000 + 2208988800 - s.time.utc) % 2 ^ 16) * 2 ^ 32 + ns % 1000000000 * 2 ^ 32 / 1000000000

/-- The signed difference of two 48-bit times. -/
def diff48 (a b : Nat) : Int := signed 48 ((a + 2 ^ 48 - b % 2 ^ 48) % 2 ^ 48)

/-- A replay window of 128 indices (R258): what it makes of an index, none for a replayed or too old one. -/
def replayIn (win : List Nat) (hi i : Nat) : Option (List Nat × Nat) :=
  if win = [] then some ([0], i)
  else if i > hi then some (0 :: (win.map (· + (i - hi))).filter (· < 128), i)
  else if hi - i ≥ 128 ∨ win.contains (hi - i) then none
  else some (win ++ [hi - i], hi)

/-- Authentication and replay under the key a packet carries (R258, R306): the session with its window, or the counter. -/
def srtcpIn (x : Session) (k : RtcpIn) : Except Nat Session :=
  if k.key ≠ 0 ∧ k.key = x.keys.recv then
    match replayIn x.tr.replay x.tr.highest k.index with
    | none => .error 1
    | some (w, h) => .ok { x with tr := { x.tr with replay := w, highest := h } }
  else if k.key ≠ 0 ∧ x.keys.oldRecv = some k.key then
    match replayIn x.tr.oldReplay x.tr.oldHighest k.index with
    | none => .error 1
    | some (w, h) => .ok { x with tr := { x.tr with oldReplay := w, oldHighest := h } }
  else .error 0

/-- The lower median of a list of integers. -/
def median (l : List Int) : Int := (l.mergeSort (fun a b => decide (a ≤ b))).getD ((l.length - 1) / 2) 0

/-- A congestion-control report (R140, R265): the item it gives, o_min kept by seconds, and entries outside the departure
record. -/
def ccfbItem (s : State) (x : Session) (rts : Nat) (l : List Metric) : Option FbKind × List (Nat × Int) × Nat :=
  let known := l.filterMap (fun m => (x.tr.depart.find? (fun d => d.1 % 65536 == m.seq % 65536)).map (fun d => (m, d)))
  let rx := known.filter (fun k => k.1.rx)
  let timed := (rx.filter (fun k => decide (k.1.ato < 0x1FFE))).map (fun k =>
    (((rts % 2 ^ 32) * 2 ^ 16 + 2 ^ 48 - k.1.ato * 2 ^ 22) % 2 ^ 48, ntp48 s k.2.2.1))
  let os := timed.map (fun t => diff48 t.1 t.2)
  let sec := devNs s / 1000000000
  let near := x.loop.oMin.filter (fun e => decide (e.1 + 10 > sec))
  let hist := match os with
    | [] => near
    | o :: r =>
      let m := r.foldl min o
      match near.find? (fun e => e.1 == sec) with
      | some e => (sec, min m e.2) :: near.filter (fun e => e.1 != sec)
      | none => (sec, m) :: near
  let omin : Int := match hist with
    | [] => 0
    | e :: r => r.foldl (fun a b => min a b.2) e.2
  let q := (median (os.map (· - omin)) * 1000000 / 2 ^ 32).toNat
  let lost := known.length - rx.length
  let ce := (rx.filter (fun k => k.1.ce)).length
  let ds : List Int := match timed with
    | [] => []
    | t :: _ => timed.map (fun (u : Nat × Nat) => diff48 u.1 t.1)
  let spread : Nat := match ds with
    | [] => 0
    | d :: r => (r.foldl max d - r.foldl min d).toNat
  let bits := (rx.map (fun k => k.2.2.2)).sum
  let rd := if rx.length ≥ 4 ∧ spread * 1000 ≥ 2 ^ 32 then some (bits * 2 ^ 32 / spread) else none
  (if known = [] then none
   else some (.ccfb q (lost * 65536 / known.length) (ce * 65536 / max 1 rx.length) rd (decide (lost * 50 > known.length))
     (decide (ce > 0))), hist, l.length - known.length)

/-- Take an item of a valid compound (R265, R266). -/
def rtcpItem (sid : Nat) (it : RtcpItem) (s : State) : State :=
  let x := sessOf s sid
  let now := devNs s
  let rec' := fun k => sessMod sid (fun x => x.record now k) s
  match it with
  | .report ssrc frac lsr dlsr =>
    if ssrc ≠ x.nw.ssrc then s
    else
      let d := signed 32 ((ntp48 s now / 2 ^ 16 + 2 * 2 ^ 32 - lsr % 2 ^ 32 - dlsr % 2 ^ 32) % 2 ^ 32)
      rec' (.rr (decide (frac * 10 > 256)) (if lsr = 0 ∨ d < 0 then none else some (d.toNat * 1000000 / 65536)))
  | .pli media => if media ≠ x.nw.ssrc then s else rec' .pli
  | .fir sender ssrc seq => if ssrc ≠ x.nw.ssrc then s else rec' (.fir sender seq)
  | .ccfb ssrc rts l =>
    if ssrc ≠ x.nw.ssrc then s
    else
      let (k, h, miss) := ccfbItem s x rts l
      let s1 := pktCnt 7 miss (sessMod sid (fun x => { x with loop := { x.loop with
        oMin := h, lastCcfb := some now, ccfbSilent := false } }) s)
      (match k with
       | none => s1
       | some k => sessMod sid (fun x => x.record now k) s1)
  | .nlrf media l =>
    if media ≠ x.nw.ssrc then s
    else forAll (l.filter (fun i => !i.rsvd)) (fun i s => sessMod sid (fun x => x.record now (if i.loss then .loss i.pic else .ack i.pic)) s) s

/-- Is the compound malformed under R264 or R266? -/
def rtcpBad (k : RtcpIn) : Bool :=
  !k.valid || k.items.any (fun i => match i with
    | .nlrf _ l => l.isEmpty || decide (l.length > 64)
    | _ => false)

/-- Session RTCP (R256, R258, R264, R427): source, keys, authentication and replay, validity, then the items in order. -/
def sessionRtcp (sid src sport : Nat) (k : RtcpIn) (s : State) : State :=
  let x := sessOf s sid
  if !polOpen s 94 then s
  else if src ≠ x.nw.remoteIp ∨ sport ≠ x.nw.remotePort then pktCnt 2 1 s
  else if x.keys.recv = 0 then pktCnt 9 1 s
  else
    match srtcpIn x k with
    | .error i => pktCnt i 1 s
    | .ok y =>
      let s1 := sessMod sid (fun _ => y) s
      if rtcpBad k then pktCnt 3 1 s1
      else
        forAll k.items (rtcpItem sid)
          (sessMod sid (fun x => { x with loop := { x.loop with lastRtcp := some (devNs s), rtcpSilent := false, lastHalve := none } }) s1)

/-- The session whose address and port a datagram names on the subport (R264). -/
def sessionAt (s : State) (sub ver dst dport : Nat) : Option Nat :=
  (s.sess.find? (fun p => p.2.st != .free && p.2.kind != .decode && p.2.egress == sub && p.2.nw.ipVer == ver &&
    p.2.nw.localIp == dst && p.2.nw.localPort == dport)).map (·.1)

/-! ### The exception ring (R268, R269) -/

/-- Slot bytes of a ring register. -/
def ringSlot (v : Nat) : Nat := if bitAt v 4 then 10240 else 2048

/-- Write a frame to the exception ring, or drop it. -/
def exception (sub reason : Nat) (f : RxFrame) (s : State) : State :=
  let v := rget s 0x22080
  let depth := 2 ^ bitsOf v 0 4
  let head := rfld s 0x22088 0 12
  let tail := s.net.exqTail
  let s0 := pgBlock ⟨.pkt, 0⟩ s
  if !bitAt v 5 ∨ (tail + 1) % depth = head then pktCnt 6 1 s0
  else
    let addr := bitsOf v 12 52 * 4096 + ringSlot v * tail
    let room := ringSlot v - 32
    let n := f.len - 4
    let cut := decide (n > room)
    let t := devTime s
    let hdr : List Nat := (List.range 8).map (fun i => t / 256 ^ i % 256) ++ [n % 256, n / 256 % 256, sub, reason] ++
      List.replicate 19 0 ++ [b2n cut + b2n s.net.exqPhase * 128]
    let tail' := (tail + 1) % depth
    let s1 := emit (.hostBytes 0 addr false (hdr.map (BitVec.ofNat 8))) (emit (.hostBytes 0 (addr + 32) false (f.bytes.take (min n room))) s0)
    let s2 := { s1 with net := { s1.net with exqTail := tail', exqPhase := if tail' = 0 then !s1.net.exqPhase else s1.net.exqPhase } }
    if tail = head then evtPf 0x0026 10 0 0 s2 else s2

/-- RECEIVE_FRAME (R245, R264, R268): a frame on a subport whose link is up. -/
def execReceiveFrame (sub : Fin 8) (f : RxFrame) (s : State) : Host.Outcome State Fault Refusal :=
  let mac := rget s (0x20088 + 0x1000 * (sub.val / 4) + 8 * (sub.val % 4)) % 2 ^ 48
  .next (if !(subOf s sub).up ∨ isFatal s ∨ s.boot.warm then s
    else if !f.fcs ∨ f.len < 64 ∨ f.len > 9216 ∨ f.macCtl ∨ (f.dst ≠ mac ∧ !bitAt f.dst 40) then
      rcnt (aEthCnt sub 2) 0 64 1 s
    else
      let s1 := rcnt (aEthCnt sub 1) 0 64 1 s
      match f.body with
      | .ptp dom tr m => ptpFrame sub dom tr m s1
      | .other r => exception sub r f s1
      | .udp ver src sport dst dport uni csum pt k =>
        match sessionAt s sub ver dst dport with
        | none => exception sub 0 f s1
        | some sid =>
          if uni ∧ csum ∧ 192 ≤ pt ∧ pt ≤ 223 then sessionRtcp sid src sport k s1 else exception sub 5 f s1)

/-! ### Host transmission (R260, R270) -/

/-- PKT_HTQ_TAIL is written (R280): an index of 2^LOG2 or more is ignored. -/
def writeHtqTail (v : Nat) (s : State) : State :=
  if v % 2 ^ 12 ≥ 2 ^ rfld s 0x22090 0 4 then s else rfset 0x22098 0 12 v s

/-- HOST_TX_TAIL (R270). -/
def execHostTxTail (v : W32) (s : State) : Host.Outcome State Fault Refusal :=
  .next (if !polOpen s 91 ∨ isFatal s then s else writeHtqTail v.toNat s)

/-- The bucket of a subport now: what is taken out of it, in ps (R260). -/
def bucketNow (b : Subport) (now : Nat) : Nat := b.bucket - (now - b.bucketAt)

/-- HOST_TX_SEND (R260, R270): the slot at the head, with the length and subport code its header holds. It waits for the
bucket, for the medium, and for a link that is down (log 42). -/
def execHostTxSend (len : Nat) (code : Nat) (s : State) : Host.Outcome State Fault Refusal :=
  let v := rget s 0x22090
  let head := s.net.htqHead
  .next (if !polOpen s 91 ∨ isFatal s ∨ s.boot.warm ∨ !bitAt v 5 ∨ head = rfld s 0x22098 0 12 ∨ (port s 0).link ≠ .l0 ∨
      !(func s 0).bme then s
    else
      let s1 := { s with net := { s.net with htqHead := (head + 1) % 2 ^ bitsOf v 0 4 } }
      if len < 60 ∨ len > ringSlot v - 32 ∨ subRate s code = 0 then pktCnt 8 1 s1
      else
        let b := subOf s code
        let cost := 8 * (len + 4) * 1000
        let used := bucketNow b s.now
        if !b.up ∨ s.now < b.busyUntil ∨ used + cost > 131072 * 1000 then s
        else ethTx code .host 0 head (len + 4) (subMod code (fun b => { b with bucket := used + cost, bucketAt := s.now }) s1))

end Sys2Proof.Machine
end

