-- ==== Sys2Proof/Machine/Mailbox.lean ====
section
/-! DEFINITION. The mailboxes and the sideband bridge (R378 to R385, R541). Reading an inbound message by the serving side
is with SEC's acceptance rules. -/

namespace Sys2Proof.Machine

/-- Address of a register of a channel's block (R385). -/
def aMbx (c off : Nat) : Nat := 0x7100 + 0x20 * c + off
/-- LEN_IN and LEN_OUT. -/
def lenIn (s : State) (c : Nat) : Nat := rfld s (aMbx c 0) 0 5
def lenOut (s : State) (c : Nat) : Nat := rfld s (aMbx c 0) 8 5
/-- A channel. -/
def mbxOf (s : State) (c : Nat) : Mbx := tget {} s.mbx c
/-- Change a channel. -/
def mbxMod (c : Nat) (f : Mbx → Mbx) (s : State) : State := { s with mbx := tmod {} s.mbx c f }

/-- Words in the inbound queue. -/
def Mbx.inWords (m : Mbx) : Nat := (m.inMsgs.map (fun x => x.words.length)).sum + m.inPart.length
/-- Words in the outbound queue: the head's taken words have left it. -/
def Mbx.outWords (m : Mbx) : Nat := (m.outMsgs.map (fun x => x.words.length)).sum + m.outPart.words.length - m.outTaken
/-- Free inbound words. -/
def Mbx.inFree (m : Mbx) : Nat := 16 - m.inWords

/-- An event of a channel: MBX_EVT bit, the page's BLOCK, and VECTOR when `irq` and IEN (R382, R384, R385, R500). -/
def mbxEvt (c bit : Nat) (irq : Bool) (s : State) : State :=
  let s1 := pgBlock ⟨.mbx, 0⟩ (rfset (aMbx c 0x14) bit 1 1 s)
  if irq ∧ rfld s1 (aMbx c 0) 21 1 = 1 then msixSend 0 (rfld s1 (aMbx c 0) 16 5) s1 else s1

/-- IN_SPACE when the free words rise to LEN_IN or more (R382). -/
def inSpace (c before : Nat) (s : State) : State :=
  if before < lenIn s c ∧ (mbxOf s c).inFree ≥ lenIn s c then mbxEvt c 1 true s else s

/-- Count discarded words or messages (R385). -/
def mbxCount (c words msgs : Nat) (s : State) : State := rcnt (aMbx c 0x1C) 16 16 msgs (rcnt (aMbx c 0x1C) 0 16 words s)

/-- Is the MBX page open to accesses (R384, R435, R451)? -/
def mbxUp (s : State) : Bool := polOpen s 94 && !isFatal s

/-- What the head of the outbound queue does once it is complete (R382): a host message shows OUT_MSG; an endpoint message
is sent when the bus can carry it, else it waits and SMB_ALERT_N is driven low (R541). -/
def outHead : Nat → Nat → Bool → State → State
  | 0, _, _, s => s
  | n + 1, c, can, s =>
    match (mbxOf s c).outMsgs with
    | [] => s
    | m :: l =>
      match m.dest with
      | none => if (mbxOf s c).outTaken = 0 then mbxEvt c 0 true s else s
      | some e =>
        if can then
          outHead n c can (micPulse (208 + c) (emit (.mctp e c m.words) (mbxMod c (fun x => { x with outMsgs := l, endSince := none }) s)))
        else if (mbxOf s c).endSince.isSome then s
        else emit (.smbAlert true) (mbxMod c (fun x => { x with endSince := some s.now }) s)

/-- A word is written to MBX_IN_DATA (R379, R381). -/
def mbxInWord (c : Fin 8) (id : W16) (auth : Bool) (word : W32) (s : State) : State :=
  let m := mbxOf s c
  if !mbxUp s then s
    else if m.inFree = 0 then mbxCount c 1 0 (mbxEvt c 2 false s)
    else
      let part := m.inPart ++ [word.toNat]
      if part.length ≥ lenIn s c then
        micPulse (200 + c) (mbxMod c (fun m => { m with
          inPart := [], inMsgs := m.inMsgs ++ [{ sender := id.toNat, auth := auth && (m.inPart.isEmpty || m.inAuth), words := part }] }) s)
      else mbxMod c (fun m => { m with
        inPart := part, inAuth := auth && (m.inPart.isEmpty || m.inAuth), inPartTime := s.now }) s

/-- MBX_IN_DATA (R379, R381): a 4-byte write to the PF's BAR0 with a requester ID; `auth` says whether it came over an
authenticated IDE stream. A message is its last word's requester's (log 23). -/
def execMbxInData (c : Fin 8) (id : W16) (auth : Bool) (word : W32) (s : State) : Host.Outcome State Fault Refusal :=
  .next (mbxInWord c id auth word s)

/-- MBX_OUT_DATA as it reads: the head word of a complete message for the host, else 0 (R382). -/
def mbxOutWord (s : State) (c : Nat) : Nat :=
  match (mbxOf s c).outMsgs with
  | x :: _ => if x.dest = none then x.words.getD (mbxOf s c).outTaken 0 else 0
  | [] => 0

/-- A read of MBX_OUT_DATA removes the head word of a complete message for the host (R382). -/
def mbxOutPop (c : Nat) (s : State) : State :=
  let m := mbxOf s c
  match m.outMsgs with
  | x :: l =>
    if x.dest = none then
      let s1 := micPulse (208 + c) s
      if m.outTaken + 1 ≥ x.words.length then
        outHead 16 c true (mbxMod c (fun m => { m with outMsgs := l, outTaken := 0 }) s1)
      else mbxMod c (fun m => { m with outTaken := m.outTaken + 1 }) s1
    else s
  | [] => s

/-- MBX_OUT_DATA (R382): a read by the PF removes the head word of a complete message for the host; else it returns 0. -/
def execMbxOutData (c : Fin 8) (s : State) : Host.Outcome State Fault Refusal :=
  .next (if !mbxUp s then emit (.readData 0) s else emit (.readData (mbxOutWord s c)) (mbxOutPop c s))

/-- The host-side reset of a channel (R384). -/
def mbxHostReset (c : Nat) (s : State) : State :=
  let before := (mbxOf s c).inFree
  let s1 := mbxMod c (fun m => { m with inPart := [], outTaken := 0 }) s
  inSpace c before (if (mbxOf s c).outTaken > 0 then outHead 16 c false s1 else s1)

/-- HOST_RESET: a write of MBX_CTRL.HOST_RESET (R384). -/
def execHostReset (c : Fin 8) (s : State) : Host.Outcome State Fault Refusal :=
  .next (if mbxUp s then mbxHostReset c s else s)

/-- The serving-side reset of a channel (R384). -/
def mbxServeReset (c : Nat) (s : State) : State :=
  mbxEvt c 4 true (mbxMod c (fun m => { m with outPart := {} }) s)

/-- MBX_PARTIAL_TIMEOUT (R379): a partial host message not continued within 1 ms. -/
def execMbxPartialTimeout (c : Fin 8) (s : State) : Host.Outcome State Fault Refusal :=
  let m := mbxOf s c
  .next (if m.inPart = [] ∨ s.now < m.inPartTime + psMs 1 then s
    else
      let s1 := mbxCount c 0 1 (mbxEvt c 3 false (mbxMod c (fun m => { m with inPart := [] }) s))
      inSpace c m.inFree s1)

/-- MCTP_MESSAGE (R380, R541): words of a mailbox message from an endpoint over SMBus or I3C; `eom` ends the message. With
STRAP4 at 0 the I3C pins are ignored. -/
def execMctpMessage (i3c : Bool) (eid : Byte) (secured : Bool) (c : Fin 8) (words : List W32) (eom : Bool) (s : State) :
    Host.Outcome State Fault Refusal :=
  let m := mbxOf s c
  .next (if (i3c && !bitAt s.boot.straps 4) || isFatal s || s.boot.perst then s
    else
      let old := match m.frag with
        | some (b, l) => if b == i3c then l else []
        | none => []
      let all := old ++ words.map (·.toNat)
      if !eom then mbxMod c (fun m => { m with frag := some (i3c, all) }) s
      else
        let s1 := mbxMod c (fun m => { m with frag := none }) s
        if all.length ≠ lenIn s c ∨ m.bridge.isSome then mbxCount c 0 1 s1
        else mbxMod c (fun m => { m with
          bridge := some { sender := eid.toNat, mctp := true, auth := secured, words := all } }) s1)

/-- MBX_BRIDGE_PLACE (R380, R381): the held message goes in whole once there is room and no partial host message. -/
def execMbxBridgePlace (c : Fin 8) (s : State) : Host.Outcome State Fault Refusal :=
  let m := mbxOf s c
  .next (match m.bridge with
    | none => s
    | some x =>
      if m.inFree < lenIn s c ∨ m.inPart ≠ [] ∨ !polOpen s 94 then s
      else micPulse (200 + c) (mbxMod c (fun m => { m with bridge := none, inMsgs := m.inMsgs ++ [x] }) s))

/-- MBX_OUT_WRITE (R382, R383): the serving side writes a word of a message for the host (none) or an endpoint; it stalls
while the queue is full. `can` says whether the endpoint's bus can carry a message now. -/
def execMbxOutWrite (c : Fin 8) (dest : Option Byte) (word : W32) (can : Bool) (s : State) :
    Host.Outcome State Fault Refusal :=
  let m := mbxOf s c
  .next (if m.outWords ≥ 16 ∨ (c.val ≥ 4 ∧ !polOpen s 94) ∨ isFatal s then s
    else
      let d := if m.outPart.words = [] then dest.map (·.toNat) else m.outPart.dest
      let part := m.outPart.words ++ [word.toNat]
      if part.length ≥ lenOut s c then
        let s1 := mbxMod c (fun m => { m with outPart := {}, outMsgs := m.outMsgs ++ [{ dest := d, words := part }] }) s
        if m.outMsgs = [] ∨ m.endSince.isSome then outHead 16 c can s1 else s1
      else mbxMod c (fun m => { m with outPart := { dest := d, words := part } }) s)

/-- MBX_ENDPOINT_TIMEOUT (R382): undeliverable for 100 ms. -/
def execMbxEndpointTimeout (c : Fin 8) (s : State) : Host.Outcome State Fault Refusal :=
  let m := mbxOf s c
  .next (match m.endSince with
    | none => s
    | some t =>
      if s.now < t + psMs 100 then s
      else outHead 16 c false (mbxCount c 0 1 (mbxMod c (fun m => { m with outMsgs := m.outMsgs.tail, endSince := none }) s)))

/-- SIDEBAND_RESET (R384): reset of the I3C or SMBus target, or loss of the bus: partial MCTP messages of the bus are
discarded; outbound messages survive and are sent again whole. -/
def execSidebandReset (i3c : Bool) (s : State) : Host.Outcome State Fault Refusal :=
  .next (forAll (List.range 8) (fun c s => match (mbxOf s c).frag with
    | some (b, _) => if b == i3c then mbxMod c (fun m => { m with frag := none }) s else s
    | none => s) s)

end Sys2Proof.Machine
end

