-- ==== Sys2Proof/Machine/MemCtl.lean ====
section
/-! DEFINITION. The DRAM controllers' own events: refresh (R343, R344), drift (R345, R350), self-refresh (R346, R347),
training helpers (R349, R351). -/

namespace Sys2Proof.Machine

/-- Address of a register of an MC page (R351). -/
def aMc (n off : Nat) : Nat := 0x30000 + n * 0x1000 + off

/-- Is real-time traffic active on the channel (R339): an RT request queued, or one served in the last 1 µs? -/
def rtActive (s : State) (n c : Nat) : Bool :=
  let h := (mcOf s n).chan c
  (h.reads ++ h.writes).any (fun r => r.cls == 0) ||
    (match h.lastRt with
     | none => false
     | some t => decide (s.now < t + psUs 1))

/-- Is real-time traffic active on any channel of the controller? -/
def mcRt (s : State) (n : Nat) : Bool := (List.range 4).any (rtActive s n)

/-- Issue one REFpb on a channel: the bank pair whose refresh is oldest (R344). -/
def refIssue (n c : Nat) (s : State) : State :=
  let h := (mcOf s n).chan c
  emit (.dramCmd n c 1 (h.pairs.headD 0))
    (chMod n c (fun h => { h with owed := h.owed - 1, pairs := h.pairs.tail ++ h.pairs.take 1 }) s)

/-- Issue `k` REFpb. -/
def refIssues (n c : Nat) : Nat → State → State
  | 0, s => s
  | k + 1, s => refIssues n c k (refIssue n c s)

/-- May the controller work on its own account: trained, its polder open? -/
def mcLive (s : State) (n : Nat) : Bool := (mcOf s n).inService && polOpen s (72 + n)

/-- REFRESH_INTERVAL (R343, R344): the end of a tREFIpb interval on a channel. -/
def execRefreshInterval (mc : Fin 16) (ch : Fin 4) (s : State) : Host.Outcome State Fault Refusal :=
  let m := mcOf s mc
  .next (if !mcLive s mc ∨ (m.st ≠ .active ∧ m.st ≠ .srPrep) then s
    else
      let owed := min 8 ((m.chan ch).owed + 1)
      let s1 := chMod mc ch (fun h => { h with owed := owed }) s
      if rtActive s mc ch then
        if owed < 8 then s1
        else pgBlock ⟨.mc, mc⟩ (rcnt (aMc mc 0x8C) 16 16 1 (rfset (aMc mc 0x8C) 8 1 1 (refIssue mc ch s1)))
      else refIssues mc ch owed s1)

/-- RT_TRAFFIC_END (R344): 1 µs after the last RT request the channel issues its owed refreshes. -/
def execRtTrafficEnd (mc : Fin 16) (ch : Fin 4) (s : State) : Host.Outcome State Fault Refusal :=
  let h := (mcOf s mc).chan ch
  .next (if h.lastRt = none ∨ rtActive s mc ch ∨ !mcLive s mc then s
    else refIssues mc ch h.owed (chMod mc ch (fun h => { h with lastRt := none }) s))

/-- MR4_POLL (R343): the multiplier codes read from the four channels; the most demanding is used. -/
def execMr4Poll (mc : Fin 16) (m0 m1 m2 m3 : Fin 3) (s : State) : Host.Outcome State Fault Refusal :=
  .next (if !mcLive s mc ∨ (mcOf s mc).st ≠ .active then s
    else mcMod mc (fun m => { m with mult := max (max m0.val m1.val) (max m2.val m3.val) }) s)

/-- A delay of the table moved by `d` steps, within its 10 bits. -/
def delayShift (v : Nat) (d : Int) : Nat := (clampI (v + d) 0 1023).toNat

/-- Key of a delay in the table, as MC_DLY_SEL packs it: channel, kind, index (R351). -/
def dlyKey (c kind idx : Nat) : Nat := c + kind * 4 + idx * 32

/-- Move every RX and TX DQ delay of a channel (R350 step 3). -/
def dqShift (c : Nat) (d : Int) (t : Tab Nat) : Tab Nat :=
  (List.range 16).foldl (fun t i => tmod 0 (tmod 0 t (dlyKey c 0 i) (delayShift · d)) (dlyKey c 1 i) (delayShift · d)) t

/-- DRIFT_CHECK (R345, R350): the oscillator count read, and the change since training in delay steps it stands for. -/
def execDriftCheck (mc : Fin 16) (ch : Fin 4) (osc : W16) (steps : Int) (s : State) : Host.Outcome State Fault Refusal :=
  let m := mcOf s mc
  let h := m.chan ch
  let cfg := rget s (aMc mc 0x90)
  .next (if !mcLive s mc ∨ (m.st ≠ .active ∧ m.st ≠ .srExit) then s
    else if rtActive s mc ch ∧ !h.deferred then chMod mc ch (fun h => { h with deferred := true }) s
    else
      let s1 := chMod mc ch (fun h => { h with deferred := false, osc := osc.toNat }) s
      let diff := steps - h.delta
      let s2 :=
        if diff.natAbs ≥ bitsOf cfg 10 6 ∧ !bitAt cfg 24 then
          mcMod mc (fun m => { m with delays := dqShift ch diff m.delays })
            (chMod mc ch (fun h => { h with delta := steps, adj := satAdd 32 h.adj 1 }) s1)
        else s1
      let above := decide (((mcOf s2 mc).chan ch).delta.natAbs > bitsOf cfg 16 8)
      let s3 := chMod mc ch (fun h => { h with excursion := above }) s2
      if above && !h.excursion then raise 0x22 mc s3 else s3)

/-- No request waits in any channel of the controller. -/
def mcEmpty (s : State) (n : Nat) : Bool :=
  (List.range 4).all (fun c => let h := (mcOf s n).chan c; h.reads.isEmpty && h.writes.isEmpty)

/-- SELF_REFRESH_IDLE (R346, R347, R470): an idle SR_IDLE, or power control's order, starts SR_PREP. -/
def execSelfRefreshIdle (mc : Fin 16) (s : State) : Host.Outcome State Fault Refusal :=
  let m := mcOf s mc
  let cfg := rget s (aMc mc 0x88)
  let idle := bitAt cfg 0 && decide (s.now ≥ m.lastReq + psUs (bitsOf cfg 8 10))
  .next (if !mcLive s mc ∨ m.st ≠ .active ∨ !mcEmpty s mc ∨ mcRt s mc ∨ !(idle || m.ordered) then s
    else mcMod mc (fun m => { m with st := .srPrep, since := s.now }) s)

/-- SR_PREP_DONE (R346): owed refreshes issued, banks precharged, SRE issued. -/
def execSrPrepDone (mc : Fin 16) (s : State) : Host.Outcome State Fault Refusal :=
  .next (if !mcLive s mc ∨ (mcOf s mc).st ≠ .srPrep then s
    else
      let s1 := forAll (List.range 4) (fun c s => refIssues mc c ((mcOf s mc).chan c).owed s) s
      emit (.dramCmd mc 4 2 0) (mcMod mc (fun m => { m with st := .srEntry, since := s.now }) s1))

/-- SR_ENTRY_DONE (R346): tSR min met. -/
def execSrEntryDone (mc : Fin 16) (s : State) : Host.Outcome State Fault Refusal :=
  .next (if !mcLive s mc ∨ (mcOf s mc).st ≠ .srEntry then s
    else mcMod mc (fun m => { m with st := if mcEmpty s mc then .selfRefresh else .srExit, since := s.now }) s)

/-- SR_WAKE (R346): a request waits, or an exit is ordered. -/
def execSrWake (mc : Fin 16) (order : Bool) (s : State) : Host.Outcome State Fault Refusal :=
  .next (if !mcLive s mc ∨ (mcOf s mc).st ≠ .selfRefresh ∨ (mcEmpty s mc ∧ !order) then s
    else mcMod mc (fun m => { m with st := .srExit, since := s.now }) s)

/-- An error of the inline code is counted, and captured while VALID is 0 (R338, R351, R500): `ue` 0 corrected, 1 not. -/
def eccNote (n ue addr : Nat) (s : State) : State :=
  let s1 := rcnt (aMc n (0xE0 + 4 * ue)) 0 32 1 s
  let a := aMc n 0xE8
  if rfld s1 a 63 1 = 1 then s1
  else pgBlock ⟨.mc, n⟩ (rset a (addr % 2 ^ 39 + ue * 2 ^ 62 + 2 ^ 63) s1)

/-- The channels an MC_TRN_CMD value selects (R351). -/
def trnChans (cmd : Nat) : List Nat := if bitAt cmd 5 then [0, 1, 2, 3] else [bitsOf cmd 3 2]

/-- A write of MC_TRN_CMD with GO and the operation `op` (R349, R351): it starts only in TRAINING with GO 0; MC_TRN_ERR is
cleared. -/
def trnStart (mc op : Nat) (cmd : W32) (s : State) : State :=
  let a := aMc mc 0xC0
  if (mcOf s mc).st ≠ .training ∨ bitAt (rget s a) 31 then s
  else
    let v := setBits (setBits (cmd.toNat % 2 ^ 25) 6 2 0) 0 3 op
    rset (aMc mc 0xD0) 0 (rset a (v + 2 ^ 31) s)

/-- The pattern engine's write on the selected channels (R351). -/
def trnPattern (mc : Nat) (s : State) : State :=
  let cmd := rget s (aMc mc 0xC0)
  mcMod mc (fun m => { m with
    scratch := (trnChans cmd).foldl (fun t c =>
      tset 0 (tset 0 (tset 0 t (4 * c) (bitsOf cmd 8 8)) (4 * c + 1) (rget s (aMc mc 0xC8))) (4 * c + 2) (bitsOf cmd 24 1))
      m.scratch }) s

/-- Is ARG in the range of a pattern operation (R351: 0 to 20)? -/
def trnArgOk (cmd : W32) : Bool := decide (bitsOf cmd.toNat 8 8 ≤ 20)

/-- MC_TRN_WRITE_PATTERN: op 1. -/
def execMcTrnWritePattern (mc : Fin 16) (cmd : W32) (s : State) : Host.Outcome State Fault Refusal :=
  .next (if trnArgOk cmd then trnStart mc 1 cmd s else s)
/-- MC_TRN_READ_COMPARE: op 2. -/
def execMcTrnReadCompare (mc : Fin 16) (cmd : W32) (s : State) : Host.Outcome State Fault Refusal :=
  .next (if trnArgOk cmd then trnStart mc 2 cmd s else s)
/-- MC_TRN_WRITE_READ_COMPARE: op 3. -/
def execMcTrnWriteReadCompare (mc : Fin 16) (cmd : W32) (s : State) : Host.Outcome State Fault Refusal :=
  .next (if trnArgOk cmd then trnStart mc 3 cmd s else s)
/-- MC_TRN_MR_WRITE: op 4. -/
def execMcTrnMrWrite (mc : Fin 16) (cmd : W32) (s : State) : Host.Outcome State Fault Refusal := .next (trnStart mc 4 cmd s)
/-- MC_TRN_MR_READ: op 5. -/
def execMcTrnMrRead (mc : Fin 16) (cmd : W32) (s : State) : Host.Outcome State Fault Refusal := .next (trnStart mc 5 cmd s)
/-- MC_TRN_ZQ_CAL: op 6. -/
def execMcTrnZqCal (mc : Fin 16) (cmd : W32) (s : State) : Host.Outcome State Fault Refusal := .next (trnStart mc 6 cmd s)
/-- MC_TRN_WCK2CK_SAMPLE: op 7. -/
def execMcTrnWck2ckSample (mc : Fin 16) (cmd : W32) (s : State) : Host.Outcome State Fault Refusal := .next (trnStart mc 7 cmd s)

/-- MC_TRN_DONE (R351): GO clears and the results are posted: the DQ bits that miscompared or the WCK levels sampled, of
the selected channels, and the value a mode register read returned. -/
def execMcTrnDone (mc : Fin 16) (fail : W64) (data : Byte) (s : State) : Host.Outcome State Fault Refusal :=
  let a := aMc mc 0xC0
  let cmd := rget s a
  let op := bitsOf cmd 0 3
  .next (if !bitAt cmd 31 then s
    else
      let sel := ((trnChans cmd).map (fun c => bitsOf fail.toNat (16 * c) 16 * 2 ^ (16 * c))).sum
      let lev := ((trnChans cmd).map (fun c => bitsOf fail.toNat (16 * c) 1 * 2 ^ (16 * c))).sum
      let s1 := rfset a 31 1 0 s
      let s2 := if op = 1 ∨ op = 3 then trnPattern mc s1 else s1
      if op = 2 ∨ op = 3 then rset (aMc mc 0xD0) sel s2
      else if op = 4 then forAll (trnChans cmd) (fun c => emit (.dramCmd mc c 4 (bitsOf cmd 8 16))) s2
      else if op = 5 then rfset a 16 8 data.toNat s2
      else if op = 6 then forAll (trnChans cmd) (fun c => emit (.dramCmd mc c 6 0)) s2
      else if op = 7 then rset (aMc mc 0xD0) lev s2
      else s2)

end Sys2Proof.Machine
end

