-- ==== Sys2Proof/Machine/Power.lean ====
section
/-! DEFINITION. Gears, voltage, droop and temperature (R455 to R469). -/

namespace Sys2Proof.Machine

/-- Entry voltage code of a gear (R461). -/
def entryCode (gear : Nat) : Nat := [44, 34, 24, 14, 8, 0].getD gear 0
/-- Address of PWR_PEL_CNT. -/
def aPelCnt (p : Nat) : Nat := 0x2108 + 0x20 * p
/-- The PWR page. -/
def pgPwr : Page := ⟨.pwr, 0⟩

/-- Does every core and tandem of the peloton cover its admitted load at the gear (R45, R457, R458)? -/
def coversAt (s : State) (p gear : Nat) : Bool :=
  (List.range 8).all (fun i =>
    let c := 8 * p + i
    decide (coreLoad s c ≤ (if inTandem s c then 2 else 1) * gearCap gear))

/-- g_need: the slowest gear, not faster than the committed one, that covers the load (R458). -/
def gNeed (s : State) (p : Nat) : Nat :=
  match [5, 4, 3, 2].find? (fun g => decide (g > commitOf s p) && coversAt s p g) with
  | some g => g
  | none => commitOf s p

/-- g_cap: the slowest cap in force, else the committed gear (R458). -/
def gCap (s : State) (p : Nat) : Nat := (slowCap (gearOf s p)).getD (commitOf s p)

/-- The gear the derailleur sets: the slower of g_need (or GEAR_SET) and g_cap; under AVS_MAN none whose entry voltage
exceeds V_SET (R458, R460, R463). -/
def gearTarget (s : State) (p : Nat) : Nat :=
  let c := rget s (aPelCtrl p)
  let g := max (if bitAt c 3 then bitsOf c 4 3 else gNeed s p) (gCap s p)
  if bitAt c 7 ∧ entryCode g > bitsOf c 8 8 then
    match [0, 1, 2, 3, 4, 5].find? (fun k => decide (k ≥ g) && decide (entryCode k ≤ bitsOf c 8 8)) with
    | some k => k
    | none => 5
  else g

/-- Entry to and end of the overload condition; entry writes EVT_OVERLOAD (R64, R468). -/
def overCheck (p : Nat) (s : State) : State :=
  let now := overCond s p
  let was := (gearOf s p).overload
  let s1 := gearMod p (fun g => { g with overload := now }) s
  if now && !was then evtPf 0x0020 6 (p + (gearOf s1 p).run * 16) 0 s1 else s1

/-- Set a running gear; a change counts in GEARS and is the PWR page's block event (R486, R500). -/
def gearSet (p g : Nat) (s : State) : State :=
  if (gearOf s p).run = g then gearMod p (fun r => { r with pendingUp := none }) s
  else pgBlock pgPwr (rcnt (aPelCnt p) 48 16 1 (gearMod p (fun r => { r with run := g, pendingUp := none }) s))

/-- One evaluation of a peloton (R458, R459): a slower gear takes effect, a faster one waits for its voltage. -/
def derail (p : Nat) (s : State) : State :=
  let t := gearTarget s p
  overCheck p (if t ≥ (gearOf s p).run then gearSet p t s else gearMod p (fun r => { r with pendingUp := some t }) s)

/-- DERAILLEUR_EVAL (R458). -/
def execDerailleurEval (s : State) : Host.Outcome State Fault Refusal := .next (forAll (List.range 8) derail s)

/-- GEAR_UP (R459): the pending faster gear takes effect once the target has reached its entry voltage and the last monitor
update shows the slack at or above S_LOW. -/
def execGearUp (p : Fin 8) (s : State) : Host.Outcome State Fault Refusal :=
  let g := gearOf s p
  .next (match g.pendingUp with
    | none => s
    | some t => if g.vCode ≥ entryCode t ∧ g.slack ≥ 2 then gearSet p t s else s)

/-- A cap step counts in CAPS (R486). -/
def capStep (p : Nat) (s : State) : State := rcnt (aPelCnt p) 32 16 1 s

/-- AVS_UPDATE (R459, R461, R462, R463): the smallest slack of the monitors. -/
def execAvsUpdate (p : Fin 8) (slack : Nat) (s : State) : Host.Outcome State Fault Refusal :=
  let g := gearOf s p
  let c := rget s (aPelCtrl p)
  let sl := min slack 255
  .next (if bitAt c 7 then gearMod p (fun g => { g with vCode := bitsOf c 8 8, slack := sl, lowRun := 0 }) s
    else
      let floor := entryCode g.run
      let code :=
        match g.pendingUp with
        | some t =>
          if g.vCode < entryCode t then min (entryCode t) (g.vCode + 10)
          else if sl < 2 ∧ g.vCode < 60 then g.vCode + 1 else g.vCode
        | none =>
          if sl < 2 ∧ g.vCode < 60 then g.vCode + 1
          else if sl > 6 ∧ g.vCode > floor then g.vCode - 1
          else g.vCode
      let low := if g.vCode = 60 ∧ sl < 2 then g.lowRun + 1 else 0
      let s1 := gearMod p (fun g => { g with vCode := max floor code, slack := sl, lowRun := if low ≥ 10 then 0 else low }) s
      if low ≥ 10 then overCheck p (capStep p (gearMod p (fun g => { g with headroom := some (gearSlower g.run), hrLast := s.now }) s1))
      else s1)

/-- DROOP_ONSET (R465): CCLK stretching begins. -/
def execDroopOnset (p : Fin 8) (s : State) : Host.Outcome State Fault Refusal :=
  .next (if (gearOf s p).stretchFrom.isSome then s
    else rcnt (aPelCnt p) 0 32 1 (gearMod p (fun g => { g with stretchFrom := some s.now }) s))

/-- Time of a span that lies in the last 10 µs (R466). -/
def inWindow (now : Nat) (sp : Nat × Nat) : Nat := sp.2 - max sp.1 (now - psUs 10)

/-- DROOP_END (R465, R466): stretching ends; when it covers more than 2 µs of the last 10 µs and DROOP_ACT is 1, the droop
cap is set. -/
def execDroopEnd (p : Fin 8) (s : State) : Host.Outcome State Fault Refusal :=
  .next (match (gearOf s p).stretchFrom with
    | none => s
    | some t =>
      let sp := ((t, s.now) :: (gearOf s p).spans).filter (fun e => decide (e.2 + psUs 10 > s.now))
      let s1 := gearMod p (fun g => { g with stretchFrom := none, spans := sp }) s
      if (sp.map (inWindow s.now)).sum > psUs 2 ∧ rfld s 0x2080 24 1 = 1 then
        overCheck p (capStep p (gearMod p (fun g => { g with droop := some (gearSlower g.run), drLast := s.now }) s1))
      else s1)

/-- A cap released one step; removed once it would reach the committed gear (R466, R467). -/
def capFaster (s : State) (p : Nat) (c : Option Nat) : Option Nat :=
  match c with
  | none => none
  | some g => let f := gearFaster s g; if f ≤ commitOf s p ∨ f = g then none else some f

/-- CAP_RELEASE (R462, R466): 1 ms after the last trigger or release, the droop or the headroom cap is released one step. -/
def execCapRelease (p : Fin 8) (headroom : Bool) (s : State) : Host.Outcome State Fault Refusal :=
  let g := gearOf s p
  .next (if headroom then
      if g.headroom = none ∨ s.now < g.hrLast + psMs 1 then s
      else overCheck p (capStep p (gearMod p (fun g => { g with headroom := capFaster s p g.headroom, hrLast := s.now }) s))
    else
      if g.droop = none ∨ s.now < g.drLast + psMs 1 then s
      else overCheck p (capStep p (gearMod p (fun g => { g with droop := capFaster s p g.droop, drLast := s.now }) s)))

/-- The thermal cap after a sample (R467). Answers the record and whether the cap stepped. -/
def thermalStep (s : State) (p t : Nat) (g : Gear) : Gear × Bool :=
  let th := rfld s 0x2080 0 8
  let hy := rfld s 0x2080 8 4
  if t ≥ th then
    match g.thermal with
    | none => ({ g with thermal := some (gearSlower g.run), thStep := s.now, thBelow := none }, true)
    | some c =>
      if s.now ≥ g.thStep + psMs 1 ∧ c < 5 then
        ({ g with thermal := some (gearSlower c), thStep := s.now, thBelow := none }, true)
      else ({ g with thBelow := none }, false)
  else if t ≤ th - hy then
    match g.thBelow with
    | none => ({ g with thBelow := some s.now }, false)
    | some b =>
      if g.thermal.isSome ∧ s.now ≥ b + psMs 10 then
        ({ g with thermal := capFaster s p g.thermal, thBelow := some s.now }, true)
      else (g, false)
  else ({ g with thBelow := none }, false)

/-- THERMAL_SAMPLE (R467, R468, R469): the readings beside the peloton's eight cores. -/
def execThermalSample (p : Fin 8) (temps : List Nat) (s : State) : Host.Outcome State Fault Refusal :=
  let t := temps.foldl max 0
  let (g, stepped) := thermalStep s p t (gearOf s p)
  let s1 := gearMod p (fun _ => { g with temps := temps }) s
  let s2 := if stepped then overCheck p (capStep p s1) else s1
  .next (if t ≥ 115 then raise 0x16 p s2 else s2)

/-- SUPPLY_EXCURSION (R464). -/
def execSupplyExcursion (p : Fin 8) (s : State) : Host.Outcome State Fault Refusal := .next (raise 0x15 p s)

/-- COMMIT of a peloton is written (R456, R457): a code the grade does not offer changes nothing; a slower gear is ignored
when some core or tandem holds more than its capacity at it. -/
def commitWrite (p code : Nat) (s : State) : State :=
  if !gearOffered s code ∨ (code > commitOf s p ∧ !coversAt s p code) then s
  else overCheck p (rfset (aPelCtrl p) 0 3 code s)

/-- COMMIT_GEAR_WRITE (R457). -/
def execCommitGearWrite (p : Fin 8) (code : Fin 8) (s : State) : Host.Outcome State Fault Refusal :=
  .next (if isFatal s then s else commitWrite p code s)

end Sys2Proof.Machine
end

