-- ==== Sys2Proof/Machine/Settings.lean ====
section
/-! DEFINITION. The settings store (R478 to R484). -/

namespace Sys2Proof.Machine

/-- The registers with fields marked NVS, with the mask of those fields (R479 type 1): PWR, FLT, BPM, ETH, TIME, MC, PEL,
CORE and PCIE pages. -/
def nvsRegs : List (Nat × Nat) :=
  [(0x2080, 2 ^ 32 - 1)] ++ (List.range 8).map (fun p => (aPelCtrl p, 7)) ++ [(0x4080, 2 ^ 32 - 1)] ++
  (List.range 16).map (fun p => (aBpm (0x80 + 8 * p), 2 ^ 64 - 1)) ++
  (List.range 16).map (fun p => (aBpm (0x100 + 8 * p), 2 ^ 64 - 1)) ++
  [(0x20080, 2 ^ 32 - 1), (0x21080, 2 ^ 32 - 1)] ++
  (List.range 4).map (fun k => (0x20088 + 8 * k, 2 ^ 64 - 1)) ++ (List.range 4).map (fun k => (0x21088 + 8 * k, 2 ^ 64 - 1)) ++
  [(0x23080, 2 ^ 32 - 1), (0x23090, 2 ^ 64 - 1), (0x23098, 2 ^ 64 - 1)] ++
  (List.range 16).map (fun n => (aMc n 0x80, 3)) ++ (List.range 16).map (fun n => (aMc n 0x88, 2 ^ 32 - 1)) ++
  (List.range 16).map (fun n => (aMc n 0x90, 2 ^ 24 - 1)) ++
  (List.range 8).map (fun p => (0x40000 + p * 0x1000 + 0x98, 2 ^ 32 - 1)) ++
  (List.range 8).map (fun p => (aSteer p, 2 ^ 32 - 1)) ++
  (List.range 8).map (fun p => (0x40000 + p * 0x1000 + 0xBC, 1)) ++
  (List.range 64).map (fun c => (0x50000 + c * 0x1000 + 0x9C, 0xFF00)) ++
  (List.range 3).map (fun i => (0x90000 + i * 0x1000 + 0x88, 2 ^ 32 - 1))

/-- Is generation `a` later than `b`, as a signed difference modulo 2^32 (R480)? -/
def genLater (a b : Nat) : Bool := let d := (a + 2 ^ 32 - b) % 2 ^ 32; decide (0 < d) && decide (d < 2 ^ 31)

/-- The newer valid bank: some true for B (R480). -/
def newerBank (n : Nvs) : Option Bool :=
  if n.a.valid && n.b.valid then some (genLater n.b.gen n.a.gen)
  else if n.a.valid then some false
  else if n.b.valid then some true
  else none

/-- The image whose records start-up loaded. -/
def imageInUse (s : State) : NvsBank := if s.nvs.defaults then {} else if s.nvs.inUseB then s.nvs.b else s.nvs.a

/-- The image captured by a store (R479, R481): every NVS register, the training records, TANDEM_MASK (R194), the fault
classes; or no record. -/
def capture (s : State) (live clear : Bool) : NvsBank :=
  let toB := if s.nvs.defaults then true else !s.nvs.inUseB
  let prev := if toB then s.nvs.b else s.nvs.a
  let gen := match newerBank s.nvs with
    | none => 0
    | some true => s.nvs.b.gen
    | some false => s.nvs.a.gen
  let head : NvsBank := { valid := true, gen := (gen + 1) % 2 ^ 32, stores := (prev.stores + 1) % 2 ^ 32 }
  if clear then head
  else
    { head with
      regs := nvsRegs.foldl (fun t e => tput t e.1 (rget s e.1 &&& e.2)) []
      train := if live then
          ((List.range 16).filter (fun n => (mcOf s n).inService)).map (fun n => (n, (mcOf s n).key, (mcOf s n).delays))
        else (imageInUse s).train
      tandem := maskOf 32 (fun k => (pairOf s k).st == .joined)
      classes := s.flt.cls }

/-- NVS_RESULT takes a result, captured while VALID is 0; VALID is set (R487, R500). -/
def nvsResult (code : Nat) (cmd : Bool) (s : State) : State :=
  let s1 := if rfld s 0x509C 31 1 = 0 then rset 0x509C (code + b2n cmd * 8 + 2 ^ 31) s else s
  pgBlock ⟨.nvs, 0⟩ s1

/-- Start a store (R481, R483). -/
def nvsStart (live clear cmd : Bool) (slot : Option Nat) (s : State) : State :=
  { s with nvs := { s.nvs with write := some {
      toB := if s.nvs.defaults then true else !s.nvs.inUseB, image := capture s live clear, cmd := cmd, slot := slot } } }

/-- STORE_SETTINGS (R481, R483). -/
def execStoreSettings (slot : Nat) (s : State) : Host.Outcome State Fault Refusal :=
  .next (runCmd slot 0x39 anyField (fun c s =>
    if s.nvs.write.isSome then finish slot stBadState (nvsResult 2 false s)
    else nvsStart (decide (c.arg 24 0 1 = 1)) (decide (c.arg 24 1 1 = 1)) false (some slot) (hold slot s)) s)

/-- Who may write NVS_CMD (R482). -/
def nvsFrom (s : State) (req : Req) : Bool :=
  polOpen s 94 && !isFatal s && (match req with
    | .fn f => decide (f.val = 0)
    | .mgc _ => true
    | _ => false)

/-- The sequence is abandoned with a sequence error (R482). -/
def nvsAbandon (s : State) : State := nvsResult 3 true { s with nvs := { s.nvs with seq := none } }

/-- NVS_CMD is written with KEY 0x5A (R482). -/
def nvsArm (req : Req) (op : Fin 4) (s : State) : State :=
  if !nvsFrom s req then s
    else if s.nvs.seq.isSome then nvsAbandon s
    else if op.val = 0 then s
    else { s with nvs := { s.nvs with seq := some (op.val, s.now) } }

/-- NVS_CMD_ARM (R482): a write of KEY 0x5A. -/
def execNvsCmdArm (req : Req) (op : Fin 4) (s : State) : Host.Outcome State Fault Refusal :=
  .next (nvsArm req op s)

/-- The second write, KEY 0xA5 with operation `op` (R482, R483). -/
def nvsSecond (op : Nat) (live clear : Bool) (req : Req) (s : State) : State :=
  if !nvsFrom s req then s
  else
    match s.nvs.seq with
    | none => s
    | some (o, t) =>
      if o ≠ op ∨ s.now > t + psMs 1 then nvsAbandon s
      else
        let s1 := { s with nvs := { s.nvs with seq := none } }
        if s1.nvs.write.isSome then nvsResult 2 true s1 else nvsStart live clear true none s1

/-- NVS_STORE_TRAIN_LIVE (R482 OP 1). -/
def execNvsStoreTrainLive (req : Req) (s : State) : Host.Outcome State Fault Refusal := .next (nvsSecond 1 true false req s)
/-- NVS_STORE_TRAIN_STORED (R482 OP 2). -/
def execNvsStoreTrainStored (req : Req) (s : State) : Host.Outcome State Fault Refusal := .next (nvsSecond 2 false false req s)
/-- NVS_CLEAR (R482 OP 3). -/
def execNvsClear (req : Req) (s : State) : Host.Outcome State Fault Refusal := .next (nvsSecond 3 false true req s)

/-- NVS_CMD_TIMEOUT (R482): no second write within 1 ms. -/
def execNvsCmdTimeout (s : State) : Host.Outcome State Fault Refusal :=
  .next (match s.nvs.seq with
    | none => s
    | some (_, t) => if s.now < t + psMs 1 then s else nvsAbandon s)

/-- NVS_WRITE_DONE (R481, R483): the write and its read-back end. -/
def execNvsWriteDone (readBack : Bool) (s : State) : Host.Outcome State Fault Refusal :=
  .next (match s.nvs.write with
    | none => s
    | some w =>
      let img : NvsBank := if readBack then w.image else { (if w.toB then s.nvs.b else s.nvs.a) with valid := false, stores := w.image.stores }
      let n1 := { s.nvs with write := none }
      let s1 := { s with nvs := if w.toB then { n1 with b := img } else { n1 with a := img } }
      let s2 := nvsResult (if readBack then 0 else 1) w.cmd s1
      let s3 := if readBack then s2 else raise 0x3C 0 s2
      match w.slot with
      | none => s3
      | some sl => finish sl (if readBack then stOk else stNoMemory) s3)

end Sys2Proof.Machine
end

