-- ==== Sys2Proof/Machine/Flr.lean ====
section
/-! DEFINITION. Links of the PCI Express ports (R238, R278, R506), what takes IDE streams out of Secure (R317), and function
level resets (R241, R242, R474). -/

namespace Sys2Proof.Machine

/-! ### Ports -/

/-- A stream leaves Secure (R317, R506). -/
def IdeStream.leave (i : IdeStream) : IdeStream := { i with
  secure := false, mutualAuth := false, peerRoot := false, opRoot := false, live := [], staged := [], keyedBy := none }
/-- Every stream of a port leaves Secure. -/
def ideLeave (p : Nat) (s : State) : State := portMod p (fun q => { q with ide := q.ide.map (fun e => (e.1, e.2.leave)) }) s

/-- EVT_LINK of a port (R278). -/
def evtPort (p : Nat) (s : State) : State :=
  let q := port s p
  evtPf 0x0024 8 (8 + p + b2n (decide (q.link ≠ .down)) * 16 + q.gen * 256 + q.width * 2 ^ 16) 0 s

/-- The service timers of every pair follow the link (R240). -/
def svcSyncAll (s : State) : State := forAll (s.qps.map (·.1)) svcSync s

/-- A port's link changes (R238, R317, R384, R506): GEN, WIDTH or UP sets CHANGED and writes EVT_LINK. -/
def linkGo (p : Nat) (st : LinkSt) (gen width : Nat) (flit : Bool) (s : State) : State :=
  let q := port s p
  let up := decide (st ≠ .down)
  let g := if up then gen else 0
  let w := if up then width else 0
  let changed := decide (q.gen ≠ g) || decide (q.width ≠ w) || decide ((q.link == .down) = up)
  let s0 := if p = 0 then svcSyncAll s else s
  let s1 := portMod p (fun q => { q with link := st, gen := g, width := w, flit := flit && up, l1Exiting := false }) s0
  let s2 := if p = 0 then svcSyncAll s1 else s1
  let s3 := if up then s2 else ideLeave p s2
  let s4 := if !up ∧ p = 0 ∧ q.link ≠ .down then forAll (List.range 8) mbxHostReset s3 else s3
  let s5 := if changed then evtPort p (pgBlock ⟨.pcie, p⟩ (rfset (0x90080 + 0x1000 * p) 16 1 1 s4)) else s4
  if p = 0 ∧ st = .l0 then flushIn (s5.qps.map (·.1)) (fun c => c == .stagedL1 || c == .flushing) s5 else s5

/-- PCIE_LINK_CHANGE (R506): generation 0 takes the link down. Training respects PCIE_CFG, and a sealed port's link stays
down. -/
def execPcieLinkChange (p : Fin 3) (gen : Fin 7) (width : Nat) (flit : Bool) (s : State) : Host.Outcome State Fault Refusal :=
  let cfg := rget s (0x90088 + 0x1000 * p.val)
  .next (if s.boot.perst then s
    else if gen.val = 0 then linkGo p .down 0 0 false s
    else if !polOpen s (88 + p) ∨ width ∉ [1, 2, 4, 8, 16] ∨ gen.val > bitsOf cfg 0 4 ∨ width > bitsOf cfg 4 5 then s
    else linkGo p (if (port s p).link = .l1 then .l1 else .l0) gen width flit s)

/-- PCIE_HOT_RESET (R317, R474): of P0 or P1. -/
def execPcieHotReset (p : Fin 2) (s : State) : Host.Outcome State Fault Refusal := .next (ideLeave (1 + p) s)

/-- PEER_PORT_FLR (R317): FLR of the single function of P0 or P1. -/
def execPeerPortFlr (p : Fin 2) (s : State) : Host.Outcome State Fault Refusal :=
  .next (portMod (1 + p) (fun q => { q with d3 := false, bme := false, pmeEn := false }) (ideLeave (1 + p) s))

/-! ### Function resets -/

/-- Forget the slots of a function wherever a long command still names one. -/
def forgetSlots (gone : Nat → Bool) (s : State) : State :=
  let o := fun (x : Option Nat) => if x.any gone then none else x
  { s with
    pairs := s.pairs.map (fun p => (p.1, { p.2 with joinSlot := o p.2.joinSlot }))
    nvs := { s.nvs with write := s.nvs.write.map (fun w => { w with slot := o w.slot }) }
    mcode := { s.mcode with slot := o s.mcode.slot }
    flt := { s.flt with polders := s.flt.polders.map (fun p => (p.1, { p.2 with admitSlot := o p.2.admitSlot })) } }

/-- Close a session at once as SESSION_CLOSE would, writing no entry (R241). -/
def closeSilent (sid : Nat) (s : State) : State :=
  let s1 := sessMod sid (fun x => { x with silent := true }) s
  let s2 := if (sessOf s1 sid).st = .closing then s1 else closeSession sid none s1
  freeSession sid (sessMod sid (fun x => { x with closeSlot := none }) (abandon sid s2))

/-- The sessions, queues, slots, page and buffers of a function (R241, R498). -/
def resetFunction (fn : Nat) (s : State) : State :=
  let sids := (s.sess.filter (fun p => p.2.st != .free && p.2.owner == fn)).map (·.1)
  let s1 := forAll sids closeSilent s
  let base := hqBase fn
  let s2 := forgetSlots (fun i => match tfind s1.slots i with
    | some c => c.fn == fn
    | none => false) s1
  let s3 := { s2 with
    slots := s2.slots.filter (fun c => c.2.fn != fn)
    qps := (s2.qps.filter (fun q => q.1 / 256 != fn))
    deferred := s2.deferred.filter (fun p => p.1 / 256 != fn)
    doorbells := s2.doorbells.filter (fun d => d.1 / 512 != fn)
    regs := s2.regs.filter (fun r => !(decide (base ≤ r.1) && decide (r.1 < base + 0x1000))) }
  let s4 := { s3 with qps := tput s3.qps (qkey fn 0) {} }
  let held := (s4.bpm.bufs.filter (fun b => b.2.alloc && b.2.hostHeld && b.2.owner == fn)).map (fun b =>
    handleOf (b.1 / 2 ^ 20) (b.1 % 2 ^ 20) b.2.gen)
  let s5 := forAll held (fun h s => dropRef 12 h (bufMod (hKey h) (fun b => { b with hostHeld := false }) s)) s4
  cqRelease (funcMod fn (fun f => { f with aqReady := false }) s5)

/-- The configuration space of a function after FLR: D0, no Bus Master, MSI-X masked (PCI Express; log 43). -/
def resetConfig (fn : Nat) (s : State) : State :=
  funcMod fn (fun f => { f with d3 := false, bme := false, pmeEn := false, pmeSent := false, mask := 0xFFFFFFFF#32, pend := 0#32 }) s

/-- FLR of the PF: every VF, which VF Enable removes, then the PF, and the host side of the mailboxes (R241, R384). -/
def pfFlr (s : State) : State :=
  let vfs := (List.range 63).map (· + 1)
  let s1 := forAll (vfs.filter (fun n => (func s n).enabled)) (fun n s =>
    let s1 := resetFunction n s
    funcMod n (fun f => f.fresh false) { s1 with qps := s1.qps.filter (fun q => q.1 / 256 != n) }) s
  let s2 := resetConfig 0 (resetFunction 0 (portMod 0 (fun p => { p with numVfs := 0 }) s1))
  srOrders (forAll (List.range 8) mbxHostReset s2)

/-- VF_FLR (R241). -/
def execVfFlr (vf : Fin 64) (s : State) : Host.Outcome State Fault Refusal :=
  .next (if vf.val = 0 ∨ !(func s vf).enabled ∨ isFatal s ∨ s.boot.warm then s
    else evtPf 0x0029 10 vf 0 (resetConfig vf (resetFunction vf s)))

/-- PF_FLR (R241, R474): FLR of the PF, or a hot reset or link disable of port H. IDE streams of the port leave Secure
(R317). -/
def execPfFlr (s : State) : Host.Outcome State Fault Refusal :=
  .next (if isFatal s ∨ s.boot.warm then s else pfFlr (ideLeave 0 s))

/-- HQ_AQ_CFG is written with EN 0 (R241, R242). -/
def aqDisable (fn : Fin 64) (s : State) : State :=
  if !hostReach s fn ∨ !bitAt (rget s (hqBase fn + 0x90)) 31 then s else resetFunction fn s

/-- ADMIN_QUEUE_DISABLE (R241, R242): HQ_AQ_CFG.EN of a function is written 0. -/
def execAdminQueueDisable (fn : Fin 64) (s : State) : Host.Outcome State Fault Refusal :=
  .next (aqDisable fn s)

end Sys2Proof.Machine
end

