-- ==== Sys2Proof/Machine/Keys.lean ====
section
/-! DEFINITION. SEC's queued commands: key agreement (R301 to R306), attestation (R288 to R290), cluster enrolment (R309 to
R313), debug unlock (R321 to R323), and the random bit generator (R287). -/

namespace Sys2Proof.Machine

/-! ### SEC's state -/

/-- Count in SEC_CNT[i] (R329, R500). -/
def secCnt (i : Nat) (s : State) : State := pgBlock ⟨.sec, 0⟩ (rcnt (0x6098 + 4 * i) 0 32 1 s)

/-- A verification of signatures or certificates failed: SEC_CNT[2] counts it and the command ends with ST_AUTH_FAIL. -/
def authFail (slot : Nat) (s : State) : State := finish slot stAuthFail (secCnt 2 s)

/-- Draw a random number from the generator (R287): its name, and the state. -/
def draw (s : State) : Nat × State :=
  (Config.random s.sec.drbg, { s with sec := { s.sec with drbg := s.sec.drbg + 1 } })

/-- Is a hash slot revoked: either of its two bits set (R283)? -/
def revoked (bits slot : Nat) : Bool := bitsOf bits (2 * slot) 2 != 0
/-- Is the number the hash of an unrevoked vendor key (R293, R300)? -/
def vendorKey (s : State) (h : Nat) : Bool :=
  h != 0 && (List.range 4).any (fun i => tget 0 s.sec.vendorHash i == h && !revoked s.sec.vendorRevoke i)
/-- The operator slot in use: the lowest that holds a hash and is not revoked. -/
def opSlot (s : State) : Option Nat :=
  (List.range 2).find? (fun i => tget 0 s.sec.opHash i != 0 && !revoked s.sec.opRevoke i)
/-- SHA-384 of the operator key in use, 0 for none. -/
def opKey (s : State) : Nat := match opSlot s with
  | none => 0
  | some i => tget 0 s.sec.opHash i
/-- Bytes of the OTP SVN counters, and of the running images' SVNs (R290, R329). -/
def otpSvn (s : State) : Nat := ((List.range 4).map (fun i => tget 0 s.sec.svn i * 2 ^ (8 * i))).sum
def runSvn (s : State) : Nat := ((List.range 4).map (fun i => (tget ({} : Img) s.sec.images i).svn * 2 ^ (8 * i))).sum
/-- Cluster ID and generation, 0 while not enrolled (R313). -/
def clusterIds (s : State) : Nat × Nat := (clusterId s).getD (0, 0)

/-- The mode byte of R288. -/
def idMode (s : State) : Nat := b2n ((s.sec.lc == 1 || s.sec.lc == 2) && s.sec.dbgLevel == 0)
/-- The name of the identity key (R288). -/
def idKey (s : State) : Nat := Config.derive s.board.serial (idMode s)

/-- The numbers a settings image is made of, for its hash (R479). -/
def NvsBank.numbers (b : NvsBank) : List Nat :=
  [b.gen, b.stores, b.tandem] ++ (b.regs.map (fun e => [e.1, e.2])).flatten ++
    (b.train.map (fun e => [e.1] ++ e.2.1 ++ (e.2.2.map (fun d => [d.1, d.2])).flatten)).flatten ++
    (b.classes.map (fun e => [e.1, e.2])).flatten
/-- HASH_SETTINGS (R290, R480): zeros with no valid image. -/
def settingsHash (s : State) : Nat := if s.nvs.defaults then 0 else Config.digest (imageInUse s).numbers

/-! ### Reports -/

/-- `n` little-endian words of a number from word `i` on. -/
def putNum (i v : Nat) : Nat → Tab Nat → Tab Nat
  | 0, t => t
  | n + 1, t => putW32 i v (putNum (i + 1) (v / 2 ^ 32) n t)

/-- The first 512 bytes of the attestation report (R290), from word 0. -/
def reportBody (s : State) (nonce binding : Nat) : Tab Nat :=
  let hash := fun i => (tget ({} : Img) s.sec.images i).hash
  putW32 0 0x54414C4E <| putW32 1 (1 + (b2n (hash 3 != 0) + b2n s.boot.recovery * 2) * 2 ^ 16) <|
  putW64 2 s.board.serial <|
  putW32 4 (s.sec.lc + s.sec.dbgLevel * 2 ^ 8 + (0x11 + b2n s.board.grade14 * 2 ^ 8) * 2 ^ 16) <| putW32 5 (cdidOf s) <|
  putW32 6 (clusterIds s).1 <| putW32 7 (clusterIds s).2 <| putW32 8 (otpSvn s) <| putW32 9 (runSvn s) <|
  putW32 10 s.sec.injCount <| putW32 11 s.sec.injLast <| putW64 12 (devTime s) <|
  putNum 16 (hash 0) 12 <| putNum 28 (hash 1) 12 <| putNum 40 (hash 3) 12 <| putNum 52 s.mcode.run.hash 12 <|
  putW64 64 (mcodeVersion s) <| putNum 68 (settingsHash s) 12 <| putNum 80 (opKey s) 12 <| putNum 92 nonce 8 <|
  putNum 100 binding 12 []

/-- The 608 bytes of the report with its signature (R290), placed from word `at0` of a buffer. -/
def reportAt (at0 : Nat) (s : State) (nonce binding : Nat) (t : Tab Nat) : Tab Nat :=
  let b := reportBody s nonce binding
  let sig := Config.sign (idKey s) ((List.range 128).map (fun i => tget 0 b i))
  b.foldl (fun t e => putW32 (at0 + e.1) e.2 t) (putNum (at0 + 128) sig 24 t)

/-- Write a result of words, and after it the identity chain when `chain`, to host memory. -/
def writeResult (fn addr len : Nat) (t : Tab Nat) (chain : Bool) (s : State) : State :=
  let s1 := emit (.hostWr fn addr len false t) s
  if chain then emit (.chain fn (addr + len) s.sec.chainLen) s1 else s1

/-! ### The frame -/

/-- OP of KEY_AGREE, CLUSTER_ENROL and DEBUG_UNLOCK. -/
def opOf (c : Slot) : Nat := c.arg 32 0 4

/-- The frame of one OP of a command with several: the row of OP `op` runs the commands that carry it, and the row of OP 0
those that carry a reserved one, above `top`, which fails the field check (R225). -/
def opCmd (slot opc op top : Nat) (ok : Slot → State → Bool) (body : Slot → State → State) (s : State) : State :=
  match tfind s.slots slot with
  | none => s
  | some c =>
    if opOf c = op ∨ (op = 0 ∧ opOf c > top) then
      runCmd slot opc (fun c s => decide (opOf c ≤ top) && ok c s) body s
    else s

/-! ### Key agreement (R301 to R306) -/

/-- States that accept KEY_AGREE. -/
def keyStates : List SState := [.bound, .active, .quiesced, .stranded]

/-- New keys of a session (R306): RTP keeps the old send key until the first picture decided from now on; the receive key is
new at once, and the old one stays, unless an older one still does. -/
def installKeys (sid suite send recv : Nat) (s : State) : State :=
  sessMod sid (fun x =>
    let held := x.tr.oldKeyUntil.isSome
    let old := if held then x.keys.oldRecv else if x.tr.keyed then some x.keys.recv else none
    { x with
      nw := { x.nw with srtpSuite := suite }
      keys := { x.keys with recv := recv, oldRecv := old, nextSend := some send }
      tr := { x.tr with
        keyGen := x.tr.keyGen + 1, keyed := true, rekeyPending := true
        oldKeyUntil := if held then x.tr.oldKeyUntil else if x.tr.keyed then some none else none
        oldReplay := if held then x.tr.oldReplay else x.tr.replay
        oldHighest := if held then x.tr.oldHighest else x.tr.highest
        replay := [], highest := 0 } }) s

/-- KEY_AGREE AGREE (R301 to R306): what the device read at PTR0, none for a failed read, and whether the write of M2 went
through. -/
def execKeyAgreeAgree (slot : Nat) (m1 : Option KeyMsg) (ok : Bool) (s : State) : Host.Outcome State Fault Refusal :=
  .next (opCmd slot 0x40 0 1 anyField (fun c s =>
    let x := sessOf s c.sid
    if x.ctxLost ∨ !keyStates.contains x.st then finish slot stBadState s
    else
      match m1 with
      | none => finish slot stDmaError s
      | some m =>
        let len := 824 + s.sec.chainLen
        if !m.form ∨ m.suite > 1 then finish slot stInvalidField s
        else if x.protected' ∧ !(m.cert && m.sig && x.pol.playerRoots.contains m.root) then authFail slot s
        else if c.arg 28 0 32 < len then complete slot stBufferShort { r0 := len, sid := some c.sid } s
        else if !ok then finish slot stDmaError s
        else
          let (eph, s1) := draw s
          let (nd, s2) := draw s1
          let head : Tab Nat :=
            putW32 0 0x324B4C4E <| putW32 1 (1 + b2n x.protected' * 2 ^ 16) <| putNum 2 (Config.derive eph 0 % 2 ^ 776) 25 <|
            putNum 27 nd 8 <| putW32 35 x.nw.ssrc <| putW32 36 (x.gid % 2 ^ 24) <| putW64 37 x.epoch <|
            putW32 39 (x.tr.keyGen + 1) <| putW32 40 m.suite <| putNum 41 m.hash 12 []
          let mh := Config.digest ((List.range 53).map (fun i => tget 0 head i))
          let m2 := reportAt 53 s2 (m.hash % 2 ^ 256) mh (putW32 205 s.sec.chainLen head)
          let z := Config.digest [eph, m.hash, mh]
          let s3 := installKeys c.sid m.suite (1 + Config.derive z 0) (1 + Config.derive z 1) s2
          let s4 := sessMod c.sid (fun x => { x with tr := { x.tr with rekeyWait := false } }) s3
          complete slot stOk { r0 := len, sid := some c.sid } (writeResult c.fn c.ptr1 824 m2 true s4)) s)

/-- KEY_AGREE SET (R301). -/
def execKeyAgreeSet (slot : Nat) (k : Option KeySet) (s : State) : Host.Outcome State Fault Refusal :=
  .next (opCmd slot 0x40 1 1 anyField (fun c s =>
    let x := sessOf s c.sid
    if x.ctxLost ∨ !keyStates.contains x.st then finish slot stBadState s
    else if x.protected' then finish slot stProtected s
    else
      match k with
      | none => finish slot stDmaError s
      | some k =>
        if k.suite > 1 then finish slot stInvalidField s
        else complete slot stOk { sid := some c.sid } (installKeys c.sid k.suite k.send k.recv s)) s)

/-! ### Attestation -/

/-- ATTEST (R289, R290): whether the host write went through. -/
def execAttest (slot : Nat) (ok : Bool) (s : State) : Host.Outcome State Fault Refusal :=
  .next (runCmd slot 0x41 anyField (fun c s =>
    let chain := decide (c.arg 28 13 1 = 1)
    let len := 608 + (if chain then s.sec.chainLen else 0)
    if c.arg 28 12 1 = 1 ∧ !owns s c.fn (c.arg 28 0 12) then finish slot stBadSid s
    else if c.arg 24 0 32 < len then complete slot stBufferShort { r0 := len } s
    else if !ok then finish slot stDmaError s
    else complete slot stOk { r0 := len }
      (writeResult c.fn c.ptr0 608 (reportAt 0 s (c.arg 32 0 256) 0 []) chain s)) s)

/-! ### Cluster enrolment (R309 to R313) -/

/-- The frame of CLUSTER_ENROL: OPERATIONAL only. SEC's record writes wait for a running store (R483); `writes`: the
operation writes the record. -/
def enrolCmd (slot op : Nat) (writes : Bool) (body : Slot → State → State) (s : State) : State :=
  if writes && s.nvs.write.isSome then s
  else opCmd slot 0x42 op 4 anyField (fun c s => if s.sec.lc ≠ 2 then finish slot stNotPermitted s else body c s) s

/-- CLUSTER_ENROL REQUEST (R310). -/
def execClusterEnrolRequest (slot : Nat) (ok : Bool) (s : State) : Host.Outcome State Fault Refusal :=
  .next (enrolCmd slot 0 false (fun c s =>
    let len := 752 + s.sec.chainLen
    if c.arg 28 0 32 < len then complete slot stBufferShort { r0 := len } s
    else if !ok then finish slot stDmaError s
    else
      let (eph, s1) := draw s
      let (ne, s2) := draw s1
      let head : Tab Nat := putW32 0 0x52454C4E <| putW32 1 1 <| putNum 2 (Config.derive eph 0 % 2 ^ 776) 25 <| putNum 27 ne 8 []
      let binding := Config.digest ((List.range 35).map (fun i => tget 0 head i))
      let t := reportAt 35 s2 (ne % 2 ^ 256) binding (putW32 187 s.sec.chainLen head)
      let h := Config.digest ((List.range 188).map (fun i => tget 0 t i))
      complete slot stOk { r0 := len }
        (writeResult c.fn c.ptr1 752 t true { s2 with sec := { s2.sec with enrol := some (eph, h) } })) s)

/-- Does a ticket answer this device's ENROL_REQ under the operator key in use (R311, R312)? -/
def ticketOk (s : State) (t : Ticket) (op : Nat) : Bool :=
  t.good && decide (t.op = op) && decide (t.cluster ≠ 0) && decide (t.serial = s.board.serial) && decide (t.keyHash ≠ 0) &&
    decide (t.keyHash = opKey s) && s.sec.enrol.any (fun e => e.2 == t.reqHash)

/-- Enrol the device: the record in NVS, and the keys in SEC's working store (R313). -/
def enrolAs (cl gen cdid key wrk : Nat) (s : State) : State :=
  { s with sec := { s.sec with cluster := some (cl, gen, cdid % 2 ^ 12, key, wrk), loaded := decide (s.sec.dbgLevel = 0) } }

/-- CLUSTER_ENROL CREATE (R311, R313). -/
def execClusterEnrolCreate (slot : Nat) (t : Option Ticket) (s : State) : Host.Outcome State Fault Refusal :=
  .next (enrolCmd slot 1 true (fun _ s =>
    if s.sec.cluster.isSome then finish slot stBadState s
    else
      match t with
      | none => finish slot stDmaError s
      | some t =>
        match t.wrk with
        | some wrk =>
          if !ticketOk s t 0 then authFail slot s
          else
            let (key, s1) := draw s
            finish slot stOk (enrolAs t.cluster t.gen t.cdid (1 + key) wrk s1)
        | none => authFail slot s) s)

/-- What OFFER verifies (R312). -/
def offerOk (s : State) (e : EnrolReq) (t : Ticket) : Bool :=
  e.good && decide (e.lc = 2) && decide (e.dbg = 0) && (List.range 4).all (fun i => decide (tget 0 s.sec.svn i ≤ e.svns.getD i 0)) &&
    t.good && decide (t.op = 1) && decide (t.serial = e.serial) && decide ((t.cluster, t.gen) = clusterIds s) &&
    decide (t.reqHash = e.hash) && decide (t.keyHash ≠ 0) && decide (t.keyHash = opKey s)

/-- CLUSTER_ENROL OFFER (R312). -/
def execClusterEnrolOffer (slot : Nat) (req : Option (EnrolReq × Ticket)) (ok : Bool) (s : State) :
    Host.Outcome State Fault Refusal :=
  .next (enrolCmd slot 2 false (fun c s =>
    match s.sec.cluster with
    | none => finish slot stBadState s
    | some (cl, gen, _, key, wrk) =>
      match req with
      | none => finish slot stDmaError s
      | some (e, t) =>
        let len := 872 + s.sec.chainLen
        if !s.sec.loaded then finish slot stBadState s
        else if !offerOk s e t then authFail slot s
        else if c.arg 28 0 32 < len then complete slot stBufferShort { r0 := len } s
        else if !ok then finish slot stDmaError s
        else
          let (eph, s1) := draw s
          let wrap := Config.derive (Config.digest [eph, e.hash]) (Config.digest [key, wrk])
          let head : Tab Nat :=
            putW32 0 0x52474C4E <| putW32 1 1 <| putNum 2 (Config.derive eph 0 % 2 ^ 776) 25 <| putNum 27 e.hash 12 <|
            putNum 39 wrap 20 <| putW32 63 cl <| putW32 64 gen []
          let binding := Config.digest ((List.range 65).map (fun i => tget 0 head i))
          let g := reportAt 65 s1 (e.hash % 2 ^ 256) binding (putW32 217 s.sec.chainLen head)
          complete slot stOk { r0 := len } (writeResult c.fn c.ptr1 872 g true s1)) s)

/-- CLUSTER_ENROL ACCEPT (R312, R313). -/
def execClusterEnrolAccept (slot : Nat) (req : Option (Grant × Ticket)) (s : State) : Host.Outcome State Fault Refusal :=
  .next (enrolCmd slot 3 true (fun _ s =>
    if s.sec.cluster.isSome then finish slot stBadState s
    else
      match req with
      | none => finish slot stDmaError s
      | some (g, t) =>
        match g.keys with
        | some (key, wrk) =>
          if !g.good ∨ g.lc ≠ 2 ∨ g.dbg ≠ 0 ∨ (g.cluster, g.gen) ≠ (t.cluster, t.gen) ∨ (g.repCluster, g.repGen) ≠ (t.cluster, t.gen) ∨
              g.reqHash ≠ t.reqHash ∨ !ticketOk s t 1 then authFail slot s
          else finish slot stOk (enrolAs t.cluster t.gen t.cdid key wrk s)
        | none => authFail slot s) s)

/-- Erase the cluster record (R313). -/
def enrolErase (s : State) : State := { s with sec := { s.sec with cluster := none, loaded := false } }

/-- CLUSTER_ENROL LEAVE (R313). -/
def execClusterEnrolLeave (slot : Nat) (s : State) : Host.Outcome State Fault Refusal :=
  .next (enrolCmd slot 4 true (fun _ s =>
    if s.sec.cluster.isNone then finish slot stBadState s else finish slot stOk (enrolErase s)) s)

/-! ### Debug unlock (R321 to R323) -/

/-- LEVEL of DEBUG_UNLOCK. -/
def levelOf (c : Slot) : Nat := c.arg 32 4 4
/-- Is LEVEL 1 or 2? -/
def levelOk (c : Slot) (_ : State) : Bool := decide (1 ≤ levelOf c) && decide (levelOf c ≤ 2)

/-- DEBUG_UNLOCK challenge (R322). -/
def execDebugUnlockChallenge (slot : Nat) (ok : Bool) (s : State) : Host.Outcome State Fault Refusal :=
  .next (opCmd slot 0x44 0 1 levelOk (fun c s =>
    if c.arg 28 0 32 < 48 then complete slot stBufferShort { r0 := 48 } s
    else if !ok then finish slot stDmaError s
    else
      let (n, s1) := draw s
      let t : Tab Nat := putW64 0 s.board.serial <| putNum 2 n 8 <| putW32 10 (s.sec.lc + levelOf c * 2 ^ 8) []
      complete slot stOk { r0 := 48 }
        (emit (.hostWr c.fn c.ptr1 48 false t) { s1 with sec := { s1.sec with dbgChal := some (n, levelOf c) } })) s)

/-- Take the SRTP keys of a session away (R323): it holds none until a new KEY_AGREE. -/
def Session.wipeKeys (x : Session) : Session :=
  { x with
    keys := { certHash := x.keys.certHash }
    tr := { x.tr with keyed := false, rekeyPending := false, oldKeyUntil := none } }

/-- What an unlock does before it takes effect (R323). -/
def unlockWipe (s : State) : State :=
  let prot := (s.sess.filter (fun e => e.2.protected' && e.2.st != .free && e.2.st != .closing)).map (·.1)
  let s1 := forAll prot (fun sid s => closeSession sid none s) s
  let s2 := { s1 with sess := s1.sess.map (fun e => (e.1, e.2.wipeKeys)) }
  let (w, s3) := draw s2
  let s4 := { s3 with sec := { s3.sec with devWrap := w, loaded := false } }
  forAll ((s4.sess.filter (fun e => e.2.st != .free && e.2.st != .exported)).map (·.1)) wmLoad s4

/-- DEBUG_UNLOCK response (R322, R323): `resp`: what was read at PTR0, none for a failed read: whether the signature over the
challenge verifies under its chain, and the hash of the chain's root key. -/
def execDebugUnlockResponse (slot : Nat) (resp : Option (Bool × Nat)) (s : State) : Host.Outcome State Fault Refusal :=
  .next (opCmd slot 0x44 1 1 levelOk (fun c s =>
    let s0 := { s with sec := { s.sec with dbgChal := none } }
    match resp, s.sec.dbgChal with
    | none, _ => finish slot stDmaError s
    | some _, none => authFail slot s
    | some (sig, root), some (_, level) =>
      if !sig ∨ !vendorKey s root ∨ level ≠ levelOf c then authFail slot s0
      else
        let s1 := unlockWipe s0
        finish slot stOk { s1 with sec := { s1.sec with dbgLevel := level } }) s)

/-! ### Random bits -/

/-- DRBG_RESEED (R287): the generator is reseeded; a failed health test of the entropy source raises SEC's fatal source. -/
def execDrbgReseed (healthy : Bool) (s : State) : Host.Outcome State Fault Refusal :=
  .next (if healthy then { s with sec := { s.sec with seededAt := s.sec.drbg } } else raise 0x3F 4 s)

end Sys2Proof.Machine
end

