-- ==== Sys2Proof/Machine/SecMail.lean ====
section
/-! DEFINITION. The serving side of the mailboxes and the secure requests (R284, R285, R292, R293, R319, R320, R381). -/

namespace Sys2Proof.Machine

/-- Is the mailbox in authenticated mode (R320): OPERATIONAL, SEC firmware loaded, no recovery? -/
def mbxAuth (s : State) : Bool :=
  decide (s.sec.lc = 2) && !s.boot.recovery && (tget ({} : Img) s.sec.images 0).good

/-- Does an identity of SEC_MBX_BIND[c] name the sender (R320, R329)? -/
def bound (s : State) (c : Nat) (m : InMsg) : Bool :=
  let v := rget s (0x60C0 + 8 * c)
  [0, 32].any (fun o =>
    let ty := bitsOf v (o + 16) 2
    if m.mctp then decide (ty = 2) && decide (bitsOf v o 8 = m.sender) else decide (ty = 1) && decide (bitsOf v o 16 = m.sender))

/-- MBX_IN_READ (R319, R381, R382): the serving side reads the oldest complete message: SEC on channels 0 to 3, where a request
that is not accepted is discarded, the management firmware on 4 to 7. -/
def execMbxInRead (c : Fin 8) (s : State) : Host.Outcome State Fault Refusal :=
  let m := mbxOf s c
  .next (match m.inMsgs with
    | [] => s
    | x :: l =>
      if s.boot.perst ∨ (c.val ≥ 4 ∧ (!polOpen s 94 ∨ isFatal s)) then s
      else
        let s1 := inSpace c m.inFree (mbxMod c (fun m => { m with inMsgs := l }) s)
        if c.val ≥ 4 then emit (.mbx c x.words) s1
        else if if mbxAuth s then x.auth else bound s c x then
          emit (.mbx c x.words) { s1 with sec := { s1.sec with reqs := s1.sec.reqs ++ [c.val] } }
        else secCnt 1 s1)

/-- Serve an accepted request of the channel with `body`; SEC's record writes wait for a running store (R483). -/
def secReq (c : Fin 4) (nvs : Bool) (body : State → State) (s : State) : State :=
  if !s.sec.reqs.contains c.val ∨ (nvs ∧ s.nvs.write.isSome) then s
  else body { s with sec := { s.sec with reqs := s.sec.reqs.erase c.val } }

/-- An OTP write: where its read-back fails, the OTP source is raised and the state is not entered (R284). -/
def burn (ok : Bool) (f : Sec → Sec) (s : State) : State := if ok then { s with sec := f s.sec } else raise 0x3E 0 s

/-- The lifecycle state the OTP holds: the highest burnt group (R285). What it decides (R286) each command asks of `sec.lc`. -/
def lcBurntState (b : Nat) : Nat := if bitAt b 2 then 3 else if bitAt b 1 then 2 else b2n (bitAt b 0)
/-- Is the device in one of the states, with no transition pending? -/
def lcIn (s : State) (l : List Nat) : Bool := l.contains s.sec.lc && decide (lcBurntState s.sec.lcBurnt = s.sec.lc)

/-- LC_PROVISION (R285): whether the token's signature verifies, the hash of its key, the SERIAL it names, whether the OTP write
reads back. -/
def execLcProvision (c : Fin 4) (sig : Bool) (key serial : Nat) (otp : Bool) (s : State) : Host.Outcome State Fault Refusal :=
  .next (secReq c false (fun s =>
    if !lcIn s [0] ∨ !s.sec.seed ∨ s.board.serial = 0 ∨ tget 0 s.sec.vendorHash 0 = 0 then s
    else if !sig ∨ !vendorKey s key ∨ serial ≠ s.board.serial then secCnt 2 s
    else burn otp (fun k => { k with lcBurnt := setBits k.lcBurnt 0 1 1 }) s) s)

/-- LC_ACTIVATE (R285): whether the signature over SERIAL and the SEC nonce verifies under the key given, the key's hash, and
whether the two OTP writes read back. -/
def execLcActivate (c : Fin 4) (sig : Bool) (key : Nat) (otpHash otpGroup : Bool) (s : State) : Host.Outcome State Fault Refusal :=
  .next (secReq c false (fun s =>
    let h := tget 0 s.sec.opHash 0
    if !lcIn s [1] ∨ key = 0 ∨ (h ≠ 0 ∧ h ≠ key) then s
    else if !sig then secCnt 2 s
    else
      let s1 := burn otpHash (fun k => { k with opHash := tput k.opHash 0 key }) s
      if otpHash then burn otpGroup (fun k => { k with lcBurnt := setBits k.lcBurnt 1 1 1 }) s1 else s1) s)

/-- LC_RETURN (R285). -/
def execLcReturn (c : Fin 4) (sig : Bool) (key serial : Nat) (otp : Bool) (s : State) : Host.Outcome State Fault Refusal :=
  .next (secReq c true (fun s =>
    if !lcIn s [1, 2] then s
    else if !sig ∨ !vendorKey s key ∨ serial ≠ s.board.serial then secCnt 2 s
    else
      let live := (s.sess.filter (fun e => e.2.st != .free && e.2.st != .closing)).map (·.1)
      burn otp (fun k => { k with lcBurnt := setBits k.lcBurnt 2 1 1 })
        (enrolErase (forAll live (fun sid s => closeSession sid none s) s))) s)

/-- SVN counter of an image type, in the order of R283. -/
def svnIdx (ty : Nat) : Nat := [0, 1, 3, 2, 2].getD ty 0

/-- Does SEC accept the image (R293)? -/
def imgOk (s : State) (m : Img) : Bool :=
  let op := decide (m.ty = 2)
  let slot := if op then m.signer - 16 else m.signer
  m.good && decide (m.ty ≤ 4) && decide (m.svn ≤ 64) && decide (m.keyHash ≠ 0) &&
    (if op then decide (16 ≤ m.signer) && decide (m.signer ≤ 17) && decide (tget 0 s.sec.opHash slot = m.keyHash) &&
        !revoked s.sec.opRevoke slot
      else decide (m.signer ≤ 3) && decide (tget 0 s.sec.vendorHash slot = m.keyHash) && !revoked s.sec.vendorRevoke slot) &&
    decide (tget 0 s.sec.svn (svnIdx m.ty) ≤ m.svn)

/-- Write an image to a flash area (R291). -/
def flashPut (area : Nat) (m : Img) (s : State) : State :=
  emit (.flash area m.ver) { s with sec := { s.sec with flash := tput s.sec.flash area m } }

/-- The lowest free patch slot (R413). -/
def patchFree (s : State) : Option Nat := (List.range 16).find? (fun i => (tfind s.sec.patches i).isNone)
/-- Write a patch to a slot; its area code is 6 + slot. -/
def patchPut (i : Nat) (m : Img) (s : State) : State :=
  emit (.flash (6 + i) m.ver) { s with sec := { s.sec with patches := tput s.sec.patches i m } }

/-- FW_STAGE (R293, R320). -/
def execFwStage (c : Fin 4) (m : Img) (s : State) : Host.Outcome State Fault Refusal :=
  .next (secReq c false (fun s =>
    if !imgOk s m then secCnt 2 s
    else
      match m.ty with
      | 0 => flashPut 1 m s
      | 1 => flashPut 3 m s
      | 2 => flashPut 4 m s
      | 3 => flashPut 5 m { s with sec := { s.sec with patches := [] } }
      | _ => match patchFree s with
        | none => s
        | some i => patchPut i m s) s)

/-- OPKEY_ROTATE (R320): whether the signature by the key in use verifies, the new key's hash, and whether the OTP writes read
back. The cluster record is erased (R313). -/
def execOpkeyRotate (c : Fin 4) (sig : Bool) (key : Nat) (otp : Bool) (s : State) : Host.Outcome State Fault Refusal :=
  .next (secReq c true (fun s =>
    if !lcIn s [2] ∨ key = 0 ∨ tget 0 s.sec.opHash 1 ≠ 0 ∨ revoked s.sec.opRevoke 0 then s
    else if !sig then secCnt 2 s
    else if !otp then raise 0x3E 0 s
    else enrolErase { s with sec := { s.sec with opHash := tput s.sec.opHash 1 key, opRevoke := setBits s.sec.opRevoke 0 2 3 } }) s)

/-- VENDOR_REVOKE (R320): the slot, whether the signature verifies, and the hash of the signing key. -/
def execVendorRevoke (c : Fin 4) (slot : Fin 4) (sig : Bool) (key : Nat) (otp : Bool) (s : State) : Host.Outcome State Fault Refusal :=
  .next (secReq c false (fun s =>
    let other := (List.range 4).any (fun i =>
      decide (i ≠ slot.val) && decide (key ≠ 0) && decide (tget 0 s.sec.vendorHash i = key) && !revoked s.sec.vendorRevoke i)
    if !lcIn s [1, 2] then s
    else if !sig ∨ !other then secCnt 2 s
    else burn otp (fun k => { k with vendorRevoke := setBits k.vendorRevoke (2 * slot.val) 2 3 }) s) s)

/-- BIND_WRITE (R320): the four SEC_MBX_BIND values, stored in NVS. -/
def execBindWrite (c : Fin 4) (v0 v1 v2 v3 : W64) (s : State) : Host.Outcome State Fault Refusal :=
  .next (secReq c true (fun s =>
    if !lcIn s [0] then s
    else { s with sec := { s.sec with 
      bind := tset 0 (tset 0 (tset 0 (tset 0 [] 0 v0.toNat) 1 v1.toNat) 2 v2.toNat) 3 v3.toNat } }) s)

end Sys2Proof.Machine
end

