-- ==== Sys2Proof/Machine/Microcode.lean ====
section
/-! DEFINITION. The micro-sequencers of the cores (R394 to R408), their stores, patches and activation (R409 to R418), and the
SRAM scrub (R507). -/

namespace Sys2Proof.Machine

/-! ### Words -/

/-- Fields of a microword (R396). -/
def mwNaddr (w : Nat) : Nat := bitsOf w 0 10
def mwNext (w : Nat) : Nat := bitsOf w 10 3
def mwCond (w : Nat) : Nat := bitsOf w 13 5
def mwPol (w : Nat) : Bool := bitAt w 18
def mwTarget (w : Nat) : Nat := bitsOf w 19 12
/-- Fields of a nanoword (R400): cycles, commit point, HANDOFF, NOTIFY. -/
def nwCycles (n : Nat) : Nat := bitsOf n 232 11 + 1
def nwCp (n : Nat) : Bool := bitAt n 243
def nwHandoff (n : Nat) : Bool := bitAt n 244
def nwNotify (n : Nat) : Bool := bitAt n 245

/-- Value of a microword's condition after POL (R398): `flag` is that of conditions 2 to 31. -/
def condVal (x : Ctx) (w : Nat) (flag : Bool) : Bool :=
  let c := if mwCond w = 0 then true else if mwCond w = 1 then x.stack.isEmpty else flag
  c != mwPol w

/-- The next microaddress and micro-stack (R397); none where a CALL or RET has no room. RESUME is the caller's. -/
def nextUa (x : Ctx) (w : Nat) (c : Bool) (key : Nat) : Option (Nat × List Nat) :=
  let u1 := (x.ua + 1) % 4096
  let t := mwTarget w
  match mwNext w with
  | 0 => some (u1, x.stack)
  | 1 => some (if c then t else u1, x.stack)
  | 2 => some (t, x.stack)
  | 3 => some ((t + key) % 4096, x.stack)
  | 4 => if x.stack.length ≥ 8 then none else some (t, u1 :: x.stack)
  | 5 => match x.stack with
    | [] => none
    | a :: l => some (a, l)
  | 6 => some (if c then u1 else x.ua, x.stack)
  | _ => some (u1, x.stack)

/-! ### Contexts -/

/-- A context as it starts after the stores are loaded: at its vector (R395, R416). -/
def ctxInit (k : Nat) : Ctx := { ua := k, restart := k }
/-- A context of a core. -/
def Core.context (c : Core) (k : Nat) : Ctx := tget (ctxInit k) c.ctx k
/-- Change a context. -/
def ctxMod (i k : Nat) (f : Ctx → Ctx) (s : State) : State :=
  coreMod i (fun c => { c with ctx := tmod (ctxInit k) c.ctx k f }) s

/-- A context stalls by a fault of kind `kind` (R397, R402, R404, R408, R418). -/
def ctxStall (kind i k : Nat) (s : State) : State :=
  let s1 := if (coreOf s i).stall.isSome then s else pgBlock ⟨.core, i⟩ (coreMod i (fun c => { c with stall := some k }) s)
  raise kind i (ctxMod i k (fun x => { x with stalled := true }) s1)

/-- Does context `k` of the core hold a block or state of the session (R405): 0 its state, 1 a row slot, `k` a block in stage
`k`? -/
def Core.holds (c : Core) (sid k : Nat) : Bool :=
  c.rows.any (fun r => r.sid == sid &&
    (decide (k = 0) || (if k = 1 then r.slot.isSome else decide (r.left.getD (k - 2) 0 > r.left.getD (k - 1) 0))))

/-- The session whose fence the context is to act on. -/
def Core.fenceOf (c : Core) (k : Nat) : Option Nat := c.fences.find? (fun sid => c.holds sid k && !c.fenced.contains (sid, k))

/-- The row stage 1 works on. -/
def Core.stage1 (c : Core) : Option CoreRow := c.rows.find? (fun r => decide (r.entered > r.left.getD 0 0))

/-- Is a row of a higher class in flight than that of the block in stage 1 (R90)? -/
def Core.switches (c : Core) : Bool := match c.stage1 with
  | none => false
  | some r => c.rows.any (fun q => q.slot.isSome && decide (q.entered < q.blocks) &&
      decide (readAs q.lc q.promoted < readAs r.lc r.promoted))

/-- The pending requests of a context, by priority (R405). -/
def Core.requests (c : Core) (k : Nat) : List Nat :=
  (if (c.fenceOf k).isSome then [1] else []) ++ (if k = 0 ∧ c.switch then [2] else []) ++
    (if k = 0 ∧ c.intReq then [3] else []) ++ (if k = 1 ∧ c.switches then [4] else [])

/-- Handler vector of a request (R395, R405). -/
def reqVector (p k : Nat) : Nat := if p = 1 then 16 + k else if p = 2 then 8 else if p = 3 then 24 else 9

/-- The row switch (R90, R407): the partial block goes, and stage 1 takes the block of the higher row. -/
def rowSwitch (i : Nat) (s : State) : State :=
  rcnt (aCore i 0xC8) 0 32 1 (coreMod i (fun c => match c.stage1 with
    | none => c
    | some r => stage1Take { c with rows := c.rows.map (fun q => if q.order = r.order then { q with entered := q.entered - 1 } else q) }) s)

/-- A request is taken (R405): the shadow is discarded, the state of the last fold saved, the handler started. -/
def takeReq (i k p : Nat) (s : State) : State :=
  let s1 := ctxMod i k (fun x => { x with
    records := { prio := p, restart := x.restart, stack := x.saved, acted := x.acted } :: x.records
    ua := reqVector p k, restart := reqVector p k, stack := [], saved := [], sram := 0, ops := 0, notes := 0, dist := 0
    acted := decide (p = 4), waiting := false }) s
  if p = 4 then rowSwitch i s1
  else if p = 3 then coreMod i (fun c => { c with intReq := false }) s1
  else if p = 2 then coreMod i (fun c => { c with switch := false }) s1
  else s1

/-- When every context that holds a block of the fenced session has acted, its rows leave the core (R407). -/
def fenceSettle (i sid : Nat) (s : State) : State :=
  coreMod i (fun c =>
    if (List.range 8).all (fun k => !c.holds sid k || c.fenced.contains (sid, k)) then
      { c.dropRows (fun r => r.sid == sid) with
        fences := c.fences.filter (· != sid), fenced := c.fenced.filter (fun e => e.1 != sid) }
    else c) s

/-- What a fence handler does at its first commit point (R407): context 1 gives up the row slots and its block. -/
def fenceActs (i k : Nat) (s : State) : State :=
  match (coreOf s i).fenceOf k with
  | none => s
  | some sid =>
    fenceSettle i sid (coreMod i (fun c => { c with
      fenced := c.fenced ++ [(sid, k)]
      rows := if k = 1 then c.rows.map (fun r => if r.sid = sid then { r with slot := none, entered := r.left.getD 0 0 } else r)
        else c.rows }) s)

/-- A scrub pass starts, unless one runs; its length is open (R507). -/
def scrubStart (i : Nat) (s : State) : State :=
  if s.now < (coreOf s i).scrubUntil then s
  else
    let (f, s1) := takeFree s
    coreMod i (fun c => { c with scrubUntil := s.now + Config.freeNat f }) s1

/-- What a handler does at its first commit point (R405, R407, R415, R507). -/
def handlerActs (i k p : Nat) (s : State) : State :=
  if p = 1 then fenceActs i k s
  else if p = 3 then
    let c := coreOf s i
    let s1 := if c.actReq then coreMod i (fun c => { c with actReq := false, activating := true }) s else s
    if c.scrubReq then scrubStart i (coreMod i (fun c => { c with scrubReq := false }) s1) else s1
  else s

/-- The shadow folds (R403): the context goes on at `u` with stack `st`, and its NOTIFY events are raised. -/
def foldCtx (i k u : Nat) (st : List Nat) (notes : Nat) (s : State) : State :=
  let x := (coreOf s i).context k
  let s1 := ctxMod i k (fun x => { x with
    ua := u, restart := u, stack := st, saved := st, sram := 0, ops := 0, notes := 0, dist := 0, acted := true
    waiting := false }) s
  let s2 := if notes > 0 then micPulse (2 * i + 1) s1 else s1
  match x.records with
  | r :: _ => if x.acted then s2 else handlerActs i k r.prio s2
  | [] => s2

/-- RESUME restores the newest record (R405); where there is none, the next microaddress is open. -/
def resumeCtx (i k : Nat) (s : State) : State :=
  match ((coreOf s i).context k).records with
  | r :: l => ctxMod i k (fun x => { x with
      ua := r.restart, restart := r.restart, stack := r.stack, saved := r.stack, acted := r.acted, records := l }) s
  | [] =>
    let (f, s1) := takeFree s
    let u := Config.freeNat f % 4096
    ctxMod i k (fun x => { x with ua := u, restart := u }) s1

/-- Does the context run: its core open and loaded, no stall, not parked? -/
def ctxRuns (s : State) (i : Nat) (x : Ctx) : Bool :=
  coreUp s i && !isFatal s && decide ((coreOf s i).store.base ≠ 0) && !x.stalled && !x.parked

/-- The microword and nanoword a context executes. -/
def Core.micro (c : Core) (x : Ctx) : Nat := tget 0 c.store.micro x.ua
def Core.nano (c : Core) (x : Ctx) : Nat := tget 0 c.store.nano (mwNaddr (c.micro x))

/-- At the end of a commit-point nanoword (R403, R405, R406, R415): the highest pending request above the handler that runs is
taken, else the shadow folds, and a context that waits for a block during an activation parks. A WAIT whose condition does not
hold keeps its context there (R401). -/
def commitPoint (i k : Nat) (u : Nat) (st : List Nat) (notes : Nat) (fresh : List Nat) (s : State) : State :=
  let c := coreOf s i
  let x := c.context k
  let w := c.micro x
  let level := match x.records with
    | [] => 5
    | r :: _ => r.prio
  match (c.requests k).find? (fun p => decide (p < level) && !fresh.contains p) with
  | some p => takeReq i k p s
  | none =>
    let wait := decide (mwNext w = 6) && decide (mwCond w = 2)
    let s1 := foldCtx i k u st notes s
    if mwNext w = 7 then resumeCtx i k s1
    else if wait && c.activating && x.records.isEmpty then ctxMod i k (fun y => { y with
      ua := x.ua, restart := x.ua, parked := true, waiting := true }) s1
    else if mwNext w = 6 ∧ u = x.ua then ctxMod i k (fun y => { y with waiting := true }) s1
    else s1

/-- Cycles of the nanoword a context executes; a context stalled at a WAIT issues nothing (R394, R397, R408). -/
def Core.cycles (c : Core) (x : Ctx) : Nat := if x.waiting then 0 else nwCycles (c.nano x)

/-- NANOWORD_COMPLETE (R394 to R408): the nanoword of a context ends, or one stalled at a WAIT looks again. `flag`: the value of conditions 2 to 31; `key`: the
block-type key (R399); `sram`, `ops`: bytes written to SRAM, and fabric writes, BPM operations and events it made; `fresh`: the
requests that became pending in this very cycle (R406); `kind3`: a KIND 3 packet has reached the core. -/
def execNanowordComplete (core : Fin 64) (k : Fin 8) (flag : Bool) (key : Fin 16) (sram ops : Nat) (fresh : List Nat)
    (kind3 : Bool) (s : State) : Host.Outcome State Fault Refusal :=
  let i := core.val
  let s0 := if kind3 then coreMod i (fun c => { c with switch := true }) s else s
  let c := coreOf s0 i
  let x := c.context k
  let w := c.micro x
  let n := c.nano x
  .next (if !ctxRuns s0 i x ∨ x.dist + c.cycles x ≥ 2048 then s0
    else
      let notes := if x.waiting then 0 else x.notes + b2n (nwNotify n)
      if !x.waiting ∧ (x.sram + sram > 4096 ∨ x.ops + ops + notes > 64) then ctxStall 0x05 i k s0
      else
        match nextUa x w (condVal x w flag) key with
        | none => ctxStall 0x04 i k s0
        | some (u, st) =>
          if nwCp n ∨ nwHandoff n ∨ mwNext w = 7 then commitPoint i k u st notes fresh s0
          else ctxMod i k (fun x => { x with
            ua := u, stack := st, sram := x.sram + sram, ops := x.ops + ops, notes := notes, dist := x.dist + c.cycles x }) s0)

/-- COMMIT_WATCHDOG (R408): the commit-distance counter reaches 2,048 within the nanoword the context executes. -/
def execCommitWatchdog (core : Fin 64) (k : Fin 8) (s : State) : Host.Outcome State Fault Refusal :=
  let i := core.val
  let c := coreOf s i
  let x := c.context k
  .next (if !ctxRuns s i x ∨ x.dist + c.cycles x < 2048 then s
    else ctxStall 0x06 i k (rcnt (aCore i 0x8C) 16 16 1 s))

/-! ### Images and patches (R409 to R414) -/

/-- Does the store meet R401, and check 5 of R411? -/
def Store.ok (m : Store) : Bool :=
  m.nano.all (fun e => !nwHandoff e.2 || nwCp e.2) &&
  m.micro.all (fun e =>
    (decide (mwNext e.2 ≠ 6) || nwCp (tget 0 m.nano (mwNaddr e.2))) &&
    (decide (mwNext e.2 ≠ 3) || (decide (mwTarget e.2 % 16 = 0) && decide (mwTarget e.2 ≤ 4080)))) &&
  (List.range 32).all (fun a => decide (mwNext (tget 0 m.micro a) = 2))

/-- Write the records of a body into a store; PAR and ECC are the loader's and are not kept (R410). -/
def Store.apply (m : Store) (b : McBody) : Store :=
  { m with
    micro := b.micro.foldl (fun t e => tset 0 t (e.1 % 4096) (e.2 % 2 ^ 31)) m.micro
    nano := b.nano.foldl (fun t e => tset 0 t (e.1 % 1024) (e.2 % 2 ^ 247)) m.nano }

/-- The store of a base image (R409, R412). -/
def baseStore (m : Img) : Store := { ({} : Store).apply m.body with base := m.body.base, patch := 0, hash := m.hash }

/-- The store a patch gives (R411, R412). -/
def patchStore (run : Store) (m : Img) : Store :=
  { run.apply m.body with patch := m.body.level, hash := Config.digest [run.hash, m.hash] }

/-- Checks 1 to 3 of R411. -/
def patchFits (run : Store) (b : McBody) : Bool :=
  decide (run.base ≠ 0) && decide (b.base = run.base) && decide (b.prev = run.patch) && decide (b.level > b.prev) && decide (b.level ≤ 255)

/-- Check 4 of R411, and the ranges of the records: no address twice. -/
def McBody.unique (b : McBody) : Bool :=
  (b.micro.map (·.1)).Nodup && (b.nano.map (·.1)).Nodup && b.micro.all (fun e => decide (e.1 < 4096)) &&
    b.nano.all (fun e => decide (e.1 < 1024))

/-- Checks 4 and 5 of R411, and the body's length. -/
def patchSound (run : Store) (m : Img) : Bool := m.body.lenOk && m.body.unique && (patchStore run m).ok

/-- Burn an image type's counter up to its SVN (R295, R284); whether the write reads back is open. -/
def svnCommit (m : Img) (s : State) : State :=
  let k := svnIdx m.ty
  if !m.commit ∨ m.svn ≤ tget 0 s.sec.svn k then s
  else
    let (f, s1) := takeFree s
    burn (decide (Config.freeNat f % 2 = 0)) (fun x => { x with svn := tput x.svn k m.svn }) s1

/-- Activation has ended on every core in service (R414, R415): the patch runs, is stored, and the command completes. -/
def mcodeFinish (s : State) : State :=
  match s.mcode.next with
  | none => s
  | some st =>
    let m := s.mcode
    let s1 := { s with mcode := { run := st }, sec := { s.sec with images := tput s.sec.images 2 m.img } }
    let s2 := if m.store then (match patchFree s1 with
        | some i => patchPut i m.img s1
        | none => s1) else s1
    let s3 := match m.slot with
      | none => s2
      | some c => finish c stOk s2
    svnCommit m.img s3

/-- The cores activated together with a core: its pair, when joined (R415). -/
def actGroup (s : State) (i : Nat) : List Nat := if (pairOf s (i / 2)).st = .joined then [i / 2 * 2, i / 2 * 2 + 1] else [i]

/-- Go on with the activation: cores that have left service are passed over, and the lowest core left of each peloton is asked
(R415). -/
def mcodeSettle (s : State) : State :=
  if s.mcode.next.isNone then s
  else
    let left := s.mcode.left.filter (coreUp s)
    let s1 := { s with mcode := { s.mcode with left := left } }
    if left = [] then mcodeFinish s1
    else
      forAll (List.range 8) (fun p s =>
        match left.find? (fun c => decide (c / 8 = p)) with
        | none => s
        | some i => forAll (actGroup s i) (fun j s => coreMod j (fun c =>
            if c.activating ∨ c.actReq then c else { c with actReq := true, intReq := true }) s) s) s1

/-- MCODE_LOAD (R293, R411, R414): the image read at PTR0, none for a failed read. -/
def execMcodeLoad (slot : Nat) (img : Option Img) (s : State) : Host.Outcome State Fault Refusal :=
  .next (runCmd slot 0x43 anyField (fun c s =>
    let len := c.arg 24 0 32
    let store := decide (c.arg 28 0 1 = 1)
    let clear := decide (c.arg 28 1 1 = 1)
    if s.mcode.next.isSome then finish slot stBadState s
    else
      let s1 := if clear then { s with sec := { s.sec with patches := [] } } else s
      if len = 0 then finish slot (if clear then stOk else stInvalidField) s1
      else
        match img with
        | none => finish slot stDmaError s1
        | some m =>
          if m.ty ≠ 4 ∨ !imgOk s1 m then authFail slot s1
          else if !patchFits s1.mcode.run m.body then finish slot stBadState s1
          else if !patchSound s1.mcode.run m then finish slot stInvalidField s1
          else if store ∧ (patchFree s1).isNone then finish slot stNoMemory s1
          else
            mcodeSettle (hold slot { s1 with mcode := {
              run := s1.mcode.run, next := some (patchStore s1.mcode.run m), img := m, slot := some slot
              left := (List.range 64).filter (coreUp s1), store := store, clear := clear } })) s)

/-- Are all eight contexts of a core parked? -/
def Core.allParked (c : Core) : Bool := c.activating && (List.range 8).all (fun k => (c.context k).parked)

/-- PATCH_ACTIVATION (R415): the patch words are written once every context of the core, and of its pair, is parked. -/
def execPatchActivation (core : Fin 64) (s : State) : Host.Outcome State Fault Refusal :=
  .next (match s.mcode.next with
    | none => s
    | some st =>
      let g := actGroup s core
      if !s.mcode.left.contains core.val ∨ isFatal s ∨ !g.all (fun j => (coreOf s j).allParked) then s
      else
        let s1 := forAll g (fun j s => coreMod j (fun c => { c with
          store := st, activating := false, ctx := c.ctx.map (fun e => (e.1, { e.2 with parked := false })) }) s) s
        mcodeSettle { s1 with mcode := { s1.mcode with left := s1.mcode.left.filter (fun c => !g.contains c) } })

/-- A core starts with the running base and every patch active on the device (R416). -/
def reloadCore (i : Nat) (s : State) : State :=
  let st := match s.mcode.next with
    | some n => n
    | none => s.mcode.run
  coreMod i (fun c => { store := st, lastScrub := c.lastScrub }) s

/-! ### Scrub (R507) -/

/-- CORE_CTRL.SCRUB is written 1. -/
def scrubAsk (i : Nat) (s : State) : State :=
  if !polOpen s i ∨ isFatal s ∨ s.now < (coreOf s i).scrubUntil then s
  else coreMod i (fun c => { c with scrubReq := true, intReq := true }) s

/-- SCRUB (R507): a write of CORE_CTRL.SCRUB. -/
def execScrub (core : Fin 64) (s : State) : Host.Outcome State Fault Refusal := .next (scrubAsk core s)

/-- SCRUB_PERIOD (R507): the interval of PERIOD × 10 ms has passed. -/
def execScrubPeriod (core : Fin 64) (s : State) : Host.Outcome State Fault Refusal :=
  let i := core.val
  let n := rfld s (aCore i 0x9C) 8 8
  .next (if !polOpen s i ∨ isFatal s ∨ n = 0 ∨ s.now < (coreOf s i).lastScrub + psMs (10 * n) then s
    else scrubStart i (coreMod i (fun c => { c with lastScrub := s.now }) s))

end Sys2Proof.Machine
end

