-- ==== Sys2Proof/Machine/Strand.lean ====
section
/-! DEFINITION. What the sealing of a polder does to the sessions and blocks in it (R36, R65, R210, R246, R335, R427, R428). -/

namespace Sys2Proof.Machine

/-! ### Stranding -/

/-- States from which the sealing of a polder of the binding strands a session (R36). -/
def SState.strands : SState → Bool
  | .bound | .active | .quiescing | .quiesced | .moving => true
  | _ => false

/-- EVT_SESSION_STRANDED (R65, R236). -/
def evtStranded (sid pol : Nat) (s : State) : State := evtSess sid 0x0011 1 pol 0 0 0 0 s

/-- May the session go on on its core: its polders open, and its pair in the state its kind needs? -/
def coreKept (s : State) (x : Session) : Bool :=
  if x.kind = .tandem then coreUp s x.core && coreUp s (x.core + 1) && inTandem s x.core
  else coreUp s x.core && decide ((pairOf s (x.core / 2)).st = .single)

/-- Does ALT_PORT take the session (R246): enabled, its polder open, check 6 of R42 passes? -/
def altOk (s : State) (sid : Nat) (x : Session) : Bool :=
  altOpen s x && egressOk s sid x.nw.altPort x.nw.wirePeak

/-- The stranding policy AUTO (R65, R246): a session whose core still stands keeps it (log 59). -/
def autoPlace (sid pol : Nat) (s : State) : State :=
  let x := sessOf s sid
  let ethUp := decide (x.kind = .decode) || polOpen s (ethPolderOf x.egress)
  let core := if coreKept s x then some x.core else place s x.kind x.load x.lc
  if !ethUp ∧ !altOk s sid x then evtStranded sid pol s
  else
    match core with
    | none => evtStranded sid pol s
    | some c =>
      let s1 := sessMod sid (fun x => if ethUp then x else { x with egress := x.nw.altPort }) s
      if c = x.core then moveEnd sid 2 (bindTo sid c .stranded (sessMod sid (fun x => { x with oldCore := c }) s1))
      else rebind sid c 2 (x.ing.ringCore.any (fun k => !polOpen s k)) s1

/-- A session is stranded by the sealing of a polder (R36, R65): its work is abandoned, its started pictures and pending
command end with ST_FENCED, and the stranding policy acts. -/
def strand (sid pol : Nat) (s : State) : State :=
  let x := sessOf s sid
  if !x.st.strands then s
  else
    let s1 := sessMod sid (fun y => { y with
      st := .stranded, heldQ := y.heldQ || decide (x.st = .quiesced), moveTo := none, stall := false
      ing := { y.ing with copying := none, copyFrom := none, waiting := [] } }) s
    let s2 := forAll x.pics (fun p s => if p.began then endPic sid p.num stFenced s else s) (abandon sid s1)
    let s3 := endPend sid stFenced (flushAll sid s2)
    if x.ctxLost ∨ x.hold then evtStranded sid pol s3 else noteReady sid (autoPlace sid pol s3)

/-- Strand every session for which `p` holds. -/
def strandAll (pol : Nat) (p : Session → Bool) (s : State) : State :=
  forAll ((s.sess.filter (fun e => p e.2)).map (·.1)) (fun sid s => strand sid pol s) s

/-! ### Effects by polder (R427) -/

/-- Core `c`: its rows, ring space and SRAM are lost; a joined pair is half fenced (R192, R210). -/
def sealCore (c : Nat) (s : State) : State :=
  let k := c / 2
  let joined := (pairOf s k).st = .joined
  let s1 := if joined then pairMod k (fun p => { p with st := .halfFenced, fenced := some c, sent := [], recs := [] }) s else s
  let s2 := coreMod c (fun r => { r with
    rows := [], flow := [], pos := [0, 0, 0, 0, 0, 0], fences := [], fenced := [], ctx := [], wm := [], switch := false, intReq := false
    actReq := false, activating := false, scrubReq := false, scrubUntil := 0 }) s1
  let hit := s2.sess.filter (fun e => e.2.ing.copying.isSome && e.2.ing.copyFrom == some c)
  let s3 := forAll hit (fun e s => sessMod e.1 (fun x => { x with
    ing := { x.ing with lost := x.ing.lost ++ x.liveGroups, ring := [] } }) s) s2
  pairSettle k (strandAll c (fun x => decide (x.core = c) || (decide (x.kind = .tandem) && decide (x.core / 2 = k))) s3)

/-- Peloton `p`: its queue and the rows in its cores end (R24, R442). -/
def sealPel (p : Nat) (s : State) : State :=
  let s1 := pelMod p (fun q => { q with queue := [], waiting := none }) s
  let s2 := forAll (List.range 8) (fun i s => coreMod (8 * p + i) (fun r => { r with
    rows := [], flow := [], pos := [0, 0, 0, 0, 0, 0], fences := [], fenced := [], ctx := [], wm := [] }) s) s1
  strandAll (64 + p) (fun x => decide (x.core / 8 = p)) s2

/-- The first in-service controller of `n`, `n` + 1 and so on (R334). -/
def inServiceFrom (s : State) (n : Nat) : Nat :=
  (((List.range 16).map (fun i => (n + i) % 16)).find? (fun k => (mcOf s k).inService)).getD n
/-- The mirror of a controller: another one, since a record is held twice; and the primary of a context record (R334). -/
def mirrorOf (s : State) (n : Nat) : Nat :=
  (((List.range 16).map (fun i => (n + 8 + i) % 16)).find? (fun k => (mcOf s k).inService && k != n)).getD n
def primaryOf (s : State) (sid : Nat) : Nat := inServiceFrom s (sid % 8)
/-- Have both copies of controller `n`'s records been sealed (R335)? -/
def bothSealed (s : State) (n : Nat) : Bool := !polOpen s (72 + n) && !polOpen s (72 + mirrorOf s n)

/-- Does the buffer lie in controller `n`? -/
def inMc (s : State) (n h : Nat) : Bool := decide (h ≠ 0) && decide (bufMc s (hKey h) = n) && (bufLive s h).isSome

/-- A started picture that cannot go on without controller `n`: its bitstream, source, ring or output buffer, or a reference
an encode picture has captured, lies there (log 59). -/
def needsMc (s : State) (n : Nat) (x : Session) (p : Pic) : Bool :=
  let src := if x.kind = .decode then p.buf
    else if x.fmt.rowStream then (if x.ing.inDram then x.ing.ringHandle else 0)
    else if p.srcIdx = 0 then x.ing.srcBuf0 else x.ing.srcBuf1
  p.began && (inMc s n p.bsBuf || inMc s n p.outFrame || inMc s n src ||
    (decide (x.kind ≠ .decode) && p.captured.any (inMc s n)))

/-- A session under the sealing of controller `n` (R36, R169, R188, R427). -/
def sealMcSession (n sid : Nat) (s : State) : State :=
  let x := sessOf s sid
  let gone := fun (t : Slot8) => inMc s n t.handle
  let hit := x.slots.any (fun t => t.held && gone t)
  let s1 := sessMod sid (fun x => x.lose gone) s
  let s2 := if x.st = .sealing ∧ hit then endPend sid stFenced (sessMod sid (fun x => { x with st := .quiesced }) s1) else s1
  let s3 := if x.kind ≠ .decode then s2
    else forAll x.pics (fun p s => if p.began ∧ p.captured.any (inMc s n) then
      picMod sid p.num (fun p => p.err { kind := 6 }) s else s) s2
  let ends := x.pics.filter (needsMc s n x)
  let s4 := forAll ends (fun p s => endPic sid p.num stFenced s) s3
  if ends = [] then s4 else afterEnd sid s4

/-- Memory `n` (R335, R427): its slots are lost, a record without a copy raises MC_MIRROR_LOSS, and a session whose context
has no copy is stranded for good. -/
def sealMc (n : Nat) (s : State) : State :=
  let s1 := mcMod n (fun m => { m with ch := m.ch.map (fun e => (e.1, { e.2 with reads := [], writes := [] })) }) s
  let s2 := forAll ((s1.sess.filter (fun e => e.2.st != .free && e.2.st != .exported)).map (·.1)) (sealMcSession n) s1
  let prim := (List.range 16).filter (fun k => (mcOf s2 k).inService && (decide (k = n) || decide (mirrorOf s2 k = n)) && bothSealed s2 k)
  let s3 := forAll prim (fun k s => raise 0x25 k s) s2
  let lost := (s3.sess.filter (fun e => e.2.st != .free && !e.2.ctxLost && prim.contains (primaryOf s3 e.1))).map (·.1)
  forAll lost (fun sid s =>
    let was := (sessOf s sid).st
    let s1 := sessMod sid (fun x => { x with ctxLost := true }) s
    if was.strands then strand sid (72 + n) s1
    else if was = .closing then s1
    else evtStranded sid (72 + n) (endPend sid stFenced (sessMod sid (fun x => { x with st := .stranded }) s1))) s3

/-- Ethernet `i` (R246, R275, R427): its packets are lost, its subports' links go down, its PTP domains are lost. -/
def sealEth (i : Nat) (s : State) : State :=
  let on := fun (s : State) (sid : Nat) => decide ((sessOf s sid).egress / 4 = i)
  let s1 := { s with net := { s.net with tx := s.net.tx.filter (fun t => !on s t.sid) } }
  let s2 := dropLinks i true s1
  let s3 := forAll [0, 1] (fun d s => if domOn s d ∧ rfld s (aDom d) 8 3 / 4 = i then domainLost d s else s) s2
  strandAll (91 + i) (fun x => decide (x.kind ≠ .decode) && decide (x.egress / 4 = i)) s3

/-- DMA/BPM (R374, R427): every channel stops, its counts dropped once the BPM serves again. -/
def sealBpm (s : State) : State :=
  forAll (List.range 32) (fun c s =>
    let refs := match (dmaOf s c).cur with
      | none => []
      | some e => e.refs
    dmaMod c (fun _ => {}) (forAll refs (fun h s => dropRef 11 h s) s)) s

/-- Management (R427): every started picture and every command in hand ends with ST_FENCED. -/
def sealMgmt (s : State) : State :=
  let one := fun (sid : Nat) (s : State) =>
    let x := sessOf s sid
    let s1 := forAll x.pics (fun p s => if p.began ∨ p.cmd.isSome then endPic sid p.num stFenced s else s) s
    let s2 := endPend sid stFenced (flushAll sid s1)
    let s3 := match x.closeSlot with
      | none => s2
      | some c => finish c stFenced s2
    sessMod sid (fun y => { y with
      closeSlot := none
      st := match x.st with
        | .quiescing => .bound
        | .moving => if x.moveFrom = .stranded then .stranded else if x.moveFrom = .quiesced then .quiesced else .bound
        | .sealing => .quiesced
        | st => st }) s3
  let s1 := forAll ((s.sess.filter (fun e => e.2.st != .free)).map (·.1)) one s
  let dels := s1.qps.filterMap (fun q => q.2.deleting)
  let open' := (s1.slots.filter (fun c => c.2.started && !c.2.formed && c.2.picture.isNone && !dels.contains c.1 &&
    !(c.2.opcode == 0x38 && c.2.arg 24 0 7 == 94))).map (·.1)
  let s2 := { s1 with pairs := s1.pairs.map (fun p => if p.2.st = .joining then (p.1, {}) else p) }
  forgetSlots (fun i => open'.contains i) (forAll open' (fun c s => finish c stFenced s) s2)

/-- Polder `i` has been sealed: what goes with it (R427). -/
def sealEffect (i : Nat) (s : State) : State :=
  if i < 64 then mcodeSettle (sealCore i s)
  else if i < 72 then mcodeSettle (sealPel (i - 64) s)
  else if i < 88 then sealMc (i - 72) s
  else if i < 91 then linkGo (i - 88) .down 0 0 false s
  else if i < 93 then sealEth (i - 91) s
  else if i = 93 then sealBpm s
  else if i = 94 then sealMgmt s
  else s

end Sys2Proof.Machine
end

