-- ==== Sys2Proof/Machine/Faults.lean ====
section
/-! DEFINITION. The fault collector (R419 to R446, R452): sources and classes, reactions, capture, clearing and re-admission,
injection. -/

namespace Sys2Proof.Machine

/-! ### Sources (R421) -/

/-- Instances of a kind; 0 for a kind that does not exist. -/
def srcCount (kind : Nat) : Nat :=
  if kind ≤ 0x09 then 64
  else if 0x10 ≤ kind ∧ kind ≤ 0x16 then 8
  else if 0x20 ≤ kind ∧ kind ≤ 0x25 then 16
  else if 0x28 ≤ kind ∧ kind ≤ 0x2A then 3
  else if kind = 0x2B ∨ kind = 0x2C then 1
  else if 0x30 ≤ kind ∧ kind ≤ 0x32 then 2
  else if kind = 0x34 then 32
  else if kind = 0x35 then 15
  else if kind = 0x36 ∨ kind = 0x37 then 1
  else if 0x38 ≤ kind ∧ kind ≤ 0x3A then 8
  else if 0x3B ≤ kind ∧ kind ≤ 0x3E then 1
  else if kind = 0x3F then 7 else 0

/-- Does a source ID exist (R419)? -/
def srcReal (src : Nat) : Bool := decide (src % 64 < srcCount (src / 64))

/-- The polder of a source; 127 for none, as for one in SEC or the fabric core (R421, R360, R22, R23). -/
def srcPolder (src : Nat) : Nat :=
  let k := src / 64
  let i := src % 64
  if k ≤ 0x09 then i
  else if k ≤ 0x16 then 64 + i
  else if k ≤ 0x24 then 72 + i
  else if k = 0x25 then 127
  else if k ≤ 0x2A then 88 + i
  else if k ≤ 0x2C then 88
  else if k ≤ 0x32 then 91 + i
  else if k = 0x35 then (if i = 12 then 88 else if 1 ≤ i ∧ i ≤ 8 then 63 + i else 93)
  else if k ≤ 0x37 then 93
  else if k ≤ 0x3D then 94 else 127

/-- The page whose capture and injection serve a source (R421). -/
def srcPage (src : Nat) : Page :=
  let k := src / 64
  let i := src % 64
  if k ≤ 0x09 then ⟨.core, i⟩
  else if k ≤ 0x16 then ⟨.pel, i⟩
  else if k ≤ 0x25 then ⟨.mc, i⟩
  else if k ≤ 0x2A then ⟨.pcie, i⟩
  else if k ≤ 0x2C then ⟨.hq, 0⟩
  else if k ≤ 0x31 then ⟨.eth, i⟩
  else if k = 0x32 then ⟨.pkt, 0⟩
  else if k = 0x34 then ⟨.dma, i / 16⟩
  else if k ≤ 0x37 then ⟨.bpm, 0⟩
  else if k = 0x3B then ⟨.mic, 0⟩
  else if k = 0x3C then ⟨.nvs, 0⟩
  else if k = 0x3E then ⟨.sec, 0⟩
  else ⟨.flt, 0⟩

/-- Every source ID. -/
def allSrcs : List Nat := (List.range 4096).filter srcReal

/-- Default class of a kind: 0 CORRECTED, 1 CONTAINED, 2 FATAL; what lies in SEC or the fabric core is FATAL but for the OTP
write read-back (R23, R422). -/
def srcDefault (src : Nat) : Nat :=
  let k := src / 64
  if k = 0x3F then 2
  else if [0x00, 0x02, 0x07, 0x10, 0x11, 0x12, 0x13, 0x20, 0x21, 0x22, 0x28, 0x2A, 0x2B, 0x30, 0x34, 0x35, 0x36, 0x38, 0x3B, 0x3C,
    0x3E].contains k then 0 else 1

/-- Classes allowed, bit k for class k. -/
def srcAllowed (src : Nat) : Nat :=
  let k := src / 64
  if k = 0x3F then 4 else if k = 0x3E then 5 else if srcDefault src = 0 then 7 else 6

/-- The class in force (R420, R423). -/
def srcClass (s : State) (src : Nat) : Nat := (tfind s.flt.cls src).getD (srcDefault src)

/-- FLT_SRC_CFG.CLASS is written (R423). -/
def setClass (src v : Nat) (s : State) : State :=
  if !srcReal src ∨ !bitAt (srcAllowed src) v ∨ v > 2 then s
  else { s with flt := { s.flt with cls := tset (srcDefault src) s.flt.cls src v } }

/-! ### Capture (R432, R433) -/

/-- FLT_CAP0 to FLT_CAP3 of a raise. -/
def capWords (s : State) (r : Report) : List Nat :=
  let pol := srcPolder r.src
  let who := if r.src / 64 = 0x35 then r.src % 64 else if r.requester ≠ 0 ∨ r.access ≠ 0 then r.requester else 0xFF00 + pol
  [r.src + srcClass s r.src * 2 ^ 12 + b2n r.inj * 2 ^ 14 + pol * 2 ^ 16 + 2 ^ 63, devTime s, r.addr,
   who % 2 ^ 16 + r.access % 8 * 2 ^ 16 + r.addrKind % 4 * 2 ^ 19]

/-- Capture into four registers from address `a` on; `detail` false: SOURCE mode. -/
def captureAt (a : Nat) (detail : Bool) (r : Report) (s : State) : State :=
  if rfld s a 63 1 = 1 then rfset a 62 1 1 s
  else
    let w := capWords s r
    let more := rfld s a 62 1 * 2 ^ 62
    let d := fun i => if detail then w.getD i 0 else 0
    rset (a + 24) (d 3) (rset (a + 16) (d 2) (rset (a + 8) (d 1) (rset a (w.getD 0 0 + more) s)))

/-- First-error capture of FLT and of the source's page. -/
def fltCapture (r : Report) (s : State) : State :=
  captureAt ((srcPage r.src).at 0x40) true r (captureAt 0x4088 (decide (rfld s 0x4080 0 1 = 0)) r s)

/-! ### Reactions -/

/-- A context of the core stalls by a fault a detector outside the model has met; which one is open (R418). -/
def coreStalled (i : Nat) (s : State) : State :=
  let (f, s1) := takeFree s
  let k := Config.freeNat f % 8
  let s2 := if (coreOf s1 i).stall.isSome then s1 else pgBlock ⟨.core, i⟩ (coreMod i (fun c => { c with stall := some k }) s1)
  ctxMod i k (fun x => { x with stalled := true }) s2

/-- The counters a detector keeps of its own errors (R351, R402, R418, R506 to R509). -/
def detect (r : Report) (s : State) : State :=
  let k := r.src / 64
  let i := r.src % 64
  match k with
  | 0x00 => rcnt (aCore i 0xCC) 0 32 1 s
  | 0x02 => rcnt (aCore i 0x8C) 0 16 1 s
  | 0x03 | 0x04 | 0x05 => coreStalled i s
  | 0x06 => coreStalled i (rcnt (aCore i 0x8C) 16 16 1 s)
  | 0x10 => pgBlock ⟨.pel, i⟩ (rcnt (aPel i 0xA4) 0 32 1 s)
  | 0x11 => pgBlock ⟨.pel, i⟩ (rcnt (aPel i 0xA8) 0 32 1 s)
  | 0x12 => rcnt (aPel i 0xE8) 0 16 1 s
  | 0x13 => rcnt (aPel i 0xE8) 16 16 1 s
  | 0x20 => eccNote i 0 r.addr s
  | 0x21 => eccNote i 1 r.addr s
  | 0x28 => rcnt (0x90090 + 0x1000 * i) 0 32 1 s
  | 0x29 => rcnt (0x90094 + 0x1000 * i) 0 32 1 s
  | 0x2A => rcnt (0x9009C + 0x1000 * i) 0 32 1 s
  | _ => s

/-- Is the raise suppressed while another polder is sealed (R431)? -/
def suppressed (s : State) (r : Report) : Bool :=
  let k := r.src / 64
  let i := r.src % 64
  let other := if i % 2 = 0 then i + 1 else i - 1
  if k = 0x07 ∨ k = 0x08 then
    !polOpen s (64 + i / 8) ||
      (!polOpen s other && (decide ((pairOf s (i / 2)).st = .joined) || decide ((pairOf s (i / 2)).st = .halfFenced)))
  else if k = 0x21 then !polOpen s (72 + i)
  else if k = 0x13 then decide (r.addrKind = 1) && !polOpen s (72 + r.addr / 2 ^ 35 % 16)
  else false

/-- The polder an event of the source names: for MC_MIRROR_LOSS that of its controller (R429). -/
def evtPolder (src : Nat) : Nat := if src / 64 = 0x25 then 72 + src % 64 else srcPolder src

/-- Bits of EVT_POLDER_SEALED and EVT_FAULT (R236). -/
def fltR0 (src cls : Nat) : Nat := evtPolder src + src * 2 ^ 16 + cls * 2 ^ 28

/-- EVT_FAULT of a CORRECTED source: at once, or with the next report (R425). -/
def reportCe (src : Nat) (s : State) : State :=
  let n := tget 0 s.flt.unrep src + 1
  let last := tget 0 s.flt.lastRep src
  if last = 0 ∨ s.now ≥ last - 1 + psMs (rfld s 0x4080 8 10) then
    evtPf 0x0023 7 (fltR0 src 0) n { s with flt := { s.flt with unrep := terase s.flt.unrep src, lastRep := tput s.flt.lastRep src (s.now + 1) } }
  else { s with flt := { s.flt with unrep := tput s.flt.unrep src n } }

/-- Keys are wiped and the engines stop (R435). A security breach erases the cluster record (R313). -/
def fatalWipe (src : Nat) (s : State) : State :=
  let breach := decide (src / 64 = 0x3F) && decide (4 ≤ src % 64)
  { s with
    sess := s.sess.map (fun e => (e.1, { e.2 with keys := {} }))
    cores := s.cores.map (fun c => (c.1, { c.2 with wm := [] }))
    ports := s.ports.map (fun p => (p.1, { p.2 with sessions := [], ide := p.2.ide.map (fun e => (e.1, e.2.leave)) }))
    net := { s.net with tx := [] }
    sec := { s.sec with
      xts := [], devXts := 0, devWrap := 0, loaded := false, enrol := none, dbgChal := none, wiped := true
      cluster := if breach then none else s.sec.cluster }
    boot := { s.boot with fetchStop := true, fatalPin := true } }

/-- A FATAL raise (R435): the state is latched, the keys wiped, and, where it can be, one EVT_FAULT with its MSI-X written. -/
def fatalGo (src : Nat) (s : State) : State :=
  let s1 := fatalWipe src (emit (.fatalPin true) { s with flt := { s.flt with fatal := some (src, devTime s) } })
  match tfind s1.qps (qkey 0 0) with
  | none => s1
  | some q =>
    let self := decide (src / 64 = 0x3F) && decide (src % 64 ≤ 1)
    if self || decide (q.st ≠ .direct) || q.full || !cqReach s1 (qkey 0 0) || decide ((port s1 0).link ≠ .l0) then s1
    else
      let s2 := cqWrite (qkey 0 0) (evtEntry 0x0023 7 none (fltR0 src 2) (tget 0 s1.flt.unrep src + 1) 0 0 0 s1) s1
      if q.ien then msixSend 0 q.vector s2 else s2

/-- A sealed or testing polder goes back to SEALED, ending its re-admission (R437). `step` is the failing step of R440. -/
def admitFail (pol step : Nat) (s : State) : State :=
  let slot := (polder s pol).admitSlot
  let s0 := polMod pol (fun p => { p with st := .sealed, testFail := true, admitSlot := none }) s
  let s1 := if 72 ≤ pol ∧ pol < 88 ∧ (mcOf s (pol - 72)).st = .training then mcMod (pol - 72) (fun m => { m with st := .off }) s0 else s0
  match slot with
  | none => s1
  | some c => complete c stFenced { r0 := step } s1

/-- Sources whose condition persists keep PENDING at 1 (R438). -/
def persists (src : Nat) : Bool := [0x08, 0x15, 0x16, 0x23].contains (src / 64)

/-- A raise for a polder that is not OPEN (R429, R437, R438). -/
def raiseShut (r : Report) (s : State) : State :=
  let pol := srcPolder r.src
  if srcClass s r.src ≠ 1 then s
  else
    match (polder s pol).st with
    | .testing | .quiescing =>
      let (f, s1) := takeFree s
      admitFail pol (Config.freeNat f % 3 + 1) (polMod pol (fun p => { p with pending := true }) s1)
    | .sealed => if persists r.src then polMod pol (fun p => { p with pending := true }) s else s
    | _ => s

/-- A polder is sealed by a source (R426). -/
def sealPolder (pol src : Nat) (s : State) : State :=
  let s1 := polMod pol (fun p => { p with
    st := .sealed, pending := true, cause := src, sealCnt := satAdd 32 p.sealCnt 1, sealedAt := s.now }) s
  micPulse 217 (sealEffect pol (evtPf 0x0022 7 (fltR0 src 1) 1 s1))

/-- A raise reaches FLT (R425, R426, R429, R435); `was` says which polders were OPEN as the cycle began (R430). -/
def fltRaise (was : Nat → Bool) (r : Report) (s : State) : State :=
  if !srcReal r.src ∨ isFatal s then s
  else
    let cls := srcClass s r.src
    let pol := srcPolder r.src
    let s0 := { s with flt := { s.flt with cnt := tset 0 s.flt.cnt r.src (satAdd 32 (tget 0 s.flt.cnt r.src) 1) } }
    let s1 := pgBlock ⟨.flt, 0⟩ (pgEvt (srcPage r.src) (if cls = 0 then 0 else 1) s0)
    if !was pol then raiseShut r s1
    else
      let s2 := fltCapture r s1
      if cls = 0 then micPulse 217 (reportCe r.src s2)
      else if cls = 2 then fatalGo r.src s2
      else if pol ≥ 95 then micPulse 217 (evtPf 0x0022 7 (fltR0 r.src 1) 1 s2)
      else if polOpen s2 pol then sealPolder pol r.src s2
      else s2

/-- Raises that reach FLT in one cycle, lowest source first; what was sealed as the cycle began suppresses (R430, R431). -/
def fltCycle (l : List Report) (s : State) : State :=
  let was := polOpen s
  forAll (sortBy (fun a b => decide (a.src ≤ b.src)) (l.filter (fun r => !suppressed s r))) (fltRaise was) s

/-- FAULT_RAISE (R425 to R431): the reports of detectors outside the model that reach FLT in one cycle, or with none given the
oldest report in flight. -/
def execFaultRaise (reps : List Report) (s : State) : Host.Outcome State Fault Refusal :=
  .next (match reps with
    | [] =>
      (match s.flt.reports with
       | [] => s
       | r :: l => fltCycle [r] { s with flt := { s.flt with reports := l } })
    | _ => fltCycle reps (forAll (reps.filter (fun r => srcReal r.src)) detect s))

/-- FAULT_REPORT_TIMER (R425): REPORT_MS has passed since the source's last report. -/
def execFaultReportTimer (src : Fin 4096) (s : State) : Host.Outcome State Fault Refusal :=
  let n := tget 0 s.flt.unrep src
  let last := tget 0 s.flt.lastRep src
  .next (if n = 0 ∨ last = 0 ∨ s.now < last - 1 + psMs (rfld s 0x4080 8 10) ∨ isFatal s then s
    else evtPf 0x0023 7 (fltR0 src 0) n
      { s with flt := { s.flt with unrep := terase s.flt.unrep src, lastRep := tput s.flt.lastRep src (s.now + 1) } })

/-! ### Clearing and re-admission (R437 to R443) -/

/-- FLT_POLDER[i].PENDING is cleared by a W1C write (R438). -/
def clearPending (i : Nat) (s : State) : State := polMod i (fun p => { p with pending := false }) s

/-- POLDER_ADMIT (R349, R439): polder 94 is served by SEC while it is sealed; a memory controller enters TRAINING. -/
def execPolderAdmit (slot : Nat) (s : State) : Host.Outcome State Fault Refusal :=
  .next (runCmd slot 0x38 (fun c _ => decide (c.arg 24 0 7 ≤ 94)) (fun c s =>
    let i := c.arg 24 0 7
    let p := polder s i
    if p.st ≠ .sealed ∨ p.pending then finish slot stBadState s
    else
      let s1 := polMod i (fun p => { p with st := .testing, testFail := false, admitSlot := some slot }) (hold slot s)
      if 72 ≤ i ∧ i < 88 then mcMod (i - 72) (fun m => { m with st := .training, since := s.now }) s1 else s1) s)

/-- Every page of the PF's register space. -/
def allPages : List Page := (List.range 0x93).filterMap (fun k => pageAt (k * 0x1000))

/-- Block registers of a page take their reset values, those marked NVS from the image in use, and its injection is disarmed
(R498). -/
def resetPage (p : Page) (s : State) : State :=
  let lo := p.base + 0x80
  let hi := p.base + 0x1000
  let s1 := { s with regs := s.regs.filter (fun r => !(decide (lo ≤ r.1) && decide (r.1 < hi)) && decide (r.1 ≠ p.at 0x20)) }
  forAll ((imageInUse s).regs.filter (fun r => decide (lo ≤ r.1) && decide (r.1 < hi))) (fun r s =>
    let m := (nvsRegs.find? (fun e => e.1 == r.1)).map (·.2)
    rset r.1 ((resetAt r.1 &&& (2 ^ 64 - 1 - m.getD 0)) ||| (r.2 &&& m.getD 0)) s) s1

/-- Every page of a polder. -/
def resetPages (pol : Nat) (s : State) : State := forAll (allPages.filter (fun p => p.polder == pol)) resetPage s

/-- A self-test has passed, with what its last steps leave (R192, R440). -/
def testPass (pol : Nat) (slow : Bool) (seam : List (Fin 4)) (s : State) : State :=
  if pol < 64 then reloadCore pol s
  else if pol < 72 then
    forAll ((List.range 4).filter (fun j => seam.any (fun f => f.val == j))) (fun j s =>
      let k := 4 * (pol - 64) + j
      if (pairOf s k).st ≠ .joined then s
      else if pairHeld s k then pairMod k (fun p => { p with st := .halfFenced, fenced := none, atAdmit := true, trained := false }) s
      else evtSplit k 2 (pairMod k (fun _ => {}) s)) s
  else if pol < 88 then
    mcMod (pol - 72) (fun m => { m with st := .active, slow := slow, ch := [], ordered := false, lastReq := s.now, since := s.now }) s
  else s

/-- SELF_TEST_DONE (R437, R440): the failing step, if one failed; whether a memory controller trained at 4,800 MT/s; and the
joined pairs of a peloton whose seam training failed. -/
def execSelfTestDone (pol : Fin 95) (fail : Option (Fin 3)) (slow : Bool) (seam : List (Fin 4)) (s : State) :
    Host.Outcome State Fault Refusal :=
  let i := pol.val
  .next (if (polder s i).st ≠ .testing ∨ isFatal s then s
    else match fail with
      | none => polMod i (fun p => { p with st := .quiescing }) (testPass i slow seam s)
      | some k =>
        let mem := decide (72 ≤ i) && decide (i < 88)
        if mem && decide (k.val = 1) then
          polMod i (fun p => { p with st := .out })
            (admitFail i 2 (mcMod (i - 72) (fun m => { m with st := .out, inService := false }) s))
        else admitFail i (k.val + 1) s)

/-- What reopening a polder brings with it (R362, R384, R427, R442, R443, R498). -/
def reopen (i : Nat) (s : State) : State :=
  let s1 := resetPages i s
  if 72 ≤ i ∧ i < 88 then
    let n := i - 72
    let base := n * 2 ^ 35
    { s1 with
      bufm := s1.bufm.filter (fun e => bufMc s1 (e.1 / 2 ^ 30) != n)
      dram := s1.dram.filter (fun c => !(decide (base ≤ c.1) && decide (c.1 < base + 2 ^ 35)))
      free := s1.free + 1 }
  else if i = 88 then pfFlr s1
  else if i = 91 then { s1 with net := { s1.net with exqTail := 0, exqPhase := true, htqHead := 0 } }
  else if i = 93 then reissue s1
  else if i = 94 then
    let s2 := { s1 with
      micTgt := [], nvs := { s1.nvs with seq := none }
      micSrc := s1.micSrc.map (fun e => (e.1, { input := e.2.input, pend := e.2.input && decide (e.1 < 224) })) }
    forAll [4, 5, 6, 7] mbxServeReset s2
  else s1

/-- QUIESCENT_BOUNDARY (R437, R441, R442). -/
def execQuiescentBoundary (pol : Fin 95) (s : State) : Host.Outcome State Fault Refusal :=
  let i := pol.val
  .next (if (polder s i).st ≠ .quiescing ∨ isFatal s then s
    else
      let slot := (polder s i).admitSlot
      let s1 := reopen i (polMod i (fun p => { p with st := .opened, admitSlot := none }) s)
      match slot with
      | none => s1
      | some c => complete c stOk {} s1)

/-- H_AUTO_READMIT (R443). -/
def execHAutoReadmit (s : State) : Host.Outcome State Fault Refusal :=
  let p := polder s 88
  .next (if p.st ≠ .sealed ∨ rfld s 0x4080 1 1 = 0 ∨ s.now < p.sealedAt + psMs 10 ∨ isFatal s then s
    else polMod 88 (fun p => { p with st := .testing, pending := false, testFail := false }) s)

/-! ### Injection (R445, R446, R499) and the page lock (R495) -/

/-- A page by number: page k of the PF's BAR0, or 65,536 + n for the page of VF n. -/
def pageNum (k : Nat) : Option Page :=
  if k < 0x10000 then pageAt (k * 0x1000)
  else if 1 ≤ k - 0x10000 ∧ k - 0x10000 ≤ 63 then some ⟨.hq, k - 0x10000⟩ else none

/-- May the page's header be written (R435, R451)? -/
def pageTakes (s : State) (p : Page) : Bool := polOpen s p.polder && !isFatal s

/-- PG_INJ is written (R445, R446, R499). -/
def injWrite (p : Page) (v : Nat) (s : State) : State :=
  let a := p.at 0x20
  if !pageTakes s p then s
  else
    let src := bitsOf v 0 12
    let s1 := if srcReal src ∧ srcPage src = p then rfset a 0 12 src s else s
    let cur := rfld s1 a 0 12
    if bitAt v 12 then
      if !srcReal cur ∨ srcPage cur ≠ p then s1
      else
        let s2 := rfset a 12 1 1 s1
        { s2 with sec := { s2.sec with injCount := satAdd 32 s2.sec.injCount 1, injLast := cur } }
    else if bitAt v 13 then rfset a 12 1 0 s1
    else s1

/-- INJECTION_ARM (R445, R446): a write of PG_INJ with ARM 1. -/
def execInjectionArm (page : Nat) (v : W32) (s : State) : Host.Outcome State Fault Refusal :=
  .next (match pageNum page with
    | none => s
    | some p => injWrite p (setBits v.toNat 12 1 1) s)

/-- INJECTION_DISARM (R499): a write of PG_INJ with DISARM 1 and ARM 0. -/
def execInjectionDisarm (page : Nat) (v : W32) (s : State) : Host.Outcome State Fault Refusal :=
  .next (match pageNum page with
    | none => s
    | some p => injWrite p (setBits v.toNat 12 2 2) s)

/-- INJECTION_FIRE (R445, R446): the armed detector of a page raises its source once. -/
def execInjectionFire (page : Nat) (s : State) : Host.Outcome State Fault Refusal :=
  .next (match pageNum page with
    | none => s
    | some p =>
      let a := p.at 0x20
      if rfld s a 12 1 = 0 ∨ isFatal s then s
      else
        let r : Report := { src := rfld s a 0 12, inj := true }
        raiseRep r (detect r (pgEvt p 2 (rfset a 12 1 0 s))))

/-- PAGE_LOCK (R495, R499): a write of PG_CTRL.LOCK. -/
def execPageLock (page : Nat) (s : State) : Host.Outcome State Fault Refusal :=
  .next (match pageNum page with
    | none => s
    | some p => if pageTakes s p then rfset (p.at 0x10) 31 1 1 s else s)

end Sys2Proof.Machine
end

