-- ==== Sys2Proof/Machine/Boot.lean ====
section
/-! DEFINITION. Supplies, clocks and resets (R453, R454, R471 to R474, R498, R504, R505, R539), start-up (R192, R194, R294, R332,
R348, R352, R353, R444, R475 to R477, R480), and the JTAG port (R321, R542). -/

namespace Sys2Proof.Machine

/-! ### Resets -/

/-- The registers kept in the always-on domain (R497, R504): RST_CNT. -/
def heldRegs (t : Tab Nat) : Tab Nat := t.filter (fun r => decide (r.1 = 0x3088))

/-- What a controller keeps through a reset: its DRAM. -/
def Mc.bare (m : Mc) : Mc := { populated := m.populated, density := m.density, key := m.key }

/-- A reset that runs start-up clears sessions, keys, queues, mailboxes and registers; DRAM reads as undefined from then on
(R384, R436, R474, R498). -/
def clearChip (s : State) : State :=
  { State.reset with
    pending := s.pending, board := s.board, boot := s.boot, now := s.now, clk := s.clk, rebalanceAt := s.now
    regs := heldRegs s.regs, mcs := s.mcs.map (fun e => (e.1, e.2.bare))
    flt := { polders := s.flt.polders, fatal := s.flt.fatal }
    nvs := { s.nvs with seq := none, write := s.nvs.write.map (fun w => { w with slot := none }) }
    sec := { s.sec with
      dbgChal := none, loaded := false, images := [], xts := [], devXts := 0, devWrap := 0, bindLocked := false, reqs := [] }
    jtagIr := s.jtagIr, free := s.free + 1, out := s.out }

/-- Take what the part holds, at its first power-on. -/
def adopt (p : Part) (s : State) : State :=
  if s.board.known then s
  else
    { s with
      board := { serial := p.serial, grade14 := p.grade14, dtr := p.dtr, known := true }
      sec := { s.sec with
        lcBurnt := p.lcBurnt, seed := p.seed, vendorHash := p.vendorHash, vendorRevoke := p.vendorRevoke, opHash := p.opHash
        opRevoke := p.opRevoke, svn := p.svn, cluster := p.cluster, bind := p.bind, chainLen := p.chainLen
        flash := p.flash, patches := p.patches }
      nvs := { s.nvs with a := p.a, b := p.b }
      mcs := (p.dram.take 16).mapIdx (fun i d => (i, { populated := true, density := d.1, key := d.2 })) }

/-- What only the removal of power clears (R290, R323, R436, R504): the fatal, debug and injection state, the seal counts, the
enrolment key and the reset counts. -/
def clearHeld (s : State) : State :=
  { s with
    regs := [], flt := { s.flt with fatal := none, polders := [] }
    sec := { s.sec with dbgLevel := 0, injCount := 0, injLast := 0, enrol := none, wiped := false }
    boot := {}, jtagIr := 0 }

/-- POWER_ON (R453, R454, R471, R472, R474): the rails rise, the root PLL locks and the device clock starts at 0; PERST# is
asserted. `part`: what the part holds, taken at the first power-on. -/
def execPowerOn (part : Part) (s : State) : Host.Outcome State Fault Refusal :=
  .next (if s.boot.rails then s
    else
      let s1 := clearHeld (clearChip (adopt part s))
      { s1 with
        clk := 0
        boot := { s1.boot with aon := true, rails := true, refclk := true, rootLock := true, everLocked := true, perst := true } })

/-- PERST_ASSERT (R384, R474, R539): PERST# has been low for `ns`; between 1 and 10 µs `acts` says whether the pulse acts. -/
def execPerstAssert (ns : Nat) (acts : Bool) (s : State) : Host.Outcome State Fault Refusal :=
  .next (if s.boot.perst ∨ !s.boot.rails ∨ ns < 1000 ∨ (ns < 10000 ∧ !acts) then s
    else
      let s1 := clearChip (rcnt 0x3088 0 16 1 s)
      { s1 with boot := { s1.boot with
          perst := true, warm := false, ready := false, step := 1, stopStep := 0, stopCause := 0, recovery := false, cause := 1
          fetchStop := isFatal s } })

/-- RST_CTRL is written (R505): accepted from the PF and SEC alone. -/
def warmWrite (req : Req) (v : Nat) (s : State) : State :=
  let cause := match req with
    | .fn f => if f.val = 0 then some 2 else none
    | .sec => some 3
    | _ => none
  match cause with
  | none => s
  | some c =>
    if v % 2 ^ 9 ≠ 0x1C3 ∨ s.boot.warm ∨ s.boot.perst ∨ isFatal s then s
    else
      let s1 := rcnt 0x3088 16 16 1 s
      { s1 with net := { s1.net with tx := [] }, boot := { s1.boot with warm := true, fetchStop := true, cause := c } }

/-- WARM_RESET (R505): a write of RST_CTRL. Fetch and transmission stop, and nothing more is written to the host. -/
def execWarmReset (req : Req) (v : W32) (s : State) : Host.Outcome State Fault Refusal := .next (warmWrite req v.toNat s)

/-- REFCLK_LOSS (R454): REFCLK is lost (`ref`), or the lock of the root PLL alone. -/
def execRefclkLoss (ref : Bool) (s : State) : Host.Outcome State Fault Refusal :=
  .next (if !s.boot.rootLock then s
    else
      let s1 := { s with boot := { s.boot with refclk := s.boot.refclk && !ref, rootLock := false } }
      if s.boot.perst then s1 else raise 0x3F 2 s1)

/-- ROOT_PLL_RELOCK (R454): REFCLK is back while PERST# is asserted; the device clock goes on from its held value. -/
def execRootPllRelock (s : State) : Host.Outcome State Fault Refusal :=
  .next (if !s.boot.rails ∨ !s.boot.perst ∨ s.boot.rootLock then s
    else { s with
      clk := if s.boot.everLocked then s.clk else 0
      boot := { s.boot with refclk := true, rootLock := true, everLocked := true } })

/-- A running NVS write is cut: its bank is invalid (R483). -/
def nvsCut (n : Nvs) : Nvs :=
  match n.write with
  | none => n
  | some w =>
    let n1 := { n with write := none }
    if w.toB then { n1 with b := { n.b with valid := false } } else { n1 with a := { n.a with valid := false } }

/-- POWER_REMOVAL (R473, R483): with PERST# asserted every rail falls, VDD_AON last. A rail that leaves its tolerance while
PERST# is deasserted raises DEVICE_FATAL first; the rest falls after it. -/
def execPowerRemoval (s : State) : Host.Outcome State Fault Refusal :=
  .next (if !s.boot.perst ∧ s.boot.rails then raise 0x3F 6 { s with boot := { s.boot with rails := false } }
    else
      let s1 := clearHeld (clearChip { s with nvs := nvsCut s.nvs })
      { s1 with boot := { s1.boot with aon := false } })

/-! ### Start-up (R475) -/

/-- Start-up stops at a step (R477). -/
def bootStop (step cause : Nat) (s : State) : State :=
  { s with boot := { s.boot with step := step, stopStep := step, stopCause := cause, recovery := decide (cause ≤ 2) } }

/-- Verify the copies of an image in turn; the first that passes runs (R294). -/
def loadImage (ty idx : Nat) : List Nat → State → Bool × State
  | [], s => (false, s)
  | a :: l, s =>
    let m := tget ({} : Img) s.sec.flash a
    if m.ty = ty ∧ imgOk s m then (true, { s with sec := { s.sec with images := tput s.sec.images idx m } })
    else loadImage ty idx l (secCnt 2 s)

/-- Step 1 (R285, R287, R294, R308, R320): lifecycle, the keys drawn at every start-up, the binding table. -/
def bootSec (s : State) : State :=
  let s0 := { s with sec := { s.sec with lc := lcBurntState s.sec.lcBurnt, seededAt := s.sec.drbg } }
  let (x, s1) := draw s0
  let (w, s2) := draw s1
  let s3 := { s2 with sec := { s2.sec with
    devXts := 1 + x, devWrap := 1 + w, loaded := s2.sec.cluster.isSome && decide (s2.sec.dbgLevel = 0)
    bindLocked := decide (s2.sec.lc ≠ 0) } }
  forAll (List.range 4) (fun c s => rset (0x60C0 + 8 * c) (tget 0 s.sec.bind c &&& 0x0003FFFF0003FFFF) s) s3

/-- Step 3 (R480, R486, R497): the settings image and the registers it loads; the committed gears of a part whose image has
none are the top gear of its grade. -/
def bootSettings (s : State) : State :=
  let sel := newerBank s.nvs
  let s1 := { s with nvs := { s.nvs with defaults := sel.isNone, inUseB := sel.getD false } }
  let img := imageInUse s1
  let s2 := { s1 with flt := { s1.flt with cls := img.classes } }
  let s3 := forAll img.regs (fun r s =>
    let m := (nvsRegs.find? (fun e => e.1 == r.1)).map (·.2)
    rset r.1 ((resetAt r.1 &&& (2 ^ 64 - 1 - m.getD 0)) ||| (r.2 &&& m.getD 0)) s) s2
  forAll (List.range 8) (fun p s => if (tfind img.regs (aPelCtrl p)).isSome then s else rset (aPelCtrl p) (b2n s.board.grade14) s) s3

/-- Apply stored patches in ascending level, until one fails R411 (R413). -/
def loadPatches : List Img → State → State
  | [], s => s
  | m :: l, s =>
    if m.ty ≠ 4 ∨ !imgOk s m then secCnt 2 s
    else if !patchFits s.mcode.run m.body ∨ !patchSound s.mcode.run m then s
    else loadPatches l { s with
      mcode := { s.mcode with run := patchStore s.mcode.run m }, sec := { s.sec with images := tput s.sec.images 2 m } }

/-- Step 5 (R294, R296, R409, R411 to R413): the microcode base and its patches, and the operator extension. -/
def bootMcode (s : State) : State :=
  let m := tget ({} : Img) s.sec.flash 5
  let ok := decide (m.ty = 3) && imgOk s m && m.body.lenOk && m.body.unique && decide (1 ≤ m.body.base) && decide (m.body.base < 2 ^ 16) &&
    (baseStore m).ok
  let s1 := if ok then
      loadPatches (sortBy (fun a b => decide (a.body.level ≤ b.body.level)) (s.sec.patches.map (·.2)))
        { s with mcode := { run := baseStore m }, sec := { s.sec with images := tput s.sec.images 2 m } }
    else secCnt 2 s
  if opKey s1 = 0 then s1 else (loadImage 2 3 [4] s1).2

/-- Step 6: one controller (R332, R348). -/
def trainMc (n : Nat) (r : TrainRes) (s : State) : State :=
  let m := mcOf s n
  let rec' := tfind (imageInUse s).train n
  let hit := match rec' with
    | some (k, _) => decide (k = m.key) && r.stored
    | none => false
  let up := fun (slow : Bool) (d : Tab Nat) (s : State) =>
    polMod (72 + n) (fun p => { p with st := .opened })
      (mcMod n (fun m => { m with st := .active, slow := slow, inService := true, delays := d, lastReq := s.now, since := s.now }) s)
  if m.populated && hit then up (decide (rfld s (aMc n 0x80) 0 2 = 1)) ((rec'.map (·.2)).getD []) s
  else if m.populated && r.high && decide (rfld s (aMc n 0x80) 0 2 = 0) then up false r.delays s
  else if m.populated && r.low then up true r.delays s
  else polMod (72 + n) (fun p => { p with st := .out }) (mcMod n (fun m => { m with st := .out, inService := false }) s)

/-- Polders are re-initialised: OPEN, with nothing pending; seal counts stay (R444). -/
def bootPolders (s : State) : State :=
  { s with flt := { s.flt with
      polders := (s.flt.polders.map (fun e => (e.1, ({ sealCnt := e.2.sealCnt } : Polder)))).filter (fun e => decide (e.2 ≠ {})) } }

/-- Type of a pool by its code. -/
def poolTy (c : Nat) : PoolTy := if c = 1 then .packet else if c = 2 then .bitstream else if c = 3 then .frame else .disabled
/-- Is the configuration of one pool in range (R363)? -/
def poolCfgOk (v : Nat) : Bool :=
  let kib := bitsOf v 12 20
  let ty := bitsOf v 0 2
  decide (bitsOf v 32 10 ≤ 1000) && (decide (ty = 0) || (decide (1 ≤ kib) && (decide (ty ≠ 2) || decide (kib % 64 = 0)) &&
    (decide (ty ≠ 3) || decide (kib % 2048 = 0))))

/-- The BPM's layout (R352, R353). -/
def bootBpm (s : State) : State :=
  let cfg := (List.range 16).map (fun p => rget s (aBpm (0x80 + 8 * p)))
  let bad := decide ((cfg.map (fun v => bitsOf v 32 10)).sum > 1000) || cfg.any (fun v => !poolCfgOk v)
  let use := if bad then poolDefault.map poolWord else cfg
  let ms := (List.range 16).filter (fun n => (mcOf s n).inService)
  let mem := poolMemory s
  let pool := fun (v : Nat) =>
    let size := bitsOf v 12 20 * 1024
    let n := if bitsOf v 0 2 = 0 ∨ size = 0 then 0 else bitsOf v 32 10 * mem / 1000 / size
    let k := min n 1048575
    ({ ty := poolTy (bitsOf v 0 2), size := size, share := bitsOf v 32 10, count := k - k % max 1 ms.length } : Pool)
  let s1 := { s with bpm := {
    mcs := ms, cfg := (use.mapIdx (fun i v => (i, v))).foldl (fun t e => tset 0 t e.1 e.2) []
    pools := (use.mapIdx (fun i v => (i, pool v))).foldl (fun t e => tset {} t e.1 e.2) [] } }
  if bad then raise 0x36 0 s1 else s1

/-- Step 7: pairs of the stored TANDEM_MASK are joined (R192, R194); `fails`: those whose seam training fails. -/
def bootTandem (fails : List (Fin 32)) (s : State) : State :=
  forAll ((List.range 32).filter (fun k => bitAt (imageInUse s).tandem k && !fails.any (fun f => f.val == k)))
    (fun k s => pairMod k (fun _ => { st := .joined, trained := true, enabled := true }) s) s

/-- Steps 7 and 8 (R194, R295, R348, R416, R455, R500): READY rises, and what waited for it is written. -/
def bootReady (fails : List (Fin 32)) (s : State) : State :=
  let s1 := bootTandem fails (bootBpm s)
  let s2 := forAll (List.range 64) reloadCore s1
  let s3 := forAll (List.range 8) (fun p s => gearMod p (fun _ => { run := 5, vCode := entryCode 5 }) s) s2
  let s4 := pgBlock ⟨.dev, 0⟩ { s3 with boot := { s3.boot with step := 8, ready := true } }
  let s5 := forAll ((List.range 16).filter (fun n => (mcOf s4 n).st == .out)) (fun n s =>
    let (f, s) := takeFree s
    evtPf 0x0023 7 (72 + n + Config.freeNat f % 2 ^ 14 * 2 ^ 16) 1 s) s4
  let s6 := forAll ((List.range 32).filter (fun k => bitAt (imageInUse s5).tandem k && fails.any (fun f => f.val == k)))
    (fun k s => evtSplit k 0 s) s5
  forAll [0, 1, 3] (fun i s => svnCommit (tget {} s.sec.images i) s) s6

/-- The start-up sequence from step 1 (R475, R477). -/
def startUp (train : List TrainRes) (fails : List (Fin 32)) (s : State) : State :=
  let s1 := rset 0x3084 (2 ^ s.boot.cause) s
  if isFatal s1 then bootStop 1 4 s1
  else
    let s2 := bootSec s1
    match loadImage 0 0 [0, 1] s2 with
    | (false, s3) => bootStop 2 1 s3
    | (true, s3) =>
      match loadImage 1 1 [2, 3] (bootSettings s3) with
      | (false, s4) => bootStop 4 2 s4
      | (true, s4) =>
        let s5 := forAll (List.range 16) (fun n s => trainMc n (train.getD n {}) s) (bootPolders (bootMcode s4))
        if ((List.range 16).filter (fun n => (mcOf s5 n).inService)).length < 2 then bootStop 6 3 s5 else bootReady fails s5

/-- START_UP (R444, R475, R477, R543): PERST# is deasserted, or an accepted warm reset goes on. `straps`: the levels sampled at
deassertion; `train`: what training comes to by controller; `fails`: pairs whose seam training fails. -/
def execStartUp (straps : Byte) (train : List TrainRes) (fails : List (Fin 32)) (s : State) : Host.Outcome State Fault Refusal :=
  .next (if !(s.boot.perst || s.boot.warm) ∨ !s.boot.rails ∨ !s.boot.rootLock then s
    else
      let st := if s.boot.perst then straps.toNat else s.boot.straps
      let s1 := clearChip s
      startUp train fails { s1 with boot := { s1.boot with
        perst := false, warm := false, ready := false, step := 1, stopStep := 0, stopCause := 0, recovery := false
        straps := st, qspiDtr := s.board.dtr && !bitAt st 3, fetchStop := isFatal s } })

/-! ### JTAG (R321, R542) -/

/-- IDCODE. -/
def jtagId : Nat := 0x16440B3F
/-- Cells of input-only pins (STRAP0 to STRAP7, PERST_N) that capture 0: outputs and enables, with the cell nearest TDO as bit
0. -/
def jtagZero : List Nat := ((List.range 9).map (fun i => [3 * (12 + i) + 1, 3 * (12 + i) + 2])).flatten

/-- May the instruction act (R321)? -/
def jtagOpen (s : State) (op : JtagOp) : Bool :=
  match op with
  | .idcode | .bypass | .sample => true
  | .extest => s.boot.perst || decide (s.sec.dbgLevel = 2)
  | .other _ => decide (s.sec.lc = 0) || decide (s.sec.dbgLevel = 2)

/-- JTAG_INSTRUCTION (R321, R542): the register it selects and what that captures; a locked instruction acts as BYPASS.
`pins`: the boundary cells as the pins and their drivers stand. -/
def execJtagInstruction (op : JtagOp) (pins : BitVec 66) (s : State) : Host.Outcome State Fault Refusal :=
  let cells := ((List.range 66).filter (fun i => pins.getLsbD i && !jtagZero.contains i)).map (2 ^ ·)
  .next (if !s.boot.aon then s
    else if !jtagOpen s op then emit (.jtag 1 1 0) { s with jtagIr := 1 }
    else
      match op with
      | .idcode => emit (.jtag 0 32 jtagId) { s with jtagIr := 0 }
      | .bypass => emit (.jtag 1 1 0) { s with jtagIr := 1 }
      | .sample => emit (.jtag 2 66 cells.sum) { s with jtagIr := 2 }
      | .extest => emit (.jtag 3 66 cells.sum) { s with jtagIr := 3 }
      | .other c =>
        let (f, s1) := takeFree s
        emit (.jtag (4 + c) (Config.freeNat f) (Config.freeNat (f + 1))) { s1 with jtagIr := 4 + c, free := s1.free + 1 })

end Sys2Proof.Machine
end

