-- ==== Sys2Proof/Machine/BpmCmds.lean ====
section
/-! DEFINITION. The operations the BPM takes from its request ports (R356 to R361). -/

namespace Sys2Proof.Machine

/-- Give the BPM's answer to a port. -/
def bpmAnswer (port : Nat) (r : AllocRes) (s : State) : State :=
  match r with
  | .ok h => emit (.bpmResp port 0 h) s
  | .noFit => emit (.bpmResp port 1 0) s
  | .empty => emit (.bpmResp port 2 0) s
  | .fenced => emit (.bpmResp port 3 0) s

/-- Owner of a buffer allocated for a session, or by the device for itself (R355). -/
def ownerFor (s : State) (sid : Option (Fin 4096)) : Nat :=
  match sid with
  | none => 0x7F
  | some x => (sessOf s x).owner

/-- ALLOC (R356, R358, R359, R361): port, type, size, class, session charged, and the requester's number for its ticket
(none: a requester that does not retry). -/
def execAlloc (port : Fin 15) (ty : PoolTy) (size : Nat) (cls : Fin 4) (sid : Option (Fin 4096)) (rid : Option Nat)
    (s : State) : Host.Outcome State Fault Refusal :=
  let (r, s1) := bpmAlloc { ty := ty, size := size, cls := cls, sid := sid.map (·.val), owner := ownerFor s sid,
                            rid := rid, port := port } s
  .next (bpmAnswer port r s1)

/-- REF (R356, R360): `who` is the requester identity. While the BPM is sealed the requester keeps the operation
(R427). -/
def execRef (port : Fin 15) (who : Fin 128) (handle : W32) (s : State) : Host.Outcome State Fault Refusal :=
  .next (if !polOpen s 93 then s
    else
      let (ok, s1) := bpmRef port who handle.toNat s
      emit (.bpmResp port (if ok then 0 else 4) handle.toNat) s1)

/-- UNREF (R356, R360, R361). -/
def execUnref (port : Fin 15) (who : Fin 128) (handle : W32) (s : State) : Host.Outcome State Fault Refusal :=
  .next (if !polOpen s 93 then s
    else
      let (ok, s1) := bpmUnref port who handle.toNat false s
      emit (.bpmResp port (if ok then 0 else 4) handle.toNat) s1)

/-- RESERVE (R356, R358). -/
def execReserve (port : Fin 15) (pool : Fin 16) (sid : Fin 4096) (n : Nat) (s : State) : Host.Outcome State Fault Refusal :=
  let (ok, s1) := bpmReserve pool sid n s
  .next (emit (.bpmResp port (if ok then 0 else if polOpen s 93 then 4 else 3) 0) s1)

/-- UNRESERVE (R356). -/
def execUnreserve (port : Fin 15) (pool : Fin 16) (sid : Fin 4096) (n : Nat) (s : State) : Host.Outcome State Fault Refusal :=
  .next (if !polOpen s 93 then emit (.bpmResp port 3 0) s
    else emit (.bpmResp port 0 0) (bpmUnreserve pool sid n s))

/-- ALLOC_RETRY (R361): a refused requester tries again once its backoff has passed; a handle it takes waits for it. -/
def execAllocRetry (rid : Nat) (s : State) : Host.Outcome State Fault Refusal :=
  .next (match tfind s.bpm.retries rid with
    | none => s
    | some t =>
      if t.got.isSome ∨ s.now < t.next then s
      else
        let (r, s1) := bpmAlloc { ty := t.ty, size := t.size, cls := t.cls, sid := t.sid, owner := t.fn,
                                  rid := some rid, port := t.port } s
        let s2 := match r with
          | .ok h => { s1 with bpm := { s1.bpm with retries := tput s1.bpm.retries rid { t with got := some h } } }
          | _ => s1
        bpmAnswer t.port r s2)

/-- BPM_HOLD_EXPIRE (R361): a buffer held for a ticket for 8,192 FCLK cycles returns to F. -/
def execBpmHoldExpire (pool : Fin 16) (s : State) : Host.Outcome State Fault Refusal :=
  .next (poolMod pool (fun q => match q.held with
    | none => q
    | some (_, _, t) => if s.now ≥ t then { q with held := none } else q) s)

end Sys2Proof.Machine
end

