-- ==== Sys2Proof/Machine/Dram.lean ====
section
/-! DEFINITION. DRAM requests (R333, R336 to R342): device addresses, service with the inline code, and the queue that waits for
the end of self-refresh (R346). Encryption under the key slots of R308 is transparent to a requester. -/

namespace Sys2Proof.Machine

/-- Controller and local data offset of a device address (R333). -/
def devMc (a : Nat) : Nat := a / 2 ^ 35
def devOff (a : Nat) : Nat := a % 2 ^ 35
/-- Channel of a local data offset (R333). -/
def devChan (d : Nat) : Nat := (d / 2 ^ 8 ^^^ d / 2 ^ 13 ^^^ d / 2 ^ 18) % 4
/-- Channel data offset, and DRAM line of the data line it lies in (R333). -/
def chanOff (d : Nat) : Nat := d / 2 ^ 10 * 2 ^ 8 + d % 2 ^ 8
def dramLine (d : Nat) : Nat := let l := chanOff d / 64; l + l / 31
/-- The line and entry of its check word (R333). -/
def checkLine (d : Nat) : Nat × Nat := let l := chanOff d / 64; (32 * (l / 31) + 31, l % 31)

/-- Bytes of device memory. -/
def dramBytes (s : State) : Nat → Nat → List Byte
  | _, 0 => []
  | a, n + 1 => dramByte s a :: dramBytes s (a + 1) n

/-- A line is read, for a read or a partial write, and its error noted and raised (R337, R338). -/
def lineRead (n : Nat) (r : DReq) (s : State) : State :=
  let acc := if r.write then 3 else 1
  if r.ecc = 1 then raiseAt 0x20 n r.addr 1 r.port acc (eccNote n 0 r.addr s)
  else if r.ecc = 2 then raiseAt 0x21 n r.addr 1 r.port acc (eccNote n 1 r.addr s)
  else s

/-- The controller serves a request. A partial write over a line it cannot correct leaves the rest of the line undefined
(log 20). -/
def dramServe (r : DReq) (s : State) : State :=
  let n := devMc r.addr
  let c := devChan (devOff r.addr)
  let s0 := if r.cls = 0 then chMod n c (fun h => { h with lastRt := some s.now }) s else s
  if r.write then
    let whole := decide (r.addr % 64 = 0) && decide (r.data.length = 64)
    let s1 := if whole then s0 else lineRead n r s0
    let line := r.addr / 64 * 64
    let s2 := if !whole ∧ r.ecc = 2 then
        { s1 with dram := s1.dram.filter (fun e => !(decide (line ≤ e.1) && decide (e.1 < line + 64))), free := s1.free + 1 }
      else s1
    emit (.dramEnd r.addr false) { s2 with dram := Memory.writes s2.dram r.addr r.data }
  else
    let s1 := lineRead n r s0
    if r.ecc = 2 then emit (.dramRd r.addr [] true) s1
    else emit (.dramRd r.addr (dramBytes s1 r.addr r.len) false) s1

/-- Rank of a waiting request: its class, RT once it has waited 2 µs (R340). -/
def DReq.rank (now : Nat) (r : DReq) : Nat := if now ≥ r.arrived + psUs 2 then 0 else r.cls

/-- The next request served among those that wait: none older names its line; best class, then oldest (R340, R341). -/
def nextReq (now : Nat) (l : List DReq) : Option DReq :=
  (l.filter (fun r => l.all (fun q => decide (q.addr / 64 ≠ r.addr / 64) || decide (q.order ≥ r.order)))).foldl
    (fun b r => match b with
      | none => some r
      | some q => if r.rank now < q.rank now ∨ (r.rank now = q.rank now ∧ r.order < q.order) then some r else some q) none

/-- Serve what waits, `n` requests at most. -/
def serveAll : Nat → List DReq → State → State
  | 0, _, s => s
  | n + 1, l, s =>
    match nextReq s.now l with
    | none => s
    | some r => serveAll n (l.filter (fun q => q.order != r.order)) (dramServe r s)

/-- Every request that waits in a channel. -/
def McCh.waiting (h : McCh) : List DReq := h.reads ++ h.writes

/-- A request waits in its channel's queue of 32 reads or 16 writes (R340). -/
def dramWait (r : DReq) (s : State) : State :=
  chMod (devMc r.addr) (devChan (devOff r.addr)) (fun h =>
    let q := { r with arrived := s.now, order := h.waiting.foldl (fun m e => max m (e.order + 1)) 0 }
    if r.write then (if h.writes.length < 16 then { h with writes := h.writes ++ [q] } else h)
    else if h.reads.length < 32 then { h with reads := h.reads ++ [q] } else h) s

/-- DRAM_REQUEST (R333, R336 to R341): a request within one 64-byte line. A write stores `data`; `ecc` is what the check of the line
finds. Above the usable capacity no such address exists; a controller that is fenced answers fenced-abort. -/
def execDramRequest (port : Fin 15) (write : Bool) (addr : Fin (2 ^ 39)) (len : Nat) (data : List Byte) (cls : Fin 3) (ecc : Fin 3)
    (s : State) : Host.Outcome State Fault Refusal :=
  let n := devMc addr
  let m := mcOf s n
  let r : DReq := { write := write, addr := addr, len := len, data := data, cls := cls, port := port, ecc := ecc }
  let last := devOff addr + (if write then data.length else len) - 1
  if !polOpen s (72 + n) ∨ isFatal s then .next (emit (.dramEnd addr true) s)
  else if !m.inService then .next s
  else if last ≥ usableCap m.density then .fault .noSuchAddress
  else
    let s1 := mcMod n (fun m => { m with lastReq := s.now }) s
    match m.st with
    | .active => .next (dramServe r s1)
    | .srPrep => .next (dramServe r (mcMod n (fun m => { m with st := .active, since := s.now }) s1))
    | .srEntry | .selfRefresh | .srExit => .next (dramWait r s1)
    | .off | .training | .out => .next s

/-- SR_EXIT_DONE (R346): the controller is ACTIVE and serves what waits. -/
def execSrExitDone (mc : Fin 16) (s : State) : Host.Outcome State Fault Refusal :=
  .next (if !mcLive s mc ∨ (mcOf s mc).st ≠ .srExit then s
    else
      let l := ((List.range 4).map (fun c => ((mcOf s mc).chan c).waiting.map (fun r => (c, r)))).flatten
      let s1 := mcMod mc (fun m => { m with
        st := .active, since := s.now, ch := m.ch.map (fun e => (e.1, { e.2 with reads := [], writes := [] })) }) s
      forAll (List.range 4) (fun c s =>
        let q := (l.filter (fun e => e.1 == c)).map (·.2)
        serveAll q.length q s) s1)

end Sys2Proof.Machine
end

