-- ==== Sys2Proof/Machine/RegRead.lean ====
section
/-! DEFINITION. What the registers read as (R10, R329, R351, R363, R377, R385, R393, R418, R452, R485 to R487, R499, R502, R504,
R506, R507, R509): the fields that follow the state of the block beside those that are plain storage. -/

namespace Sys2Proof.Machine

/-! ### The common header (R499) -/

/-- STATE of FLT_POLDER and PG_FENCE (R452). -/
def PolSt.code : PolSt → Nat
  | .opened => 0 | .sealed => 1 | .testing => 2 | .quiescing => 3 | .out => 4

/-- Fault sources served by a page (R421). -/
def pageSrcs (p : Page) : Nat := (allSrcs.filter (fun i => srcPage i == p)).length

/-- The step of R475 that completes a page's block. -/
def PageTy.startStep : PageTy → Nat
  | .clk | .rst | .flt => 0
  | .sec => 2
  | .nvs | .pcie | .pwr | .time | .eth | .hq => 3
  | .mbx | .mic => 4
  | .mc => 6
  | .bpm | .dma | .pkt | .pel | .core | .dev => 7

/-- PG_STAT.READY: READY, or start-up stopped after the page's step (R476, R477, R499; DEDUCED, log 46). -/
def pageReady (s : State) (p : Page) : Bool :=
  !s.boot.perst && !s.boot.warm && (s.boot.ready || decide (s.boot.stopStep > p.ty.startStep))

/-- PG_STAT. -/
def pgStat (s : State) (p : Page) : Nat :=
  b2n (pageReady s p) + 2 * b2n (!polOpen s p.polder) +
    4 * b2n (decide (rget s (p.at 0x18) &&& rget s (p.at 0x1C) ≠ 0)) + 8 * rfld s (p.at 0x20) 12 1 + 16 * rfld s (p.at 0x40) 63 1

/-- PG_FENCE. -/
def pgFence (s : State) (p : Page) : Nat :=
  let q := polder s p.polder
  if p.polder ≥ 95 then p.polder * 2 ^ 4 else q.st.code + b2n q.pending * 2 ^ 3 + p.polder * 2 ^ 4

/-- A register of the header. -/
def headerVal (s : State) (p : Page) (off : Nat) : Nat :=
  match off with
  | 0x000 => p.ty.code + p.inst * 2 ^ 8 + 0x4E4C * 2 ^ 16
  | 0x008 => b2n (decide (pageSrcs p ≠ 0)) + pageSrcs p * 2 ^ 8 + p.polder * 2 ^ 16
  | 0x014 => pgStat s p
  | 0x024 => pgFence s p
  | _ => rget s (p.at off)

/-! ### DEV, CLK, PWR (R485, R486, R502) -/

/-- Sessions not in FREE. -/
def openSessions (s : State) : List (Nat × Session) := s.sess.filter (fun p => p.2.st != .free)

/-- DEV_STAT. -/
def devStat (s : State) : Nat :=
  b2n s.boot.ready + s.boot.step * 2 + s.boot.stopStep * 2 ^ 5 + s.boot.stopCause * 2 ^ 9 + b2n s.boot.recovery * 2 ^ 12 +
    b2n (isFatal s) * 2 ^ 13 + ((List.range 16).filter (fun n => (mcOf s n).inService)).length * 2 ^ 14

/-- DEV_SESS. -/
def devSess (s : State) : Nat := (openSessions s).length + ((List.range 64).filter (coreUp s)).length * 2 ^ 16

/-- CLK_STAT: a SerDes PLL's lock is that of its port's link (log 47). -/
def clkStat (s : State) : Nat :=
  b2n s.boot.rootLock + b2n s.boot.refclk * 2 + maskOf 3 (fun i => decide ((port s i).link ≠ .down)) * 2 ^ 2 +
    maskOf 2 (fun i => (List.range 4).any (fun k => (subOf s (4 * i + k)).up)) * 2 ^ 5

/-- CAP_CAUSE of PWR_PEL_STAT: the slowest cap, the lowest code on a tie. -/
def capCause (g : Gear) : Nat :=
  match slowCap g with
  | none => 0
  | some c => if g.thermal = some c then 1 else if g.droop = some c then 2 else 3

/-- PWR_PEL_STAT. -/
def pwrStat (s : State) (p : Nat) : Nat :=
  let g := gearOf s p
  g.run + gCap s p * 2 ^ 3 + capCause g * 2 ^ 6 + g.vCode * 2 ^ 8 + g.slack * 2 ^ 16 + pelT s p % 2 ^ 8 * 2 ^ 24

/-- A block register of these pages. -/
def devVal (s : State) : Nat → Option Nat
  | 0x080 => some (devId s)
  | 0x088 => some s.board.serial
  | 0x090 => some (devStat s)
  | 0x094 => some (devSess s)
  | 0x09C => some s.boot.straps
  | _ => none

/-! ### FLT, NVS, SEC (R329, R452, R487) -/

/-- FLT_STAT. -/
def fltStat (s : State) : Nat :=
  ((List.range 95).filter (fun i => !polOpen s i)).length + b2n (isFatal s) * 2 ^ 7 +
    b2n (allPages.any (fun p => rfld s (p.at 0x20) 12 1 == 1)) * 2 ^ 8

/-- FLT_SRC_CFG of the selected source; 0 for an ID that does not exist. -/
def srcCfg (s : State) : Nat :=
  let src := rfld s 0x40B0 0 12
  if srcReal src then srcClass s src + srcDefault src * 2 ^ 2 + srcAllowed src * 2 ^ 4 + 2 ^ 7 else 0

/-- FLT_POLDER of a polder. -/
def fltPolder (s : State) (i : Nat) : Nat :=
  let p := polder s i
  p.st.code + b2n p.pending * 2 ^ 3 + b2n p.testFail * 2 ^ 4 + p.cause * 2 ^ 16 + p.sealCnt * 2 ^ 32

/-- A block register of FLT. -/
def fltVal (s : State) (off k : Nat) : Option Nat :=
  match off with
  | 0x084 => some (fltStat s)
  | 0x0B4 => some (srcCfg s)
  | 0x0B8 => some (tget 0 s.flt.cnt (rfld s 0x40B0 0 12))
  | 0x0C0 => some (match s.flt.fatal with
    | none => 0
    | some (src, _) => src + 2 ^ 15)
  | 0x0C8 => some (match s.flt.fatal with
    | none => 0
    | some (_, t) => t)
  | 0x400 => some (fltPolder s k)
  | _ => none

/-- A block register of NVS. -/
def nvsVal (s : State) (off : Nat) : Option Nat :=
  let n := s.nvs
  match off with
  | 0x080 => some (b2n n.inUseB + 2 * b2n ((newerBank n).getD false) + 4 * b2n n.a.valid + 8 * b2n n.b.valid + 16 * b2n n.write.isSome +
      32 * b2n (decide (n.a.stores > 100000)) + 64 * b2n (decide (n.b.stores > 100000)) + 128 * b2n n.defaults)
  | 0x088 => some ((if n.a.valid then n.a.gen else 0) + (if n.b.valid then n.b.gen else 0) * 2 ^ 32)
  | 0x090 => some (n.a.stores + n.b.stores * 2 ^ 32)
  | _ => none

/-- A block register of SEC. -/
def secVal (s : State) (off : Nat) : Option Nat :=
  let x := s.sec
  match off with
  | 0x080 => some (x.lc + x.dbgLevel * 2 ^ 2 + b2n x.cluster.isSome * 2 ^ 4 + b2n (mbxAuth s) * 2 ^ 5 + b2n s.boot.recovery * 2 ^ 6 +
      b2n (decide ((tget ({} : Img) x.images 3).hash ≠ 0)) * 2 ^ 7 + b2n x.bindLocked * 2 ^ 8 +
      ((openSessions s).filter (·.2.protected')).length * 2 ^ 16)
  | 0x088 => some ((clusterIds s).1 + cdidOf s * 2 ^ 32 + (clusterIds s).2 * 2 ^ 48)
  | 0x090 => some (otpSvn s + runSvn s * 2 ^ 32)
  | 0x0A4 => some (min x.injCount 0xFFFF + x.injLast * 2 ^ 16)
  | _ => none

/-! ### MBX, MIC, BPM, DMA, HQ (R242, R363, R377, R385, R393) -/

/-- A block register of MBX. -/
def mbxVal (s : State) (off c : Nat) : Option Nat :=
  let m := mbxOf s c
  match off with
  | 0x108 => some (m.inFree + m.inPart.length * 2 ^ 8 + m.inMsgs.length * 2 ^ 16)
  | 0x10C => some (mbxOutWord s c)
  | 0x110 => some (m.outWords + (m.outMsgs.filter (fun x => x.dest.isNone)).length * 2 ^ 8 +
      b2n (match m.outMsgs with
        | x :: _ => x.dest.isNone
        | [] => false) * 2 ^ 13)
  | _ => none

/-- A block register of MIC. -/
def micVal (s : State) (off k : Nat) : Option Nat :=
  match off with
  | 0x100 => some (maskOf 32 (fun i => micReal (32 * k + i) && (micSrcOf s (32 * k + i)).pend))
  | 0x140 => some (maskOf 32 (fun i => (micSrcOf s (32 * k + i)).activeAt.isSome))
  | 0x180 => some 0
  | 0x204 => some (micNext s k)
  | 0x20C => some (micRunning s k + b2n (s.micSrc.any (fun e => e.2.activeAt == some k)) * 2 ^ 4 + b2n (micTgtOf s k).sleeping * 2 ^ 5 +
      b2n (micTgtOf s k).irq * 2 ^ 6 + micNext s k * 2 ^ 16)
  | 0x800 => if 224 ≤ k ∧ k ≤ 255 then some (setBits (micCfg s k) 8 1 1) else none
  | _ => none

/-- BPM_POOL_STAT. -/
def poolStat (s : State) (p : Nat) : Nat :=
  poolFree s p + (poolOf s p).count * 2 ^ 20 + poolQ s p * 2 ^ 40 +
    b2n (decide (rget s (aBpm (0x80 + 8 * p)) ≠ tget 0 s.bpm.cfg p)) * 2 ^ 60

/-- STATE of DMA_CH_STAT. -/
def DmaSt.code : DmaSt → Nat
  | .off => 0 | .idle => 1 | .run => 2 | .halted => 3

/-- A block register of a DMA page; `c` is the channel. -/
def dmaVal (s : State) (off c : Nat) : Option Nat :=
  let d := dmaOf s c
  match off with
  | 0x104 => some (d.st.code + b2n d.shadowPend * 2 ^ 2 + rfld s (aDma c 0x04) 3 3 * 2 ^ 3 + d.lastStatus * 2 ^ 8)
  | 0x120 => some d.remain
  | _ => none

/-- A block register of a function's HQ page. -/
def hqVal (s : State) (off fn : Nat) : Option Nat :=
  match off with
  | 0x094 => some (b2n (aqUp s fn) + 2 * b2n ((s.qps.filter (fun q => q.1 / 256 == fn)).any (fun q => q.2.st != .direct)))
  | 0x098 => some (slotsOf s fn + pairsOf s fn * 2 ^ 16)
  | 0x0A0 => if fn = 0 then none else some 0
  | _ => none

/-! ### ETH, PKT, TIME (R279 to R281) -/

/-- ETH_LINK. -/
def ethLink (s : State) (i : Nat) : Nat :=
  maskOf 4 (fun k => (subOf s (4 * i + k)).up) + rfld s (0x200A8 + 0x1000 * i) 4 4 * 2 ^ 4

/-- A signed number in `n` bits, saturating. -/
def toSigned (n : Nat) (x : Int) : Nat := (clampI x (-(2 ^ (n - 1))) (2 ^ (n - 1) - 1) % 2 ^ n).toNat

/-- A block register of TIME. -/
def timeVal (s : State) (off d : Nat) : Option Nat :=
  match off with
  | 0x084 => some (s.time.st.code + s.time.active % 2 * 2 ^ 3 + b2n (ptp s 0).usable * 2 ^ 4 + b2n (ptp s 1).usable * 2 ^ 5 +
      rfld s 0x23084 6 1 * 2 ^ 6)
  | 0x088 => some (devTime s)
  | 0x0A0 => some (toSigned 32 (ptp s d).o + toSigned 32 ((ptp s d).integ / 65536) * 2 ^ 32)
  | 0x0B8 => some (toSigned 32 (s.adj / 65536))
  | _ => none

/-! ### MC (R351) -/

/-- STATE of MC_STAT. -/
def McSt.code : McSt → Nat
  | .off | .training => 0
  | .active => 1 | .srPrep => 2 | .srEntry => 3 | .selfRefresh => 4 | .srExit => 5 | .out => 6

/-- A block register of an MC page. -/
def mcVal (s : State) (n off k : Nat) : Option Nat :=
  let m := mcOf s n
  match off with
  | 0x080 => some (rfld s (aMc n 0x80) 0 2 + m.density * 2 ^ 2)
  | 0x084 => some (m.st.code + b2n (!polOpen s (72 + n)) * 2 ^ 3 + b2n m.slow * 2 ^ 4 + m.mult * 2 ^ 5 + b2n (mcRt s n) * 2 ^ 7 +
      b2n m.populated * 2 ^ 8 + b2n (decide (m.st = .training)) * 2 ^ 9)
  | 0x08C => some (((List.range 4).map (fun c => (m.chan c).owed)).foldl max 0 + rfld s (aMc n 0x8C) 8 1 * 2 ^ 8 +
      rfld s (aMc n 0x8C) 16 16 * 2 ^ 16)
  | 0x098 =>
    let h := m.chan k
    some (h.osc + toSigned 16 h.delta * 2 ^ 16 + h.adj * 2 ^ 32)
  | 0x0DC => some (tget 0 m.delays (rget s (aMc n 0xD8)))
  | _ => none

/-! ### PEL, CORE, PCIE (R418, R506, R507, R509) -/

/-- Codes of a pair's state. -/
def PairSt.code : PairSt → Nat
  | .single => 0 | .joining => 1 | .joined => 2 | .halfFenced => 3

/-- Complete packets of a class in a peloton's queue (R56). -/
def packetsOf (s : State) (p l : Nat) : Nat :=
  ((pelOf s p).queue.filter (fun q => q.lc == l && q.written == q.words.length)).length

/-- PEL_TEMP. -/
def pelTemp (s : State) (p : Nat) : Nat :=
  let t := pelT s p
  let hot := ((List.range 8).find? (fun i => (gearOf s p).temps.getD i 0 == t)).getD 0
  t % 2 ^ 8 + hot * 2 ^ 8 + b2n (decide (t ≥ rfld s (aSteer p) 0 8)) * 2 ^ 11 + b2n (gearOf s p).thermal.isSome * 2 ^ 12

/-- PEL_TANDEM. -/
def pelTandem (s : State) (p : Nat) : Nat :=
  ((List.range 4).map (fun k =>
    let q := pairOf s (4 * p + k)
    q.st.code * 2 ^ (2 * k) + b2n (decide (q.st ≠ .single) && pairHeld s (4 * p + k)) * 2 ^ (8 + k))).sum

/-- A block register of a PEL page. -/
def pelVal (s : State) (p off k : Nat) : Option Nat :=
  let q := pelOf s p
  match off with
  | 0x084 => some (q.entries + rfld s (aPel p 0x84) 9 1 * 2 ^ 9 + b2n (decide (256 - q.taken < 17)) * 2 ^ 10 +
      b2n (q.queue.any (·.promoted)) * 2 ^ 11)
  | 0x088 => some (packetsOf s p k)
  | 0x0B0 => some (commitOf s p + (gearOf s p).run * 2 ^ 4 + admitGear s p * 2 ^ 8 + b2n (overCond s p) * 2 ^ 11)
  | 0x0B8 => some (pelTemp s p)
  | 0x0C0 => some (((List.range 4).map (fun m => coreLoad s (8 * p + 4 * k + m) % 2 ^ 16 * 2 ^ (16 * m))).sum)
  | 0x0D0 => some (pelLoad s p + pelCap s p * 2 ^ 16)
  | 0x0D4 => some (pelTandem s p)
  | _ => none

/-- MCODE_STAT. -/
def mcodeStat (c : Core) : Nat :=
  maskOf 8 (fun k => (c.context k).parked) + maskOf 8 (fun k => !(c.context k).records.isEmpty) * 2 ^ 8 + b2n c.activating * 2 ^ 16 +
    c.stall.getD 0 * 2 ^ 17 + b2n c.stall.isSome * 2 ^ 20

/-- Is the core the lower one of a joined or half-fenced pair; 1 upper, 2 lower, 0 single (R507 MODE)? -/
def coreMode (s : State) (c : Nat) : Nat :=
  match (pairOf s (c / 2)).st with
  | .joined | .halfFenced => 1 + c % 2
  | _ => 0

/-- CORE_STAT. -/
def coreStat (s : State) (c : Nat) : Nat :=
  let l := (coreOf s c).rows
  let fl := (l.filter (·.slot.isSome)).length
  coreMode s c + b2n (!l.isEmpty) * 2 ^ 2 + fl * 2 ^ 3 + (l.length - fl) * 2 ^ 6 + b2n (coreOf s c).underrun * 2 ^ 10 +
    b2n l.isEmpty * 2 ^ 11

/-- CORE_SLOT[k]. -/
def coreSlot (s : State) (c k : Nat) : Nat :=
  match (coreOf s c).rows.find? (fun r => r.slot == some k) with
  | none => 0
  | some r => 1 + r.lc * 2 + b2n r.promoted * 2 ^ 3 + r.sid * 2 ^ 4 + r.pic % 2 ^ 16 * 2 ^ 16 + r.row * 2 ^ 32

/-- Is a scrub asked for or running (R507)? -/
def scrubbing (s : State) (c : Nat) : Bool := (coreOf s c).scrubReq || decide (s.now < (coreOf s c).scrubUntil)

/-- A block register of a CORE page. -/
def coreVal (s : State) (c off k : Nat) : Option Nat :=
  let r := coreOf s c
  match off with
  | 0x080 => some r.store.version
  | 0x088 => some (mcodeStat r)
  | 0x090 => some (coreStat s c)
  | 0x094 =>
    let l := coreSessions s c
    some (coreLoad s c + l.length * 2 ^ 16 + (l.filter (fun e => e.2.lc == 0)).length * 2 ^ 23)
  | 0x098 => some (if coreMode s c = 2 ∧ (pairOf s (c / 2)).st = .joined then
        (s.sess.filter (fun e => e.2.ing.ringCore == some c)).length * 2 ^ 12
      else 2048 - ceilDiv (ringUsed s c) 1024 + (s.sess.filter (fun e => e.2.ing.ringCore == some c)).length * 2 ^ 12)
  | 0x09C => some (setBits (rget s (aCore c 0x9C)) 0 1 (b2n (scrubbing s c)))
  | 0x0A0 => some (coreSlot s c k)
  | 0x0D0 => some (b2n (pairOf s (c / 2)).enabled + 2 * b2n (pairOf s (c / 2)).trained)
  | _ => none

/-- PCIE_IDE_STAT. -/
def ideStat (i : IdeStream) : Nat :=
  b2n i.secure + i.streamId * 2 + b2n i.mutualAuth * 2 ^ 9 + b2n i.peerRoot * 2 ^ 10 + b2n i.opRoot * 2 ^ 11 + b2n i.configured * 2 ^ 12

/-- A block register of a PCIE page. -/
def pcieVal (s : State) (i off k : Nat) : Option Nat :=
  let q := port s i
  match off with
  | 0x080 => some (q.gen + q.width * 2 ^ 3 + b2n (decide (q.link ≠ .down)) * 2 ^ 8 + b2n q.flit * 2 ^ 9 +
      b2n (decide (q.link = .l1)) * 2 ^ 10 + rfld s (0x90080 + 0x1000 * i) 16 1 * 2 ^ 16)
  | 0x084 =>
    let (d3, bme, pme) := if i = 0 then ((func s 0).d3, (func s 0).bme, (func s 0).pmeEn) else (q.d3, q.bme, q.pmeEn)
    some ((if d3 then 3 else 0) + b2n bme * 2 ^ 2 + b2n pme * 2 ^ 3 + (if i = 0 then q.numVfs else 0) * 2 ^ 8)
  | 0x0C0 => some (ideStat (tget {} q.ide k))
  | _ => none

/-! ### Every register -/

/-- Live value of a block register of a page: group offset and index; none for plain storage. -/
def liveVal (s : State) (p : Page) (off k : Nat) : Option Nat :=
  match p.ty with
  | .dev => devVal s off
  | .clk => if off = 0x80 then some (clkStat s) else none
  | .pwr => if off = 0x104 then some (pwrStat s k)
    else if off = 0x110 then some (((List.range 8).map (fun i => (gearOf s k).temps.getD i 0 % 2 ^ 8 * 2 ^ (8 * i))).sum) else none
  | .rst => none
  | .flt => fltVal s off k
  | .nvs => nvsVal s off
  | .sec => secVal s off
  | .mbx => mbxVal s off k
  | .mic => micVal s off k
  | .bpm => if off = 0x180 then some (poolStat s k) else none
  | .dma => dmaVal s off (16 * p.inst + k)
  | .hq => hqVal s off p.inst
  | .eth => if off = 0xA8 then some (ethLink s p.inst) else none
  | .pkt => if off = 0x9C then some s.net.htqHead else none
  | .time => timeVal s off k
  | .mc => mcVal s p.inst off k
  | .pel => pelVal s p.inst off k
  | .core => coreVal s p.inst off k
  | .pcie => pcieVal s p.inst off k

/-- Address of a register. -/
def regAddr (p : Page) (r : Reg) (k : Nat) : Nat := p.base + r.off + k * r.stride

/-- The value a register holds, whole (R12: WO fields are never stored, so they read 0). -/
def regVal (s : State) (p : Page) (r : Reg) (k : Nat) : Nat :=
  if r.off < 0x80 then headerVal s p r.off
  else (liveVal s p r.off k).getD (rget s (regAddr p r k))

end Sys2Proof.Machine
end

