-- ==== Sys2Proof/Machine/RegAccess.lean ====
section
/-! DEFINITION. Register accesses over BAR0, VF BAR0 and the fabric, and reads of BAR2 (R11 to R13, R214, R218, R435, R451,
R488 to R496, R502). -/

namespace Sys2Proof.Machine

/-! ### Where an access goes -/

/-- What an address of a requester's register space names (R488, R489). -/
inductive Tgt where
  | page (p : Page) (off : Nat)
  /-- Doorbell range of a function: offset in it. -/
  | door (fn off : Nat)
  /-- The part of a VF's DEV view that reads 0. -/
  | quiet
  | none
  deriving DecidableEq, Repr

/-- Address map of the PF's BAR0 and of the fabric (R488); the doorbells are the PF's. -/
def pfTarget (host : Bool) (a : Nat) : Tgt :=
  if host && decide (0x100000 ≤ a) && decide (a < 0x100800) then .door 0 (a - 0x100000)
  else match pageAt a with
    | some p => .page p (a % 0x1000)
    | none => .none

/-- Address map of a VF's BAR0 (R489). -/
def vfTarget (n a : Nat) : Tgt :=
  if a < 0x1000 then .page ⟨.hq, n⟩ a
  else if 0x8000 ≤ a ∧ a < 0x8800 then .door n (a - 0x8000)
  else if 0x10000 ≤ a ∧ a < 0x11000 then (if a < 0x10094 then .page ⟨.dev, 0⟩ (a - 0x10000) else .quiet)
  else .none

/-- Address map of a requester; P0 and P1 have no register space (R213, R214). -/
def targetOf (req : Req) (a : Nat) : Tgt :=
  match req with
  | .fn f => if f.val = 0 then pfTarget true a else vfTarget f a
  | .peer _ => .none
  | .mgc _ | .sec => pfTarget false a

/-- Can the requester's access arrive now (R213, R427, R435, R505)? -/
def reqLive (s : State) (req : Req) : Bool :=
  !s.boot.perst && !s.boot.warm && (match req with
    | .fn f => (func s f).enabled && polOpen s 88
    | .peer p => polOpen s (89 + p.val)
    | .mgc _ => polOpen s 94
    | .sec => true)

/-- Is the requester on port H (R491)? -/
def Req.host : Req → Bool
  | .fn _ => true
  | _ => false

/-- An access refused for its size or alignment (R492). In the fatal state registers are frozen (R498). -/
def accSize (s : State) : State := if isFatal s then s else rcnt 0x98 0 16 1 s
/-- An access to an unmapped or reserved offset (R491). -/
def accUnmapped (req : Req) (s : State) : State := if isFatal s ∨ !req.host then s else rcnt 0x98 16 16 1 s

/-- Halves of a requester (R493). -/
def halfOf (s : State) (req : Req) : Half := tget {} s.halves req.code
/-- Change the halves of a requester. -/
def halfMod (req : Req) (f : Half → Half) (s : State) : State := { s with halves := tmod {} s.halves req.code f }

/-! ### Reads (R491 to R493) -/

/-- Do block registers of the page read, rather than 0 (R435, R451)? -/
def pageReads (s : State) (p : Page) (off : Nat) : Bool :=
  if isFatal s then p.ty == .dev || p.ty == .flt || p.ty == .sec
  else decide (off < 0x80) || polOpen s p.polder

/-- RC fields of a register are cleared by a read (R12). -/
def clearRc (p : Page) (r : Reg) (k : Nat) (s : State) : State :=
  if isFatal s then s
  else if p.ty = .flt ∧ r.off = 0xB8 then { s with flt := { s.flt with cnt := terase s.flt.cnt (rfld s 0x40B0 0 12) } }
  else (r.flds.filter (fun f => f.acc == .rc)).foldl (fun s f => rfset (regAddr p r k) f.lo f.n 0 s) s

/-- Side effects of a read of a whole register, or of the low half of one: RC fields, a mailbox word, a claim (R12, R382,
R388). -/
def readEffect (req : Req) (p : Page) (r : Reg) (k : Nat) (s : State) : State :=
  if isFatal s then s
  else if p.ty = .mbx ∧ r.off = 0x10C then (if req = .fn 0 then mbxOutPop k s else s)
  else if p.ty = .mic ∧ r.off = 0x204 ∧ k < 9 then (micClaim req (Fin.ofNat 9 k) s).2
  else clearRc p r k s

/-- A 32-bit read at an offset of a page: value and state. -/
def read32 (req : Req) (p : Page) (off : Nat) (s : State) : Nat × State :=
  match p.ty.reg off with
  | none => (0, accUnmapped req s)
  | some (r, k) =>
    if !pageReads s p off then (0, halfMod req (fun h => { h with lastRead := none }) s)
    else
      let a := regAddr p r k
      let v := regVal s p r k
      if !r.wide then (v % 2 ^ 32, halfMod req (fun h => { h with lastRead := none }) (readEffect req p r k s))
      else if off % 8 = 0 then
        (v % 2 ^ 32, halfMod req (fun h => { h with lastRead := some a, latch := v / 2 ^ 32 }) (readEffect req p r k s))
      else
        let h := halfOf s req
        (if h.lastRead = some a then h.latch else v / 2 ^ 32 % 2 ^ 32, halfMod req (fun h => { h with lastRead := none }) s)

/-- An 8-byte read at an aligned offset of a page: one atomic read of a 64-bit register, else two 32-bit reads. -/
def read64 (req : Req) (p : Page) (off : Nat) (s : State) : Nat × State :=
  match p.ty.reg off with
  | some (r, k) =>
    if r.wide then
      if !pageReads s p off then (0, halfMod req (fun h => { h with lastRead := none }) s)
      else (regVal s p r k % 2 ^ 64, halfMod req (fun h => { h with lastRead := none }) (readEffect req p r k s))
    else
      let (x, s1) := read32 req p off s
      let (y, s2) := read32 req p (off + 4) s1
      (x + y * 2 ^ 32, s2)
  | none =>
    if (p.ty.reg (off + 4)).isNone then (0, accUnmapped req s)
    else
      let (x, s1) := read32 req p off s
      let (y, s2) := read32 req p (off + 4) s1
      (x + y * 2 ^ 32, s2)

/-- The value a doorbell reads as: the last accepted one, 0 for a pair that does not exist (R218). -/
def doorVal (s : State) (fn off : Nat) : Nat :=
  let k := qkey fn (off / 8)
  match tfind s.qps k with
  | none => 0
  | some _ => tget 0 s.doorbells (2 * k + off % 8 / 4)

/-- Is the access 4 or 8 bytes long and naturally aligned (R492)? -/
def sized (a len : Nat) : Bool := (decide (len = 4) && decide (a % 4 = 0)) || (decide (len = 8) && decide (a % 8 = 0))

/-- A read of BAR0, a VF BAR0 or a page over the fabric. The word after DEV_STAT reads 0 in a VF's DEV view (R489). -/
def regRead (req : Req) (a len : Nat) (s : State) : Nat × State :=
  if !sized a len then (0, accSize s)
  else
    match targetOf req a with
    | .page p off =>
      let edge := decide (p.ty = .dev) && decide (off = 0x90) && req.host && decide (req ≠ .fn 0)
      if len = 4 || edge then read32 req p off s else read64 req p off s
    | .door fn off =>
      (if isFatal s then 0 else if len = 4 then doorVal s fn off else doorVal s fn off + doorVal s fn (off + 4) * 2 ^ 32, s)
    | .quiet => (0, s)
    | .none => (0, accUnmapped req s)

/-- Byte `a` of BAR2 (R79, R214). -/
def bar2Byte (s : State) (a : Nat) : Nat := bar2Word s (a / 4 * 4) / 2 ^ (8 * (a % 4)) % 2 ^ 8
/-- A read of BAR2 (R214): the registers of a control page, else zeros. -/
def bar2Read (s : State) (a len : Nat) : Nat := ((List.range len).map (fun i => bar2Byte s (a + i) * 2 ^ (8 * i))).sum

/-- REGISTER_READ (R214, R451, R491 to R493): a read of `len` bytes at an offset of the requester's register space, or of BAR2.
A port without BAR0 answers Unsupported Request. -/
def execRegisterRead (req : Req) (bar2 : Bool) (addr len : Nat) (s : State) : Host.Outcome State Fault Refusal :=
  .next (if !reqLive s req then s
    else if bar2 then
      (match req with
       | .fn f => if f.val ≠ 0 ∨ isFatal s then s else emit (.readData (bar2Read s addr len)) s
       | .peer _ => if isFatal s then s else emit (.readData (bar2Read s addr len)) s
       | _ => s)
    else
      match req with
      | .peer p => if isFatal s then s else emit (.unsupported (1 + p.val)) s
      | _ =>
        let (v, s1) := regRead req addr len s
        emit (.readData v) s1)

/-! ### Writes (R11, R12, R492, R493) -/

/-- A field after a write of the bits of `v` that `mask` selects (R11, R12, R493). -/
def Fld.write (f : Fld) (locked : Bool) (v mask old : Nat) : Nat :=
  let o := bitsOf old f.lo f.n
  let m := bitsOf mask f.lo f.n
  let w := bitsOf v f.lo f.n &&& m
  let keep := o &&& (2 ^ f.n - 1 - m)
  let store := if m = 0 ∨ !f.chk.ok (w ||| keep) then old else setBits old f.lo f.n (w ||| keep)
  match f.acc with
  | .rw => store
  | .rwl => if locked then old else store
  | .w1c => setBits old f.lo f.n (o &&& (2 ^ f.n - 1 - w))
  | .w1s => setBits old f.lo f.n (o ||| w)
  | .ro | .wo | .rc => old

/-- A register's value after a write of its fields. -/
def Reg.write (r : Reg) (locked : Bool) (v mask old : Nat) : Nat := r.flds.foldl (fun o f => f.write locked v mask o) old

/-- The lock of a page's RWL fields (R329, R495). -/
def pageLocked (s : State) (p : Page) : Bool := if p.ty = .sec then s.sec.bindLocked else bitAt (rget s (p.at 0x10)) 31

/-- A write of a register that only stores. -/
def plainWrite (p : Page) (r : Reg) (k v mask : Nat) (s : State) : State :=
  rset (regAddr p r k) (r.write (pageLocked s p) v mask (rget s (regAddr p r k))) s

/-- PWR_PEL_CTRL (R456, R457, R460, R463, R486). -/
def pelCtrlWrite (p v : Nat) (s : State) : State :=
  let a := aPelCtrl p
  let s1 := rfset a 7 1 (bitsOf v 7 1) (rfset a 3 1 (bitsOf v 3 1) (commitWrite p (bitsOf v 0 3) s))
  let s2 := if gearOffered s (bitsOf v 4 3) then rfset a 4 3 (bitsOf v 4 3) s1 else s1
  overCheck p (if bitsOf v 8 8 ≤ 60 then rfset a 8 8 (bitsOf v 8 8) s2 else s2)

/-- NVS_CMD (R482). -/
def nvsCmdWrite (req : Req) (v : Nat) (s : State) : State :=
  let op := bitsOf v 8 2
  if v % 2 ^ 8 = 0x5A then nvsArm req (Fin.ofNat 4 op) s
  else if v % 2 ^ 8 = 0xA5 then nvsSecond op (decide (op = 1)) (decide (op = 3)) req s
  else if nvsFrom s req && s.nvs.seq.isSome then nvsAbandon s else s

/-- MIC_PEND (R393): 1 clears an edge source. -/
def micPendWrite (i v : Nat) (s : State) : State :=
  micSettle (forAll ((List.range 32).filter (fun k => bitAt v k && micReal (32 * i + k) && micEdgeSense s (32 * i + k)))
    (fun k s => micSrcMod (32 * i + k) (fun x => { x with pend := false }) s) s)

/-- A write to the MIC page (R393): those of port H are ignored. -/
def micWrite (req : Req) (p : Page) (r : Reg) (k v : Nat) (s : State) : State :=
  if !micFrom s req then s
  else
    match r.off with
    | 0x100 => micPendWrite k v s
    | 0x180 => micSwi req (BitVec.ofNat 32 v) s
    | 0x208 => micEoi req (Fin.ofNat 9 k) (Fin.ofNat 512 v) s
    | 0x800 => micCfgWrite req (Fin.ofNat 512 k) (BitVec.ofNat 32 v) s
    | _ => micSettle (plainWrite p r k v (2 ^ 32 - 1) s)

/-- A write to a DMA page (R364, R374 to R377): those of a requester that does not program the channel are ignored. -/
def dmaWrite (req : Req) (p : Page) (r : Reg) (k v mask : Nat) (s : State) : State :=
  let c : Fin 32 := Fin.ofNat 32 (16 * p.inst + k)
  let plain := plainWrite p r k v mask s
  let on := bitAt (rget s (aDma c 0)) 0
  if !dmaFrom s req c then s
  else
    match r.off with
    | 0x100 =>
      let s1 := if bitAt v 0 then dmaEnable req c s else dmaDisable req c s
      if bitAt v 1 then dmaResume req c s1 else s1
    | 0x108 | 0x110 => if on then s else plain
    | 0x118 => if on ∨ v % 2 ^ 12 ≥ 2 ^ dmaLog s c then s else plain
    | 0x11C => dmaTailWrite req c (v % 2 ^ 12) s
    | 0x124 => if c.val < 16 then plainWrite p r k (v % 2 ^ 8) mask s else plain
    | 0x13C => if bitAt v 31 then dmaCommit req c (Fin.ofNat 8 v) s else plain
    | _ => plain

/-- A write to a function's HQ page (R241, R242). -/
def hqWrite (p : Page) (r : Reg) (k v mask : Nat) (s : State) : State :=
  let on := bitAt (rget s (p.at 0x90)) 31
  match r.off with
  | 0x080 | 0x088 => if on then s else plainWrite p r k v mask s
  | 0x090 =>
    if bitAt v 31 then aqEnable (Fin.ofNat 64 p.inst) (BitVec.ofNat 32 v) s
    else if on then aqDisable (Fin.ofNat 64 p.inst) s
    else rset (p.at 0x90) (v % 2 ^ 14) s
  | _ => plainWrite p r k v mask s

/-- PKT_EXQ_RING and PKT_HTQ_RING (R280). -/
def pktRingWrite (p : Page) (r : Reg) (v mask : Nat) (s : State) : State :=
  let a := regAddr p r 0
  let old := rget s a
  let new := r.write false v mask old
  let lg := bitsOf new 0 4
  let s1 :=
    if bitAt old 5 then rset a (setBits old 5 1 (bitsOf new 5 1)) s
    else rset a (if bitAt new 5 ∧ (lg < 6 ∨ lg > 12) then setBits new 5 1 0 else new) s
  if bitAt mask 5 ∧ !bitAt new 5 then
    { s1 with net := if r.off = 0x80 then { s1.net with exqTail := 0, exqPhase := true } else { s1.net with htqHead := 0 } }
  else s1

/-- A write to the PKT page (R280). -/
def pktWrite (p : Page) (r : Reg) (k v mask : Nat) (s : State) : State :=
  match r.off with
  | 0x080 | 0x090 => pktRingWrite p r v mask s
  | 0x088 => if v % 2 ^ 12 ≥ 2 ^ rfld s (p.at 0x80) 0 4 then s else plainWrite p r k v mask s
  | 0x098 => writeHtqTail v s
  | _ => plainWrite p r k v mask s

/-- TIME_CTRL (R277, R281). -/
def timeCtrlWrite (p : Page) (r : Reg) (v : Nat) (s : State) : State :=
  let old := rget s (p.at 0x80)
  let s1 := rset (p.at 0x80) (setBits (r.write false v (2 ^ 32 - 1) old) 0 1 (bitsOf old 0 1)) s
  timeSettle (if bitAt v 0 then timeManual s1 else timePtp s1)

/-- TIME_DOMCFG (R275, R281). -/
def timeDomWrite (p : Page) (r : Reg) (k v mask : Nat) (s : State) : State :=
  let old := rget s (aDom k)
  let new := r.write (pageLocked s p) v mask old
  let new1 := if bitAt new 12 ∧ !bitAt old 12 ∧ subRate s (bitsOf new 8 3) = 0 then setBits new 12 1 0 else new
  let s1 := rset (aDom k) new1 s
  if bitAt old 12 ∧ !bitAt new1 12 then domainLost k s1 else s1

/-- A write to the TIME page (R272, R277, R281). -/
def timeWrite (p : Page) (r : Reg) (k v mask : Nat) (s : State) : State :=
  match r.off with
  | 0x080 => timeCtrlWrite p r v s
  | 0x090 => timeDomWrite p r k v mask s
  | 0x0B0 => if mask = 2 ^ 64 - 1 then timeSet (BitVec.ofNat 64 v) s else s
  | 0x0B8 => timeRate (BitVec.ofNat 32 v) s
  | _ => plainWrite p r k v mask s

/-- A write to an MC page (R349 to R351). -/
def mcWrite (p : Page) (r : Reg) (k v mask : Nat) (s : State) : State :=
  let n := p.inst
  let m := mcOf s n
  match r.off with
  | 0x0C0 =>
    if m.st ≠ .training ∨ bitAt (rget s (aMc n 0xC0)) 31 then s
    else
      let op := bitsOf v 0 3
      let ok := !(decide (1 ≤ op) && decide (op ≤ 3)) || decide (bitsOf v 8 8 ≤ 20)
      if !ok then s
      else if bitAt v 31 then trnStart n op (BitVec.ofNat 32 v) s
      else plainWrite p r k v mask s
  | 0x0C8 => if m.st = .training then plainWrite p r k v mask s else s
  | 0x0DC =>
    if m.st = .training ∨ (m.st = .active ∧ rfld s (aMc n 0x90) 24 1 = 1) then
      mcMod n (fun m => { m with delays := tset 0 m.delays (rget s (aMc n 0xD8)) (v % 2 ^ 10) }) s
    else s
  | _ => plainWrite p r k v mask s

/-- A write to a block register of an open page. `rid` and `auth`: the sender's requester ID and whether the write came over an
authenticated IDE stream, for a mailbox word. -/
def blockWrite (req : Req) (rid : W16) (auth : Bool) (p : Page) (r : Reg) (k v mask : Nat) (s : State) : State :=
  let plain := plainWrite p r k v mask s
  match p.ty with
  | .dev | .clk | .sec | .bpm | .pcie => plain
  | .pwr => if r.off = 0x100 then pelCtrlWrite k v s else plain
  | .rst => if r.off = 0x80 then warmWrite req v s else plain
  | .flt => if r.off = 0xB4 then setClass (rfld s 0x40B0 0 12) (v % 2 ^ 2) s
    else if r.off = 0x400 then (if bitAt (v &&& mask) 3 then clearPending k s else s) else plain
  | .nvs => if r.off = 0x98 then nvsCmdWrite req v s else plain
  | .mbx => if r.off = 0x104 then (if req = .fn 0 then mbxInWord (Fin.ofNat 8 k) rid auth (BitVec.ofNat 32 v) s else s)
    else if r.off = 0x118 then (if bitAt v 0 then mbxHostReset k s else s) else plain
  | .mic => micWrite req p r k v s
  | .dma => dmaWrite req p r k v mask s
  | .hq => hqWrite p r k v mask s
  | .eth => if r.off = 0x80 then writeEthMode p.inst v s else plain
  | .pkt => pktWrite p r k v mask s
  | .time => timeWrite p r k v mask s
  | .mc => mcWrite p r k v mask s
  | .pel => rwqHigh p.inst plain
  | .core => if r.off = 0x9C then
      (let s1 := rfset (aCore p.inst 0x9C) 8 8 (bitsOf v 8 8) s
       if bitAt v 0 then scrubAsk p.inst s1 else s1)
    else plain

/-- A write to a whole register, or to the bits of it that `mask` selects. A sealed page takes W1C writes to its header alone
(R451). -/
def regWrite (req : Req) (rid : W16) (auth : Bool) (p : Page) (r : Reg) (k v mask : Nat) (s : State) : State :=
  if r.off < 0x80 then
    if r.off = 0x20 then injWrite p v s
    else if polOpen s p.polder ∨ r.off = 0x18 ∨ r.off = 0x40 then plainWrite p r k v mask s
    else s
  else if polOpen s p.polder then blockWrite req rid auth p r k v mask s
  else s

/-- The held half of a requester is discarded by a register write that goes elsewhere (R493). -/
def dropHeld (req : Req) (s : State) : State := halfMod req (fun h => { h with held := none }) s

/-- A 32-bit write at an offset of a page (R491, R493). -/
def write32 (req : Req) (rid : W16) (auth : Bool) (p : Page) (off v : Nat) (s : State) : State :=
  match p.ty.reg off with
  | none => accUnmapped req s
  | some (r, k) =>
    let a := regAddr p r k
    if !r.wide then regWrite req rid auth p r k v (2 ^ 32 - 1) (dropHeld req s)
    else if off % 8 = 0 then halfMod req (fun h => { h with held := some (a, v) }) s
    else
      match (halfOf s req).held with
      | some (b, lo) =>
        if b = a then regWrite req rid auth p r k (lo + v * 2 ^ 32) (2 ^ 64 - 1) (dropHeld req s)
        else regWrite req rid auth p r k (v * 2 ^ 32) ((2 ^ 32 - 1) * 2 ^ 32) (dropHeld req s)
      | none => regWrite req rid auth p r k (v * 2 ^ 32) ((2 ^ 32 - 1) * 2 ^ 32) s

/-- An 8-byte write at an aligned offset of a page. A mailbox word written as part of one is discarded (R385). -/
def write64 (req : Req) (rid : W16) (auth : Bool) (p : Page) (off v : Nat) (s : State) : State :=
  let two := fun (s : State) =>
    let half := fun (o w : Nat) (s : State) =>
      if p.ty = .mbx ∧ 0x100 ≤ o ∧ o % 0x20 = 0x04 then s else write32 req rid auth p o w s
    half (off + 4) (v / 2 ^ 32) (half off (v % 2 ^ 32) s)
  match p.ty.reg off with
  | some (r, k) => if r.wide then regWrite req rid auth p r k v (2 ^ 64 - 1) (dropHeld req s) else two s
  | none => if (p.ty.reg (off + 4)).isNone then accUnmapped req s else two s

/-- A write in a function's doorbell range (R218). -/
def doorWrite (fn off len : Nat) (v : W64) (s : State) : State :=
  let q : Fin 256 := Fin.ofNat 256 (off / 8)
  let b : Fin 4 := Fin.ofNat 4 (off % 4)
  if off % 8 < 4 then sqTailWrite (Fin.ofNat 64 fn) q b len v s else cqHeadWrite (Fin.ofNat 64 fn) q b len v s

/-- REGISTER_WRITE (R11, R12, R218, R435, R451, R491 to R495): a write of `len` bytes at an offset of the requester's register
space. A register with a row of its own is written as that row says. -/
def execRegisterWrite (req : Req) (rid : W16) (auth : Bool) (addr len : Nat) (value : W64) (s : State) :
    Host.Outcome State Fault Refusal :=
  let v := value.toNat
  .next (if !reqLive s req ∨ isFatal s then s
    else
      match req, targetOf req addr with
      | .peer p, _ => emit (.unsupported (1 + p.val)) s
      | _, .door fn off => doorWrite fn off len value s
      | _, t =>
        if !sized addr len then accSize s
        else
          match t with
          | .page p off =>
            if req.host && decide (p.ty = .dev) && decide (req ≠ .fn 0) then s
            else if len = 4 then write32 req rid auth p off (v % 2 ^ 32) s
            else write64 req rid auth p off v s
          | .quiet | .door _ _ => s
          | .none => accUnmapped req s)

end Sys2Proof.Machine
end

