-- ==== Sys2Proof/Machine/Spdm.lean ====
section
/-! DEFINITION. SPDM 1.2 and IDE_KM of the ports (R316 to R318), and IDE integrity errors (R317, R506). The order of the
requests and the response codes are DSP0274's (log 63). -/

namespace Sys2Proof.Machine

/-- Does SEC answer the port's DOE: SEC firmware runs, no recovery, fatal state or PERST#, and the port is up? -/
def doeUp (s : State) (p : Nat) : Bool :=
  (tget ({} : Img) s.sec.images 0).good && !s.boot.recovery && !s.boot.perst && !isFatal s && polOpen s (88 + p) &&
    decide ((port s p).link ≠ .down)

/-- An SPDM response: code and content. -/
def doe (p code : Nat) (l : List Nat) (s : State) : State := emit (.doe p code l) s
/-- The ERROR response: 1 InvalidRequest, 4 UnexpectedRequest, 6 DecryptError, 0x0A SessionLimitExceeded. -/
def doeErr (p code : Nat) (s : State) : State := doe p 0x7F [code] s

/-- A request that needs the connection at stage `n` (R316). -/
def doeAt (p n : Nat) (body : State → State) (s : State) : State :=
  if !doeUp s p then s else if (port s p).spdm < n then doeErr p 4 s else body s

/-- A request within secured session `id` of the port. -/
def doeIn (p id : Nat) (body : SpdmSession → State → State) (s : State) : State :=
  if !doeUp s p then s
  else
    match (port s p).sessions.find? (fun x => x.established && x.sessId == id) with
    | none => doeErr p 4 s
    | some x => body x s

/-- GET_VERSION (R316): the connection starts again, without sessions. -/
def execGetVersion (p : Fin 3) (s : State) : Host.Outcome State Fault Refusal :=
  .next (doeAt p 0 (fun s => doe p 0x04 [0x12] (portMod p (fun q => { q with spdm := 1, sessions := [] }) s)) s)

/-- GET_CAPABILITIES (R316). -/
def execGetCapabilities (p : Fin 3) (s : State) : Host.Outcome State Fault Refusal :=
  .next (doeAt p 1 (fun s => doe p 0x61 [] (portMod p (fun q => { q with spdm := max q.spdm 2 }) s)) s)

/-- NEGOTIATE_ALGORITHMS (R316): `ok`: the requester offers the one set the device supports. -/
def execNegotiateAlgorithms (p : Fin 3) (ok : Bool) (s : State) : Host.Outcome State Fault Refusal :=
  .next (doeAt p 2 (fun s =>
    if ok then doe p 0x63 [] (portMod p (fun q => { q with spdm := 3 }) s) else doeErr p 1 s) s)

/-- GET_DIGESTS (R316): slot 0 alone. -/
def execGetDigests (p : Fin 3) (s : State) : Host.Outcome State Fault Refusal :=
  .next (doeAt p 3 (fun s => doe p 0x01 [1, Config.digest [s.board.serial, s.sec.chainLen]] s) s)

/-- GET_CERTIFICATE (R288, R316): slot, portion length and remainder of what is given. -/
def execGetCertificate (p : Fin 3) (slot : Fin 8) (off len : W16) (s : State) : Host.Outcome State Fault Refusal :=
  let n := s.sec.chainLen
  let got := min len.toNat (n - off.toNat)
  .next (doeAt p 3 (fun s =>
    if slot.val ≠ 0 ∨ off.toNat ≥ n then doeErr p 1 s else doe p 0x02 [0, got, n - off.toNat - got] s) s)

/-- Measurement `i` (R316). -/
def measurement (s : State) (i : Nat) : Nat :=
  let hash := fun i => (tget ({} : Img) s.sec.images i).hash
  match i with
  | 1 => hash 0
  | 2 => hash 1
  | 3 => hash 3
  | 4 => s.mcode.run.hash
  | 5 => settingsHash s
  | 6 => s.sec.lc + s.sec.dbgLevel * 2 ^ 8 + s.sec.injCount % 2 ^ 32 * 2 ^ 16 + s.sec.injLast % 2 ^ 16 * 2 ^ 48
  | _ => 0

/-- CHALLENGE (R316): the response is signed by the identity key. -/
def execChallenge (p : Fin 3) (slot : Fin 8) (nonce : Nat) (s : State) : Host.Outcome State Fault Refusal :=
  .next (doeAt p 3 (fun s =>
    if slot.val ≠ 0 then doeErr p 1 s
    else
      let (n, s1) := draw s
      let all := (List.range 6).map (fun i => measurement s (i + 1))
      doe p 0x03 [0, n, Config.sign (idKey s) ([nonce, n] ++ all)] s1) s)

/-- GET_MEASUREMENTS (R316): index 0 asks for their number, 1 to 6 for one, 255 for all. -/
def execGetMeasurements (p : Fin 3) (i : Byte) (s : State) : Host.Outcome State Fault Refusal :=
  .next (doeAt p 3 (fun s =>
    if i = 0 then doe p 0x60 [6] s
    else if i = 255 then doe p 0x60 (6 :: (List.range 6).map (fun k => measurement s (k + 1))) s
    else if i.toNat ≤ 6 then doe p 0x60 [1, measurement s i.toNat] s
    else doeErr p 1 s) s)

/-- KEY_EXCHANGE (R316): at most 4 sessions of a port at one time. -/
def execKeyExchange (p : Fin 3) (s : State) : Host.Outcome State Fault Refusal :=
  .next (doeAt p 3 (fun s =>
    let q := port s p
    if q.sessions.length ≥ 4 then doeErr p 0x0A s
    else
      let (e, s1) := draw s
      doe p 0x64 [q.nextSess, Config.sign (idKey s) [e, q.nextSess]]
        (portMod p (fun q => { q with
          sessions := q.sessions ++ [{ sessId := q.nextSess }], nextSess := (q.nextSess + 1) % 2 ^ 32 }) s1)) s)

/-- FINISH (R316, R317, R318): `ok`: its verification data holds; `peer`: the chain the requester presented under mutual
authentication, where it verifies. -/
def execFinish (p : Fin 3) (id : Nat) (ok : Bool) (peer : Option Peer) (s : State) : Host.Outcome State Fault Refusal :=
  .next (doeAt p 3 (fun s =>
    match (port s p).sessions.find? (fun x => !x.established && x.sessId == id) with
    | none => doeErr p 4 s
    | some _ =>
      if !ok then
        doeErr p 6 (portMod p (fun q => { q with sessions := q.sessions.filter (fun x => x.established || x.sessId != id) }) s)
      else
        let c := peer.getD {}
        let peerRoot := peer.isSome && decide (c.root ≠ 0) && (tget ({} : Img) s.sec.images 0).roots.contains c.root
        let opRoot := peer.isSome && decide (c.root ≠ 0) && decide (c.root = opKey s)
        doe p 0x65 [] (portMod p (fun q => { q with sessions := q.sessions.map (fun x =>
          if x.sessId = id then
            { x with established := true, mutualAuth := peer.isSome, peerRoot := peerRoot, opRoot := opRoot, cert := c.cert }
          else x) }) s)) s)

/-- KEY_UPDATE (R316). -/
def execKeyUpdate (p : Fin 3) (id : Nat) (s : State) : Host.Outcome State Fault Refusal :=
  .next (doeIn p id (fun _ s =>
    doe p 0x69 [] (portMod p (fun q => { q with sessions := q.sessions.map (fun x =>
      if x.sessId = id then { x with keyGen := x.keyGen + 1 } else x) }) s)) s)

/-- HEARTBEAT (R316). -/
def execHeartbeat (p : Fin 3) (id : Nat) (s : State) : Host.Outcome State Fault Refusal :=
  .next (doeIn p id (fun _ s => doe p 0x68 [] s) s)

/-- END_SESSION (R316, R317): the streams it keyed leave Secure. -/
def execEndSession (p : Fin 3) (id : Nat) (s : State) : Host.Outcome State Fault Refusal :=
  .next (doeIn p id (fun _ s =>
    doe p 0x6C [] (portMod p (fun q => { q with
      sessions := q.sessions.filter (fun x => x.sessId != id)
      ide := q.ide.map (fun e => if e.2.keyedBy = some id then (e.1, e.2.leave) else e) }) s)) s)

/-- A stream of a port. -/
def ideOf (s : State) (p i : Nat) : IdeStream := tget {} (port s p).ide i
/-- Change a stream of a port. -/
def ideMod (p i : Nat) (f : IdeStream → IdeStream) (s : State) : State :=
  portMod p (fun q => { q with ide := tmod {} q.ide i f }) s

/-- KEY_PROG (R316, R317) within a secured session of the port: stream number (0 the link stream), its stream
ID, and the sub-stream whose key it gives. -/
def execKeyProg (p : Fin 3) (id : Nat) (stream : Fin 9) (sid : Byte) (sub : Fin 6) (s : State) : Host.Outcome State Fault Refusal :=
  .next (doeIn p id (fun x s =>
    doe p 0x7E [1, 0] (ideMod p stream (fun i =>
      let old := if i.keyedBy = some id then i.staged else []
      { i with
        streamId := sid.toNat, configured := true, keyedBy := some id, cert := x.cert
        staged := if old.contains sub.val then old else old ++ [sub.val] }) s)) s)

/-- K_SET_GO (R317): the staged key of a sub-stream takes effect; with all six in effect the stream is Secure. -/
def execKSetGo (p : Fin 3) (id : Nat) (stream : Fin 9) (sub : Fin 6) (s : State) : Host.Outcome State Fault Refusal :=
  .next (doeIn p id (fun x s =>
    let i := ideOf s p stream
    if i.keyedBy ≠ some id ∨ !i.staged.contains sub.val then doeErr p 1 s
    else
      doe p 0x7E [2, 0] (ideMod p stream (fun i =>
        let live := if i.live.contains sub.val then i.live else i.live ++ [sub.val]
        { i with
          staged := i.staged.filter (fun k => k != sub.val), live := live, secure := decide (live.length = 6)
          mutualAuth := x.mutualAuth, peerRoot := x.peerRoot, opRoot := x.opRoot }) s)) s)

/-- IDE_INTEGRITY_ERROR (R317, R506): of a stream that is Secure. -/
def execIdeIntegrityError (p : Fin 3) (stream : Fin 9) (s : State) : Host.Outcome State Fault Refusal :=
  .next (if !(ideOf s p stream).secure then s
    else raise 0x2A p (rcnt (0x9009C + 0x1000 * p.val) 0 32 1 (ideMod p stream (fun i => i.leave) s)))

end Sys2Proof.Machine
end

