-- ==== Sys2Proof/Machine/Dispatch.lean ====
section
/-! DEFINITION. The dispatch of a command to its meaning: one arm per row of the table. -/

namespace Sys2Proof.Machine

def exec (i : Instr) (s : State) : Host.Outcome State Fault Refusal :=
  match i with
  | .createQp slot => Sys2Proof.Machine.execCreateQp slot s
  | .deleteQp slot => Sys2Proof.Machine.execDeleteQp slot s
  | .setCqModeration slot => Sys2Proof.Machine.execSetCqModeration slot s
  | .identify slot ok => Sys2Proof.Machine.execIdentify slot ok s
  | .setVfQuota slot => Sys2Proof.Machine.execSetVfQuota slot s
  | .setVfQueues slot => Sys2Proof.Machine.execSetVfQueues slot s
  | .sessionOpen slot blk pol => Sys2Proof.Machine.execSessionOpen slot blk pol s
  | .sessionClose slot => Sys2Proof.Machine.execSessionClose slot s
  | .sessionQuiesce slot => Sys2Proof.Machine.execSessionQuiesce slot s
  | .sessionResume slot => Sys2Proof.Machine.execSessionResume slot s
  | .sessionMove slot => Sys2Proof.Machine.execSessionMove slot s
  | .sessionExport slot => Sys2Proof.Machine.execSessionExport slot s
  | .sessionImport slot img => Sys2Proof.Machine.execSessionImport slot img s
  | .sessionQuery slot ok => Sys2Proof.Machine.execSessionQuery slot ok s
  | .sessionSetRc slot blk => Sys2Proof.Machine.execSessionSetRc slot blk s
  | .keyRequest slot => Sys2Proof.Machine.execKeyRequest slot s
  | .encodePicture slot => Sys2Proof.Machine.execEncodePicture slot s
  | .decodePicture slot => Sys2Proof.Machine.execDecodePicture slot s
  | .frameRelease slot => Sys2Proof.Machine.execFrameRelease slot s
  | .bufAlloc slot => Sys2Proof.Machine.execBufAlloc slot s
  | .bufWrite slot data => Sys2Proof.Machine.execBufWrite slot data s
  | .bufRead slot ok => Sys2Proof.Machine.execBufRead slot ok s
  | .bufRelease slot => Sys2Proof.Machine.execBufRelease slot s
  | .tandemJoin slot => Sys2Proof.Machine.execTandemJoin slot s
  | .tandemSplit slot => Sys2Proof.Machine.execTandemSplit slot s
  | .polderAdmit slot => Sys2Proof.Machine.execPolderAdmit slot s
  | .storeSettings slot => Sys2Proof.Machine.execStoreSettings slot s
  | .keyAgreeAgree slot m1 ok => Sys2Proof.Machine.execKeyAgreeAgree slot m1 ok s
  | .keyAgreeSet slot k => Sys2Proof.Machine.execKeyAgreeSet slot k s
  | .attest slot ok => Sys2Proof.Machine.execAttest slot ok s
  | .clusterEnrolRequest slot ok => Sys2Proof.Machine.execClusterEnrolRequest slot ok s
  | .clusterEnrolCreate slot t => Sys2Proof.Machine.execClusterEnrolCreate slot t s
  | .clusterEnrolOffer slot req ok => Sys2Proof.Machine.execClusterEnrolOffer slot req ok s
  | .clusterEnrolAccept slot req => Sys2Proof.Machine.execClusterEnrolAccept slot req s
  | .clusterEnrolLeave slot => Sys2Proof.Machine.execClusterEnrolLeave slot s
  | .mcodeLoad slot img => Sys2Proof.Machine.execMcodeLoad slot img s
  | .debugUnlockChallenge slot ok => Sys2Proof.Machine.execDebugUnlockChallenge slot ok s
  | .debugUnlockResponse slot resp => Sys2Proof.Machine.execDebugUnlockResponse slot resp s
  | .sqTailDoorbell fn qid at4 len value => Sys2Proof.Machine.execSqTailDoorbell fn qid at4 len value s
  | .cqHeadDoorbell fn qid at4 len value => Sys2Proof.Machine.execCqHeadDoorbell fn qid at4 len value s
  | .sqFetch entry => Sys2Proof.Machine.execSqFetch entry s
  | .sqEntryReadError => Sys2Proof.Machine.execSqEntryReadError s
  | .cqAggTimeout fn qid => Sys2Proof.Machine.execCqAggTimeout fn qid s
  | .serviceTimerExpire fn qid => Sys2Proof.Machine.execServiceTimerExpire fn qid s
  | .adminQueueEnable fn cfg => Sys2Proof.Machine.execAdminQueueEnable fn cfg s
  | .adminQueueDisable fn => Sys2Proof.Machine.execAdminQueueDisable fn s
  | .aqReady fn => Sys2Proof.Machine.execAqReady fn s
  | .functionPowerState p fn d3 bme pmeEn => Sys2Proof.Machine.execFunctionPowerState p fn d3 bme pmeEn s
  | .linkL1Entry p => Sys2Proof.Machine.execLinkL1Entry p s
  | .linkL1Exit p => Sys2Proof.Machine.execLinkL1Exit p s
  | .msixUnmask fn vec => Sys2Proof.Machine.execMsixUnmask fn vec s
  | .vfEnable num => Sys2Proof.Machine.execVfEnable num s
  | .vfFlr vf => Sys2Proof.Machine.execVfFlr vf s
  | .pfFlr => Sys2Proof.Machine.execPfFlr s
  | .ingestWrite req ide addr data => Sys2Proof.Machine.execIngestWrite req ide addr data s
  | .srcDb req ide sid pic lines => Sys2Proof.Machine.execSrcDb req ide sid pic lines s
  | .rateDemotionEnd sid => Sys2Proof.Machine.execRateDemotionEnd sid s
  | .jobPacketWrite sid low k => Sys2Proof.Machine.execJobPacketWrite sid low k s
  | .rowDispatch core ecc => Sys2Proof.Machine.execRowDispatch core ecc s
  | .agePromotion p => Sys2Proof.Machine.execAgePromotion p s
  | .blockStageDone core st o => Sys2Proof.Machine.execBlockStageDone core st o s
  | .rowPacketise sid => Sys2Proof.Machine.execRowPacketise sid s
  | .packetSend sub => Sys2Proof.Machine.execPacketSend sub s
  | .ringCopyDone sid => Sys2Proof.Machine.execRingCopyDone sid s
  | .rebalanceEval => Sys2Proof.Machine.execRebalanceEval s
  | .autoMove sid => Sys2Proof.Machine.execAutoMove sid s
  | .sealDone sid ok => Sys2Proof.Machine.execSealDone sid ok s
  | .sessionCloseDrained sid => Sys2Proof.Machine.execSessionCloseDrained sid s
  | .holdoffEnd sid => Sys2Proof.Machine.execHoldoffEnd sid s
  | .ccfbSilence sid => Sys2Proof.Machine.execCcfbSilence sid s
  | .rtcpSilence sid => Sys2Proof.Machine.execRtcpSilence sid s
  | .seamTrained k => Sys2Proof.Machine.execSeamTrained k s
  | .seamTrainTimeout k => Sys2Proof.Machine.execSeamTrainTimeout k s
  | .seamBoundaryRecord k fails => Sys2Proof.Machine.execSeamBoundaryRecord k fails s
  | .seamSnapshotRecord k fails => Sys2Proof.Machine.execSeamSnapshotRecord k fails s
  | .seamEntropyHandover k fails => Sys2Proof.Machine.execSeamEntropyHandover k fails s
  | .seamModelRecord k fails => Sys2Proof.Machine.execSeamModelRecord k fails s
  | .receiveFrame sub f => Sys2Proof.Machine.execReceiveFrame sub f s
  | .srSend sid => Sys2Proof.Machine.execSrSend sid s
  | .oldKeyLapse sid => Sys2Proof.Machine.execOldKeyLapse sid s
  | .hostTxTail v => Sys2Proof.Machine.execHostTxTail v s
  | .hostTxSend len code => Sys2Proof.Machine.execHostTxSend len code s
  | .ethModeWrite p v => Sys2Proof.Machine.execEthModeWrite p v s
  | .ethLinkUp sub => Sys2Proof.Machine.execEthLinkUp sub s
  | .ethLinkDown sub => Sys2Proof.Machine.execEthLinkDown sub s
  | .pcieLinkChange p gen width flit => Sys2Proof.Machine.execPcieLinkChange p gen width flit s
  | .delayReqSend d => Sys2Proof.Machine.execDelayReqSend d s
  | .ptpDomainLost d => Sys2Proof.Machine.execPtpDomainLost d s
  | .timeManual => Sys2Proof.Machine.execTimeManual s
  | .timePtp => Sys2Proof.Machine.execTimePtp s
  | .timeSet v => Sys2Proof.Machine.execTimeSet v s
  | .timeRate v => Sys2Proof.Machine.execTimeRate v s
  | .getVersion p => Sys2Proof.Machine.execGetVersion p s
  | .getCapabilities p => Sys2Proof.Machine.execGetCapabilities p s
  | .negotiateAlgorithms p ok => Sys2Proof.Machine.execNegotiateAlgorithms p ok s
  | .getDigests p => Sys2Proof.Machine.execGetDigests p s
  | .getCertificate p slot off len => Sys2Proof.Machine.execGetCertificate p slot off len s
  | .challenge p slot nonce => Sys2Proof.Machine.execChallenge p slot nonce s
  | .getMeasurements p index => Sys2Proof.Machine.execGetMeasurements p index s
  | .keyExchange p => Sys2Proof.Machine.execKeyExchange p s
  | .finish p id ok peer => Sys2Proof.Machine.execFinish p id ok peer s
  | .keyUpdate p id => Sys2Proof.Machine.execKeyUpdate p id s
  | .heartbeat p id => Sys2Proof.Machine.execHeartbeat p id s
  | .endSession p id => Sys2Proof.Machine.execEndSession p id s
  | .keyProg p id stream sid sub => Sys2Proof.Machine.execKeyProg p id stream sid sub s
  | .kSetGo p id stream sub => Sys2Proof.Machine.execKSetGo p id stream sub s
  | .ideIntegrityError p stream => Sys2Proof.Machine.execIdeIntegrityError p stream s
  | .lcProvision c sig key serial otp => Sys2Proof.Machine.execLcProvision c sig key serial otp s
  | .lcActivate c sig key otpHash otpGroup => Sys2Proof.Machine.execLcActivate c sig key otpHash otpGroup s
  | .lcReturn c sig key serial otp => Sys2Proof.Machine.execLcReturn c sig key serial otp s
  | .fwStage c m => Sys2Proof.Machine.execFwStage c m s
  | .opkeyRotate c sig key otp => Sys2Proof.Machine.execOpkeyRotate c sig key otp s
  | .vendorRevoke c slot sig key otp => Sys2Proof.Machine.execVendorRevoke c slot sig key otp s
  | .bindWrite c v0 v1 v2 v3 => Sys2Proof.Machine.execBindWrite c v0 v1 v2 v3 s
  | .drbgReseed healthy => Sys2Proof.Machine.execDrbgReseed healthy s
  | .dramRequest port write addr len data cls ecc => Sys2Proof.Machine.execDramRequest port write addr len data cls ecc s
  | .refreshInterval mc ch => Sys2Proof.Machine.execRefreshInterval mc ch s
  | .rtTrafficEnd mc ch => Sys2Proof.Machine.execRtTrafficEnd mc ch s
  | .mr4Poll mc m0 m1 m2 m3 => Sys2Proof.Machine.execMr4Poll mc m0 m1 m2 m3 s
  | .driftCheck mc ch osc steps => Sys2Proof.Machine.execDriftCheck mc ch osc steps s
  | .selfRefreshIdle mc => Sys2Proof.Machine.execSelfRefreshIdle mc s
  | .srPrepDone mc => Sys2Proof.Machine.execSrPrepDone mc s
  | .srEntryDone mc => Sys2Proof.Machine.execSrEntryDone mc s
  | .srWake mc order => Sys2Proof.Machine.execSrWake mc order s
  | .srExitDone mc => Sys2Proof.Machine.execSrExitDone mc s
  | .mcTrnWritePattern mc cmd => Sys2Proof.Machine.execMcTrnWritePattern mc cmd s
  | .mcTrnReadCompare mc cmd => Sys2Proof.Machine.execMcTrnReadCompare mc cmd s
  | .mcTrnWriteReadCompare mc cmd => Sys2Proof.Machine.execMcTrnWriteReadCompare mc cmd s
  | .mcTrnMrWrite mc cmd => Sys2Proof.Machine.execMcTrnMrWrite mc cmd s
  | .mcTrnMrRead mc cmd => Sys2Proof.Machine.execMcTrnMrRead mc cmd s
  | .mcTrnZqCal mc cmd => Sys2Proof.Machine.execMcTrnZqCal mc cmd s
  | .mcTrnWck2ckSample mc cmd => Sys2Proof.Machine.execMcTrnWck2ckSample mc cmd s
  | .mcTrnDone mc fail data => Sys2Proof.Machine.execMcTrnDone mc fail data s
  | .alloc port ty size cls sid rid => Sys2Proof.Machine.execAlloc port ty size cls sid rid s
  | .ref port who handle => Sys2Proof.Machine.execRef port who handle s
  | .unref port who handle => Sys2Proof.Machine.execUnref port who handle s
  | .reserve port pool sid n => Sys2Proof.Machine.execReserve port pool sid n s
  | .unreserve port pool sid n => Sys2Proof.Machine.execUnreserve port pool sid n s
  | .allocRetry rid => Sys2Proof.Machine.execAllocRetry rid s
  | .bpmHoldExpire pool => Sys2Proof.Machine.execBpmHoldExpire pool s
  | .dmaChEnable req c => Sys2Proof.Machine.execDmaChEnable req c s
  | .dmaChDisable req c => Sys2Proof.Machine.execDmaChDisable req c s
  | .dmaChResume req c => Sys2Proof.Machine.execDmaChResume req c s
  | .dmaChTail req c idx => Sys2Proof.Machine.execDmaChTail req c idx s
  | .dmaNop c desc => Sys2Proof.Machine.execDmaNop c desc s
  | .dmaCopy c desc host err => Sys2Proof.Machine.execDmaCopy c desc host err s
  | .dmaFill c desc err => Sys2Proof.Machine.execDmaFill c desc err s
  | .dmaCompare c desc host err => Sys2Proof.Machine.execDmaCompare c desc host err s
  | .dmaGather c desc host err => Sys2Proof.Machine.execDmaGather c desc host err s
  | .dmaDescriptorDone c => Sys2Proof.Machine.execDmaDescriptorDone c s
  | .shadowCommit req c weight => Sys2Proof.Machine.execShadowCommit req c weight s
  | .mbxInData c id auth word => Sys2Proof.Machine.execMbxInData c id auth word s
  | .mbxOutData c => Sys2Proof.Machine.execMbxOutData c s
  | .hostReset c => Sys2Proof.Machine.execHostReset c s
  | .mbxPartialTimeout c => Sys2Proof.Machine.execMbxPartialTimeout c s
  | .mctpMessage i3c eid secured c words eom => Sys2Proof.Machine.execMctpMessage i3c eid secured c words eom s
  | .mbxBridgePlace c => Sys2Proof.Machine.execMbxBridgePlace c s
  | .mbxOutWrite c dest word can => Sys2Proof.Machine.execMbxOutWrite c dest word can s
  | .mbxInRead c => Sys2Proof.Machine.execMbxInRead c s
  | .mbxEndpointTimeout c => Sys2Proof.Machine.execMbxEndpointTimeout c s
  | .micSourceRaise src on => Sys2Proof.Machine.execMicSourceRaise src on s
  | .micTgtClaim req t => Sys2Proof.Machine.execMicTgtClaim req t s
  | .micTgtEoi req t src => Sys2Proof.Machine.execMicTgtEoi req t src s
  | .micSwi req set => Sys2Proof.Machine.execMicSwi req set s
  | .micSrcCfg req src cfg => Sys2Proof.Machine.execMicSrcCfg req src cfg s
  | .micTargetWake t => Sys2Proof.Machine.execMicTargetWake t s
  | .nanowordComplete core k flag key sram ops fresh kind3 => Sys2Proof.Machine.execNanowordComplete core k flag key sram ops fresh kind3 s
  | .commitWatchdog core k => Sys2Proof.Machine.execCommitWatchdog core k s
  | .patchActivation core => Sys2Proof.Machine.execPatchActivation core s
  | .scrub core => Sys2Proof.Machine.execScrub core s
  | .scrubPeriod core => Sys2Proof.Machine.execScrubPeriod core s
  | .faultRaise reps => Sys2Proof.Machine.execFaultRaise reps s
  | .faultReportTimer src => Sys2Proof.Machine.execFaultReportTimer src s
  | .selfTestDone pol fail slow seam => Sys2Proof.Machine.execSelfTestDone pol fail slow seam s
  | .quiescentBoundary pol => Sys2Proof.Machine.execQuiescentBoundary pol s
  | .hAutoReadmit => Sys2Proof.Machine.execHAutoReadmit s
  | .injectionArm page v => Sys2Proof.Machine.execInjectionArm page v s
  | .injectionDisarm page v => Sys2Proof.Machine.execInjectionDisarm page v s
  | .injectionFire page => Sys2Proof.Machine.execInjectionFire page s
  | .pageLock page => Sys2Proof.Machine.execPageLock page s
  | .derailleurEval => Sys2Proof.Machine.execDerailleurEval s
  | .gearUp p => Sys2Proof.Machine.execGearUp p s
  | .avsUpdate p slack => Sys2Proof.Machine.execAvsUpdate p slack s
  | .droopOnset p => Sys2Proof.Machine.execDroopOnset p s
  | .droopEnd p => Sys2Proof.Machine.execDroopEnd p s
  | .capRelease p headroom => Sys2Proof.Machine.execCapRelease p headroom s
  | .thermalSample p temps => Sys2Proof.Machine.execThermalSample p temps s
  | .supplyExcursion p => Sys2Proof.Machine.execSupplyExcursion p s
  | .commitGearWrite p code => Sys2Proof.Machine.execCommitGearWrite p code s
  | .powerOn part => Sys2Proof.Machine.execPowerOn part s
  | .perstAssert ns acts => Sys2Proof.Machine.execPerstAssert ns acts s
  | .startUp straps train fails => Sys2Proof.Machine.execStartUp straps train fails s
  | .warmReset req v => Sys2Proof.Machine.execWarmReset req v s
  | .pcieHotReset p => Sys2Proof.Machine.execPcieHotReset p s
  | .refclkLoss ref => Sys2Proof.Machine.execRefclkLoss ref s
  | .nvsCmdArm req op => Sys2Proof.Machine.execNvsCmdArm req op s
  | .nvsStoreTrainLive req => Sys2Proof.Machine.execNvsStoreTrainLive req s
  | .nvsStoreTrainStored req => Sys2Proof.Machine.execNvsStoreTrainStored req s
  | .nvsClear req => Sys2Proof.Machine.execNvsClear req s
  | .nvsCmdTimeout => Sys2Proof.Machine.execNvsCmdTimeout s
  | .nvsWriteDone readBack => Sys2Proof.Machine.execNvsWriteDone readBack s
  | .registerWrite req rid auth addr len value => Sys2Proof.Machine.execRegisterWrite req rid auth addr len value s
  | .sidebandReset i3c => Sys2Proof.Machine.execSidebandReset i3c s
  | .peerPortFlr p => Sys2Proof.Machine.execPeerPortFlr p s
  | .rootPllRelock => Sys2Proof.Machine.execRootPllRelock s
  | .powerRemoval => Sys2Proof.Machine.execPowerRemoval s
  | .jtagInstruction op pins => Sys2Proof.Machine.execJtagInstruction op pins s
  | .registerRead req bar2 addr len => Sys2Proof.Machine.execRegisterRead req bar2 addr len s

end Sys2Proof.Machine
end

