-- ==== Sys2Proof/WellFormed.lean ====
section
/-! DEFINITION. Which commands can arrive: the bounds that the wires, buses and formats of the spec set on their operands. -/

namespace Sys2Proof

/-- A command slot exists (R220). -/
def slotOk (i : Nat) : Bool := decide (i < 16384)
/-- A host buffer's words lie in it, in the one form of a table. -/
def bufOk (b : Option Machine.HostBuf) : Bool := b.all (fun h => tsortedFrom 0 h.words && h.words.all (fun w => decide (w.1 * 4 < h.len)))
/-- A register access is of 1 to 8 bytes (R492). -/
def lenOk (n : Nat) : Bool := decide (1 ≤ n) && decide (n ≤ 8)
/-- Failed checks of one flit: five of them are a failure of the link (R201, R203). -/
def failsOk (n : Nat) : Bool := decide (n ≤ 5)
/-- The first beat that failed lies in a transfer (R366). -/
def endOk (e : Option (Nat × Fin 3)) : Bool := e.all (fun p => decide (p.1 < 2 ^ 32))

/-- A page of the PF's BAR0, or of a VF's after 65,536 (R489). -/
def pageOk (n : Nat) : Bool := decide (n < 4096) || (decide (65536 ≤ n) && decide (n < 65600))

/-- Can the command arrive? -/
def Instr.wf : Instr → Bool
  | .createQp slot => slotOk slot
  | .deleteQp slot => slotOk slot
  | .setCqModeration slot => slotOk slot
  | .identify slot _ => slotOk slot
  | .setVfQuota slot => slotOk slot
  | .setVfQueues slot => slotOk slot
  | .sessionOpen slot blk _ => slotOk slot && bufOk blk
  | .sessionClose slot => slotOk slot
  | .sessionQuiesce slot => slotOk slot
  | .sessionResume slot => slotOk slot
  | .sessionMove slot => slotOk slot
  | .sessionExport slot => slotOk slot
  | .sessionImport slot _ => slotOk slot
  | .sessionQuery slot _ => slotOk slot
  | .sessionSetRc slot blk => slotOk slot && bufOk blk
  | .keyRequest slot => slotOk slot
  | .encodePicture slot => slotOk slot
  | .decodePicture slot => slotOk slot
  | .frameRelease slot => slotOk slot
  | .bufAlloc slot => slotOk slot
  | .bufWrite slot data => slotOk slot && bufOk data
  | .bufRead slot _ => slotOk slot
  | .bufRelease slot => slotOk slot
  | .tandemJoin slot => slotOk slot
  | .tandemSplit slot => slotOk slot
  | .polderAdmit slot => slotOk slot
  | .storeSettings slot => slotOk slot
  | .keyAgreeAgree slot _ _ => slotOk slot
  | .keyAgreeSet slot k => slotOk slot && k.all (fun v => decide (v.send ≠ 0) && decide (v.recv ≠ 0))
  | .attest slot _ => slotOk slot
  | .clusterEnrolRequest slot _ => slotOk slot
  | .clusterEnrolCreate slot _ => slotOk slot
  | .clusterEnrolOffer slot _ _ => slotOk slot
  | .clusterEnrolAccept slot _ => slotOk slot
  | .clusterEnrolLeave slot => slotOk slot
  | .mcodeLoad slot _ => slotOk slot
  | .debugUnlockChallenge slot _ => slotOk slot
  | .debugUnlockResponse slot _ => slotOk slot
  | .sqTailDoorbell _ _ _ len _ => lenOk len
  | .cqHeadDoorbell _ _ _ len _ => lenOk len
  | .sqFetch _ => true
  | .sqEntryReadError => true
  | .cqAggTimeout _ _ => true
  | .serviceTimerExpire _ _ => true
  | .adminQueueEnable _ _ => true
  | .adminQueueDisable _ => true
  | .aqReady _ => true
  | .functionPowerState _ _ _ _ _ => true
  | .linkL1Entry _ => true
  | .linkL1Exit _ => true
  | .msixUnmask _ _ => true
  | .vfEnable _ => true
  | .vfFlr _ => true
  | .pfFlr => true
  | .ingestWrite _ _ addr data => decide (data ≠ []) && decide (data.length ≤ 4096) && decide (addr + data.length ≤ 2 ^ 36)
  | .srcDb _ _ _ _ _ => true
  | .rateDemotionEnd _ => true
  | .jobPacketWrite _ _ k => decide (1 ≤ k)
  | .rowDispatch _ _ => true
  | .agePromotion _ => true
  | .blockStageDone _ _ _ => true
  | .rowPacketise _ => true
  | .packetSend _ => true
  | .ringCopyDone _ => true
  | .rebalanceEval => true
  | .autoMove _ => true
  | .sealDone _ _ => true
  | .sessionCloseDrained _ => true
  | .holdoffEnd _ => true
  | .ccfbSilence _ => true
  | .rtcpSilence _ => true
  | .seamTrained _ => true
  | .seamTrainTimeout _ => true
  | .seamBoundaryRecord _ fails => failsOk fails
  | .seamSnapshotRecord _ fails => failsOk fails
  | .seamEntropyHandover _ fails => failsOk fails
  | .seamModelRecord _ fails => failsOk fails
  | .receiveFrame _ f => decide (4 ≤ f.len) && decide (f.bytes.length + 4 = f.len)
  | .srSend _ => true
  | .oldKeyLapse _ => true
  | .hostTxTail _ => true
  | .hostTxSend _ code => decide (code < 8)
  | .ethModeWrite _ _ => true
  | .ethLinkUp _ => true
  | .ethLinkDown _ => true
  | .pcieLinkChange _ gen width _ => if gen.val = 0 then decide (width = 0) else [1, 2, 4, 8, 16].contains width
  | .delayReqSend _ => true
  | .ptpDomainLost _ => true
  | .timeManual => true
  | .timePtp => true
  | .timeSet _ => true
  | .timeRate _ => true
  | .getVersion _ => true
  | .getCapabilities _ => true
  | .negotiateAlgorithms _ _ => true
  | .getDigests _ => true
  | .getCertificate _ _ _ _ => true
  | .challenge _ _ _ => true
  | .getMeasurements _ _ => true
  | .keyExchange _ => true
  | .finish _ _ _ _ => true
  | .keyUpdate _ _ => true
  | .heartbeat _ _ => true
  | .endSession _ _ => true
  | .keyProg _ _ _ _ _ => true
  | .kSetGo _ _ _ _ => true
  | .ideIntegrityError _ _ => true
  | .lcProvision _ _ _ _ _ => true
  | .lcActivate _ _ _ _ _ => true
  | .lcReturn _ _ _ _ _ => true
  | .fwStage _ _ => true
  | .opkeyRotate _ _ _ _ => true
  | .vendorRevoke _ _ _ _ _ => true
  | .bindWrite _ _ _ _ _ => true
  | .drbgReseed _ => true
  | .dramRequest _ write addr len data _ _ => decide (1 ≤ len) && decide (addr.val % 64 + len ≤ 64) && decide (data.length = if write then len else 0)
  | .refreshInterval _ _ => true
  | .rtTrafficEnd _ _ => true
  | .mr4Poll _ _ _ _ _ => true
  | .driftCheck _ _ _ _ => true
  | .selfRefreshIdle _ => true
  | .srPrepDone _ => true
  | .srEntryDone _ => true
  | .srWake _ _ => true
  | .srExitDone _ => true
  | .mcTrnWritePattern _ _ => true
  | .mcTrnReadCompare _ _ => true
  | .mcTrnWriteReadCompare _ _ => true
  | .mcTrnMrWrite _ _ => true
  | .mcTrnMrRead _ _ => true
  | .mcTrnZqCal _ _ => true
  | .mcTrnWck2ckSample _ _ => true
  | .mcTrnDone _ _ _ => true
  | .alloc _ ty _ _ _ _ => decide (ty ≠ .disabled)
  | .ref _ _ _ => true
  | .unref _ _ _ => true
  | .reserve _ _ _ _ => true
  | .unreserve _ _ _ _ => true
  | .allocRetry _ => true
  | .bpmHoldExpire _ => true
  | .dmaChEnable _ _ => true
  | .dmaChDisable _ _ => true
  | .dmaChResume _ _ => true
  | .dmaChTail _ _ _ => true
  | .dmaNop _ _ => true
  | .dmaCopy _ _ _ err => endOk err
  | .dmaFill _ _ err => endOk err
  | .dmaCompare _ _ _ err => endOk err
  | .dmaGather _ _ _ err => endOk err
  | .dmaDescriptorDone _ => true
  | .shadowCommit _ _ _ => true
  | .mbxInData _ _ _ _ => true
  | .mbxOutData _ => true
  | .hostReset _ => true
  | .mbxPartialTimeout _ => true
  | .mctpMessage _ _ _ _ words _ => decide (words.length ≤ 1024)
  | .mbxBridgePlace _ => true
  | .mbxOutWrite _ _ _ _ => true
  | .mbxInRead _ => true
  | .mbxEndpointTimeout _ => true
  | .micSourceRaise _ _ => true
  | .micTgtClaim _ _ => true
  | .micTgtEoi _ _ _ => true
  | .micSwi _ _ => true
  | .micSrcCfg _ _ _ => true
  | .micTargetWake _ => true
  | .nanowordComplete _ _ _ _ _ _ _ _ => true
  | .commitWatchdog _ _ => true
  | .patchActivation _ => true
  | .scrub _ => true
  | .scrubPeriod _ => true
  | .faultRaise reps => reps.all (fun r => decide (r.src < 4096))
  | .faultReportTimer _ => true
  | .selfTestDone _ _ _ _ => true
  | .quiescentBoundary _ => true
  | .hAutoReadmit => true
  | .injectionArm page _ => pageOk page
  | .injectionDisarm page _ => pageOk page
  | .injectionFire page => pageOk page
  | .pageLock page => pageOk page
  | .derailleurEval => true
  | .gearUp _ => true
  | .avsUpdate _ _ => true
  | .droopOnset _ => true
  | .droopEnd _ => true
  | .capRelease _ _ => true
  | .thermalSample _ temps => decide (temps.length = 8) && temps.all (fun t => decide (t ≤ 125))
  | .supplyExcursion _ => true
  | .commitGearWrite _ _ => true
  | .powerOn part => decide (part.dram.length ≤ 16) && decide (part.lcBurnt < 8)
  | .perstAssert _ _ => true
  | .startUp _ train _ => decide (train.length ≤ 16)
  | .warmReset _ _ => true
  | .pcieHotReset _ => true
  | .refclkLoss _ => true
  | .nvsCmdArm _ _ => true
  | .nvsStoreTrainLive _ => true
  | .nvsStoreTrainStored _ => true
  | .nvsClear _ => true
  | .nvsCmdTimeout => true
  | .nvsWriteDone _ => true
  | .registerWrite _ _ _ addr len _ => lenOk len && decide (addr < 2 ^ 29)
  | .sidebandReset _ => true
  | .peerPortFlr _ => true
  | .rootPllRelock => true
  | .powerRemoval => true
  | .jtagInstruction _ _ => true
  | .registerRead _ _ addr len => lenOk len && decide (addr < 2 ^ 36)

end Sys2Proof
end

