-- ==== Sys2Proof/Safety.lean ====
section
/-! DEFINITION. The terms that claims are stated in: what the block's memories and its start-up keep true at every step, when
a queued command is served, and what the delivery of completions may touch. -/

namespace Sys2Proof.Machine

/-- What every step keeps: both memories are in their one form, and READY is up only after the last start-up step (R475). -/
def Inv (s : State) : Bool := Memory.wf s.dram && tsortedFrom 0 s.bufm && (!s.boot.ready || decide (s.boot.step = 8))

/-- The command slot holds command `c` of this opcode, fetched, not yet run, and held back by no fence, no warm reset and no
fatal state (R220, R222, R435, R505). -/
def served (s : State) (slot opc : Nat) (c : Slot) : Bool :=
  decide (tfind s.slots slot = some c) && decide (c.opcode = opc) && !c.started && !c.formed && !fenced s c && !isFatal s &&
    !s.boot.warm && c.picture.isNone

/-- Checks 2 and 4 of R225 pass: the queue and the function may give the command, and own the session it names; and the
management polder is open (R427). -/
def allowed (s : State) (opc : Nat) (c : Slot) : Bool :=
  match opInfo opc with
  | none => false
  | some (_, admin, pf, named) =>
    (!admin || decide (c.qid = 0)) && (!pf || decide (c.fn = 0)) && polOpen s 94 && (!named || owns s c.fn c.sid)

/-- The command in the slot is served and passes those checks. -/
def accepts (s : State) (slot opc : Nat) (c : Slot) : Bool := served s slot opc c && allowed s opc c

/-- The state with the delivery side of another: pending bits of functions, ports, pairs, slots, deferred entries, and what has
left the block. -/
def State.withHost (s t : State) : State :=
  { s with funs := t.funs, ports := t.ports, qps := t.qps, slots := t.slots, deferred := t.deferred, out := t.out }

/-- The command slot and opcode of a queued command (R223); none for every other command. -/
def queuedCmd : Instr → Option (Nat × Nat)
  | .createQp i => some (i, 0x01) | .deleteQp i => some (i, 0x02) | .setCqModeration i => some (i, 0x03)
  | .identify i _ => some (i, 0x04) | .setVfQuota i => some (i, 0x05) | .setVfQueues i => some (i, 0x06)
  | .sessionOpen i _ _ => some (i, 0x10) | .sessionClose i => some (i, 0x11) | .sessionQuiesce i => some (i, 0x12)
  | .sessionResume i => some (i, 0x13) | .sessionMove i => some (i, 0x14) | .sessionExport i => some (i, 0x15)
  | .sessionImport i _ => some (i, 0x16) | .sessionQuery i _ => some (i, 0x17) | .sessionSetRc i _ => some (i, 0x18)
  | .keyRequest i => some (i, 0x19) | .encodePicture i => some (i, 0x20) | .decodePicture i => some (i, 0x21)
  | .frameRelease i => some (i, 0x22) | .bufAlloc i => some (i, 0x28) | .bufWrite i _ => some (i, 0x29)
  | .bufRead i _ => some (i, 0x2A) | .bufRelease i => some (i, 0x2B) | .tandemJoin i => some (i, 0x30)
  | .tandemSplit i => some (i, 0x31) | .polderAdmit i => some (i, 0x38) | .storeSettings i => some (i, 0x39)
  | .keyAgreeAgree i _ _ => some (i, 0x40) | .keyAgreeSet i _ => some (i, 0x40) | .attest i _ => some (i, 0x41)
  | .clusterEnrolRequest i _ => some (i, 0x42) | .clusterEnrolCreate i _ => some (i, 0x42)
  | .clusterEnrolOffer i _ _ => some (i, 0x42) | .clusterEnrolAccept i _ => some (i, 0x42)
  | .clusterEnrolLeave i => some (i, 0x42) | .debugUnlockChallenge i _ => some (i, 0x44)
  | .debugUnlockResponse i _ => some (i, 0x44) | .mcodeLoad i _ => some (i, 0x43)
  | _ => none

/-- The channel is running with no descriptor in execution, and every check of R368 on the descriptor passes, its controllers in
use. -/
def dmaTakes (s : State) (c : Nat) (d : BitVec 256) : Bool :=
  decide ((dmaOf s c).st = .run) && (dmaOf s c).cur.isNone && polOpen s 93 && !isFatal s && dShapeOk d && dAccessOk s c d &&
    (dRefs c ((dBufs d).map (·.1)) [] s).1.isSome && (dBufs d).all (fun b => mcUsable s (bufMc s (hKey b.1)))

end Sys2Proof.Machine
end

