-- ==== Sys2Proof/Certificates/Slice0/Obligations.lean ====
section
/-! DEFINITION. The statements about the block, for the provers. -/

open Sys2Proof Sys2Proof.Machine

/-- O1. A step runs the command at the front of the queue on the state with the queue's rest. For every state and every
command c at the front of its queue, the step is exec of c on the state whose queue is the rest. (00_introduction.md, R37)
-/
def Obligations.StepRunsFrontCommand : Prop :=
  ∀ (s : State) (c : Instr) (l : List Instr), s.pending = c :: l → step s = exec c { s with pending := l }

/-- O2. With no command waiting, a step is one TCLK cycle. With an empty queue a step changes only model time, by 1,250 ps,
the device clock, and what the interrupt controller has sampled. The clock gains 1.25 ns × (1 + adj × 10⁻⁹) in 2⁻³² ns while
the root PLL is locked, and holds its value while it is not. The controller holds the levels that the page headers drive at
that moment, and a source whose level has not changed is as it was. That an idle step is one cycle is the model's choice
(log 1). (R272, R453, R454, R501) -/
def Obligations.IdleStepIsOneClockCycle : Prop :=
  ∀ s : State, s.pending = [] →
    ∃ t, step s = .next t ∧ t.now = s.now + 1250 ∧
      (s.boot.rootLock = true → t.clk = s.clk + (5368709120 + 5368709120 * s.adj / (1000000000 * 65536)).toNat) ∧
      (s.boot.rootLock = false → t.clk = s.clk) ∧
      (isFatal s = false → ∀ n, (micSrcOf t n).hdr = (headerSrcs s).contains n) ∧
      (∀ n, (micSrcOf t n).hdr = (micSrcOf s n).hdr → micSrcOf t n = micSrcOf s n) ∧
      (∀ n, (micSrcOf t n).activeAt = (micSrcOf s n).activeAt ∧ (micSrcOf t n).input = (micSrcOf s n).input) ∧
      { t with now := s.now, clk := s.clk, micSrc := s.micSrc, micTgt := s.micTgt, out := s.out } = s

/-- O3. Every step keeps both memories in their one form and READY tied to the last start-up step. From every state with the
invariant, a step that answers a next state answers one with the invariant. The invariant: the cells of device DRAM and of
buffer contents are listed at strictly rising addresses, and READY is up only with the start-up sequence at step 8. (R333,
R355, R475) -/
def Obligations.EveryStepKeepsInvariant : Prop :=
  ∀ s t : State, Inv s = true → step s = .next t → Inv t = true

/-- O4. The state right after power-on reset has the invariant. The invariant that every step keeps holds in the reset
state. (R333, R355, R474) -/
def Obligations.ResetMeetsInvariant : Prop :=
  Inv State.reset = true

/-- O5. The fatal state survives every command but the removal of power. Once the fatal state is latched with its source and
time, every step answers a state with the same record, whatever command is at the front of the queue, unless that command is
the removal of power or the rise of power. (R435, R436) -/
def Obligations.FatalStateLasts : Prop :=
  ∀ (s t : State) (x : Nat × Nat), s.flt.fatal = some x → step s = .next t →
    (∀ l, s.pending ≠ .powerRemoval :: l) → (∀ p l, s.pending ≠ .powerOn p :: l) → t.flt.fatal = some x

/-- O6. No step takes back a lifecycle group that has been burnt. Once the part's fuses are known (a part is what it is from
its first power-on, the model's log 8), every lifecycle group that is burnt stays burnt over every step, and the facts of
the part do not change. (R283, R284, R285) -/
def Obligations.LifecycleIsOneWay : Prop :=
  ∀ (s t : State), s.board.known = true → step s = .next t →
    t.board = s.board ∧ ∀ k, bitAt s.sec.lcBurnt k = true → bitAt t.sec.lcBurnt k = true

/-- O7. No command changes the queue of waiting commands or model time. Whatever the command and the state, the next state
that exec answers has the same waiting commands and the same model time. (R272, R453) -/
def Obligations.CommandsLeaveQueueAndTime : Prop :=
  ∀ (c : Instr) (s t : State), exec c s = .next t → t.pending = s.pending ∧ t.now = s.now

/-- O8. Every command runs to a next state, except a DRAM access at or beyond usable capacity. No command is refused. A
command faults only if it is a DRAM request whose last byte lies at or above the usable capacity of its controller, and the
fault is then noSuchAddress. Every other command answers a next state in every state. (R333) -/
def Obligations.OnlyAccessBeyondMemoryStops : Prop :=
  ∀ (c : Instr) (s : State),
    (∀ r, exec c s ≠ .refused r) ∧
    (∀ f, exec c s = .fault f → f = .noSuchAddress ∧
      ∃ port write addr len data cls ecc, c = .dramRequest port write addr len data cls ecc ∧
        usableCap (mcOf s (devMc addr.val)).density ≤ devOff addr.val + (if write then data.length else len) - 1)

/-- O9. The 64 bytes of a completion-queue entry hold every field of R227 at its place. Byte 0 of the entry is the least
significant. RESULT0 to RESULT3 are bytes 0 to 31; CID, OPCODE, STATUS, SQ_HEAD, QID and KIND bytes 32 to 39; SID,
SID_VALID, NOTES and EXT bytes 40 to 47; TIME bytes 48 to 55; SEQ and P bytes 56 to 63; every reserved bit is 0. The entry
goes as one write to the CQ's base plus 64 times its tail, an address that is a multiple of 64 where the base is; SEQ counts
the entries and wraps at 2³², and P is inverted when the tail wraps to 0. A pair begins with SEQ 0 and P 1. (R227) -/
def Obligations.CompletionEntryLayout : Prop :=
  (∀ (e : Entry) (qid head seq : Nat) (p : Bool),
    let b := (e.bits qid head seq p).toNat
    bitsOf b 0 64 = e.r0 % 2 ^ 64 ∧ bitsOf b 64 64 = e.r1 % 2 ^ 64 ∧ bitsOf b 128 64 = e.r2 % 2 ^ 64 ∧
    bitsOf b 192 64 = e.r3 % 2 ^ 64 ∧ bitsOf b 256 16 = e.cid % 2 ^ 16 ∧ bitsOf b 272 8 = e.opcode % 2 ^ 8 ∧
    bitsOf b 280 8 = e.status % 2 ^ 8 ∧ bitsOf b 288 16 = head % 2 ^ 16 ∧ bitsOf b 304 8 = qid % 2 ^ 8 ∧
    bitsOf b 312 2 = e.kind % 4 ∧ bitsOf b 314 6 = 0 ∧ bitsOf b 320 12 = e.sid.getD 0 % 2 ^ 12 ∧
    bitsOf b 332 1 = b2n e.sid.isSome ∧ bitsOf b 333 3 = 0 ∧ bitsOf b 336 16 = e.notes % 2 ^ 16 ∧
    bitsOf b 352 32 = e.ext % 2 ^ 32 ∧ bitsOf b 384 64 = e.time % 2 ^ 64 ∧ bitsOf b 448 32 = seq % 2 ^ 32 ∧
    bitsOf b 480 31 = 0 ∧ bitsOf b 511 1 = b2n p) ∧
  (∀ (k : Nat) (e : Entry) (s : State) (q : QPair), tfind s.qps k = some q →
    ∃ q', tfind (cqWrite k e s).qps k = some q' ∧
      (cqWrite k e s).out = .cqe (k / 256) (k % 256) (q.cqBase + 64 * q.cqTail)
        (e.bits (k % 256) q.sqHead q.seq q.phase) :: (e.pre.reverse ++ s.out) ∧
      (q.cqBase % 4096 = 0 → (q.cqBase + 64 * q.cqTail) % 64 = 0) ∧
      q'.cqTail = (q.cqTail + 1) % 2 ^ q.cqLog ∧ q'.seq = (q.seq + 1) % 2 ^ 32 ∧
      q'.phase = (if q'.cqTail = 0 then !q.phase else q.phase)) ∧
  ({} : QPair).seq = 0 ∧ ({} : QPair).phase = true

/-- O10. Completing a command or writing an event changes nothing but the delivery side of the block. Completing a command
slot and writing an event, with all that may follow (staging, holding, a flush, an interrupt message, a PME, an L1 exit, the
end of a DELETE_QP, commands of reserved opcode that a fence held), changes only the functions' pending bits, the ports, the
queue pairs, the command slots, the entries that wait for another CQ (R233) and what has left the block. Every register,
session, buffer, memory, polder and unit is as it was. (R226, R237, R238, R239, R553) -/
def Obligations.DeliveryTouchesQueuesOnly : Prop :=
  (∀ (slot st : Nat) (r : Res) (s : State), complete slot st r s = s.withHost (complete slot st r s)) ∧
  ∀ (k code idx : Nat) (sid : Option Nat) (r0 r1 r2 r3 ext : Nat) (s : State),
    event k code idx sid r0 r1 r2 r3 ext s = s.withHost (event k code idx sid r0 r1 r2 r3 ext s)

/-- O11. A completion on an open, reachable CQ with room is written at once and frees its slot. For a command slot whose
pair is in DIRECT, reachable, not full and not being deleted, with the link in L0 and neither a fatal state nor a warm
reset, forming the completion writes the command's CID and opcode with the status and the results given at the tail of the
CQ, and the slot is free, where no entry of another CQ must come first. Where an entry of the same session that waits in
another CQ, or was deferred before it, must be written first by R233, nothing is written and the completion waits behind
those deferred. (R220, R226, R227, R231, R233, R237, R238) -/
def Obligations.DirectCompletionFreesItsSlot : Prop :=
  ∀ (slot st : Nat) (r : Res) (s : State) (c : Slot) (q : QPair),
    tfind s.slots slot = some c → c.formed = false → c.picture = none → tfind s.qps (qkey c.fn c.qid) = some q →
    q.deleting = none → q.st = .direct → cqReach s (qkey c.fn c.qid) = true → q.full = false → (port s 0).link = .l0 →
    isFatal s = false → s.boot.warm = false → c.qid < 256 → q.ien = false →
    let e : Entry := {
      r0 := r.r0, r1 := r.r1, r2 := r.r2, r3 := r.r3, cid := c.cid, opcode := c.opcode, status := st, kind := 0, sid := entrySid s c r
      notes := r.notes, time := devTime s, formed := s.now, urgent := r.urgent, slot := some slot, pre := r.pre }
    let t := completeOne slot st r s
    (cqWaits s.deferred (qkey c.fn c.qid) e s = true → t = { s with
      slots := tput s.slots slot { c with formed := true }, deferred := s.deferred ++ [(qkey c.fn c.qid, e)] }) ∧
    (s.deferred = [] → cqWaits [] (qkey c.fn c.qid) e s = false →
      t.out = .cqe c.fn c.qid (q.cqBase + 64 * q.cqTail) (e.bits c.qid q.sqHead q.seq q.phase) :: (r.pre.reverse ++ s.out) ∧
      tfind t.slots slot = none ∧ ∀ i, i ≠ slot → tfind t.slots i = tfind s.slots i)

/-- O12. A queued command from the wrong queue or function completes with ST_NOT_PERMITTED and does nothing else. For every
command of a queue whose slot is served: an admin command on an I/O queue, or a PF command from a VF, completes with
ST_NOT_PERMITTED. While the management polder is sealed, any queued command but a POLDER_ADMIT completes with ST_FENCED. A
slot that holds a command of another opcode, or none, is left as it was. Rows of one opcode with several operations are
meant for their own operation; BUF_RELEASE waits while the BPM is sealed, and an enrolment that writes the record waits for
a running NVS write. (R222, R225, R427) -/
def Obligations.CommandChecksBeforeEffect : Prop :=
  ∀ (i : Instr) (slot opc : Nat) (s : State), queuedCmd i = some (slot, opc) →
    (∀ c a b d, served s slot opc c = true → opInfo opc = some (opc, a, b, d) → (a && decide (c.qid ≠ 0) || b && decide (c.fn ≠ 0)) = true →
      polOpen s 93 = true → s.nvs.write = none →
      exec i s = .next (finish slot stNotPermitted s) ∨ (exec i s = .next s ∧ (opc = 0x40 ∨ opc = 0x42 ∨ opc = 0x44))) ∧
    (∀ c a b d, served s slot opc c = true → opInfo opc = some (opc, a, b, d) → (a && decide (c.qid ≠ 0) || b && decide (c.fn ≠ 0)) = false →
      polOpen s 94 = false → opc ≠ 0x38 → polOpen s 93 = true → s.nvs.write = none →
      exec i s = .next (finish slot stFenced s) ∨ (exec i s = .next s ∧ (opc = 0x40 ∨ opc = 0x42 ∨ opc = 0x44))) ∧
    (∀ c, tfind s.slots slot = some c → c.opcode ≠ opc → exec i s = .next s) ∧
    (tfind s.slots slot = none → exec i s = .next s)

/-- O13. CREATE_QP, DELETE_QP, SET_CQ_MODERATION, IDENTIFY, SET_VF_QUOTA and SET_VF_QUEUES do what R224, R503 and R553 say.
CREATE_QP with a free QID and room creates the pair with the geometry, class and delivery settings of the command, head,
tail and SEQ 0 and phase 1. DELETE_QP marks its pair as being deleted with nothing staged or held, counts what was staged or
held in the overflow record of the admin CQ, moves notifications of the function's sessions to the admin CQ, and ends when
the pair's commands have completed. SET_CQ_MODERATION changes the delivery settings of a pair and nothing else of it.
IDENTIFY writes 4,096 bytes of IDENTIFY data to PTR0 and completes with that length, or with ST_DMA_ERROR where the write
fails. SET_VF_QUOTA and SET_VF_QUEUES set the two quotas and the two limits of the VF. (R47, R216, R217, R224, R503, R553)
-/
def Obligations.QueueCommandsComplete : Prop :=
  (∀ (slot : Nat) (s : State) (c : Slot), accepts s slot 0x01 c = true → createQpOk c s = true →
    tfind s.qps (qkey c.fn (c.arg 24 0 8)) = none → (c.fn = 0 ∨ pairsOf s c.fn < (func s c.fn).pairLimit) → ioPairs s < 960 →
    let q : QPair := {
      sqBase := c.ptr0, sqLog := c.arg 24 8 4, cqBase := c.ptr1, cqLog := c.arg 24 12 4, vector := c.arg 24 16 5
      ien := decide (c.arg 24 21 1 = 1), urgentClass := decide (c.arg 24 22 1 = 1), policyDrop := decide (c.arg 24 23 1 = 1)
      urgentBypass := decide (c.arg 24 24 1 = 1), aggCount := c.arg 28 0 8, aggTime := c.arg 28 8 10
      svcBound := c.arg 32 0 14, sqHead := 0, sqTail := 0, cqHead := 0, cqTail := 0, seq := 0, phase := true }
    exec (.createQp slot) s = .next (finish slot stOk { s with qps := tput s.qps (qkey c.fn (c.arg 24 0 8)) q })) ∧
  (∀ (slot : Nat) (s : State) (c : Slot) (q : QPair), accepts s slot 0x02 c = true → c.arg 24 0 8 ≠ 0 →
    tfind s.qps (qkey c.fn (c.arg 24 0 8)) = some q → q.deleting = none → q.staged = [] → q.held = [] → s.deferred = [] →
    exec (.deleteQp slot) s = .next (settleDeletes { s with
      slots := tput s.slots slot { c with started := true }
      qps := tput s.qps (qkey c.fn (c.arg 24 0 8)) { q with deleting := some slot, st := .direct }
      sess := s.sess.map (fun p => if p.2.owner = c.fn ∧ p.2.notifyQid = c.arg 24 0 8 ∧ p.2.st ≠ .free
        then (p.1, { p.2 with notifyQid := 0 }) else p) })) ∧
  (∀ (slot : Nat) (s : State) (c : Slot) (q : QPair), accepts s slot 0x03 c = true → 1 ≤ c.arg 32 0 14 → c.arg 32 0 14 ≤ 10000 →
    tfind s.qps (qkey c.fn (c.arg 24 0 8)) = some q → q.st = .direct → q.unsig = 0 → q.staged = [] → q.held = [] →
    let q' := { q with
      vector := c.arg 24 16 5, ien := decide (c.arg 24 21 1 = 1), policyDrop := decide (c.arg 24 23 1 = 1)
      urgentBypass := decide (c.arg 24 24 1 = 1), aggCount := c.arg 28 0 8, aggTime := c.arg 28 8 10
      svcBound := c.arg 32 0 14 }
    exec (.setCqModeration slot) s = .next (finish slot stOk { s with qps := tput s.qps (qkey c.fn (c.arg 24 0 8)) q' })) ∧
  (∀ (slot : Nat) (s : State) (c : Slot), accepts s slot 0x04 c = true →
    exec (.identify slot true) s = .next (complete slot stOk { r0 := 4096 } { s with
      out := .hostWr c.fn c.ptr0 4096 true (identifyWords s c.fn) :: s.out }) ∧
    exec (.identify slot false) s = .next (finish slot stDmaError s)) ∧
  (∀ (slot : Nat) (s : State) (c : Slot), accepts s slot 0x05 c = true → 1 ≤ c.arg 24 0 6 → c.arg 28 0 13 ≤ 4096 →
    c.arg 32 0 17 ≤ 128000 →
    let f := { func s (c.arg 24 0 6) with sessQuota := c.arg 28 0 13, loadQuota := c.arg 32 0 17 }
    exec (.setVfQuota slot) s = .next (finish slot stOk { s with funs := tset {} s.funs (c.arg 24 0 6) f })) ∧
  (∀ (slot : Nat) (s : State) (c : Slot), accepts s slot 0x06 c = true → 1 ≤ c.arg 24 0 6 → 1 ≤ c.arg 28 0 9 →
    c.arg 28 0 9 ≤ 256 → 16 ≤ c.arg 32 0 13 → c.arg 32 0 13 ≤ 4096 →
    let f := { func s (c.arg 24 0 6) with pairLimit := c.arg 28 0 9, slotLimit := c.arg 32 0 13 }
    exec (.setVfQueues slot) s = .next (finish slot stOk { s with funs := tset {} s.funs (c.arg 24 0 6) f }))

/-- O14. A valid doorbell write moves the SQ tail or the CQ head; an invalid one is ignored and recorded. For a function
that the host reaches, with a 4-byte write at the first byte of a doorbell: an SQ tail below the depth of a pair the
function holds becomes the tail; a CQ head on the path from the head to the device's tail, both included, becomes the head,
and a CQ that was full is flushed; a value equal to the present one changes nothing. Every other write changes no index: it
is recorded in HQ_DB_ERR, and where HQ_DB_ERR.VALID was 0 it writes EVT_DB_ERROR to the function's admin CQ. So does every
write that R218 records. (R219) -/
def Obligations.DoorbellsMoveIndices : Prop :=
  ∀ (fn : Fin 64) (qid : Fin 256) (v : W64) (s : State), hostReach s fn = true →
    let k := qkey fn qid
    let n := v.toNat % 2 ^ 16
    let a := hqBase fn + 0x9C
    let s1 := pgBlock ⟨.hq, fn⟩ s
    let bad := fun (sq : Bool) (val : Nat) =>
      if rfld s1 a 9 1 = 1 then rfset a 10 1 1 s1
      else event (qkey fn 0) 0x0028 9 none (fn + qid * 2 ^ 8 + b2n sq * 2 ^ 16 + val % 2 ^ 16 * 2 ^ 32) 0 0 0 0
        (rset a (qid + b2n sq * 2 ^ 8 + 2 ^ 9 + rfld s1 a 10 1 * 2 ^ 10 + val % 2 ^ 16 * 2 ^ 16) s1)
    (∀ q, tfind s.qps k = some q → q.deleting = none →
      (n < 2 ^ q.sqLog → n ≠ q.sqTail → exec (.sqTailDoorbell fn qid 0 4 v) s = .next { s with
        qps := tput s.qps k { q with sqTail := n }, doorbells := tset 0 s.doorbells (2 * k) n }) ∧
      (n < 2 ^ q.sqLog → n = q.sqTail → exec (.sqTailDoorbell fn qid 0 4 v) s = .next s) ∧
      (2 ^ q.sqLog ≤ n → exec (.sqTailDoorbell fn qid 0 4 v) s = .next (bad true n)) ∧
      (n < 2 ^ q.cqLog → (n + 2 ^ q.cqLog - q.cqHead) % 2 ^ q.cqLog ≤ (q.cqTail + 2 ^ q.cqLog - q.cqHead) % 2 ^ q.cqLog →
        let t := { s with qps := tput s.qps k { q with cqHead := n }, doorbells := tset 0 s.doorbells (2 * k + 1) n }
        (n ≠ q.cqHead → q.st ≠ .stagedFull → exec (.cqHeadDoorbell fn qid 0 4 v) s = .next t) ∧
        (n ≠ q.cqHead → q.st = .stagedFull → exec (.cqHeadDoorbell fn qid 0 4 v) s = .next (cqStartFlush k t)) ∧
        (n = q.cqHead → exec (.cqHeadDoorbell fn qid 0 4 v) s = .next s)) ∧
      (¬ (n < 2 ^ q.cqLog ∧ (n + 2 ^ q.cqLog - q.cqHead) % 2 ^ q.cqLog ≤ (q.cqTail + 2 ^ q.cqLog - q.cqHead) % 2 ^ q.cqLog) →
        exec (.cqHeadDoorbell fn qid 0 4 v) s = .next (bad false n))) ∧
    (tfind s.qps k = none → exec (.sqTailDoorbell fn qid 0 4 v) s = .next (bad true n) ∧
      exec (.cqHeadDoorbell fn qid 0 4 v) s = .next (bad false n)) ∧
    (∀ (b : Fin 4) (len : Nat), (b.val ≠ 0 ∨ len ≠ 4) →
      exec (.sqTailDoorbell fn qid b len v) s = .next (bad true 0xFFFF) ∧
      exec (.cqHeadDoorbell fn qid b len v) s = .next (bad false 0xFFFF))

/-- O15. Fetch takes the head entry of the SQ in turn into the lowest free slot; a failed read completes with ST_DMA_ERROR.
Where a pair is due for fetch, SQ_FETCH puts the 64 bytes read into the lowest free slot with the pair's function and QID,
advances the SQ head by one round the ring, and numbers the command for FENCE; a command of reserved opcode that no fence
holds then completes. SQ_ENTRY_READ_ERROR runs no command: it advances the head, counts the error, and completes the entry
with ST_DMA_ERROR. Admin SQs come before URGENT ones, and those before NORMAL ones. (R220, R221, R225, R552) -/
def Obligations.FetchTakesHeadIntoSlot : Prop :=
  (∀ (entry : BitVec 512) (s : State) (cl k n : Nat) (q : QPair), fetchNext s = some (cl, k, n) → tfind s.qps k = some q →
    let c : Slot := { fn := k / 256, qid := k % 256, entry := entry, order := s.fetchOrder }
    let t := { s with
      slots := tput s.slots (lowFree s.slots 0) c
      qps := tput s.qps k { q with sqHead := (q.sqHead + 1) % 2 ^ q.sqLog }
      fetchOrder := s.fetchOrder + 1, fetchPos := tset (0, 0) s.fetchPos cl (k + 1, n) }
    exec (.sqFetch entry) s = .next (settleBad t)) ∧
  (∀ (s : State) (cl k n : Nat) (q : QPair), fetchNext s = some (cl, k, n) → tfind s.qps k = some q →
    let c : Slot := { fn := k / 256, qid := k % 256, entry := BitVec.ofNat 512 (0xFFFF * 2 ^ 16), order := s.fetchOrder }
    let t := { s with
      slots := tput s.slots (lowFree s.slots 0) c
      qps := tput s.qps k { q with sqHead := (q.sqHead + 1) % 2 ^ q.sqLog }
      fetchOrder := s.fetchOrder + 1, fetchPos := tset (0, 0) s.fetchPos cl (k + 1, n) }
    exec .sqEntryReadError s = .next (finish (lowFree s.slots 0) stDmaError (rcnt 0x90094 0 32 1 t))) ∧
  (∀ (s : State) (cl k n : Nat), fetchNext s = some (cl, k, n) →
    (cl = 0 ∨ fetchInClass s 0 = none) ∧ (cl ≤ 1 ∨ fetchInClass s 1 = none) ∧ (port s 0).link = .l0)

/-- O16. CQ_AGG_TIMEOUT, SERVICE_TIMER_EXPIRE, ADMIN_QUEUE_ENABLE, AQ_READY and MSIX_UNMASK do what R237 to R242 say. At the
end of AGG_TIME a CQ in DIRECT whose interrupt condition holds sends its message, and its entries count as signalled. When a
stall reaches SVC_BOUND, a CQ of policy HOLD writes EVT_CQ_STALL (other than the PF's admin CQ), and one of policy DROP
counts its entries in its overflow record. A write of HQ_AQ_CFG with EN 1 in range enables the admin pair at the bases
written before with every index 0; out of range, EN reads 0. Once ready, the admin pair accepts commands. Unmasking a vector
clears its mask and pending bits and sends the message that was pending. (R234, R237, R238, R240, R242) -/
def Obligations.QueueEventsActOnTheirPair : Prop :=
  (∀ (fn : Fin 64) (qid : Fin 256) (s : State) (q : QPair), tfind s.qps (qkey fn qid) = some q → q.st = .direct →
    q.irq s.now = true → (func s fn).mask.getLsbD q.vector = false →
    exec (.cqAggTimeout fn qid) s = .next { s with
      qps := tput s.qps (qkey fn qid) { q with unsig := 0, urgUnsig := false }, out := .msix fn q.vector :: s.out }) ∧
  (∀ (fn : Fin 64) (qid : Fin 256) (s : State) (q : QPair) (t0 : Nat), tfind s.qps (qkey fn qid) = some q → q.st = .stagedFull →
    q.stalled = false → q.svcSince = some t0 → svcRuns s fn = true → psMs q.svcBound ≤ q.svcRun + (s.now - t0) →
    let q1 := { q with svcRun := q.svcRun + (s.now - t0), svcSince := some s.now, stalled := true }
    let s1 := { s with qps := tput s.qps (qkey fn qid) q1 }
    (q.policyDrop = false → qkey fn qid ≠ 0 → exec (.serviceTimerExpire fn qid) s =
      .next (evtPf 0x0027 9 (fn + qid * 2 ^ 8 + q.cqHead * 2 ^ 32) 0 s1)) ∧
    (q.policyDrop = true → exec (.serviceTimerExpire fn qid) s =
      .next (settleDeletes (cqRelease (forAll (q.staged ++ q.held) (fun e s => cqDrop (qkey fn qid) e s)
        (qpMod (qkey fn qid) (fun q => { q with staged := [], held := [] }) s1)))))) ∧
  (∀ (fn : Fin 64) (cfg : W32) (s : State) (q : QPair), hostReach s fn = true → bitAt (rget s (hqBase fn + 0x90)) 31 = false →
    tfind s.qps (qkey fn 0) = some q →
    let sl := bitsOf cfg.toNat 0 4
    let cl := bitsOf cfg.toNat 4 4
    (4 ≤ sl → sl ≤ 12 → 4 ≤ cl → cl ≤ 14 →
      let q' := { q with
          sqBase := rget s (hqBase fn + 0x80), cqBase := rget s (hqBase fn + 0x88), sqLog := sl, cqLog := cl, sqHead := 0
          sqTail := 0, cqHead := 0, cqTail := 0, seq := 0, phase := true, vector := bitsOf cfg.toNat 8 5
          ien := decide (bitsOf cfg.toNat 13 1 = 1), aggCount := 0, aggTime := 0, urgentBypass := false, policyDrop := false
          svcBound := 100 }
      ∃ t, exec (.adminQueueEnable fn cfg) s = .next t ∧ tfind t.qps (qkey fn 0) = some q' ∧
        bitAt (rget t (hqBase fn + 0x90)) 31 = true ∧ (func t fn).aqReady = false ∧ t.sess = s.sess ∧ t.slots = s.slots) ∧
    (¬ (4 ≤ sl ∧ sl ≤ 12 ∧ 4 ≤ cl ∧ cl ≤ 14) →
      exec (.adminQueueEnable fn cfg) s = .next (rset (hqBase fn + 0x90) (cfg.toNat % 2 ^ 14) s))) ∧
  (∀ (fn : Fin 64) (s : State) (q : QPair), s.boot.ready = true → bitAt (rget s (hqBase fn + 0x90)) 31 = true →
    isFatal s = false → (func s fn).aqReady = false → tfind s.qps (qkey fn 0) = some q → q.st = .direct →
    exec (.aqReady fn) s = .next { s with funs := tset {} s.funs fn { func s fn with aqReady := true } }) ∧
  (∀ (fn : Fin 64) (vec : Fin 32) (s : State), (func s fn).enabled = true →
    ∃ t, exec (.msixUnmask fn vec) s = .next t ∧ (func t fn).mask.getLsbD vec = false ∧ (func t fn).pend.getLsbD vec = false ∧
      (∀ i : Fin 32, i ≠ vec → (func t fn).mask.getLsbD i = (func s fn).mask.getLsbD i) ∧
      { t with funs := s.funs, out := s.out } = s ∧
      t.out = if (func s fn).pend.getLsbD vec then .msix fn vec :: s.out else s.out)

/-- O17. LINK_L1_ENTRY, LINK_L1_EXIT, FUNCTION_POWER_STATE, VF_ENABLE, VF_FLR, PF_FLR and ADMIN_QUEUE_DISABLE act on their
port and functions. A link in L0 enters L1; in L1 it comes back to L0, and on port H every CQ staged for it or flushing goes
on. A function takes its D-state, Bus Master Enable and PME enable. VF Enable makes VFs 1 to NumVFs, each with the limits
and quotas the PF has set and its admin pair. The reset of a VF resets the function and its configuration and writes
EVT_VF_FLR to the PF. The reset of the PF takes the streams of port H out of Secure and resets PF and VFs. Disabling an
admin queue resets the function as its FLR does. (R216, R238, R240, R241, R242, R317, R470, R474) -/
def Obligations.LinkAndFunctionEvents : Prop :=
  (∀ (p : Fin 3) (s : State), (port s p).link = .l0 →
    exec (.linkL1Entry p) s = .next { s with ports := tset {} s.ports p { port s p with link := .l1, l1Exiting := false } }) ∧
  (∀ (p : Fin 3) (s : State), (port s p).link = .l1 →
    let t := { s with ports := tset {} s.ports p { port s p with link := .l0, l1Exiting := false } }
    (p.val ≠ 0 → exec (.linkL1Exit p) s = .next t) ∧
    (p.val = 0 → exec (.linkL1Exit p) s =
      .next (flushIn (s.qps.map (·.1)) (fun st => st == .stagedL1 || st == .flushing) t))) ∧
  (∀ (p : Fin 3) (fn : Fin 64) (d3 bme pme : Bool) (s : State), p.val ≠ 0 →
    exec (.functionPowerState p fn d3 bme pme) s = .next { s with
      ports := tset {} s.ports p { port s p with d3 := d3, bme := bme, pmeEn := pme } }) ∧
  (∀ (fn : Fin 64) (d3 bme pme : Bool) (s : State), (func s fn).enabled = true → keysOf s fn = [] →
    let f := { func s fn with d3 := d3, bme := bme, pmeEn := pme, pmeSent := (func s fn).pmeSent && (func s fn).d3 && d3 }
    exec (.functionPowerState 0 fn d3 bme pme) s = .next (srOrders { s with funs := tset {} s.funs fn f })) ∧
  (∀ (num : Fin 64) (s : State), (port s 0).numVfs = 0 → hostReach s 0 = true →
    ∃ t, exec (.vfEnable num) s = .next t ∧ (port t 0).numVfs = num ∧
      (∀ n, 1 ≤ n → n ≤ num.val → func t n = (func s n).fresh true ∧ tfind t.qps (qkey n 0) = some {}) ∧
      { t with funs := s.funs, qps := s.qps, ports := s.ports } = s) ∧
  (∀ (vf : Fin 64) (s : State), vf.val ≠ 0 → (func s vf).enabled = true → isFatal s = false → s.boot.warm = false →
    exec (.vfFlr vf) s = .next (evtPf 0x0029 10 vf 0 (resetConfig vf (resetFunction vf s)))) ∧
  (∀ s : State, isFatal s = false → s.boot.warm = false → exec .pfFlr s = .next (pfFlr (ideLeave 0 s))) ∧
  (∀ (fn : Fin 64) (s : State), hostReach s fn = true → bitAt (rget s (hqBase fn + 0x90)) 31 = true →
    exec (.adminQueueDisable fn) s = .next (resetFunction fn s))

/-- O18. A function reset leaves the function no session, no command slot and no queue pair but a fresh admin pair. After
the reset of a function, no command slot belongs to it, its pairs are its admin pair alone with every field at its start,
its admin pair is not ready, and every doorbell value of its pairs is forgotten. (R241, R498) -/
def Obligations.FunctionResetLeavesNothing : Prop :=
  ∀ (fn : Nat) (s : State),
    let t := resetFunction fn s
    (∀ p ∈ t.slots, p.2.fn ≠ fn) ∧ tfind t.qps (qkey fn 0) = some {} ∧
      (∀ p ∈ t.qps, p.1 / 256 = fn → p.1 = qkey fn 0) ∧ (∀ p ∈ t.doorbells, p.1 / 512 ≠ fn) ∧ (func t fn).aqReady = false

/-- O19. BUF_ALLOC, BUF_WRITE, BUF_READ and BUF_RELEASE act on host-held buffers. BUF_ALLOC completes with the handle of the
bitstream buffer the BPM takes for the function, and with ST_NO_MEMORY where it takes none. BUF_WRITE stores the bytes read
from host memory at the offset in the buffer that the function's handle names, and BUF_READ gives the bytes of the range to
the host; both complete with ST_BAD_HANDLE for a handle that names no buffer of the function, and BUF_READ with ST_PROTECTED
for a buffer of a protected session, with nothing written. BUF_RELEASE drops the host's count, and completes with
ST_BAD_HANDLE where the BPM refuses it. (R225, R226, R228, R356, R361) -/
def Obligations.BufferCommandsComplete : Prop :=
  (∀ (slot : Nat) (s : State) (c : Slot), accepts s slot 0x28 c = true → 4096 ≤ c.arg 24 0 32 → c.arg 24 0 32 ≤ 64 * 2 ^ 20 →
    let r : AllocReq := { ty := .bitstream, size := c.arg 24 0 32, cls := 2, owner := c.fn, hostHeld := true, port := 12 }
    (∀ h t, bpmAlloc r s = (.ok h, t) → exec (.bufAlloc slot) s = .next (complete slot stOk { r0 := h } t)) ∧
    (∀ t, bpmAlloc r s = (.empty, t) → exec (.bufAlloc slot) s = .next (finish slot stNoMemory t))) ∧
  (∀ (slot : Nat) (d : HostBuf) (s : State) (c : Slot) (b : BufRec), accepts s slot 0x29 c = true →
    bufLive s (c.arg 24 0 32) = some b → b.owner = c.fn → rangeOk s c = true → mcUsable s (bufMc s (hKey (c.arg 24 0 32))) = true →
    exec (.bufWrite slot (some d)) s = .next (finish slot stOk { s with
      bufm := tputs s.bufm (hKey (c.arg 24 0 32) * 2 ^ 30 + c.arg 28 0 32) (d.bytes 0 (c.arg 32 0 32)) })) ∧
  (∀ (slot : Nat) (s : State) (c : Slot) (b : BufRec), accepts s slot 0x2A c = true → bufLive s (c.arg 24 0 32) = some b →
    b.owner = c.fn → rangeOk s c = true → mcUsable s (bufMc s (hKey (c.arg 24 0 32))) = true →
    (b.sid = none → exec (.bufRead slot true) s = .next (finish slot stOk { s with
      out := .hostBytes c.fn c.ptr0 true (bufBytes s (hKey (c.arg 24 0 32)) (c.arg 28 0 32) (c.arg 32 0 32)) :: s.out })) ∧
    (∀ x ok, b.sid = some x → (sessOf s x).protected' = true → exec (.bufRead slot ok) s = .next (finish slot stProtected s))) ∧
  (∀ (slot : Nat) (d : Option HostBuf) (ok : Bool) (s : State) (c : Slot), bufLive s (c.arg 24 0 32) = none →
    (accepts s slot 0x29 c = true → exec (.bufWrite slot d) s = .next (finish slot stBadHandle s)) ∧
    (accepts s slot 0x2A c = true → exec (.bufRead slot ok) s = .next (finish slot stBadHandle s))) ∧
  (∀ (slot : Nat) (s : State) (c : Slot), accepts s slot 0x2B c = true → polOpen s 93 = true →
    (refCheck s 12 c.fn (c.arg 24 0 32) false true = none → exec (.bufRelease slot) s =
      .next (finish slot stOk (bpmUnref 12 c.fn (c.arg 24 0 32) true s).2)) ∧
    (∀ kind, refCheck s 12 c.fn (c.arg 24 0 32) false true = some kind → exec (.bufRelease slot) s =
      .next (finish slot stBadHandle (bpmReject 12 kind (c.arg 24 0 32) s))))

/-- O20. Admission takes the lowest free SID and answers the first check of R42 that fails. An admission that succeeds takes
the lowest SID whose context is FREE, below 4,096, with the quotas of the owner kept, a placement on a core that fits, and
the budgeted DRAM and egress demand within their limits. The status of a failed one is that of the first check that fails:
no context, quota, format, capacity, DRAM budget, egress budget. (R30, R31, R34, R42, R43, R47, R298) -/
def Obligations.AdmissionChecksInOrder : Prop :=
  ∀ (x0 : Session) (imp pol : Bool) (s : State),
    let sid := lowFree s.sess 0
    (4096 ≤ sid → admission x0 imp pol s = .inl stNoContext) ∧
    (sid < 4096 → quotaOk s x0.owner x0.load = false → admission x0 imp pol s = .inl stVfQuota) ∧
    (sid < 4096 → quotaOk s x0.owner x0.load = true → formatOk x0 = none → admission x0 imp pol s = .inl stFormatLimit) ∧
    (∀ lvl slots, sid < 4096 → quotaOk s x0.owner x0.load = true → formatOk x0 = some (lvl, slots) →
      (place s x0.kind x0.load x0.lc = none → admission x0 imp pol s = .inl stNoCapacity) ∧
      ∀ c, place s x0.kind x0.load x0.lc = some c →
        let need := demandOf x0.kind x0.width x0.height x0.rateNum x0.rateDen (x0.fmt.rowStream &&
          ringFits s { x0 with fmt := { x0.fmt with level := lvl, refSlots := slots, longMax := min x0.fmt.longMax (slots - 1) } } c)
        (dramLimit s < dramDemand s + need → admission x0 imp pol s = .inl stDramBudget) ∧
        (dramDemand s + need ≤ dramLimit s → x0.kind ≠ .decode → egressOk s sid x0.egress x0.nw.wirePeak = false →
          admission x0 imp pol s = .inl stEgressBudget) ∧
        (∀ r t, admission x0 imp pol s = .inr (r, t) → r = sid ∧ dramDemand s + need ≤ dramLimit s ∧
          (x0.kind = .decode ∨ egressOk s sid x0.egress x0.nw.wirePeak = true) ∧
          (x0.protected' = true → protectUp s = true ∧ svnOk s x0.pol = true)))

/-- O21. SESSION_OPEN and SESSION_IMPORT bind a session, or complete with the status of the check that fails. SESSION_OPEN
of a block whose fields are in range admits the session it describes, takes SEC's XTS slot for it, and completes with SID,
GID and window; where admission answers a status, it completes with that status, and SEC_CNT[2] counts an open refused
because its policy does not verify; where the block could not be read, it completes with ST_DMA_ERROR. SESSION_IMPORT admits
the context of an image that this device's cluster sealed, draws new buffers for the pictures it carries, and completes as
an open does; an image that fails its checks completes with ST_SEAL_MISMATCH, with no context changed. (R36, R42, R68, R69,
R224, R225, R298, R315, R523) -/
def Obligations.SessionsOpenAndImport : Prop :=
  (∀ (slot : Nat) (b : HostBuf) (pol : Bool) (s : State) (c : Slot) (x : Session), accepts s slot 0x10 c = true →
    2048 ≤ c.arg 24 0 32 → (bitAt (b.fld 0 0 32) 22 = true → 2048 + policyLen b ≤ c.arg 24 0 32) →
    parseOpen s b c.fn c.qid s.sec.drbg = some x →
    let ok := pol && (!bitAt (b.fld 0 0 32) 22 || policyForm b)
    (∀ sid t, admission x false ok s = .inr (sid, t) →
      let u := secAdmit sid { t with sec := { t.sec with drbg := t.sec.drbg + 4 } }
      exec (.sessionOpen slot (some b) pol) s = .next (complete slot stOk (openRes sid u) u)) ∧
    (∀ st, admission x false ok s = .inl st →
      exec (.sessionOpen slot (some b) pol) s = .next (finish slot st (openRefused st pol s)))) ∧
  (∀ (slot : Nat) (pol : Bool) (s : State) (c : Slot), accepts s slot 0x10 c = true →
    exec (.sessionOpen slot none pol) s = .next (finish slot stDmaError s)) ∧
  (∀ (slot : Nat) (m : SealedImage) (s : State) (c : Slot) (sid : Nat) (t u : State), accepts s slot 0x16 c = true →
    m.magicOk = true → m.lengthOk = true → m.tagOk = true → clusterId s = some (m.cluster, m.generation) →
    (tfind s.qps (qkey c.fn (importContext m.ctx c.fn).notifyQid)).isSome = true → m.ctx.protected' = false →
    admission (importContext m.ctx c.fn) true true s = .inr (sid, t) → importSlots sid m.recs t = some u →
    exec (.sessionImport slot (some m)) s = .next (complete slot stOk (openRes sid (secAdmit sid u)) (secAdmit sid u))) ∧
  (∀ (slot : Nat) (m : SealedImage) (s : State) (c : Slot), accepts s slot 0x16 c = true →
    (m.magicOk = false ∨ m.lengthOk = false ∨ m.tagOk = false ∨ clusterId s ≠ some (m.cluster, m.generation)) →
    exec (.sessionImport slot (some m)) s = .next (finish slot stSealMismatch s))

/-- O22. SESSION_CLOSE, QUIESCE, RESUME, MOVE and EXPORT take the session to the states of R36. For a command whose session
is in a state that accepts it: QUIESCE marks the session QUIESCING with the command pending, and acts at once where no
picture is started; RESUME takes a QUIESCED session to BOUND and completes; MOVE and EXPORT of a QUIESCED session act at
once, and of a BOUND or ACTIVE one wait for quiescence as QUIESCE does; CLOSE starts the close of the session in every state
but CLOSING. In any other state, and while another of these is pending, they complete with ST_BAD_STATE. (R36, R37, R38,
R62, R66, R224) -/
def Obligations.SessionStateCommands : Prop :=
  (∀ (slot : Nat) (s : State) (c : Slot), accepts s slot 0x11 c = true → (sessOf s c.sid).st ≠ .closing →
    exec (.sessionClose slot) s = .next (closeSession c.sid (some slot)
      { s with slots := tput s.slots slot { c with started := true } })) ∧
  (∀ (slot : Nat) (s : State) (c : Slot), accepts s slot 0x12 c = true → (sessOf s c.sid).ctxLost = false →
    ((sessOf s c.sid).st = .bound ∨ (sessOf s c.sid).st = .active) →
    exec (.sessionQuiesce slot) s = .next (settle c.sid { s with
      slots := tput s.slots slot { c with started := true }
      sess := tset {} s.sess c.sid { sessOf s c.sid with st := .quiescing, pend := .quiesce, pendSlot := some slot } })) ∧
  (∀ (slot : Nat) (s : State) (c : Slot), accepts s slot 0x13 c = true → (sessOf s c.sid).ctxLost = false →
    (sessOf s c.sid).st = .quiesced →
    exec (.sessionResume slot) s = .next (complete slot stOk { sid := some c.sid }
      { s with sess := tset {} s.sess c.sid { sessOf s c.sid with st := .bound } })) ∧
  (∀ (slot : Nat) (s : State) (c : Slot), accepts s slot 0x14 c = true → moveFieldOk c s = true →
    (sessOf s c.sid).ctxLost = false →
    let req := some (if c.arg 24 3 1 = 1 then some (c.arg 24 0 3) else none,
      if c.arg 24 10 1 = 1 then some (c.arg 24 4 6) else none, if c.arg 24 13 1 = 1 then some (c.arg 24 11 2) else none)
    let t := { hold slot s with sess := tset {} s.sess c.sid { sessOf s c.sid with
      pend := .move, pendSlot := some slot, moveReq := req
      moveFrom := if (sessOf s c.sid).st = .active then .bound else (sessOf s c.sid).st } }
    ((sessOf s c.sid).st = .quiesced → exec (.sessionMove slot) s = .next (doMove c.sid t)) ∧
    ((sessOf s c.sid).st = .bound → exec (.sessionMove slot) s = .next (settle c.sid (sessMod c.sid (fun x => { x with st := .quiescing }) t)))) ∧
  (∀ (slot : Nat) (s : State) (c : Slot), accepts s slot 0x15 c = true → (sessOf s c.sid).ctxLost = false →
    ((sessOf s c.sid).protected' = false ∨ (sessOf s c.sid).pol.exportOk = true) →
    let t := { hold slot s with sess := tset {} s.sess c.sid { sessOf s c.sid with
      pend := .exporting, pendSlot := some slot, expAddr := c.ptr0, expLen := c.arg 24 0 32 } }
    ((sessOf s c.sid).st = .quiesced → exec (.sessionExport slot) s = .next (startSeal c.sid t)) ∧
    ((sessOf s c.sid).st = .bound → exec (.sessionExport slot) s = .next (settle c.sid (sessMod c.sid (fun x => { x with st := .quiescing }) t)))) ∧
  (∀ (slot : Nat) (s : State) (c : Slot), (sessOf s c.sid).st ∉ [.bound, .active, .quiesced, .stranded] →
    (accepts s slot 0x12 c = true → exec (.sessionQuiesce slot) s = .next (finish slot stBadState s)) ∧
    (accepts s slot 0x13 c = true → exec (.sessionResume slot) s = .next (finish slot stBadState s)) ∧
    (accepts s slot 0x14 c = true → moveFieldOk c s = true → exec (.sessionMove slot) s = .next (finish slot stBadState s)) ∧
    (accepts s slot 0x15 c = true → exec (.sessionExport slot) s = .next (finish slot stBadState s)))

/-- O23. A session with no started picture leaves QUIESCING as its pending command says. A QUIESCING session none of whose
pictures has started or waits for its completion: with SESSION_QUIESCE pending it is QUIESCED, with no command pending, and
the command completes with ST_OK; with SESSION_EXPORT pending and a host buffer long enough for the image it is SEALING, and
with one too short it is QUIESCED and the command completes with ST_BUFFER_SHORT and the length needed. While one of its
pictures has started it stays as it is. (R36, R37, R66) -/
def Obligations.QuiescenceEndsTheWait : Prop :=
  ∀ (sid : Nat) (s : State), (sessOf s sid).st = .quiescing →
    ((sessOf s sid).pics.any (·.began) = true → settle sid s = s) ∧
    ((sessOf s sid).pics.any (·.began) = false → (sessOf s sid).pics.any (fun p => p.st == .ended) = false →
      ∀ slot, (sessOf s sid).pendSlot = some slot →
        ((sessOf s sid).pend = .quiesce → settle sid s = complete slot stOk { sid := some sid } { s with
          sess := tset {} s.sess sid { sessOf s sid with st := .quiesced, pend := .none, pendSlot := none } }) ∧
        ((sessOf s sid).pend = .exporting → imageLen (sessOf s sid) ≤ (sessOf s sid).expLen →
          settle sid s = { s with sess := tset {} s.sess sid { sessOf s sid with st := .sealing } }) ∧
        ((sessOf s sid).pend = .exporting → (sessOf s sid).expLen < imageLen (sessOf s sid) →
          settle sid s = complete slot stBufferShort { r0 := imageLen (sessOf s sid), sid := some sid } { s with
            sess := tset {} s.sess sid { sessOf s sid with st := .quiesced, pend := .none, pendSlot := none } }))

/-- O24. SESSION_QUERY, SESSION_SET_RC, KEY_REQUEST and FRAME_RELEASE act on their session. SESSION_QUERY with 8,192 bytes
or more writes the context record to PTR0 just before its completion, and with fewer completes with ST_BUFFER_SHORT.
SESSION_SET_RC of 256 bytes with every field in range and no change to the signalled buffer model takes the rate settings of
the block and records the change for the loop; its block unread, it completes with ST_DMA_ERROR; on a decode session it
changes nothing. KEY_REQUEST records a key-picture request with its answer; FRAME_RELEASE on a session that is not EXPORTED
makes an output frame that the host holds free for reuse, and completes with ST_BAD_HANDLE for any other handle. (R122,
R150, R185, R526) -/
def Obligations.SessionSettingsCommands : Prop :=
  (∀ (slot : Nat) (s : State) (c : Slot), accepts s slot 0x17 c = true → (sessOf s c.sid).ctxLost = false →
    (8192 ≤ c.arg 24 0 32 → exec (.sessionQuery slot true) s = .next (complete slot stOk {
      sid := some c.sid, pre := [.hostWr c.fn c.ptr0 8192 true (contextWords c.sid (sessOf s c.sid))] } s)) ∧
    (∀ ok, c.arg 24 0 32 < 8192 → exec (.sessionQuery slot ok) s = .next (finish slot stBufferShort s))) ∧
  (∀ (slot : Nat) (b : HostBuf) (s : State) (c : Slot), accepts s slot 0x18 c = true → c.arg 24 0 32 = 256 →
    (sessOf s c.sid).ctxLost = false → (sessOf s c.sid).st = .bound →
    ((sessOf s c.sid).kind = .decode → exec (.sessionSetRc slot (some b)) s = .next (complete slot stOk { sid := some c.sid } s)) ∧
    (let x := sessOf s c.sid
      let rc := readRc b 0 x.rc
      x.kind ≠ .decode → rcOk x.fmt.std x.rateNum x.rateDen rc = true → rcFlagsOk b 0 = true →
      rc.model.rD = x.bm.rD → rc.model.size x.rateNum x.rateDen = x.bm.size x.rateNum x.rateDen →
      ∃ t y, exec (.sessionSetRc slot (some b)) s = .next (complete slot stOk { sid := some c.sid } t) ∧
        t = { s with sess := tset {} s.sess c.sid y } ∧ y.rc = rc ∧ y.nw = x.nw ∧ y.st = x.st ∧ y.bm.waiting = false) ∧
    exec (.sessionSetRc slot none) s = .next (finish slot stDmaError s)) ∧
  (∀ (slot : Nat) (s : State) (c : Slot), accepts s slot 0x19 c = true → (sessOf s c.sid).ctxLost = false →
    (sessOf s c.sid).st = .bound →
    ((sessOf s c.sid).kind ≠ .decode → exec (.keyRequest slot) s = .next (complete slot stOk { sid := some c.sid } { s with
      sess := tset {} s.sess c.sid ((sessOf s c.sid).record (devNs s) (.keyReq (answerOf (c.arg 24 0 2)))) })) ∧
    ((sessOf s c.sid).kind = .decode → exec (.keyRequest slot) s = .next (finish slot stBadState s))) ∧
  (∀ (slot : Nat) (s : State) (c : Slot), accepts s slot 0x22 c = true → (sessOf s c.sid).ctxLost = false →
    (sessOf s c.sid).kind = .decode → (sessOf s c.sid).st ≠ .exported →
    ((sessOf s c.sid).outs.any (fun o => o.1 == c.arg 24 0 32 && o.2) = true →
      exec (.frameRelease slot) s = .next (complete slot stOk { sid := some c.sid } { s with
        sess := tset {} s.sess c.sid { sessOf s c.sid with
          outs := (sessOf s c.sid).outs.map (fun o => if o.1 = c.arg 24 0 32 then (c.arg 24 0 32, false) else o) } })) ∧
    ((sessOf s c.sid).outs.any (fun o => o.1 == c.arg 24 0 32 && o.2) = false →
      exec (.frameRelease slot) s = .next (finish slot stBadHandle s)))

/-- O25. ENCODE_PICTURE and DECODE_PICTURE put a picture in hand, or say why not. A frame-mode ENCODE_PICTURE to a half that
no picture holds takes the half and appends a picture with the command's number, source half and capture time (the device
time where it gives 0); with the half held it completes with ST_SOURCE_BUSY. DECODE_PICTURE of a range within a buffer of
the function counts the buffer and appends a picture with the session's next number; a handle that names none of its buffers
completes with ST_BAD_HANDLE. Both count the picture in the measured rate and leave the command's slot with the picture. On
a session of the other kind they complete with ST_BAD_STATE. (R39, R48, R82, R178, R226) -/
def Obligations.PictureSubmission : Prop :=
  (∀ (slot : Nat) (s : State) (c : Slot), accepts s slot 0x20 c = true → (sessOf s c.sid).kind ≠ .decode →
    (sessOf s c.sid).ctxLost = false → (sessOf s c.sid).takesPics = true → (sessOf s c.sid).fmt.rowStream = false →
    let x := sessOf s c.sid
    let cap := if c.arg 32 0 64 = 0 then devNs s else fmtNs (c.arg 32 0 64)
    (c.arg 28 0 1 = 0 → x.ing.half0Busy = false →
      let p : Pic := { num := c.arg 24 0 32, cmd := some slot, boundCmd := true, srcIdx := 0, capture := cap }
      exec (.encodePicture slot) s = .next (noteReady c.sid (submitRate c.sid { s with
        slots := tput s.slots slot { c with started := true, picture := some (c.sid, c.arg 24 0 32) }
        sess := tset {} s.sess c.sid { x with ing := { x.ing with half0Busy := true }, pics := x.pics ++ [p] } }))) ∧
    (c.arg 28 0 1 = 1 → x.ing.half1Busy = false →
      let p : Pic := { num := c.arg 24 0 32, cmd := some slot, boundCmd := true, srcIdx := 1, capture := cap }
      exec (.encodePicture slot) s = .next (noteReady c.sid (submitRate c.sid { s with
        slots := tput s.slots slot { c with started := true, picture := some (c.sid, c.arg 24 0 32) }
        sess := tset {} s.sess c.sid { x with ing := { x.ing with half1Busy := true }, pics := x.pics ++ [p] } }))) ∧
    (c.arg 28 0 1 = 0 → x.ing.half0Busy = true → exec (.encodePicture slot) s = .next (finish slot stSourceBusy s))) ∧
  (∀ (slot : Nat) (s : State) (c : Slot), accepts s slot 0x20 c = true → (sessOf s c.sid).kind = .decode →
    exec (.encodePicture slot) s = .next (finish slot stBadState s)) ∧
  (∀ (slot : Nat) (s : State) (c : Slot) (b : BufRec), accepts s slot 0x21 c = true → (sessOf s c.sid).kind = .decode →
    (sessOf s c.sid).ctxLost = false → (sessOf s c.sid).takesPics = true →
    (bufLive s (c.arg 24 0 32) = some b → b.owner = c.fn →
      c.arg 28 0 32 + c.arg 32 0 32 ≤ bufSize s (c.arg 24 0 32) →
      let t := addRef 0 (c.arg 24 0 32) s
      let x := sessOf t c.sid
      let n := (sessOf s c.sid).nextPic
      let p : Pic := {
        num := n, cmd := some slot, boundCmd := true, buf := c.arg 24 0 32, off := c.arg 28 0 32, len := c.arg 32 0 32 }
      exec (.decodePicture slot) s = .next (noteReady c.sid (submitRate c.sid { t with
        slots := tput t.slots slot { c with started := true, picture := some (c.sid, n) }
        sess := tset {} t.sess c.sid { x with nextPic := (x.nextPic + 1) % 2 ^ 32, pics := x.pics ++ [p] } }))) ∧
    (bufLive s (c.arg 24 0 32) = none → exec (.decodePicture slot) s = .next (finish slot stBadHandle s))) ∧
  (∀ (slot : Nat) (s : State) (c : Slot), accepts s slot 0x21 c = true → (sessOf s c.sid).kind ≠ .decode →
    exec (.decodePicture slot) s = .next (finish slot stBadState s))

/-- O26. The tandem commands and seam records move a core pair through R192 and over its link. TANDEM_JOIN of an empty
SINGLE pair with both cores up makes it JOINING and its command waits; training makes it JOINED and completes the command;
20 µs without training make it SINGLE again and complete the command with ST_SEAM_TRAIN. TANDEM_SPLIT of an empty JOINED
pair makes it SINGLE and completes. A pair in another state, or one that holds a session, completes with ST_BAD_STATE. On a
JOINED pair whose first waiting record in the direction is of the kind named, a record that arrives after `n` failed checks
of its flit, at most four, counts `n` replays and raises each, and the receiving core holds the record; after five failed
checks the seam failure of the receiving core is raised and no record is taken. Down the link goes every kind but the model
record. (R192, R193, R201, R202, R203) -/
def Obligations.TandemPairsAndSeam : Prop :=
  (∀ (slot : Nat) (s : State) (c : Slot), accepts s slot 0x30 c = true → c.arg 24 0 6 % 2 = 0 →
    let k := c.arg 24 0 6 / 2
    ((pairOf s k).st = .single → pairHeld s k = false → coreUp s (2 * k) = true → coreUp s (2 * k + 1) = true →
      exec (.tandemJoin slot) s = .next { s with
        slots := tput s.slots slot { c with started := true }
        pairs := tset {} s.pairs k { st := .joining, joinSlot := some slot, since := s.now } }) ∧
    (((pairOf s k).st ≠ .single ∨ pairHeld s k = true) → exec (.tandemJoin slot) s = .next (finish slot stBadState s))) ∧
  (∀ (slot : Nat) (s : State) (c : Slot), accepts s slot 0x31 c = true → c.arg 24 0 6 % 2 = 0 →
    let k := c.arg 24 0 6 / 2
    ((pairOf s k).st = .joined → pairHeld s k = false →
      exec (.tandemSplit slot) s = .next (finish slot stOk { s with pairs := tset {} s.pairs k {} })) ∧
    (((pairOf s k).st ≠ .joined ∨ pairHeld s k = true) → exec (.tandemSplit slot) s = .next (finish slot stBadState s))) ∧
  (∀ (k : Fin 32) (s : State) (slot : Nat), (pairOf s k).st = .joining → (pairOf s k).joinSlot = some slot →
    (coreUp s (2 * k) = true → coreUp s (2 * k + 1) = true →
      exec (.seamTrained k) s = .next (finish slot stOk { s with
        pairs := tset {} s.pairs k { st := .joined, trained := true, enabled := true } })) ∧
    ((pairOf s k).since + 20000000 ≤ s.now →
      exec (.seamTrainTimeout k) s = .next (finish slot stSeamTrain { s with pairs := tset {} s.pairs k {} }))) ∧
  (∀ (k : Fin 32) (fails : Nat) (s : State) (r : SeamRec), (pairOf s k).st = .joined →
      let take := fun (rx : Nat) =>
        let t := forAll (List.range (min fails 4)) (fun _ s => raise 0x07 rx s) (rcnt (aCore rx 0xD4) 0 32 (min fails 4) s)
        if 5 ≤ fails then raise 0x08 rx { t with pairs := tset {} t.pairs k { pairOf t k with fails := (pairOf t k).fails + 1 } }
        else { t with pairs := tset {} t.pairs k { pairOf t k with
          sent := dropFirst (fun q => q == r) (pairOf t k).sent
          recs := r :: (pairOf t k).recs.filter (fun q => q.sid != r.sid || decide (q.pic + 2 > r.pic)) } }
      (seamFirst (pairOf s k) 0 = some r → r.kind = 0 → exec (.seamBoundaryRecord k fails) s = .next (take (2 * k + 1))) ∧
      (seamFirst (pairOf s k) 1 = some r → r.kind = 1 → exec (.seamSnapshotRecord k fails) s = .next (take (2 * k + 1))) ∧
      (seamFirst (pairOf s k) 2 = some r → r.kind = 2 → exec (.seamEntropyHandover k fails) s = .next (take (2 * k + 1))) ∧
      (seamFirst (pairOf s k) 3 = some r → r.kind = 3 → exec (.seamModelRecord k fails) s = .next (take (2 * k))))

/-- O27. RATE_DEMOTION_END, HOLDOFF_END, CCFB_SILENCE, RTCP_SILENCE and OLD_KEY_LAPSE change their session alone. A demoted
session whose measured rate is back at or below the declared rate regains its class. When a holdoff ends, the FIR recorded
in it is held no longer. 500 ms without CCFB mark the session; 1,000 ms without RTCP halve R_net, no lower than R_min,
unless NAR_HOLD freezes it, and the first such halving writes EVT_FEEDBACK_LOST. 2 s after the first packet under new keys
the old receive key is forgotten. Nothing else of the state changes. (R48, R142, R143, R154, R306) -/
def Obligations.SessionTimersAct : Prop :=
  (∀ (sid : Fin 4096) (s : State), (sessOf s sid).demoted = true →
    windowPixels (sessOf s sid) s.now * (sessOf s sid).rateDen ≤ (sessOf s sid).width * (sessOf s sid).height * (sessOf s sid).rateNum →
    exec (.rateDemotionEnd sid) s = .next { s with sess := tset {} s.sess sid { sessOf s sid with
      demoted := false, measRate := ceilDiv (windowPixels (sessOf s sid) s.now) 1000000 } }) ∧
  (∀ (sid : Fin 4096) (s : State) (t : Nat), (sessOf s sid).loop.holdEnd = some t → t ≤ devNs s →
    exec (.holdoffEnd sid) s = .next { s with sess := tset {} s.sess sid { sessOf s sid with
      fb := (sessOf s sid).fb.map (fun f => { f with hold := f.hold && !f.kind.isFir }) } }) ∧
  (∀ (sid : Fin 4096) (s : State) (t : Nat), (sessOf s sid).tr.firstRtp = some t →
    max t ((sessOf s sid).loop.lastCcfb.getD 0) + 500000000 ≤ devNs s →
    exec (.ccfbSilence sid) s = .next { s with sess := tset {} s.sess sid { sessOf s sid with
      loop := { (sessOf s sid).loop with ccfbSilent := true } } }) ∧
  (∀ (sid : Fin 4096) (s : State) (t : Nat), (sessOf s sid).tr.firstRtp = some t →
    (sessOf s sid).loop.rtcpSilent = false → max t ((sessOf s sid).loop.lastRtcp.getD 0) + 1000000000 ≤ devNs s →
    let x := sessOf s sid
    let r := if x.rcNow.narHold then x.loop.rnet else max x.rcNow.rcFloor ((x.loop.rnet + 1) / 2)
    exec (.rtcpSilence sid) s = .next (evtSess sid 0x0015 3 0 0 0 0 0 { s with sess := tset {} s.sess sid { x with
      loop := { x.loop with
        rtcpSilent := true, lastHalve := some (max t (x.loop.lastRtcp.getD 0) + 1000000000), lastDec := some (devNs s)
        rnet := r } } })) ∧
  (∀ (sid : Fin 4096) (s : State) (t : Nat), (sessOf s sid).tr.oldKeyUntil = some (some t) → t ≤ devNs s →
    exec (.oldKeyLapse sid) s = .next { s with sess := tset {} s.sess sid { sessOf s sid with
      tr := { (sessOf s sid).tr with oldKeyUntil := none }, keys := { (sessOf s sid).keys with oldRecv := none } } })

/-- O28. REBALANCE_EVAL, AUTO_MOVE, SEAL_DONE, SESSION_CLOSE_DRAINED and RING_COPY_DONE carry out the session engine's own
moves. An evaluation that is due sets the next one 100 ms later; a chosen move that still fits is carried out at a picture
boundary with its time noted, and one that does not fit is dropped. A sealed image that could not be written ends the export
with ST_DMA_ERROR, the session QUIESCED; one written goes out with its header before anything else, and the session ends
EXPORTED without keys. A CLOSING session with no row in flight leaves a FREE context. The end of a ring copy lets the writes
that waited be judged in order. (R36, R63, R66, R72, R83, R308, R314, R527) -/
def Obligations.SessionEngineEvents : Prop :=
  (∀ (s : State), s.rebalanceAt ≤ s.now → s.boot.ready = true → isFatal s = false →
    ∃ t, exec .rebalanceEval s = .next t ∧ t.rebalanceAt = s.now + 100000000000 ∧
      { t with sess := s.sess, rebalanceAt := s.rebalanceAt } = s) ∧
  (∀ (sid : Fin 4096) (s : State) (c : Nat), 2 ≤ (sessOf s sid).lc → atBoundary s sid = true → isFatal s = false →
    (sessOf s sid).moveTo = some c →
    (autoFits s (sessOf s sid).kind (sessOf s sid).load (sessOf s sid).lc c = true →
      exec (.autoMove sid) s = .next (rebind sid c 1 false { s with
        sess := tset {} s.sess sid { sessOf s sid with moveTo := none, lastMove := some s.now } })) ∧
    (autoFits s (sessOf s sid).kind (sessOf s sid).load (sessOf s sid).lc c = false →
      exec (.autoMove sid) s = .next { s with sess := tset {} s.sess sid { sessOf s sid with moveTo := none } })) ∧
  (∀ (sid : Fin 4096) (s : State), (sessOf s sid).st = .sealing →
    exec (.sealDone sid false) s = .next (endPend sid stDmaError
      { s with sess := tset {} s.sess sid { sessOf s sid with st := .quiesced } }) ∧
    (∀ slot, (sessOf s sid).pendSlot = some slot → (sessOf s sid).pics = [] →
      ∃ t, (sessOf t sid).st = .exported ∧ (sessOf t sid).keys = {} ∧ (sessOf t sid).tr.keyed = false ∧
        exec (.sealDone sid true) s = .next (complete slot stOk { r0 := imageLen (sessOf s sid), sid := some sid.val } t))) ∧
  (∀ (sid : Fin 4096) (s : State) (slot : Nat), (sessOf s sid).st = .closing → rowsIn s sid = false →
    (sessOf s sid).closeSlot = some slot →
    exec (.sessionCloseDrained sid) s = .next (complete slot stOk { sid := some sid.val } (freeSession sid s))) ∧
  (∀ (sid : Fin 4096) (s : State) (u : Nat), (sessOf s sid).ing.copying = some u → (sessOf s sid).st ≠ .moving →
    exec (.ringCopyDone sid) s = .next (noteReady sid (forAll (sessOf s sid).ing.waiting
      (fun w s => windowWrite sid w.1 w.2.1 w.2.2 s)
      { s with sess := tset {} s.sess sid { sessOf s sid with ing := { (sessOf s sid).ing with copying := none, waiting := [] } } })))

/-- O29. INGEST_WRITE and SRC_DB act on the window they fall in, or are counted and discarded. A BAR2 write outside every
window changes nothing but HQ_STRAY_WR. One into the window of a protected session over another port or stream than its own
is discarded and counted by SEC. An accepted write into a frame-mode half that no picture holds stores its bytes in the
half's source buffer, and one into a half that is held sets WR_BUSY and stores nothing; both count its bytes as accepted on
the port. A doorbell write reaches the row doorbell of its session. (R82, R85, R214, R318, R506) -/
def Obligations.IngestWritesReachTheirWindow : Prop :=
  (∀ (req : Req) (p : Nat) (ide : Option Nat) (addr : Nat) (data : List Byte) (s : State), reqPort req = some p →
    polOpen s (88 + p) = true → isFatal s = false → s.boot.ready = true →
    (windowOf s addr = none → exec (.ingestWrite req ide addr data) s = .next (rcnt 0x100A0 0 32 1 s)) ∧
    (∀ sid x, windowOf s addr = some (sid, x) → windowTakes s x p ide = false →
      exec (.ingestWrite req ide addr data) s = .next (pgBlock ⟨.sec, 0⟩ (rcnt 0x6098 0 32 1 s))) ∧
    (∀ sid x, windowOf s addr = some (sid, x) → windowTakes s x p ide = true → x.st ≠ .exported → x.st ≠ .closing →
      sessOf s sid = x → x.ing.copying = none → x.fmt.rowStream = false →
      let off := addr - x.ing.winBase * 2 ^ 21
      let b := max 1 x.picBytes
      let t := rcnt (0x900A0 + 0x1000 * p) 0 64 data.length s
      off < x.ctlOff →
      (off / b = 0 → x.ing.half0Busy = false → x.ing.srcBuf0 ≠ 0 → mcUsable s (bufMc s (hKey x.ing.srcBuf0)) = true →
        exec (.ingestWrite req ide addr data) s = .next { t with
          bufm := tputs s.bufm (hKey x.ing.srcBuf0 * 2 ^ 30 + off % b) data }) ∧
      (off / b = 0 → x.ing.half0Busy = true →
        exec (.ingestWrite req ide addr data) s = .next { t with
          sess := tset {} s.sess sid { x with ing := { x.ing with wrBusy := true } } }))) ∧
  (∀ (req : Req) (p : Nat) (ide : Option Nat) (sid : Fin 4096) (pic lines : W16) (s : State), reqPort req = some p →
    polOpen s (88 + p) = true → isFatal s = false → s.boot.ready = true →
    let x := sessOf s sid
    x.ing.winLen ≠ 0 → windowOf s (x.ing.winBase * 2 ^ 21 + x.ctlOff) = some (sid.val, x) → windowTakes s x p ide = true →
    x.st ≠ .free → x.st ≠ .exported → x.st ≠ .closing → x.ing.copying = none → x.ctlOff % 8 = 0 →
    exec (.srcDb req ide sid pic lines) s =
      .next (srcDoorbell sid p pic.toNat lines.toNat (rcnt (0x900A0 + 0x1000 * p) 0 64 4 s)))

/-- O30. A row doorbell moves the announced lines forward, and one that breaks R85 is ignored with one event a picture. On a
row-stream session a doorbell whose picture is not the write picture, whose lines go back or past the height, or are neither
a multiple of 8 nor the height, changes no count of lines: it sets DB_ERR, and the first one of a write picture writes
EVT_SOURCE_DB_ERROR. One of the present write picture, already started, with lines below the height sets the lines
announced; one with all its lines advances the write picture. The groups it announces that another port wrote are marked as
undefined (R80). (R80, R85, R235) -/
def Obligations.RowDoorbellRule : Prop :=
  ∀ (sid port pic lines : Nat) (s : State),
    let x := sessOf s sid
    let g := x.ing
    x.fmt.rowStream = true → polOpen s 94 = true →
    ((pic ≠ g.writePic % 2 ^ 16 ∨ (g.dbAny = true ∧ lines < g.dbLines) ∨ x.height < lines ∨ (lines % 8 ≠ 0 ∧ lines ≠ x.height)) →
      let t := { s with sess := tset {} s.sess sid { x with ing := { g with dbErr := true, dbEvt := some g.writePic } } }
      (g.dbEvt = some g.writePic → srcDoorbell sid port pic lines s = t) ∧
      (g.dbEvt ≠ some g.writePic → srcDoorbell sid port pic lines s =
        evtSess sid 0x0014 2 (g.writePic % 2 ^ 32 + lines % 2 ^ 16 * 2 ^ 32) 0 0 0 0 t)) ∧
    (pic = g.writePic % 2 ^ 16 → g.dbAny = true → g.dbLines ≤ lines → lines ≤ x.height → (lines % 8 = 0 ∨ lines = x.height) →
      srcDoorbell sid port pic lines s = noteReady sid { s with sess := tset {} s.sess sid { x with
        ing := (if lines = x.height then { g with
            writePic := g.writePic + 1, dbLines := 0, dbAny := false, accLines := 0, wrote := []
            mixed := g.mixed ++ g.announce port lines }
          else { g with
            dbLines := lines, dbAny := true, mixed := g.mixed ++ g.announce port lines
            wrote := g.wrote.filter (fun w => decide (8 * w.1 ≥ lines)) } : Ingest).advance } })

/-- O31. The scheduler picks, among the eligible packets, one of the highest class and of these the oldest. Of a list of
eligible packets the one picked is in the list, and no packet of the list has a higher class as read under R55, or the same
class, of its own and as read, and an earlier place in it. A list that is not empty always gives one. (R54, R55) -/
def Obligations.SchedulerServesClassThenAge : Prop :=
  ∀ l : List (Pkt × Nat),
    (∀ r, pickPacket l = some r → r ∈ l ∧ ∀ q ∈ l,
      readAs r.1.lc r.1.promoted < readAs q.1.lc q.1.promoted ∨
        (readAs r.1.lc r.1.promoted = readAs q.1.lc q.1.promoted ∧ (r.1.lc = q.1.lc → r.1.order ≤ q.1.order))) ∧
    (l ≠ [] → (pickPacket l).isSome = true)

/-- O32. JOB_PACKET_WRITE, ROW_DISPATCH, AGE_PROMOTION and BLOCK_STAGE_DONE move row work from the queue through the core.
The session engine adds words to its incomplete packet, else begins that of the session's next row. Where a packet is
eligible for a free slot of the core, dispatch takes it out of the queue and the core works on its row; a corrected error is
counted and raised and the row still goes, an uncorrectable one sends the packet, and the packets after it in its class that
are discarded with it, to the tail of the queue. A core with no row in flight and an incomplete packet addressed to it
counts one underrun. Age is judged against the limit of the peloton. A block that may leave its stage, with content the
rules allow the stage to make, leaves it, with its effect on the picture and what the stage leaves in the block. (R50, R53,
R54, R55, R57, R58, R59, R86, R91) -/
def Obligations.RowWorkMovesThroughTheCore : Prop :=
  (∀ (sid : Fin 4096) (low : Bool) (k : Nat) (s : State), engineUp s = true → k ≠ 0 →
    let x := sessOf s sid
    (packetOpen s sid low = true → exec (.jobPacketWrite sid low k) s = .next (rwqHigh x.peloton { s with
      pels := tset {} s.pels x.peloton { pelOf s x.peloton with queue := (pelOf s x.peloton).queue.map (fun q =>
        if q.sid == sid.val && decide (q.written < q.words.length) && decide (x.kind = .tandem → (decide (q.row ≥ x.upRows) = low))
        then { q with written := min q.words.length (q.written + k), time := s.now } else q) } })) ∧
    (packetOpen s sid low = false → exec (.jobPacketWrite sid low k) s = .next (packetBegin sid k low s))) ∧
  (∀ (c : Fin 64) (s : State), coreTakes s c = true → isFatal s = false →
    let p := c.val / 8
    let t := promoteAged p s
    (∀ k i, pickPacket (candidates t c) = some (k, i) →
      exec (.rowDispatch c none) s = .next (giveRow c k i t) ∧
      exec (.rowDispatch c (some 0)) s = .next (raise 0x10 p (rcnt (aPel p 0xA4) 0 32 1 (giveRow c k i t))) ∧
      (∀ n, exec (.rowDispatch c (some (n + 1))) s = .next (raise 0x11 p (rcnt (aPel p 0xA8) 0 32 1 { t with
        pels := tset {} t.pels p ((pelOf t p).rewrite ((pelOf t p).lost k n)) })))) ∧
    (∀ ecc, pickPacket (candidates t c) = none → (coreOf t c).underrun = false → (coreOf t c).rows.any (·.slot.isSome) = false →
      (pelOf t p).queue.any (fun q => decide (q.core = c.val) && decide (q.written < q.words.length)) = true →
      exec (.rowDispatch c ecc) s = .next (rcnt (aPel p 0x9C) 0 32 1 { t with
        cores := tset {} t.cores c { coreOf t c with underrun := true } }))) ∧
  (∀ (p : Fin 8) (s : State), exec (.agePromotion p) s = .next { s with
    pels := tset {} s.pels p { pelOf s p with queue := (pelOf s p).queue.map (fun q => { q with
      promoted := decide (q.lc ≥ 2) && decide (q.written = q.words.length) &&
        decide (s.now > q.time + rfld s (aPel p 0x98) 0 8 * 500000000) }) } }) ∧
  (∀ (c : Fin 64) (st : Fin 7) (o : BlockOut) (s : State) (r : CoreRow) (j : Nat), polOpen s c = true →
    polOpen s (64 + c.val / 8) = true → isFatal s = false → (coreOf s c).front (st.val + 1) = some (r, j) →
    (coreOf s c).roomAfter (st.val + 1) (decide (c.val % 2 = 1) && decide ((pairOf s (c.val / 2)).st = .joined))
      (decide (j + 1 = r.blocks)) = true →
    stageWaits s (coreOf s c) r j (st.val + 1) = false → (tget {} (coreOf s c).ctx (st.val + 1)).stalled = false →
    (coreOf s c).fenced.contains (r.sid, st.val + 1) = false → contentOk s r j (st.val + 1) o = true →
    exec (.blockStageDone c st o) s =
      .next (passBlock c r j (st.val + 1) (blockData c r j (st.val + 1) o (blockEffect r j (st.val + 1) o s))))

/-- O33. A subport sends, of the packets due on it, the one that R260 puts first. The packet a subport takes next is
scheduled, due, and of a session on that subport, and no other such packet has a higher class, or in its class an earlier
scheduled time, or at the same time a lower SID, or in one session an earlier place. (R260) -/
def Obligations.SubportSendsInOrder : Prop :=
  ∀ (s : State) (sub : Nat) (t : TxPkt), nextTx s sub = some t →
    t ∈ s.net.tx ∧ t.due ≤ devNs s ∧ (sessOf s t.sid).egress = sub ∧
    ∀ u ∈ s.net.tx, u.due ≤ devNs s → (sessOf s u.sid).egress = sub →
      t.lc < u.lc ∨ (t.lc = u.lc ∧ (t.due < u.due ∨ (t.due = u.due ∧ (t.sid < u.sid ∨ (t.sid = u.sid ∧ t.order ≤ u.order)))))

/-- O34. ROW_PACKETISE forms the packets of the next row notice, PACKET_SEND takes the next due packet, SR_SEND sends a due
report. Packetising takes the notice of the picture in hand that comes next in bitstream order. A due packet leaves the
schedule, and on a link that is up, with key and next hop, its frame goes out, its departure is recorded and its picture
counts one packet less; on a link that is down it is discarded and counted. A sender report that is due draws the time of
the next and goes out. (R246, R254, R255, R257, R260, R262, R263) -/
def Obligations.PacketsFormAndLeave : Prop :=
  (∀ (sid : Fin 4096) (s : State) (p : Pic) (n : RowNotice), isFatal s = false → s.boot.warm = false →
    (sessOf s sid).kind ≠ .decode → polOpen s (ethPolderOf (sessOf s sid).egress) = true →
    keptOf s (laneOf (sessOf s sid)) < 1024 → (sessOf s sid).packing = some p → (sessOf s sid).nextNotice p = some n →
    exec (.rowPacketise sid) s = .next (packRow sid p.num n (firstRow sid p s))) ∧
  (∀ (sub : Fin 8) (s : State) (t : TxPkt), isFatal s = false → s.boot.warm = false → (subOf s sub).busyUntil ≤ s.now →
    polOpen s (ethPolderOf sub) = true → nextTx s sub = some t →
    let s1 := { s with net := { s.net with tx := dropFirst (fun u => u == t) s.net.tx } }
    let out := fun u => pictureSent t.sid t.pic (picMod t.sid t.pic (fun p => { p with pktsOut := p.pktsOut - 1 }) u)
    ((t.dead = true ∨ (subOf s sub).up = false) → exec (.packetSend sub) s = .next (out (pktCnt 4 1 s1))) ∧
    (t.dead = false → (subOf s sub).up = true → exec (.packetSend sub) s = .next (out (sendPkt sub t s1)))) ∧
  (∀ (sid : Fin 4096) (s : State) (t : Nat), (sessOf s sid).tr.srNext = some t → t ≤ devNs s → isFatal s = false →
    s.boot.warm = false → (sessOf s sid).kind ≠ .decode → (sessOf s sid).st.reports = true →
    polOpen s (ethPolderOf (sessOf s sid).egress) = true →
    let iv := (sessOf s sid).nw.srInterval * 1000000
    let d := iv * 3 / 4 + Config.random s.free % (iv * 5 / 4 - iv * 3 / 4 + 1)
    exec (.srSend sid) s = .next (sendSr sid false { s with
      free := s.free + 1
      sess := tset {} s.sess sid { sessOf s sid with tr := { (sessOf s sid).tr with srNext := some (devNs s + d) } } }))

/-- O35. Unpacking what the packer makes of a unit gives its samples back. For a bit depth of 8 or 10 and a unit of whole
planes whose samples are within the depth: the length entry names 1 to U_raw/32 sectors, the packed bytes fill exactly those
sectors, and the reader gets every luma, Cb and Cr sample back from the entry and the bytes, whichever of FLAT, coded and
RAW the packer takes. (R162, R165, R166) -/
def Obligations.PackedUnitsUnpack : Prop :=
  ∀ (depth : Nat) (u : UnitPix), depth = 8 ∨ depth = 10 → u.whole = true →
    (∀ v ∈ u.luma ++ u.cb ++ u.cr, v < 2 ^ depth) →
    let e := (packUnit depth u).1
    let b := (packUnit depth u).2
    1 ≤ entrySectors e ∧ 32 * entrySectors e ≤ unitRaw depth ∧ b.length = 32 * entrySectors e ∧
    { unpackUnit depth e b with unit := u.unit } = u

/-- O36. A steered area keeps its signs and zeros, changes at most one level by one step, and votes for the code's bit. With
fewer than 3 nonzero counted levels, or the right parity, the area stays. Otherwise one nonzero level changes its magnitude
by one, its sign kept: of all candidates the one of least increase in squared difference, the earliest of equals. The vote a
decoder takes from the steered area is none below 3 nonzero levels, and else the bit of the payload's code that the area
carries. (R324, R326, R327, R328) -/
def Obligations.WatermarkVotesAreTheCode : Prop :=
  ∀ (one p h : Nat) (ls : List WmLevel),
    let n := (ls.filter (fun l => l.level != 0)).length
    let right := decide ((ls.map (fun l => l.level.natAbs)).sum % 2 = 1) = wmTarget p h
    let t := wmSteer one (wmTarget p h) ls
    (n < 3 ∨ right → t = ls) ∧
    (3 ≤ n → ¬right → ∃ (k : Nat) (l : WmLevel) (v : Int), ls[k]? = some l ∧ l.level ≠ 0 ∧ t = ls.set k { l with level := v } ∧
      v.sign = l.level.sign ∧ (v.natAbs = l.level.natAbs + 1 ∨ v.natAbs + 1 = l.level.natAbs) ∧
      ∀ (i : Nat) (m : WmLevel), ls[i]? = some m → m.level ≠ 0 →
        wmErr one v.natAbs l.coef - wmErr one l.level.natAbs l.coef ≤ wmCost one m ∧
        (wmErr one v.natAbs l.coef - wmErr one l.level.natAbs l.coef = wmCost one m → k ≤ i)) ∧
    wmVote h t = (if n < 3 then none else some (wmIndex h, bitAt (wmCode p) (wmIndex h)))

/-- O37. RECEIVE_FRAME discards a bad frame and sends a good one to the time unit, its session or the exception ring. On a
subport whose link is up: a frame with a wrong FCS, shorter than 64 or longer than 9,216 bytes, of MAC control, or for
another unicast address only counts as discarded. Any other counts as received, and a PTP message goes to the time unit's
domains, an SRTCP compound for a session's port to that session, and every other frame to the exception ring with its
reason. On a link that is down nothing happens. (R258, R264, R268, R274, R279) -/
def Obligations.ReceivedFramesGoOneWay : Prop :=
  ∀ (sub : Fin 8) (f : RxFrame) (s : State), isFatal s = false → s.boot.warm = false →
    let mac := rget s (0x20088 + 0x1000 * (sub.val / 4) + 8 * (sub.val % 4)) % 2 ^ 48
    let good := f.fcs = true ∧ 64 ≤ f.len ∧ f.len ≤ 9216 ∧ f.macCtl = false ∧ (f.dst = mac ∨ bitAt f.dst 40 = true)
    ((subOf s sub).up = false → exec (.receiveFrame sub f) s = .next s) ∧
    ((subOf s sub).up = true → ¬ good → exec (.receiveFrame sub f) s = .next (rcnt (aEthCnt sub 2) 0 64 1 s)) ∧
    ((subOf s sub).up = true → good →
      let t := rcnt (aEthCnt sub 1) 0 64 1 s
      (∀ dom tr m, f.body = .ptp dom tr m → exec (.receiveFrame sub f) s = .next (ptpFrame sub dom tr m t)) ∧
      (∀ r, f.body = .other r → exec (.receiveFrame sub f) s = .next (exception sub r f t)) ∧
      (∀ ver src sport dst dport uni csum pt k, f.body = .udp ver src sport dst dport uni csum pt k →
        (sessionAt s sub ver dst dport = none → exec (.receiveFrame sub f) s = .next (exception sub 0 f t)) ∧
        (∀ sid, sessionAt s sub ver dst dport = some sid → uni = true → csum = true → 192 ≤ pt → pt ≤ 223 →
          exec (.receiveFrame sub f) s = .next (sessionRtcp sid src sport k t))))

/-- O38. The replay window of SRTCP takes no index twice and none that lies 128 or more behind the highest. Where the window
takes an index, the highest index taken is the larger of the two, every offset in the new window is below 128, the index
itself is now in it, and the same index is refused from then on. An index at or below the highest is refused when it was
taken before or is 128 or more behind. The window is a list of offsets below 128 from the highest. (R258) -/
def Obligations.ReplayWindowTakesEachIndexOnce : Prop :=
  ∀ (win : List Nat) (hi i : Nat), (∀ w ∈ win, w < 128) → (win ≠ [] → 0 ∈ win) →
    (∀ w h, replayIn win hi i = some (w, h) →
      (∀ x ∈ w, x < 128) ∧ 0 ∈ w ∧ (win ≠ [] → h = max hi i) ∧ i ≤ h ∧ (h - i) ∈ w ∧ replayIn w h i = none) ∧
    (win ≠ [] → i ≤ hi → (128 ≤ hi - i ∨ (hi - i) ∈ win) → replayIn win hi i = none)

/-- O39. HOST_TX_TAIL, HOST_TX_SEND, ETH_MODE_WRITE, ETH_LINK_UP and ETH_LINK_DOWN act on the ring and the subports. A tail
below the ring's size becomes the tail, and one at or above it is ignored. With the ring enabled and not empty, a slot whose
length or subport is out of range is skipped and counted, and one that the token bucket, the medium and a link that is up
allow leaves as a frame with its FCS, the head advances, and its cost is taken out of the bucket. A write of ETH_MODE of a
port none of whose subports a session names sets split and enables, and takes the links down that it must. A link that
changes sets CHANGED and writes EVT_LINK. (R246, R260, R270, R278, R279, R280, R556) -/
def Obligations.HostTransmitAndLinks : Prop :=
  (∀ (v : W32) (s : State), polOpen s 91 = true → isFatal s = false →
    (v.toNat % 2 ^ 12 < 2 ^ rfld s 0x22090 0 4 → exec (.hostTxTail v) s = .next (rfset 0x22098 0 12 v.toNat s)) ∧
    (2 ^ rfld s 0x22090 0 4 ≤ v.toNat % 2 ^ 12 → exec (.hostTxTail v) s = .next s)) ∧
  (∀ (len code : Nat) (s : State), polOpen s 91 = true → isFatal s = false → s.boot.warm = false →
    bitAt (rget s 0x22090) 5 = true → s.net.htqHead ≠ rfld s 0x22098 0 12 → (port s 0).link = .l0 → (func s 0).bme = true →
    let t := { s with net := { s.net with htqHead := (s.net.htqHead + 1) % 2 ^ bitsOf (rget s 0x22090) 0 4 } }
    ((len < 60 ∨ ringSlot (rget s 0x22090) - 32 < len ∨ subRate s code = 0) →
      exec (.hostTxSend len code) s = .next (pktCnt 8 1 t)) ∧
    (60 ≤ len → len ≤ ringSlot (rget s 0x22090) - 32 → subRate s code ≠ 0 → (subOf s code).up = true →
      (subOf s code).busyUntil ≤ s.now →
      let used := (subOf s code).bucket - (s.now - (subOf s code).bucketAt)
      used + 8 * (len + 4) * 1000 ≤ 131072000 →
      exec (.hostTxSend len code) s = .next (ethTx code .host 0 s.net.htqHead (len + 4)
        (subMod code (fun b => { b with bucket := used + 8 * (len + 4) * 1000, bucketAt := s.now }) t)))) ∧
  (∀ (p : Fin 2) (v : W32) (s : State), polOpen s (91 + p) = true → isFatal s = false → (∀ i < 4, subNamed s (4 * p + i) = false) →
    bitsOf v.toNat 0 2 ≠ 3 →
    let a := 0x20080 + 0x1000 * p.val
    let w := bitsOf v.toNat 0 2 + (b2n (bitAt v.toNat 4) + b2n (bitAt v.toNat 5) * 2 + b2n (bitAt v.toNat 6) * 4 +
      b2n (bitAt v.toNat 7) * 8) * 16
    exec (.ethModeWrite p v) s = .next (dropLinks p false (rset a w
      (if bitsOf v.toNat 0 2 ≠ bitsOf (rget s a) 0 2 then dropLinks p true s else s)))) ∧
  (∀ (sub : Fin 8) (s : State), subRate s sub ≠ 0 → polOpen s (ethPolderOf sub) = true → isFatal s = false →
    s.boot.warm = false → s.boot.perst = false → (subOf s sub).up = false →
    exec (.ethLinkUp sub) s = .next (evtSub sub true (pgBlock ⟨.eth, sub.val / 4⟩
      (rfset (0x200A8 + 0x1000 * (sub.val / 4)) (4 + sub.val % 4) 1 1 (subMod sub (fun b => { b with up := true }) s))))) ∧
  (∀ (sub : Fin 8) (s : State), (subOf s sub).up = true →
    exec (.ethLinkDown sub) s = .next (evtSub sub false (pgBlock ⟨.eth, sub.val / 4⟩
      (rfset (0x200A8 + 0x1000 * (sub.val / 4)) (4 + sub.val % 4) 1 1 (subMod sub (fun b => { b with up := false }) s)))))

/-- O40. PCIE_LINK_CHANGE, PCIE_HOT_RESET and PEER_PORT_FLR change a port's link and take its IDE streams out of Secure. A
link trained within the limits of PCIE_CFG takes its generation, width and mode, and one that goes down takes its streams
out of Secure; a change of generation, width or state sets CHANGED and writes EVT_LINK, and port H in L0 lets the CQs staged
for its link go on. A hot reset of P0 or P1, and a function level reset of their function, take the port's streams out of
Secure; the latter also resets the function's power state. (R238, R240, R317, R384, R474, R506) -/
def Obligations.PortLinksAndResets : Prop :=
  (∀ (p : Fin 3) (gen : Fin 7) (w : Nat) (flit : Bool) (s : State), s.boot.perst = false → gen.val ≠ 0 →
    polOpen s (88 + p) = true → [1, 2, 4, 8, 16].contains w = true → gen.val ≤ bitsOf (rget s (0x90088 + 0x1000 * p.val)) 0 4 →
    w ≤ bitsOf (rget s (0x90088 + 0x1000 * p.val)) 4 5 → p.val ≠ 0 → (port s p).link = .down →
    exec (.pcieLinkChange p gen w flit) s = .next (evtPort p (pgBlock ⟨.pcie, p⟩ (rfset (0x90080 + 0x1000 * p.val) 16 1 1
      (portMod p (fun q => { q with link := .l0, gen := gen, width := w, flit := flit, l1Exiting := false }) s))))) ∧
  (∀ (p : Fin 3) (w : Nat) (flit : Bool) (s : State), s.boot.perst = false → p.val ≠ 0 → (port s p).link ≠ .down →
    exec (.pcieLinkChange p 0 w flit) s = .next (evtPort p (pgBlock ⟨.pcie, p⟩ (rfset (0x90080 + 0x1000 * p.val) 16 1 1
      (ideLeave p (portMod p (fun q => { q with link := .down, gen := 0, width := 0, flit := false, l1Exiting := false }) s)))))) ∧
  (∀ (p : Fin 3) (gen : Fin 7) (w : Nat) (flit : Bool) (s : State), s.boot.perst = false → gen.val ≠ 0 →
    (bitsOf (rget s (0x90088 + 0x1000 * p.val)) 0 4 < gen.val ∨ bitsOf (rget s (0x90088 + 0x1000 * p.val)) 4 5 < w) →
    exec (.pcieLinkChange p gen w flit) s = .next s) ∧
  (∀ (p : Fin 2) (s : State), ∃ t, exec (.pcieHotReset p) s = .next t ∧
    (port t (1 + p)).ide = (port s (1 + p)).ide.map (fun e => (e.1, e.2.leave)) ∧ { t with ports := s.ports } = s) ∧
  (∀ (p : Fin 2) (s : State), ∃ t, exec (.peerPortFlr p) s = .next t ∧
    (port t (1 + p)).ide = (port s (1 + p)).ide.map (fun e => (e.1, e.2.leave)) ∧ (port t (1 + p)).d3 = false ∧
    (port t (1 + p)).bme = false ∧ (port t (1 + p)).pmeEn = false ∧ { t with ports := s.ports } = s)

/-- O41. The time commands give the device clock to the host and back, and the servo follows its master. MODE 1 takes the
time unit to MANUAL with an event and keeps the clock; MODE 0 written in MANUAL takes it to FREERUN, from where a domain
that can serve is acquired, and in another state changes nothing but the bit. In MANUAL a write of TIME_SET makes the device
time the value written, and a write of TIME_RATE makes adj the signed value, clamped to ±200,000 ppb; in every other state
both are ignored. For a Sync completed in a domain with a mean path delay, the offset is o = t2 − t1 − (delay + asymmetry),
the integral becomes i − o/64 per Sync interval within ±200,000 ppb, and in the active domain in ACQUIRE or LOCKED adj is i
plus the proportional part −o/8 per interval, held to the slew limit, within ±200,000 ppb. DELAY_REQ_SEND on a domain with a
master and a link sends a request and keeps its departure as t3. PTP_DOMAIN_LOST on a domain that has been silent long
enough loses its master, offset and delay, and from ACQUIRE the unit goes to FREERUN. (R259, R271, R272, R274, R275, R276,
R277, R278, R281) -/
def Obligations.TimeFollowsHostOrMaster : Prop :=
  (∀ s : State, isFatal s = false →
    (s.time.st ≠ .manual → ∃ t, exec .timeManual s = .next t ∧ t.time.st = .manual ∧ t.clk = s.clk ∧ t.adj = s.adj ∧
      t.sess = s.sess ∧ bitsOf (rget t 0x23080) 0 1 = 1) ∧
    (s.time.st = .manual → exec .timePtp s = .next (timeSettle (timeGo .freerun s.time.active false 0 (rfset 0x23080 0 1 0 s)))) ∧
    (s.time.st ≠ .manual → exec .timePtp s = .next (rfset 0x23080 0 1 0 s))) ∧
  (∀ (v : W64) (s : State), isFatal s = false → s.time.st = .manual →
    ∃ t, exec (.timeSet v) s = .next t ∧ t.clk = fmtNs v.toNat * 2 ^ 32 ∧ devNs t = fmtNs v.toNat ∧ t.adj = s.adj ∧
      t.net.tx = s.net.tx.map (fun k => { k with due := shiftNs ((fmtNs v.toNat : Int) - devNs s) k.due }) ∧
      { t with clk := s.clk, net := s.net, sess := s.sess, regs := s.regs } = s) ∧
  (∀ (v : W32) (s : State), isFatal s = false → s.time.st = .manual →
    exec (.timeRate v) s = .next { s with adj := max (-(200000 * 65536)) (min (v.toInt * 65536) (200000 * 65536)) }) ∧
  (∀ (v : W64) (w : W32) (s : State), s.time.st ≠ .manual →
    exec (.timeSet v) s = .next s ∧ exec (.timeRate w) s = .next s) ∧
  (∀ (d : Nat) (t1 t2 delay : Int) (s : State), (ptp s d).delay = some delay →
    let p := ptp s d
    let o := t2 - t1 - (delay + signed 16 (rfld s (aDom d) 16 16))
    let i := max (-adjMax) (min (p.integ - mulPow2 (o * 65536) (-p.syncLog) / 64) adjMax)
    let slew : Int := rfld s 0x23080 8 8 * 1000 * 65536
    let pr := max (-slew) (min (-(mulPow2 (o * 65536) (-p.syncLog) / 8)) slew)
    ∃ u, syncDone d t1 t2 s = timeSettle u ∧ (ptp u d).o = o ∧ (ptp u d).integ = i ∧
      (s.time.active = d → s.time.st = .locked → u.adj = max (-adjMax) (min (i + pr) adjMax)) ∧
      (s.time.active ≠ d → u.adj = s.adj)) ∧
  (∀ (d : Fin 2) (s : State) (m : Nat), domOn s d = true → (ptp s d).master = some m → (subOf s (rfld s (aDom d) 8 3)).up = true →
    isFatal s = false → s.boot.warm = false →
    ∃ t, exec (.delayReqSend d) s = .next t ∧ (ptp t d).req = some ((ptp s d).reqSeq, (devNs s : Int)) ∧
      (ptp t d).reqSeq = ((ptp s d).reqSeq + 1) % 65536 ∧ (ptp t (1 - d)).req = (ptp s (1 - d)).req ∧ t.adj = s.adj ∧ t.clk = s.clk) ∧
  (∀ (d : Fin 2) (s : State) (m : Nat), (ptp s d).master = some m →
    (ptp s d).lastSync + max (psLog 4 (ptp s d).syncLog) 100000000000 ≤ s.now →
    (s.time.active ≠ d → ∃ t, exec (.ptpDomainLost d) s = .next t ∧ (ptp t d).master = none ∧ (ptp t d).delay = none ∧
      (ptp t d).oValid = false ∧ { t with time := { t.time with doms := s.time.doms } } = s) ∧
    (s.time.active = d → s.time.st = .acquire → ∃ t, exec (.ptpDomainLost d) s = .next t ∧ t.time.st = .freerun ∧
      (ptp t d).master = none ∧ t.clk = s.clk))

/-- O42. The twelve SPDM requests of a port are answered in their order, with at most four sessions of a port. Where SEC
answers the port and the connection has come far enough, each request emits its response, and changes nothing but the port's
SPDM state (KEY_EXCHANGE and CHALLENGE also draw one random number each). GET_VERSION starts the connection again without
sessions. A request that comes too early gets ERROR UnexpectedRequest and one outside what the device supports ERROR
InvalidRequest. A fifth KEY_EXCHANGE gets SessionLimitExceeded. FINISH establishes the session it names, END_SESSION ends it
and takes every stream it keyed out of Secure. Order and response codes are the model's reading of SPDM 1.2 (log 63). (R288,
R316) -/
def Obligations.SpdmRequestsAreAnsweredInOrder : Prop :=
  (∀ (p : Fin 3) (s : State), doeUp s p = true →
    exec (.getVersion p) s = .next (emit (.doe p 0x04 [0x12]) (portMod p (fun q => { q with spdm := 1, sessions := [] }) s)) ∧
    (1 ≤ (port s p).spdm → exec (.getCapabilities p) s =
      .next (emit (.doe p 0x61 []) (portMod p (fun q => { q with spdm := max q.spdm 2 }) s))) ∧
    (2 ≤ (port s p).spdm →
      exec (.negotiateAlgorithms p true) s = .next (emit (.doe p 0x63 []) (portMod p (fun q => { q with spdm := 3 }) s)) ∧
      exec (.negotiateAlgorithms p false) s = .next (emit (.doe p 0x7F [1]) s)) ∧
    ((port s p).spdm < 3 → exec (.getDigests p) s = .next (emit (.doe p 0x7F [4]) s) ∧
      exec (.keyExchange p) s = .next (emit (.doe p 0x7F [4]) s))) ∧
  (∀ (p : Fin 3) (s : State), doeUp s p = true → 3 ≤ (port s p).spdm →
    exec (.getDigests p) s = .next (emit (.doe p 0x01 [1, Config.digest [s.board.serial, s.sec.chainLen]]) s) ∧
    (∀ off len : W16, off.toNat < s.sec.chainLen → ∃ got left, exec (.getCertificate p 0 off len) s =
        .next (emit (.doe p 0x02 [0, got, left]) s) ∧ got ≤ len.toNat ∧ off.toNat + got + left = s.sec.chainLen) ∧
    (∀ (slot : Fin 8) (off len : W16), slot ≠ 0 → exec (.getCertificate p slot off len) s = .next (emit (.doe p 0x7F [1]) s)) ∧
    (∀ n : Nat, ∃ t r sig, exec (.challenge p 0 n) s = .next t ∧ t.out = .doe p 0x03 [0, r, sig] :: s.out ∧
      { t with out := s.out, sec := s.sec } = s ∧ { t.sec with drbg := s.sec.drbg } = s.sec) ∧
    exec (.getMeasurements p 0) s = .next (emit (.doe p 0x60 [6]) s) ∧
    (∀ i : Byte, 0 < i.toNat → i.toNat ≤ 6 →
      exec (.getMeasurements p i) s = .next (emit (.doe p 0x60 [1, measurement s i.toNat]) s)) ∧
    exec (.getMeasurements p 255) s = .next (emit (.doe p 0x60 [6, measurement s 1, measurement s 2, measurement s 3,
      measurement s 4, measurement s 5, measurement s 6]) s) ∧
    (4 ≤ (port s p).sessions.length → exec (.keyExchange p) s = .next (emit (.doe p 0x7F [10]) s)) ∧
    ((port s p).sessions.length < 4 → ∃ t, exec (.keyExchange p) s = .next t ∧
      (port t p).sessions = (port s p).sessions ++ [{ sessId := (port s p).nextSess }] ∧
      { t with ports := s.ports, out := s.out, sec := s.sec } = s ∧ { t.sec with drbg := s.sec.drbg } = s.sec)) ∧
  (∀ (p : Fin 3) (id : Nat) (peer : Option Peer) (s : State), doeUp s p = true → 3 ≤ (port s p).spdm →
    (∃ x ∈ (port s p).sessions, x.established = false ∧ x.sessId = id) →
    ∃ t, exec (.finish p id true peer) s = .next t ∧ (∀ y ∈ (port t p).sessions, y.sessId = id → y.established = true) ∧
      (port t p).sessions.length = (port s p).sessions.length ∧ (port t p).ide = (port s p).ide ∧
      { t with ports := s.ports, out := s.out } = s) ∧
  (∀ (p : Fin 3) (id : Nat) (s : State) (x : SpdmSession), doeUp s p = true →
    (port s p).sessions.find? (fun y => y.established && y.sessId == id) = some x →
    exec (.heartbeat p id) s = .next (emit (.doe p 0x68 []) s) ∧
    exec (.keyUpdate p id) s = .next (emit (.doe p 0x69 []) (portMod p (fun q => { q with sessions := q.sessions.map (fun y =>
      if y.sessId = id then { y with keyGen := y.keyGen + 1 } else y) }) s)) ∧
    ∃ t, exec (.endSession p id) s = .next t ∧ (∀ y ∈ (port t p).sessions, y.sessId ≠ id) ∧
      (port t p).ide = (port s p).ide.map (fun e => if e.2.keyedBy = some id then (e.1, e.2.leave) else e) ∧
      { t with ports := s.ports, out := s.out } = s)

/-- O43. A stream is keyed only within a secured session of its port, is Secure with all its keys, and leaves Secure on an
error. KEY_PROG within a secured session of the port stages the key of a sub-stream, names the stream, and records the
certificate hash of the session's requester. K_SET_GO by the same session puts the staged key into effect; with all six in
effect the stream is Secure (which sub-streams a stream needs is the model's reading, log 63). Outside such a session both
are refused. An IDE integrity error of a Secure stream takes it out of Secure, counts and raises the source, and has no
effect on a stream that is not Secure. (R317, R318, R506) -/
def Obligations.IdeStreamTakesItsKeysInSession : Prop :=
  (∀ (p : Fin 3) (id : Nat) (i : Fin 9) (sid : Byte) (sub : Fin 6) (s : State) (x : SpdmSession), doeUp s p = true →
    (port s p).sessions.find? (fun y => y.established && y.sessId == id) = some x →
    (∃ t, exec (.keyProg p id i sid sub) s = .next t ∧ (ideOf t p i).streamId = sid.toNat ∧ (ideOf t p i).cert = x.cert ∧
      (ideOf t p i).keyedBy = some id ∧ sub.val ∈ (ideOf t p i).staged ∧ (ideOf t p i).secure = (ideOf s p i).secure ∧
      (∀ j, j ≠ i.val → ideOf t p j = ideOf s p j) ∧ { t with ports := s.ports, out := s.out } = s) ∧
    ((ideOf s p i).keyedBy = some id → sub.val ∈ (ideOf s p i).staged →
      ∃ t, exec (.kSetGo p id i sub) s = .next t ∧ sub.val ∈ (ideOf t p i).live ∧ sub.val ∉ (ideOf t p i).staged ∧
        (ideOf t p i).cert = (ideOf s p i).cert ∧ (ideOf t p i).secure = decide ((ideOf t p i).live.length = 6) ∧
        (∀ j, j ≠ i.val → ideOf t p j = ideOf s p j) ∧ { t with ports := s.ports, out := s.out } = s) ∧
    ((ideOf s p i).keyedBy ≠ some id → exec (.kSetGo p id i sub) s = .next (emit (.doe p 0x7F [1]) s))) ∧
  (∀ (p : Fin 3) (id : Nat) (i : Fin 9) (sid : Byte) (sub : Fin 6) (s : State), doeUp s p = true →
    (port s p).sessions.find? (fun y => y.established && y.sessId == id) = none →
    exec (.keyProg p id i sid sub) s = .next (emit (.doe p 0x7F [4]) s) ∧
    exec (.kSetGo p id i sub) s = .next (emit (.doe p 0x7F [4]) s)) ∧
  (∀ (p : Fin 3) (i : Fin 9) (s : State),
    ((ideOf s p i).secure = true → ∃ t, exec (.ideIntegrityError p i) s = .next t ∧ ideOf t p i = (ideOf s p i).leave ∧
      (ideOf t p i).secure = false ∧ t.flt.reports.length = s.flt.reports.length + 1 ∧
      rfld t (0x9009C + 0x1000 * p) 0 32 = satAdd 32 (rfld s (0x9009C + 0x1000 * p) 0 32) 1 ∧
      { t with ports := s.ports, regs := s.regs, flt := s.flt } = s) ∧
    ((ideOf s p i).secure = false → exec (.ideIntegrityError p i) s = .next s))

/-- O44. The requests of the secure mailbox channels change the lifecycle, the keys, the flash and the binding table only as
allowed. For an accepted request waiting on the channel: LC_PROVISION in MANUFACTURE with a seed, a serial and a vendor key,
under a token of an unrevoked vendor key naming the serial, burns the first group; LC_ACTIVATE in PROVISIONED burns
OPERATOR_HASH[0] and then the second; LC_RETURN in PROVISIONED or OPERATIONAL closes the live sessions, erases the cluster
record and burns the third; the state in force does not change before the next start-up. FW_STAGE writes an accepted image
to the area of its type, and one that is not accepted is counted. OPKEY_ROTATE burns OPERATOR_HASH[1], revokes slot 0 and
erases the cluster record. VENDOR_REVOKE revokes the slot named under another unrevoked vendor key. BIND_WRITE is served in
MANUFACTURE only. DRBG_RESEED reseeds the generator, or raises SEC's fatal source where the health test fails. (R283, R284,
R285, R287, R291, R293, R313, R320) -/
def Obligations.SecureRequestsWriteOtpAndFlash : Prop :=
  (∀ (c : Fin 4) (key serial : Nat) (s : State), s.sec.reqs.contains c.val = true → lcIn s [0] = true → s.sec.seed = true →
    s.board.serial ≠ 0 → tget 0 s.sec.vendorHash 0 ≠ 0 →
    (vendorKey s key = true → serial = s.board.serial → ∃ t, exec (.lcProvision c true key serial true) s = .next t ∧
      t.sec = { s.sec with reqs := s.sec.reqs.erase c.val, lcBurnt := setBits s.sec.lcBurnt 0 1 1 } ∧ { t with sec := s.sec } = s) ∧
    (serial ≠ s.board.serial → ∀ sig otp, ∃ t, exec (.lcProvision c sig key serial otp) s = .next t ∧
      t.sec = { s.sec with reqs := s.sec.reqs.erase c.val } ∧ { t with sec := s.sec, regs := s.regs } = s)) ∧
  (∀ (c : Fin 4) (key : Nat) (s : State), s.sec.reqs.contains c.val = true → lcIn s [1] = true → key ≠ 0 →
    tget 0 s.sec.opHash 0 = 0 → ∃ t, exec (.lcActivate c true key true true) s = .next t ∧
      t.sec = { s.sec with
        reqs := s.sec.reqs.erase c.val, opHash := tput s.sec.opHash 0 key, lcBurnt := setBits s.sec.lcBurnt 1 1 1 } ∧
      t.sec.lc = 1 ∧ { t with sec := s.sec } = s) ∧
  (∀ (c : Fin 4) (key : Nat) (s : State), s.sec.reqs.contains c.val = true → lcIn s [1, 2] = true → s.nvs.write = none →
    vendorKey s key = true → ∃ t, exec (.lcReturn c true key s.board.serial true) s = .next t ∧
      t.sec.cluster = none ∧ t.sec.loaded = false ∧ bitAt t.sec.lcBurnt 2 = true ∧ t.sec.lc = s.sec.lc ∧
      (∀ sid, (sessOf t sid).st ≠ .free → (sessOf t sid).st ≠ .closing → (sessOf s sid).st = .free ∨ (sessOf s sid).st = .closing)) ∧
  (∀ (c : Fin 4) (m : Img) (s : State), s.sec.reqs.contains c.val = true →
    (imgOk s m = true → m.ty = 0 → ∃ t, exec (.fwStage c m) s = .next t ∧ tfind t.sec.flash 1 = some m ∧
      t.sec.images = s.sec.images ∧ { t with sec := s.sec, out := s.out } = s) ∧
    (imgOk s m = true → m.ty = 3 → ∃ t, exec (.fwStage c m) s = .next t ∧ tfind t.sec.flash 5 = some m ∧ t.sec.patches = [] ∧
      { t with sec := s.sec, out := s.out } = s) ∧
    (∀ i, imgOk s m = true → m.ty = 4 → patchFree s = some i → ∃ t, exec (.fwStage c m) s = .next t ∧
      tfind t.sec.patches i = some m ∧ { t with sec := s.sec, out := s.out } = s) ∧
    (imgOk s m = false → ∃ t, exec (.fwStage c m) s = .next t ∧ t.sec = { s.sec with reqs := s.sec.reqs.erase c.val } ∧
      { t with sec := s.sec, regs := s.regs } = s)) ∧
  (∀ (c : Fin 4) (key : Nat) (s : State), s.sec.reqs.contains c.val = true → lcIn s [2] = true → s.nvs.write = none →
    key ≠ 0 → tget 0 s.sec.opHash 1 = 0 → revoked s.sec.opRevoke 0 = false →
    ∃ t, exec (.opkeyRotate c true key true) s = .next t ∧ t.sec = { s.sec with
        reqs := s.sec.reqs.erase c.val, opHash := tput s.sec.opHash 1 key, opRevoke := setBits s.sec.opRevoke 0 2 3
        cluster := none, loaded := false } ∧ revoked t.sec.opRevoke 0 = true ∧ { t with sec := s.sec } = s) ∧
  (∀ (c slot other : Fin 4) (key : Nat) (s : State), s.sec.reqs.contains c.val = true → lcIn s [1, 2] = true → key ≠ 0 →
    other ≠ slot → tget 0 s.sec.vendorHash other = key → revoked s.sec.vendorRevoke other = false →
    ∃ t, exec (.vendorRevoke c slot true key true) s = .next t ∧ revoked t.sec.vendorRevoke slot = true ∧
      (∀ i : Fin 4, i ≠ slot → revoked t.sec.vendorRevoke i = revoked s.sec.vendorRevoke i) ∧ { t with sec := s.sec } = s) ∧
  (∀ (c : Fin 4) (v0 v1 v2 v3 : W64) (s : State), s.sec.reqs.contains c.val = true → s.nvs.write = none →
    ∃ t, exec (.bindWrite c v0 v1 v2 v3) s = .next t ∧ { t with sec := s.sec } = s ∧
      (lcIn s [0] = false → t.sec = { s.sec with reqs := s.sec.reqs.erase c.val }) ∧
      (lcIn s [0] = true → tget 0 t.sec.bind 0 = v0.toNat ∧ tget 0 t.sec.bind 1 = v1.toNat ∧ tget 0 t.sec.bind 2 = v2.toNat ∧
        tget 0 t.sec.bind 3 = v3.toNat)) ∧
  (∀ s : State, exec (.drbgReseed true) s = .next { s with sec := { s.sec with seededAt := s.sec.drbg } } ∧
    exec (.drbgReseed false) s = .next (raise 0x3F 4 s))

/-- O45. KEY_AGREE, ATTEST and CLUSTER_ENROL install keys, report and enrol, and complete with ST_OK on what they verify.
For an accepted command that carries the operation. KEY_AGREE AGREE and SET in a state that accepts them install new keys in
the session, AGREE after drawing its ephemeral key and writing M2 and the identity chain to PTR1. ATTEST writes the report
of 608 bytes, with the chain where asked. In OPERATIONAL, CLUSTER_ENROL REQUEST keeps the hash of the request it writes,
CREATE and ACCEPT on a device that is not enrolled enrol it under a ticket that verifies, OFFER writes a grant, and LEAVE
erases the record. Outside OPERATIONAL all five complete with ST_NOT_PERMITTED. (R289, R290, R301, R306, R309, R310, R311,
R312, R313) -/
def Obligations.KeyAndEnrolmentCommandsComplete : Prop :=
  (∀ (slot : Nat) (s : State) (c : Slot) (m : KeyMsg), accepts s slot 0x40 c = true → opOf c = 0 →
    (sessOf s c.sid).ctxLost = false → keyStates.contains (sessOf s c.sid).st = true → m.form = true → m.suite ≤ 1 →
    ((sessOf s c.sid).protected' = true → m.cert = true ∧ m.sig = true ∧ (sessOf s c.sid).pol.playerRoots.contains m.root = true) →
    824 + s.sec.chainLen ≤ c.arg 28 0 32 →
    ∃ t send recv, exec (.keyAgreeAgree slot (some m) true) s =
        .next (complete slot stOk { r0 := 824 + s.sec.chainLen, sid := some c.sid } t) ∧
      sessOf t c.sid = sessOf (sessMod c.sid (fun x => { x with tr := { x.tr with rekeyWait := false } })
        (installKeys c.sid m.suite send recv s)) c.sid ∧ send ≠ 0 ∧ recv ≠ 0 ∧
      (∃ m2, t.out = .chain c.fn (c.ptr1 + 824) s.sec.chainLen :: .hostWr c.fn c.ptr1 824 false m2 :: s.out) ∧
      { t with sess := s.sess, sec := s.sec, out := s.out } = s ∧ { t.sec with drbg := s.sec.drbg } = s.sec) ∧
  (∀ (slot : Nat) (s : State) (c : Slot) (k : KeySet), accepts s slot 0x40 c = true → opOf c = 1 →
    (sessOf s c.sid).ctxLost = false → keyStates.contains (sessOf s c.sid).st = true →
    ((sessOf s c.sid).protected' = true → exec (.keyAgreeSet slot (some k)) s = .next (finish slot stProtected s)) ∧
    ((sessOf s c.sid).protected' = false → k.suite ≤ 1 → exec (.keyAgreeSet slot (some k)) s =
      .next (complete slot stOk { sid := some c.sid } (installKeys c.sid k.suite k.send k.recv s)))) ∧
  (∀ (slot : Nat) (s : State) (c : Slot), accepts s slot 0x41 c = true → c.arg 28 12 1 = 0 →
    let chain := decide (c.arg 28 13 1 = 1)
    let len := 608 + (if chain then s.sec.chainLen else 0)
    (c.arg 24 0 32 < len → ∀ ok, exec (.attest slot ok) s = .next (complete slot stBufferShort { r0 := len } s)) ∧
    (len ≤ c.arg 24 0 32 → exec (.attest slot true) s = .next (complete slot stOk { r0 := len }
      (writeResult c.fn c.ptr0 608 (reportAt 0 s (c.arg 32 0 256) 0 []) chain s)))) ∧
  (∀ (slot : Nat) (s : State) (c : Slot), accepts s slot 0x42 c = true → s.nvs.write = none →
    (opOf c = 0 → s.sec.lc = 2 → 752 + s.sec.chainLen ≤ c.arg 28 0 32 → ∃ t, exec (.clusterEnrolRequest slot true) s =
      .next (complete slot stOk { r0 := 752 + s.sec.chainLen } t) ∧ t.sec.enrol.isSome = true ∧ t.sec.cluster = s.sec.cluster ∧
      { t with sec := s.sec, out := s.out } = s) ∧
    (∀ (k : Ticket) (wrk : Nat), opOf c = 1 → s.sec.lc = 2 → s.sec.cluster = none → k.wrk = some wrk → ticketOk s k 0 = true →
      ∃ t key, exec (.clusterEnrolCreate slot (some k)) s = .next (finish slot stOk t) ∧ { t with sec := s.sec } = s ∧
        t.sec.cluster = some (k.cluster, k.gen, k.cdid % 2 ^ 12, key, wrk) ∧ t.sec.loaded = decide (s.sec.dbgLevel = 0)) ∧
    (∀ (cl gen cd key wrk : Nat) (e : EnrolReq) (k : Ticket), opOf c = 2 → s.sec.lc = 2 →
      s.sec.cluster = some (cl, gen, cd, key, wrk) → s.sec.loaded = true → offerOk s e k = true →
      872 + s.sec.chainLen ≤ c.arg 28 0 32 → ∃ t, exec (.clusterEnrolOffer slot (some (e, k)) true) s =
        .next (complete slot stOk { r0 := 872 + s.sec.chainLen } t) ∧ t.sec.cluster = s.sec.cluster ∧
        { t with sec := s.sec, out := s.out } = s) ∧
    (∀ (g : Grant) (k : Ticket) (key wrk : Nat), opOf c = 3 → s.sec.lc = 2 → s.sec.cluster = none → g.keys = some (key, wrk) →
      g.good = true → g.lc = 2 → g.dbg = 0 → (g.cluster, g.gen) = (k.cluster, k.gen) → (g.repCluster, g.repGen) = (k.cluster, k.gen) →
      g.reqHash = k.reqHash → ticketOk s k 1 = true →
      exec (.clusterEnrolAccept slot (some (g, k))) s = .next (finish slot stOk (enrolAs k.cluster k.gen k.cdid key wrk s))) ∧
    (opOf c = 4 → s.sec.lc = 2 → s.sec.cluster.isSome = true → exec (.clusterEnrolLeave slot) s =
      .next (finish slot stOk { s with sec := { s.sec with cluster := none, loaded := false } })) ∧
    (opOf c = 4 → s.sec.lc ≠ 2 → exec (.clusterEnrolLeave slot) s = .next (finish slot stNotPermitted s)) ∧
    (opOf c = 0 → s.sec.lc ≠ 2 → ∀ ok, exec (.clusterEnrolRequest slot ok) s = .next (finish slot stNotPermitted s)))

/-- O46. POLDER_ADMIT, STORE_SETTINGS, MCODE_LOAD and DEBUG_UNLOCK start or end what they name. POLDER_ADMIT of a sealed
polder without a pending source starts its self-test and holds the command, a memory controller entering TRAINING; any other
completes with ST_BAD_STATE. STORE_SETTINGS with no write in progress starts one, into the bank not in use, and holds the
command. MCODE_LOAD with a patch that is accepted, fits and is sound puts the new stores up for activation on every core in
service and holds the command while a core is left; with LEN 0 and CLEAR it erases the patches kept in flash. DEBUG_UNLOCK's
challenge is a fresh nonce kept with its LEVEL, used up by one response; a response that verifies under an unrevoked vendor
key closes the protected sessions, takes every session's keys, and raises the debug level. (R293, R321, R322, R323, R349,
R413, R414, R415, R439, R481, R483) -/
def Obligations.AdminCommandsAct : Prop :=
  (∀ (slot : Nat) (s : State) (c : Slot), accepts s slot 0x38 c = true → c.arg 24 0 7 ≤ 94 →
    let i := c.arg 24 0 7
    ((polder s i).st ≠ .sealed ∨ (polder s i).pending = true → exec (.polderAdmit slot) s = .next (finish slot stBadState s)) ∧
    ((polder s i).st = .sealed → (polder s i).pending = false → ∃ t, exec (.polderAdmit slot) s = .next t ∧
      (polder t i).st = .testing ∧ (polder t i).admitSlot = some slot ∧
      tfind t.slots slot = some { c with started := true } ∧ (72 ≤ i → i < 88 → (mcOf t (i - 72)).st = .training) ∧
      (∀ j, j ≠ i → polder t j = polder s j) ∧ { t with slots := s.slots, flt := s.flt, mcs := s.mcs } = s)) ∧
  (∀ (slot : Nat) (s : State) (c : Slot), accepts s slot 0x39 c = true →
    (s.nvs.write = none → ∃ t w, exec (.storeSettings slot) s = .next t ∧ t.nvs.write = some w ∧ w.slot = some slot ∧
      w.toB = (s.nvs.defaults || !s.nvs.inUseB) ∧ tfind t.slots slot = some { c with started := true } ∧
      { t with slots := s.slots, nvs := s.nvs } = s ∧ { t.nvs with write := none } = s.nvs) ∧
    (s.nvs.write.isSome = true → exec (.storeSettings slot) s = .next (finish slot stBadState (nvsResult 2 false s)))) ∧
  (∀ (slot : Nat) (s : State) (c : Slot) (m : Img), accepts s slot 0x43 c = true → s.mcode.next = none →
    (c.arg 24 0 32 = 0 → c.arg 28 1 1 = 1 → ∀ img, exec (.mcodeLoad slot img) s =
      .next (finish slot stOk { s with sec := { s.sec with patches := [] } })) ∧
    (∀ i, coreUp s i = true → i < 64 → c.arg 24 0 32 ≠ 0 → c.arg 28 0 2 = 0 → m.ty = 4 → imgOk s m = true →
      patchFits s.mcode.run m.body = true → patchSound s.mcode.run m = true →
      ∃ t, exec (.mcodeLoad slot (some m)) s = .next t ∧ t.mcode.next = some (patchStore s.mcode.run m) ∧ i ∈ t.mcode.left ∧
        t.mcode.slot = some slot ∧ t.mcode.run = s.mcode.run ∧ tfind t.slots slot = some { c with started := true })) ∧
  (∀ (slot : Nat) (s : State) (c : Slot), accepts s slot 0x44 c = true → levelOk c s = true →
    (opOf c = 0 → 48 ≤ c.arg 28 0 32 → ∃ t, exec (.debugUnlockChallenge slot true) s = .next (complete slot stOk { r0 := 48 } t) ∧
      (∃ n, t.sec.dbgChal = some (n, levelOf c)) ∧ t.sec.dbgLevel = s.sec.dbgLevel ∧ { t with sec := s.sec, out := s.out } = s) ∧
    (opOf c = 1 → ∀ r, (s.sec.dbgChal = none → exec (.debugUnlockResponse slot (some r)) s = .next (authFail slot s)) ∧
      (∀ n, s.sec.dbgChal = some (n, levelOf c) → r.1 = true → vendorKey s r.2 = true →
        ∃ t, exec (.debugUnlockResponse slot (some r)) s = .next (finish slot stOk t) ∧ t.sec.dbgLevel = levelOf c ∧
          t.sec.dbgChal = none ∧ t.sec.loaded = false ∧ (∀ e ∈ t.sess, e.2.keys.recv = 0 ∧ e.2.keys.oldRecv = none ∧ e.2.tr.keyed = false)) ∧
      (∀ n level, s.sec.dbgChal = some (n, level) → (r.1 = false ∨ vendorKey s r.2 = false ∨ level ≠ levelOf c) →
        exec (.debugUnlockResponse slot (some r)) s =
          .next (authFail slot { s with sec := { s.sec with dbgChal := none } }))))

/-- O47. A DRAM write changes exactly its bytes, a read gives what the bytes hold, and an uncorrectable line reads as
poisoned. For a request within the usable capacity of a controller in service, open, and ACTIVE or in SR_PREP, which returns
to ACTIVE. After a write every byte of DRAM reads as before but those written, which read as the data. A read changes no
byte and gives the bytes; a corrected error is counted, raised and corrected. An uncorrectable error of a line read gives no
data, counts in MC_ECC_UE and is raised. A controller whose polder is not open answers fenced-abort, and the request does
nothing else. A request that arrives from SR_ENTRY to SR_EXIT waits in its channel's queue. Encryption is transparent to the
requester (log 9). (R333, R336, R337, R338, R346, R427) -/
def Obligations.DramReadsGiveWhatWasWritten : Prop :=
  (∀ (port : Fin 15) (addr : Fin (2 ^ 39)) (len : Nat) (data : List Byte) (cls : Fin 3) (s : State),
    polOpen s (72 + devMc addr) = true → isFatal s = false → (mcOf s (devMc addr)).inService = true →
    ((mcOf s (devMc addr)).st = .active ∨ (mcOf s (devMc addr)).st = .srPrep) →
    devOff addr + data.length - 1 < usableCap (mcOf s (devMc addr)).density →
    ∃ t, exec (.dramRequest port true addr len data cls 0) s = .next t ∧ (mcOf t (devMc addr)).st = .active ∧
      (∀ a, dramByte t a = if addr.val ≤ a ∧ a < addr.val + data.length then data.getD (a - addr.val) 0#8 else dramByte s a) ∧
      t.out = .dramEnd addr false :: s.out ∧ { t with dram := s.dram, mcs := s.mcs, out := s.out } = s) ∧
  (∀ (port : Fin 15) (addr : Fin (2 ^ 39)) (len : Nat) (data : List Byte) (cls : Fin 3) (s : State),
    polOpen s (72 + devMc addr) = true → isFatal s = false → (mcOf s (devMc addr)).inService = true →
    ((mcOf s (devMc addr)).st = .active ∨ (mcOf s (devMc addr)).st = .srPrep) →
    devOff addr + len - 1 < usableCap (mcOf s (devMc addr)).density →
    (∃ t, exec (.dramRequest port false addr len data cls 0) s = .next t ∧ (mcOf t (devMc addr)).st = .active ∧
      t.out = .dramRd addr (dramBytes s addr len) false :: s.out ∧ { t with mcs := s.mcs, out := s.out } = s) ∧
    (∃ t, exec (.dramRequest port false addr len data cls 1) s = .next t ∧
      t.out = .dramRd addr (dramBytes s addr len) false :: s.out ∧
      rfld t (aMc (devMc addr) 0xE0) 0 32 = satAdd 32 (rfld s (aMc (devMc addr) 0xE0) 0 32) 1 ∧ t.flt.reports.length = s.flt.reports.length + 1 ∧ t.dram = s.dram) ∧
    (∃ t, exec (.dramRequest port false addr len data cls 2) s = .next t ∧ t.out = .dramRd addr [] true :: s.out ∧
      rfld t (aMc (devMc addr) 0xE4) 0 32 = satAdd 32 (rfld s (aMc (devMc addr) 0xE4) 0 32) 1 ∧ t.flt.reports.length = s.flt.reports.length + 1 ∧ t.dram = s.dram)) ∧
  (∀ (port : Fin 15) (write : Bool) (addr : Fin (2 ^ 39)) (len : Nat) (data : List Byte) (cls ecc : Fin 3) (s : State),
    polOpen s (72 + devMc addr) = false →
    exec (.dramRequest port write addr len data cls ecc) s = .next (emit (.dramEnd addr true) s)) ∧
  (∀ (port : Fin 15) (addr : Fin (2 ^ 39)) (len : Nat) (cls ecc : Fin 3) (s : State),
    polOpen s (72 + devMc addr) = true → isFatal s = false → (mcOf s (devMc addr)).inService = true →
    ((mcOf s (devMc addr)).st = .srEntry ∨ (mcOf s (devMc addr)).st = .selfRefresh ∨ (mcOf s (devMc addr)).st = .srExit) →
    devOff addr + len - 1 < usableCap (mcOf s (devMc addr)).density →
    ((mcOf s (devMc addr)).chan (devChan (devOff addr))).reads.length < 32 →
    ∃ t, exec (.dramRequest port false addr len [] cls ecc) s = .next t ∧
      (((mcOf t (devMc addr)).chan (devChan (devOff addr))).reads.map (·.addr)) =
        (((mcOf s (devMc addr)).chan (devChan (devOff addr))).reads.map (·.addr)) ++ [addr.val] ∧ { t with mcs := s.mcs } = s)

/-- O48. A controller goes through self-refresh only by the transitions of R346, and never with real-time traffic. An idle
controller with SR_EN, or one ordered to, goes from ACTIVE to SR_PREP when nothing waits and no channel carries real-time
traffic; with real-time traffic it stays. SR_PREP ends in SR_ENTRY with every owed refresh issued and OWED 0 on all four
channels. SR_ENTRY ends in SELF_REFRESH, or in SR_EXIT when a request waits; SELF_REFRESH ends in SR_EXIT on a request or an
order; SR_EXIT ends in ACTIVE with no request left waiting. (R344, R346, R347) -/
def Obligations.SelfRefreshFollowsItsStates : Prop :=
  (∀ (n : Fin 16) (s : State), mcLive s n = true → (mcOf s n).st = .active →
    (mcRt s n = true → exec (.selfRefreshIdle n) s = .next s) ∧
    (mcRt s n = false → mcEmpty s n = true →
      ((mcOf s n).ordered = true ∨ (bitAt (rget s (aMc n 0x88)) 0 = true ∧
        (mcOf s n).lastReq + psUs (bitsOf (rget s (aMc n 0x88)) 8 10) ≤ s.now)) →
      exec (.selfRefreshIdle n) s = .next (mcMod n (fun m => { m with st := .srPrep, since := s.now }) s))) ∧
  (∀ (n : Fin 16) (s : State), mcLive s n = true → (mcOf s n).st = .srPrep →
    ∃ t, exec (.srPrepDone n) s = .next t ∧ (mcOf t n).st = .srEntry ∧ (∀ c < 4, ((mcOf t n).chan c).owed = 0) ∧
      t.out.length = s.out.length + 1 + ((List.range 4).map (fun c => ((mcOf s n).chan c).owed)).sum ∧
      (∀ j, j ≠ n.val → mcOf t j = mcOf s j) ∧ { t with mcs := s.mcs, out := s.out } = s) ∧
  (∀ (n : Fin 16) (s : State), mcLive s n = true → (mcOf s n).st = .srEntry →
    (mcEmpty s n = true → exec (.srEntryDone n) s = .next (mcMod n (fun m => { m with st := .selfRefresh, since := s.now }) s)) ∧
    (mcEmpty s n = false → exec (.srEntryDone n) s = .next (mcMod n (fun m => { m with st := .srExit, since := s.now }) s))) ∧
  (∀ (n : Fin 16) (order : Bool) (s : State), mcLive s n = true → (mcOf s n).st = .selfRefresh →
    ((order = true ∨ mcEmpty s n = false) → exec (.srWake n order) s =
      .next (mcMod n (fun m => { m with st := .srExit, since := s.now }) s)) ∧
    (order = false → mcEmpty s n = true → exec (.srWake n order) s = .next s)) ∧
  (∀ (n : Fin 16) (s : State), mcLive s n = true → (mcOf s n).st = .srExit →
    (∀ c < 4, ∀ r ∈ ((mcOf s n).chan c).reads ++ ((mcOf s n).chan c).writes, devMc r.addr = n.val) →
    ∃ t, exec (.srExitDone n) s = .next t ∧ (mcOf t n).st = .active ∧ mcEmpty t n = true ∧
      t.sess = s.sess ∧ t.bpm = s.bpm ∧ t.bufm = s.bufm ∧ ∀ j, j ≠ n.val → mcOf t j = mcOf s j)

/-- O49. A channel issues or postpones its refreshes, tracks drift, and its controller trains only in TRAINING. At the end
of an interval OWED rises by one, to 8 at most. Without real-time traffic every owed refresh is issued; with it they are
postponed below 8, and at 8 one REFpb goes to the bank pair whose refresh is oldest and is counted. After real-time traffic
the owed ones are issued. The most demanding of the four MR4 multipliers is used. A drift check that is not deferred records
the count; where the change differs from the applied correction by THRESH or more and FREEZE is 0 every RX and TX DQ delay
of the channel moves by the difference. With real-time traffic the window is deferred once. A training operation starts only
in TRAINING with GO 0, sets GO and its OP and clears MC_TRN_ERR; outside TRAINING it has no effect; its end clears GO.
(R343, R344, R345, R349, R350, R351) -/
def Obligations.RefreshDriftAndTraining : Prop :=
  (∀ (n : Fin 16) (c : Fin 4) (s : State), mcLive s n = true → (mcOf s n).st = .active →
    let owed := min 8 (((mcOf s n).chan c).owed + 1)
    (rtActive s n c = false → ∃ t, exec (.refreshInterval n c) s = .next t ∧ ((mcOf t n).chan c).owed = 0 ∧
      t.out.length = s.out.length + owed ∧ (∀ d, d ≠ c.val → (mcOf t n).chan d = (mcOf s n).chan d) ∧
      { t with mcs := s.mcs, out := s.out } = s) ∧
    (rtActive s n c = true → owed < 8 → ∃ t, exec (.refreshInterval n c) s = .next t ∧ ((mcOf t n).chan c).owed = owed ∧
      { t with mcs := s.mcs } = s) ∧
    (rtActive s n c = true → owed = 8 → ∃ t, exec (.refreshInterval n c) s = .next t ∧ ((mcOf t n).chan c).owed = 7 ∧
      t.out = .dramCmd n c 1 (((mcOf s n).chan c).pairs.headD 0) :: s.out ∧
      bitsOf (rget t (aMc n 0x8C)) 16 16 = satAdd 16 (bitsOf (rget s (aMc n 0x8C)) 16 16) 1 ∧
      { t with mcs := s.mcs, out := s.out, regs := s.regs } = s) ∧
    (rtActive s n c = false → ((mcOf s n).chan c).lastRt ≠ none → ∃ t, exec (.rtTrafficEnd n c) s = .next t ∧
      ((mcOf t n).chan c).owed = 0 ∧ t.out.length = s.out.length + ((mcOf s n).chan c).owed ∧
      { t with mcs := s.mcs, out := s.out } = s) ∧
    (∀ m0 m1 m2 m3 : Fin 3, ∃ t, exec (.mr4Poll n m0 m1 m2 m3) s = .next t ∧
      (mcOf t n).mult = max (max m0.val m1.val) (max m2.val m3.val) ∧ { t with mcs := s.mcs } = s)) ∧
  (∀ (n : Fin 16) (c : Fin 4) (osc : W16) (steps : Int) (s : State), mcLive s n = true → (mcOf s n).st = .active →
    let diff := steps - ((mcOf s n).chan c).delta
    let cfg := rget s (aMc n 0x90)
    (rtActive s n c = true → ((mcOf s n).chan c).deferred = false → ∃ t, exec (.driftCheck n c osc steps) s = .next t ∧
      ((mcOf t n).chan c).deferred = true ∧ (mcOf t n).delays = (mcOf s n).delays ∧ { t with mcs := s.mcs } = s) ∧
    ((rtActive s n c = false ∨ ((mcOf s n).chan c).deferred = true) → ∃ t, exec (.driftCheck n c osc steps) s = .next t ∧
      ((mcOf t n).chan c).osc = osc.toNat ∧ ((mcOf t n).chan c).deferred = false ∧ { t with mcs := s.mcs, flt := s.flt } = s ∧
      ((diff.natAbs < bitsOf cfg 10 6 ∨ bitAt cfg 24 = true) → (mcOf t n).delays = (mcOf s n).delays ∧
        ((mcOf t n).chan c).delta = ((mcOf s n).chan c).delta) ∧
      (bitsOf cfg 10 6 ≤ diff.natAbs → bitAt cfg 24 = false → ((mcOf t n).chan c).delta = steps ∧ ∀ k < 2, ∀ i < 16,
        tget 0 (mcOf t n).delays (dlyKey c k i) = delayShift (tget 0 (mcOf s n).delays (dlyKey c k i)) diff))) ∧
  (∀ (n : Fin 16) (cmd : W32) (s : State), (mcOf s n).st ≠ .training →
    exec (.mcTrnWritePattern n cmd) s = .next s ∧ exec (.mcTrnReadCompare n cmd) s = .next s ∧
    exec (.mcTrnWriteReadCompare n cmd) s = .next s ∧ exec (.mcTrnMrWrite n cmd) s = .next s ∧
    exec (.mcTrnMrRead n cmd) s = .next s ∧ exec (.mcTrnZqCal n cmd) s = .next s ∧
    exec (.mcTrnWck2ckSample n cmd) s = .next s) ∧
  (∀ (n : Fin 16) (cmd : W32) (s : State), (mcOf s n).st = .training → bitAt (rget s (aMc n 0xC0)) 31 = false →
    let runs := fun (op : Nat) (t : State) => bitsOf (rget t (aMc n 0xC0)) 0 3 = op ∧ bitAt (rget t (aMc n 0xC0)) 31 = true ∧
      bitsOf (rget t (aMc n 0xC0)) 8 16 = bitsOf cmd.toNat 8 16 ∧ rget t (aMc n 0xD0) = 0 ∧ { t with regs := s.regs } = s
    (bitsOf cmd.toNat 8 8 ≤ 20 → (∃ t, exec (.mcTrnWritePattern n cmd) s = .next t ∧ runs 1 t) ∧
      (∃ t, exec (.mcTrnReadCompare n cmd) s = .next t ∧ runs 2 t) ∧
      (∃ t, exec (.mcTrnWriteReadCompare n cmd) s = .next t ∧ runs 3 t)) ∧
    (∃ t, exec (.mcTrnMrWrite n cmd) s = .next t ∧ runs 4 t) ∧ (∃ t, exec (.mcTrnMrRead n cmd) s = .next t ∧ runs 5 t) ∧
    (∃ t, exec (.mcTrnZqCal n cmd) s = .next t ∧ runs 6 t) ∧ ∃ t, exec (.mcTrnWck2ckSample n cmd) s = .next t ∧ runs 7 t) ∧
  (∀ (n : Fin 16) (fail : W64) (data : Byte) (s : State), bitAt (rget s (aMc n 0xC0)) 31 = true →
    ∃ t, exec (.mcTrnDone n fail data) s = .next t ∧ bitAt (rget t (aMc n 0xC0)) 31 = false ∧ t.dram = s.dram ∧
      bitsOf (rget t (aMc n 0xC0)) 0 3 = bitsOf (rget s (aMc n 0xC0)) 0 3 ∧
      (bitsOf (rget s (aMc n 0xC0)) 0 3 = 5 → bitsOf (rget t (aMc n 0xC0)) 16 8 = data.toNat) ∧
      (bitsOf (rget s (aMc n 0xC0)) 0 3 = 2 → bitAt (rget s (aMc n 0xC0)) 5 = true → rget t (aMc n 0xD0) = fail.toNat))

/-- O50. ALLOC, REF, UNREF, RESERVE and UNRESERVE change the buffer's record as R356 says, or are refused under R360. ALLOC
from a pool that admits the request gives a handle with a new generation and the record the owner, class, session and count
1. With no pool that admits it the answer is POOL_EMPTY, counted; with none that fits NO_FIT. REF and UNREF of a live handle
by its owner or by the management cores or SEC add and take 1; the last UNREF frees the buffer. Each refusal of R360 leaves
every record unchanged and counts. RESERVE adds to the session's reservation where the free buffers allow, and UNRESERVE
subtracts, not below 0. A refused requester tries again only after its backoff, and a hold that expires returns its buffer
to the free ones. With the BPM sealed the answer is fenced. (R354, R355, R356, R358, R360, R361, R427) -/
def Obligations.BufferPoolOperations : Prop :=
  (∀ (port : Fin 15) (ty : PoolTy) (size : Nat) (cls : Fin 4) (sid : Option (Fin 4096)) (rid : Option Nat) (s : State),
    let r : AllocReq := { ty := ty, size := size, cls := cls, sid := sid.map (·.val), owner := ownerFor s sid, rid := rid, port := port }
    (polOpen s 93 = false → exec (.alloc port ty size cls sid rid) s = .next (emit (.bpmResp port 3 0) s)) ∧
    (polOpen s 93 = true → fitPools s ty size = [] →
      exec (.alloc port ty size cls sid rid) s = .next (emit (.bpmResp port 1 0) s)) ∧
    (∀ p i, polOpen s 93 = true → (fitPools s ty size).find? (fun p => poolAdmits s p r) = some p → takeIdx s p r = some i →
      ∃ t g, exec (.alloc port ty size cls sid rid) s = .next t ∧ t.out = .bpmResp port 0 (handleOf p i g) :: s.out ∧
        bufOf t (bufKey p i) = {
          alloc := true, gen := g, owner := ownerFor s sid, cls := cls, sid := sid.map (·.val), hostHeld := false, refcnt := 1
          zeroed := decide (cls.val = 2) } ∧
        1 ≤ g ∧ g ≤ 255 ∧ g ≠ (bufOf s (bufKey p i)).gen ∧ (∀ k, k ≠ bufKey p i → bufOf t k = bufOf s k) ∧
        { t with bpm := s.bpm, bufm := s.bufm, out := s.out } = s) ∧
    (polOpen s 93 = true → fitPools s ty size ≠ [] → (fitPools s ty size).find? (fun p => poolAdmits s p r) = none →
      ∃ t, exec (.alloc port ty size cls sid rid) s = .next t ∧ t.out = .bpmResp port 2 0 :: s.out ∧ t.bpm.bufs = s.bpm.bufs ∧
        rfld t (aBpm 0x208) 0 32 = satAdd 32 (rfld s (aBpm 0x208) 0 32) 1)) ∧
  (∀ (port : Fin 15) (who : Fin 128) (h : W32) (s : State), polOpen s 93 = true →
    let b := bufOf s (hKey h.toNat)
    (b.alloc = true → b.gen = hGen h.toNat → (port.val = 13 ∨ port.val = 14 ∨ who.val = b.owner) →
      (b.refcnt < 65535 → ∃ t, exec (.ref port who h) s = .next t ∧ bufOf t (hKey h.toNat) = { b with refcnt := b.refcnt + 1 } ∧
        t.out = .bpmResp port 0 h.toNat :: s.out ∧ { t with bpm := s.bpm, out := s.out } = s) ∧
      (1 < b.refcnt → ∃ t, exec (.unref port who h) s = .next t ∧ bufOf t (hKey h.toNat) = { b with refcnt := b.refcnt - 1 } ∧
        t.out = .bpmResp port 0 h.toNat :: s.out ∧ { t with bpm := s.bpm, out := s.out } = s) ∧
      (b.refcnt ≤ 1 → ∃ t, exec (.unref port who h) s = .next t ∧ (bufOf t (hKey h.toNat)).alloc = false ∧
        (bufOf t (hKey h.toNat)).gen = b.gen ∧ t.out = .bpmResp port 0 h.toNat :: s.out ∧
        (∀ k, k ≠ hKey h.toNat → bufOf t k = bufOf s k))) ∧
    ((b.alloc = false ∨ b.gen ≠ hGen h.toNat ∨ (port.val ≠ 13 ∧ port.val ≠ 14 ∧ who.val ≠ b.owner)) →
      (∃ t, exec (.ref port who h) s = .next t ∧ t.bpm = s.bpm ∧ t.out = .bpmResp port 4 h.toNat :: s.out ∧
        t.flt.reports.length = s.flt.reports.length + 1) ∧
      ∃ t, exec (.unref port who h) s = .next t ∧ t.bpm = s.bpm ∧ t.out = .bpmResp port 4 h.toNat :: s.out ∧
        t.flt.reports.length = s.flt.reports.length + 1)) ∧
  (∀ (port : Fin 15) (p : Fin 16) (sid : Fin 4096) (n : Nat) (s : State), polOpen s 93 = true →
    (poolQ s p + n ≤ freeFor s p none → ∃ t, exec (.reserve port p sid n) s = .next t ∧ rsvOf t p sid = rsvOf s p sid + n ∧
      t.out = .bpmResp port 0 0 :: s.out ∧ { t with bpm := s.bpm, out := s.out } = s) ∧
    (freeFor s p none < poolQ s p + n → exec (.reserve port p sid n) s = .next (emit (.bpmResp port 4 0) s)) ∧
    (∃ t, exec (.unreserve port p sid n) s = .next t ∧ rsvOf t p sid = rsvOf s p sid - n ∧
      t.out = .bpmResp port 0 0 :: s.out ∧ { t with bpm := s.bpm, out := s.out } = s)) ∧
  (∀ (rid : Nat) (w : Retry) (s : State), tfind s.bpm.retries rid = some w → w.got = none →
    let r : AllocReq := {
      ty := w.ty, size := w.size, cls := w.cls, sid := w.sid, owner := w.fn, rid := some rid, port := w.port }
    (s.now < w.next → exec (.allocRetry rid) s = .next s) ∧
    (∀ h u, w.next ≤ s.now → bpmAlloc r s = (.ok h, u) → ∃ t, exec (.allocRetry rid) s = .next t ∧ t.out = .bpmResp w.port 0 h :: u.out ∧
      tfind t.bpm.retries rid = some { w with got := some h } ∧ t.bpm.bufs = u.bpm.bufs)) ∧
  (∀ (p : Fin 16) (k w x : Nat) (s : State), (poolOf s p).held = some (k, w, x) →
    ∃ t, exec (.bpmHoldExpire p) s = .next t ∧ { t with bpm := s.bpm } = s ∧ t.bpm.bufs = s.bpm.bufs ∧
      (x ≤ s.now → poolOf t p = { poolOf s p with held := none }) ∧ (s.now < x → poolOf t p = poolOf s p))

/-- O51. A DMA channel goes by R375, and its descriptors place, compare and gather the bytes R367 names. EN written 1 in OFF
with LOG2 in range starts the channel, EN written 0 stops it and drops a descriptor in execution, RESUME ends HALTED, and a
TAIL in range is taken. For a descriptor that passes the checks of R368: NOP and COMPARE change no byte, FILL, COPY and
GATHER place the bytes of R367 in a destination buffer and change no other byte of one, and a COMPARE that differs ends in
MISMATCH with the lowest differing offset. A beat that fails ends it with the status of R370. The end of a descriptor writes
its record, advances HEAD, and halts the channel on an error. A commit in IDLE or OFF applies at once, and in RUNNING it
waits. (R364, R365, R366, R367, R368, R370, R372, R374, R375, R376) -/
def Obligations.DmaChannelsRunTheirDescriptors : Prop :=
  (∀ (req : Req) (c : Fin 32) (s : State), dmaFrom s req c = true →
    ((dmaOf s c).st = .off → 4 ≤ dmaLog s c → dmaLog s c ≤ 12 → ∃ t, exec (.dmaChEnable req c) s = .next t ∧
      (dmaOf t c).st = (if dmaHead s c = dmaTail s c then .idle else .run) ∧ (dmaOf t c).phase = true ∧
      rfld t (aDma c 0) 0 1 = 1 ∧ { t with dma := s.dma, regs := s.regs } = s) ∧
    ((dmaOf s c).st = .off → (dmaLog s c < 4 ∨ 12 < dmaLog s c) → exec (.dmaChEnable req c) s = .next s) ∧
    ((dmaOf s c).st ≠ .off → (dmaOf s c).cur = none → ∃ t, exec (.dmaChDisable req c) s = .next t ∧ (dmaOf t c).st = .off ∧
      rfld t (aDma c 0) 0 1 = 0 ∧ dmaHead t c = dmaHead s c ∧ { t with dma := s.dma, regs := s.regs } = s) ∧
    (∀ e, (dmaOf s c).st ≠ .off → (dmaOf s c).cur = some e → ∃ t, exec (.dmaChDisable req c) s = .next t ∧
      (dmaOf t c).st = .off ∧ (dmaOf t c).cur = none ∧ (dmaOf t c).remain = (dmaOf s c).remain ∧ dmaHead t c = dmaHead s c ∧
      rfld t (aDma c 4) 3 1 = 1) ∧
    ((dmaOf s c).st = .halted → (dmaOf s c).shadowPend = false → ∃ t, exec (.dmaChResume req c) s = .next t ∧
      (dmaOf t c).st = (if dmaHead s c = dmaTail s c then .idle else .run) ∧ { t with dma := s.dma } = s) ∧
    (∀ idx, idx < 2 ^ dmaLog s c → ∃ t, exec (.dmaChTail req c idx) s = .next t ∧ rget t (aDma c 0x1C) = idx ∧
      { t with dma := s.dma, regs := s.regs } = s) ∧
    (∀ w : Fin 8, 4 ≤ rfld s (aDma c 0x28) 0 4 → rfld s (aDma c 0x28) 0 4 ≤ 12 →
      ((dmaOf s c).st = .off → ∃ t, exec (.shadowCommit req c w) s = .next t ∧ rget t (aDma c 0x08) = rget s (aDma c 0x28) ∧
        rget t (aDma c 0x10) = rget s (aDma c 0x30) ∧ dmaHead t c = rfld s (aDma c 0x38) 0 12 ∧
        dmaTail t c = rfld s (aDma c 0x38) 16 12 ∧ rfld t (aDma c 0x24) 0 3 = w.val ∧ (dmaOf t c).shadowPend = false) ∧
      ((dmaOf s c).st = .run → ∃ t, exec (.shadowCommit req c w) s = .next t ∧ (dmaOf t c).shadowPend = true ∧
        rget t (aDma c 0x08) = rget s (aDma c 0x08) ∧ dmaHead t c = dmaHead s c ∧ (dmaOf t c).st = .run))) ∧
  (∀ (c : Fin 32) (d : BitVec 256) (s : State), dmaTakes s c d = true →
    (dOp d = 0 → ∃ t, exec (.dmaNop c d) s = .next t ∧ (dmaOf t c).cur = some { desc := d } ∧ { t with dma := s.dma } = s) ∧
    (dOp d = 2 → dDstSp d = 1 → ∃ t e, exec (.dmaFill c d none) s = .next t ∧ (dmaOf t c).cur = some e ∧ e.status = 0 ∧
      let base := hKey (dDst d / 2 ^ 32) * 2 ^ 30 + dDst d % 2 ^ 32
      (∀ i < dLen d, tfind t.bufm (base + i) = some (BitVec.ofNat 8 (bitsOf (dSrc d) (8 * (i % 8)) 8))) ∧
      (∀ a, (a < base ∨ base + dLen d ≤ a) → tfind t.bufm a = tfind s.bufm a) ∧ t.dram = s.dram) ∧
    (∀ host, dOp d = 1 → dDstSp d = 1 → ¬(dSrcSp d = 1 ∧ dSrc d < dDst d ∧ dDst d < dSrc d + dLen d) →
      ∃ t e, exec (.dmaCopy c d host none) s = .next t ∧ (dmaOf t c).cur = some e ∧ e.status = 0 ∧
      let base := hKey (dDst d / 2 ^ 32) * 2 ^ 30 + dDst d % 2 ^ 32
      (∀ i < dLen d, tfind t.bufm (base + i) = some (spaceByte s (dSrcSp d) (dSrc d) i host 0)) ∧
      (∀ a, (a < base ∨ base + dLen d ≤ a) → tfind t.bufm a = tfind s.bufm a) ∧ t.dram = s.dram) ∧
    (∀ host, dOp d = 4 → dSrcSp d = 1 → dDstSp d = 1 → gBad s d host = none →
      ∃ t e, exec (.dmaGather c d host none) s = .next t ∧ (dmaOf t c).cur = some e ∧ e.status = 0 ∧
      let base := hKey (dDst d / 2 ^ 32) * 2 ^ 30 + dDst d % 2 ^ 32
      ∀ i < dLen d, ∀ j < 2 ^ dElem d, tfind t.bufm (base + i * 2 ^ dElem d + j) =
        some (spaceByte s 1 (dBase d) (gIndex s d host i * 2 ^ dElem d + j) host 0)) ∧
    (∀ host, dOp d = 3 → ∃ t e, exec (.dmaCompare c d host none) s = .next t ∧ (dmaOf t c).cur = some e ∧
      t.bufm = s.bufm ∧ t.dram = s.dram ∧ (dDiff s d host = none → e.status = 0) ∧
      ∀ i, dDiff s d host = some i → e.status = 1 ∧ e.info = i) ∧
    (∀ (o : Nat) (k : Fin 3) (host : List Byte), dOp d = 1 → o < dLen d → ∃ t e, exec (.dmaCopy c d host (some (o, k))) s = .next t ∧
      (dmaOf t c).cur = some e ∧ e.info = (dDstOff d + o) / 64 * 64 - dDstOff d ∧
      e.status = (if (dDstOff d + o) / 64 = (dDstOff d + dLen d - 1) / 64 then 0x15 else dErrStatus k) ∧
      t.flt.reports.length = s.flt.reports.length + (if k.val = 2 then 0 else 1))) ∧
  (∀ (c : Fin 32) (e : DmaEnd) (s : State), (dmaOf s c).cur = some e → polOpen s 93 = true → 4 ≤ dmaLog s c → dmaLog s c ≤ 12 →
    ∃ t, exec (.dmaDescriptorDone c) s = .next t ∧ (dmaOf t c).cur = none ∧ (dmaOf t c).lastStatus = e.status ∧
      (16 ≤ c.val → Out.hostWr 0 (rget s (aDma c 0x10) / 4096 * 4096 + 16 * dmaHead s c) 16 false (dmaRecord s c e) ∈ t.out) ∧
      (16 ≤ e.status → (dmaOf t c).st = .halted ∧ dmaHead t c = (dmaHead s c + 1) % 2 ^ dmaLog s c) ∧
      (e.status = 0 → (dmaOf s c).shadowPend = false → dmaHead t c = (dmaHead s c + 1) % 2 ^ dmaLog s c ∧
        (dmaOf t c).st = (if dmaHead t c = dmaTail t c then .idle else .run)))

/-- O52. A mailbox channel takes, holds and gives out whole messages in order, and its resets keep the complete ones.
Inbound words gather into a message of LEN_IN words with its sender; a word to a full queue is discarded and counted; a
partial message that is not continued is discarded and counted. The bridge holds one message per channel, places it whole,
and counts one of another length. The serving side takes the oldest message: SEC on channels 0 to 3, where one that the mode
of R320 does not accept is discarded and counted. A message for the host leaves word by word as the host reads it; a read of
anything else gives 0 and removes nothing. A message for an endpoint is sent whole, or discarded after 100 ms and counted.
HOST_RESET keeps every complete message and shows a partly read one again from its first word; a sideband reset drops
partial MCTP messages only. (R319, R320, R378, R379, R380, R381, R382, R384) -/
def Obligations.MailboxMessagesPassWhole : Prop :=
  (∀ (c : Fin 8) (id : W16) (auth : Bool) (w : W32) (s : State), mbxUp s = true →
    ((mbxOf s c).inFree = 0 → ∃ t, exec (.mbxInData c id auth w) s = .next t ∧ t.mbx = s.mbx ∧
      rfld t (aMbx c 0x1C) 0 16 = satAdd 16 (rfld s (aMbx c 0x1C) 0 16) 1) ∧
    ((mbxOf s c).inFree ≠ 0 → (mbxOf s c).inPart.length + 1 < lenIn s c → ∃ t, exec (.mbxInData c id auth w) s = .next t ∧
      (mbxOf t c).inPart = (mbxOf s c).inPart ++ [w.toNat] ∧ (mbxOf t c).inMsgs = (mbxOf s c).inMsgs ∧ { t with mbx := s.mbx } = s) ∧
    ((mbxOf s c).inFree ≠ 0 → lenIn s c ≤ (mbxOf s c).inPart.length + 1 → ∃ t m, exec (.mbxInData c id auth w) s = .next t ∧
      (mbxOf t c).inMsgs = (mbxOf s c).inMsgs ++ [m] ∧ m.words = (mbxOf s c).inPart ++ [w.toNat] ∧ m.sender = id.toNat ∧
      m.mctp = false ∧ (mbxOf t c).inPart = []) ∧
    ((mbxOf s c).outMsgs = [] → exec (.mbxOutData c) s = .next (emit (.readData 0) s)) ∧
    (∀ (x : OutMsg) (l : List OutMsg), (mbxOf s c).outMsgs = x :: l →
      (x.dest ≠ none → exec (.mbxOutData c) s = .next (emit (.readData 0) s)) ∧
      (x.dest = none → (mbxOf s c).outTaken + 1 < x.words.length → ∃ t, exec (.mbxOutData c) s = .next t ∧
        t.out.head? = some (.readData (x.words.getD (mbxOf s c).outTaken 0)) ∧ (mbxOf t c).outTaken = (mbxOf s c).outTaken + 1 ∧
        (mbxOf t c).outMsgs = (mbxOf s c).outMsgs)) ∧
    (∃ t, exec (.hostReset c) s = .next t ∧ (mbxOf t c).inMsgs = (mbxOf s c).inMsgs ∧ (mbxOf t c).inPart = [] ∧
      (mbxOf t c).outMsgs = (mbxOf s c).outMsgs ∧ (mbxOf t c).outTaken = 0)) ∧
  (∀ (c : Fin 8) (s : State), (mbxOf s c).inPart ≠ [] →
    (s.now < (mbxOf s c).inPartTime + psMs 1 → exec (.mbxPartialTimeout c) s = .next s) ∧
    ((mbxOf s c).inPartTime + psMs 1 ≤ s.now → ∃ t, exec (.mbxPartialTimeout c) s = .next t ∧ (mbxOf t c).inPart = [] ∧
      (mbxOf t c).inMsgs = (mbxOf s c).inMsgs ∧ rfld t (aMbx c 0x1C) 16 16 = satAdd 16 (rfld s (aMbx c 0x1C) 16 16) 1)) ∧
  (∀ (eid : Byte) (sec : Bool) (c : Fin 8) (ws : List W32) (s : State), isFatal s = false → s.boot.perst = false →
    (mbxOf s c).frag = none →
    (ws.length = lenIn s c → (mbxOf s c).bridge = none → ∃ t, exec (.mctpMessage false eid sec c ws true) s = .next t ∧
      (mbxOf t c).bridge = some { sender := eid.toNat, mctp := true, auth := sec, words := ws.map (·.toNat) } ∧
      (mbxOf t c).inMsgs = (mbxOf s c).inMsgs ∧ { t with mbx := s.mbx } = s) ∧
    (ws.length ≠ lenIn s c → ∃ t, exec (.mctpMessage false eid sec c ws true) s = .next t ∧
      (mbxOf t c).bridge = (mbxOf s c).bridge ∧ (mbxOf t c).inMsgs = (mbxOf s c).inMsgs ∧
      rfld t (aMbx c 0x1C) 16 16 = satAdd 16 (rfld s (aMbx c 0x1C) 16 16) 1)) ∧
  (∀ (c : Fin 8) (m : InMsg) (s : State), (mbxOf s c).bridge = some m → polOpen s 94 = true → lenIn s c ≤ (mbxOf s c).inFree →
    (mbxOf s c).inPart = [] → ∃ t, exec (.mbxBridgePlace c) s = .next t ∧ (mbxOf t c).bridge = none ∧
      (mbxOf t c).inMsgs = (mbxOf s c).inMsgs ++ [m]) ∧
  (∀ (c : Fin 8) (x : InMsg) (l : List InMsg) (s : State), (mbxOf s c).inMsgs = x :: l → s.boot.perst = false →
    polOpen s 94 = true → isFatal s = false → ∃ t, exec (.mbxInRead c) s = .next t ∧ (mbxOf t c).inMsgs = l ∧
      (4 ≤ c.val → t.out.head? = some (.mbx c x.words) ∧ t.sec = s.sec) ∧
      (c.val < 4 → (if mbxAuth s then x.auth else bound s c x) = true → t.sec.reqs = s.sec.reqs ++ [c.val]) ∧
      (c.val < 4 → (if mbxAuth s then x.auth else bound s c x) = false → t.sec = s.sec ∧
        rfld t 0x609C 0 32 = satAdd 32 (rfld s 0x609C 0 32) 1)) ∧
  (∀ (c : Fin 8) (dest : Option Byte) (w : W32) (can : Bool) (s : State), (mbxOf s c).outWords < 16 → polOpen s 94 = true →
    isFatal s = false → (mbxOf s c).outPart.words = [] →
    (1 < lenOut s c → ∃ t, exec (.mbxOutWrite c dest w can) s = .next t ∧ { t with mbx := s.mbx } = s ∧
      (mbxOf t c).outPart = { dest := dest.map (·.toNat), words := [w.toNat] } ∧ (mbxOf t c).outMsgs = (mbxOf s c).outMsgs) ∧
    (lenOut s c ≤ 1 → (mbxOf s c).outMsgs = [] → ∃ t, exec (.mbxOutWrite c dest w can) s = .next t ∧
      (∀ e, dest = some e → can = true → Out.mctp e.toNat c [w.toNat] ∈ t.out ∧ (mbxOf t c).outMsgs = []) ∧
      (dest = none → (mbxOf t c).outMsgs = [{ dest := none, words := [w.toNat] }]))) ∧
  (∀ (c : Fin 8) (x : Nat) (s : State), (mbxOf s c).endSince = some x → x + psMs 100 ≤ s.now →
    ∃ t, exec (.mbxEndpointTimeout c) s = .next t ∧ (mbxOf t c).outMsgs = (mbxOf s c).outMsgs.tail ∧
      rfld t (aMbx c 0x1C) 16 16 ≠ 0) ∧
  (∀ (i3c : Bool) (s : State), ∃ t, exec (.sidebandReset i3c) s = .next t ∧ { t with mbx := s.mbx } = s ∧
    ∀ c < 8, { mbxOf t c with frag := none } = { mbxOf s c with frag := none } ∧ ∀ l, (mbxOf t c).frag ≠ some (i3c, l))

/-- O53. The interrupt controller sets, claims and completes its sources, and an unmatched completion changes none. An edge
sets PEND; the level of a source that is not active is its PEND, and one that is active keeps its PEND. A claim by a target
gives the eligible source of highest PRIO, the lower number on a tie, or 0, and sets it active there with PEND clear; a read
from port H gives the same and claims nothing. A completion by the target clears the active state, and a level still
asserted is pending again. An unmatched completion changes no source and no target, is counted, captured and raised. MIC_SWI
sets the software sources of its 1 bits. MIC_SRC_CFG sets PRIO, EN and, within range, TARGET. A target that wakes has its
interrupt asserted when a source is eligible. Requests from elsewhere than management and SEC change nothing. (R387, R388,
R389, R390, R391, R392, R393) -/
def Obligations.InterruptControllerDelivers : Prop :=
  (∀ (n : Fin 512) (on : Bool) (s : State), micReal n = true → ∃ t, exec (.micSourceRaise n on) s = .next t ∧
    (micSrcOf t n).input = on ∧ (micSrcOf t n).activeAt = (micSrcOf s n).activeAt ∧ (∀ j, j ≠ n.val → micSrcOf t j = micSrcOf s j) ∧
    (micEdgeSense s n = true → (micSrcOf t n).pend = ((micSrcOf s n).pend || on)) ∧
    (micEdgeSense s n = false → (micSrcOf s n).activeAt = none → (micSrcOf t n).pend = (on || (micSrcOf s n).hdr)) ∧
    (micEdgeSense s n = false → (micSrcOf s n).activeAt ≠ none → (micSrcOf t n).pend = (micSrcOf s n).pend) ∧
    { t with micSrc := s.micSrc, micTgt := s.micTgt, out := s.out } = s) ∧
  (∀ (n : Fin 512) (on : Bool) (s : State), micReal n = false → exec (.micSourceRaise n on) s = .next s) ∧
  (∀ (t : Nat) (s : State), (micNext s t = 0 → ∀ n, micEligible s t n = false) ∧
    (micNext s t ≠ 0 → micEligible s t (micNext s t) = true ∧ ∀ n, micEligible s t n = true →
      micPrio s n < micPrio s (micNext s t) ∨ (micPrio s n = micPrio s (micNext s t) ∧ micNext s t ≤ n))) ∧
  (∀ (req : Req) (g : Fin 9) (s : State), polOpen s 94 = true → isFatal s = false →
    (micFrom s req = false → exec (.micTgtClaim req g) s = .next (emit (.readData (micNext s g)) s)) ∧
    (micFrom s req = true → micNext s g = 0 → exec (.micTgtClaim req g) s = .next (emit (.readData 0) s)) ∧
    (micFrom s req = true → micNext s g ≠ 0 → ∃ t, exec (.micTgtClaim req g) s = .next t ∧
      t.out.head? = some (.readData (micNext s g)) ∧ (micSrcOf t (micNext s g)).activeAt = some g.val ∧
      (micSrcOf t (micNext s g)).pend = false ∧ (∀ j, j ≠ micNext s g → micSrcOf t j = micSrcOf s j) ∧
      { t with micSrc := s.micSrc, micTgt := s.micTgt, out := s.out } = s)) ∧
  (∀ (req : Req) (g : Fin 9) (n : Fin 512) (s : State), micFrom s req = true →
    (micReal n = true → (micSrcOf s n).activeAt = some g.val → ∃ t, exec (.micTgtEoi req g n) s = .next t ∧
      (micSrcOf t n).activeAt = none ∧ (micSrcOf t n).pend = ((micSrcOf s n).pend || (!micEdgeSense s n && ((micSrcOf s n).input || (micSrcOf s n).hdr))) ∧
      (∀ j, j ≠ n.val → micSrcOf t j = micSrcOf s j) ∧ { t with micSrc := s.micSrc, micTgt := s.micTgt, out := s.out } = s) ∧
    ((micReal n = false ∨ (micSrcOf s n).activeAt ≠ some g.val) → ∃ t, exec (.micTgtEoi req g n) s = .next t ∧
      rfld t 0x8188 0 32 = satAdd 32 (rfld s 0x8188 0 32) 1 ∧ rfld t 0x8184 13 1 = 1 ∧
      (rfld s 0x8184 13 1 = 0 → rfld t 0x8184 0 9 = n.val ∧ rfld t 0x8184 9 4 = g.val) ∧
      t.flt.reports = s.flt.reports ++ [{ src := 0x3B * 64 }] ∧ { t with regs := s.regs, flt := s.flt } = s)) ∧
  (∀ (req : Req) (g : Fin 9) (n : Fin 512) (set cfg : W32) (s : State), micFrom s req = false →
    exec (.micTgtEoi req g n) s = .next s ∧ exec (.micSwi req set) s = .next s ∧ exec (.micSrcCfg req n cfg) s = .next s) ∧
  (∀ (req : Req) (set : W32) (s : State), micFrom s req = true → ∃ t, exec (.micSwi req set) s = .next t ∧
    (∀ k < 32, (micSrcOf t (224 + k)).pend = ((micSrcOf s (224 + k)).pend || set.getLsbD k)) ∧
    (∀ j < 224, micSrcOf t j = micSrcOf s j) ∧ { t with micSrc := s.micSrc, micTgt := s.micTgt, out := s.out } = s) ∧
  (∀ (req : Req) (n : Fin 512) (cfg : W32) (s : State), micFrom s req = true → micReal n = true →
    ∃ t, exec (.micSrcCfg req n cfg) s = .next t ∧ micPrio t n = bitsOf cfg.toNat 0 4 ∧ bitAt (micCfg t n) 9 = bitAt cfg.toNat 9 ∧
      bitsOf (micCfg t n) 4 4 = (if bitsOf cfg.toNat 4 4 ≤ 8 then bitsOf cfg.toNat 4 4 else bitsOf (micCfg s n) 4 4) ∧
      (∀ j, (micSrcOf t j).activeAt = (micSrcOf s j).activeAt) ∧ (∀ j, j ≠ n.val → micCfg t j = micCfg s j) ∧
      { t with micSrc := s.micSrc, micTgt := s.micTgt, regs := s.regs, out := s.out } = s) ∧
  (∀ (g : Fin 9) (s : State), ∃ t, exec (.micTargetWake g) s = .next t ∧ (micTgtOf t g).sleeping = false ∧
    ((micTgtOf t g).irq = true ↔ micNext s g ≠ 0) ∧ t.micSrc = s.micSrc)

/-- O54. A context goes on as its microword says, folds at commit points, takes requests there alone, and stalls on its
faults. For a context that runs. A nanoword that is no commit point moves the context to the next microaddress of R397 and
leaves its restart address and saved stack. At a commit point with no request pending the shadow folds: the restart address
becomes the next microaddress, and a WAIT whose condition does not hold keeps its context. With a request pending the shadow
is discarded, the state of the last fold is saved, and the handler starts at its vector with an empty stack. A CALL or RET
without room, and a nanoword that exceeds the shadow, stall the context and raise their source; so does the watchdog at
2,048 counted cycles. A patch is written to a core, and its joined pair, once all contexts are parked. A scrub is requested
through the internal interrupt. (R395, R397, R403, R404, R405, R408, R415, R507) -/
def Obligations.CoreContextsRunMicrowords : Prop :=
  (∀ (core : Fin 64) (k : Fin 8) (flag : Bool) (key : Fin 16) (sram ops : Nat) (fresh : List Nat) (s : State),
    let x := (coreOf s core).context k
    let w := (coreOf s core).micro x
    let n := (coreOf s core).nano x
    ctxRuns s core x = true → x.dist + nwCycles n < 2048 → x.sram + sram ≤ 4096 → x.ops + ops + (x.notes + b2n (nwNotify n)) ≤ 64 →
    (∀ u st, nwCp n = false → nwHandoff n = false → mwNext w ≠ 7 → nextUa x w (condVal x w flag) key = some (u, st) →
      ∃ t, exec (.nanowordComplete core k flag key sram ops fresh false) s = .next t ∧
        (let y := (coreOf t core).context k
         y.ua = u ∧ y.stack = st ∧ y.restart = x.restart ∧ y.saved = x.saved ∧ y.dist = x.dist + (coreOf s core).cycles x) ∧
        (∀ j, j ≠ k.val → (coreOf t core).context j = (coreOf s core).context j) ∧ { t with cores := s.cores } = s) ∧
    (∀ u st, nwCp n = true → nextUa x w (condVal x w flag) key = some (u, st) → (coreOf s core).requests k = [] → x.records = [] →
      mwNext w ≠ 7 → (coreOf s core).activating = false →
      ∃ t, exec (.nanowordComplete core k flag key sram ops fresh false) s = .next t ∧
        (let y := (coreOf t core).context k
         y.ua = u ∧ y.restart = u ∧ y.stack = st ∧ y.saved = st ∧ y.dist = 0 ∧ y.sram = 0 ∧ y.ops = 0 ∧
         y.waiting = (decide (mwNext w = 6) && !condVal x w flag))) ∧
    (∀ u st p, nwCp n = true → nextUa x w (condVal x w flag) key = some (u, st) → ((coreOf s core).requests k).head? = some p →
      x.records = [] → fresh = [] → ∃ t, exec (.nanowordComplete core k flag key sram ops fresh false) s = .next t ∧
        (let y := (coreOf t core).context k
         y.ua = reqVector p k ∧ y.stack = [] ∧ y.dist = 0 ∧
         y.records = [{ prio := p, restart := x.restart, stack := x.saved, acted := x.acted }])) ∧
    (nextUa x w (condVal x w flag) key = none → ∃ t, exec (.nanowordComplete core k flag key sram ops fresh false) s = .next t ∧
      ((coreOf t core).context k).stalled = true ∧ ((coreOf t core).context k).ua = x.ua ∧
      t.flt.reports = s.flt.reports ++ [{ src := 0x04 * 64 + core.val }])) ∧
  (∀ (core : Fin 64) (k : Fin 8) (flag : Bool) (key : Fin 16) (sram ops : Nat) (fresh : List Nat) (s : State),
    let x := (coreOf s core).context k
    ctxRuns s core x = true → x.waiting = false → x.dist + nwCycles ((coreOf s core).nano x) < 2048 → 4096 < x.sram + sram →
      ∃ t, exec (.nanowordComplete core k flag key sram ops fresh false) s = .next t ∧
        ((coreOf t core).context k).stalled = true ∧ t.flt.reports = s.flt.reports ++ [{ src := 0x05 * 64 + core.val }]) ∧
  (∀ (x : Ctx) (w key : Nat) (c : Bool),
    (mwNext w = 0 → nextUa x w c key = some ((x.ua + 1) % 4096, x.stack)) ∧
    (mwNext w = 1 → nextUa x w c key = some (if c then mwTarget w else (x.ua + 1) % 4096, x.stack)) ∧
    (mwNext w = 2 → nextUa x w c key = some (mwTarget w, x.stack)) ∧
    (mwNext w = 4 → x.stack.length < 8 → nextUa x w c key = some (mwTarget w, (x.ua + 1) % 4096 :: x.stack)) ∧
    (mwNext w = 4 → 8 ≤ x.stack.length → nextUa x w c key = none) ∧ (mwNext w = 5 → x.stack = [] → nextUa x w c key = none) ∧
    (∀ a l, mwNext w = 5 → x.stack = a :: l → nextUa x w c key = some (a, l)) ∧
    (mwNext w = 6 → nextUa x w c key = some (if c then (x.ua + 1) % 4096 else x.ua, x.stack))) ∧
  (∀ (core : Fin 64) (k : Fin 8) (s : State),
    let x := (coreOf s core).context k
    ctxRuns s core x = true → 2048 ≤ x.dist + (coreOf s core).cycles x →
      ∃ t, exec (.commitWatchdog core k) s = .next t ∧ ((coreOf t core).context k).stalled = true ∧
        t.flt.reports = s.flt.reports ++ [{ src := 0x06 * 64 + core.val }] ∧
        rfld t (aCore core 0x8C) 16 16 = satAdd 16 (rfld s (aCore core 0x8C) 16 16) 1) ∧
  (∀ (core : Fin 64) (m : Store) (s : State), s.mcode.next = some m → s.mcode.left.contains core.val = true → isFatal s = false →
    (actGroup s core).all (fun j => (coreOf s j).allParked) = true → ∃ t, exec (.patchActivation core) s = .next t ∧
      (∀ j ∈ actGroup s core, (coreOf t j).store = m ∧ (coreOf t j).activating = false) ∧
      (∀ j, j ∉ actGroup s core → (coreOf t j).store = (coreOf s j).store)) ∧
  (∀ (core : Fin 64) (s : State), polOpen s core = true → isFatal s = false →
    ((coreOf s core).scrubUntil ≤ s.now → ∃ t, exec (.scrub core) s = .next t ∧ (coreOf t core).scrubReq = true ∧
      (coreOf t core).intReq = true ∧ { t with cores := s.cores } = s) ∧
    (s.now < (coreOf s core).scrubUntil → exec (.scrub core) s = .next s) ∧
    (rfld s (aCore core 0x9C) 8 8 ≠ 0 → (coreOf s core).lastScrub + psMs (10 * rfld s (aCore core 0x9C) 8 8) ≤ s.now →
      ∃ t, exec (.scrubPeriod core) s = .next t ∧ (coreOf t core).lastScrub = s.now ∧ { t with cores := s.cores, free := s.free } = s))

/-- O55. A raise is counted and reacts by its class: reported, its polder sealed, or the device stopped. For a raise of a
real source that is not suppressed, in no fatal state. Whatever its class it is counted. CORRECTED seals nothing. CONTAINED
seals the open polder of the source, pending, with the source as its cause, and no other. FATAL latches the source and the
time, wipes every session's keys and drives the fatal pin. A CORRECTED raise of a sealed polder is counted alone: no
capture, no change of cause, nothing written. Two CONTAINED raises of different polders that arrive in one cycle seal both.
The report timer of a source writes what is unreported and starts its interval again. (R424, R425, R426, R429, R430, R431,
R435) -/
def Obligations.FaultsReactByClass : Prop :=
  (∀ (r : Report) (l : List Report) (s : State), s.flt.reports = r :: l → srcReal r.src = true → suppressed s r = false →
    isFatal s = false → ∃ t, exec (.faultRaise []) s = .next t ∧
      tget 0 t.flt.cnt r.src = satAdd 32 (tget 0 s.flt.cnt r.src) 1 ∧ (∀ i, i ≠ r.src → tget 0 t.flt.cnt i = tget 0 s.flt.cnt i) ∧
      (srcClass s r.src = 0 → t.flt.fatal = none ∧ ∀ i, (polder t i).st = (polder s i).st ∧ (polder t i).cause = (polder s i).cause) ∧
      (srcClass s r.src = 1 → srcPolder r.src < 95 → polOpen s (srcPolder r.src) = true → t.flt.fatal = none ∧
        (polder t (srcPolder r.src)).st = .sealed ∧ (polder t (srcPolder r.src)).pending = true ∧
        (polder t (srcPolder r.src)).cause = r.src ∧ ∀ i, i ≠ srcPolder r.src → (polder t i).st = (polder s i).st) ∧
      (srcClass s r.src = 2 → polOpen s (srcPolder r.src) = true → t.flt.fatal = some (r.src, devTime s) ∧
        (∀ e ∈ t.sess, e.2.keys = {}) ∧ t.sec.loaded = false ∧ Out.fatalPin true ∈ t.out) ∧
      (srcClass s r.src = 0 → polOpen s (srcPolder r.src) = false → t.out = s.out ∧ t.qps = s.qps ∧
        rget t 0x4088 = rget s 0x4088 ∧ ∀ i, polder t i = polder s i)) ∧
  (∀ (r q : Report) (s : State), srcReal r.src = true → srcReal q.src = true → r.src < q.src → suppressed s r = false →
    suppressed s q = false → isFatal s = false → srcClass s r.src = 1 → srcClass s q.src = 1 →
    srcPolder r.src < 95 → srcPolder q.src < 95 → srcPolder r.src ≠ srcPolder q.src → polOpen s (srcPolder r.src) = true →
    polOpen s (srcPolder q.src) = true → ∃ t, exec (.faultRaise [q, r]) s = .next t ∧
      (polder t (srcPolder r.src)).st = .sealed ∧ (polder t (srcPolder r.src)).cause = r.src ∧
      (polder t (srcPolder q.src)).st = .sealed ∧ (polder t (srcPolder q.src)).cause = q.src ∧
      ∀ i, i ≠ srcPolder r.src → i ≠ srcPolder q.src → (polder t i).st = (polder s i).st) ∧
  (∀ (src : Fin 4096) (s : State), tget 0 s.flt.unrep src ≠ 0 → tget 0 s.flt.lastRep src ≠ 0 → isFatal s = false →
    (s.now < tget 0 s.flt.lastRep src - 1 + psMs (rfld s 0x4080 8 10) → exec (.faultReportTimer src) s = .next s) ∧
    (tget 0 s.flt.lastRep src - 1 + psMs (rfld s 0x4080 8 10) ≤ s.now → ∃ t, exec (.faultReportTimer src) s = .next t ∧
      tget 0 t.flt.unrep src = 0 ∧ tget 0 t.flt.lastRep src = s.now + 1 ∧ t.flt.polders = s.flt.polders))

/-- O56. A polder is re-admitted by its states, and a page arms, fires and disarms injection, and locks. A self-test that
passes takes TESTING to QUIESCING; one that fails takes it back to SEALED with TEST_FAIL, and a memory controller that fails
training takes it to OUT. The quiescent boundary opens the polder. H re-admits itself after 10 ms where FLT_CFG allows.
Arming keeps the source, counts and records it; firing raises the armed source once, marked as injected, and disarms; a
source of another page is not armed. A lock sets PG_CTRL.LOCK. A page whose polder is not open takes none of these writes.
(R437, R440, R441, R443, R445, R446, R495, R499) -/
def Obligations.ReadmissionInjectionAndLock : Prop :=
  (∀ (i : Fin 95) (slow : Bool) (seam : List (Fin 4)) (s : State), (polder s i).st = .testing → isFatal s = false →
    (∃ t, exec (.selfTestDone i none slow seam) s = .next t ∧ (polder t i).st = .quiescing ∧
      ∀ j, j ≠ i.val → polder t j = polder s j) ∧
    (∀ k : Fin 3, (k.val = 1 ∧ 72 ≤ i.val ∧ i.val < 88 → ∃ t, exec (.selfTestDone i (some k) slow seam) s = .next t ∧
        (polder t i).st = .out ∧ (mcOf t (i.val - 72)).st = .out ∧ (mcOf t (i.val - 72)).inService = false) ∧
      (¬(k.val = 1 ∧ 72 ≤ i.val ∧ i.val < 88) → ∃ t, exec (.selfTestDone i (some k) slow seam) s = .next t ∧
        (polder t i).st = .sealed ∧ (polder t i).testFail = true ∧ ∀ j, j ≠ i.val → polder t j = polder s j))) ∧
  (∀ (i : Fin 95) (slow : Bool) (fail : Option (Fin 3)) (seam : List (Fin 4)) (s : State), (polder s i).st ≠ .testing →
    exec (.selfTestDone i fail slow seam) s = .next s) ∧
  (∀ (i : Fin 95) (s : State),
    ((polder s i).st = .quiescing → isFatal s = false → ∃ t, exec (.quiescentBoundary i) s = .next t ∧ (polder t i).st = .opened ∧
      ∀ j, j ≠ i.val → (polder t j).st = (polder s j).st) ∧
    ((polder s i).st ≠ .quiescing → exec (.quiescentBoundary i) s = .next s)) ∧
  (∀ s : State, (polder s 88).st = .sealed → rfld s 0x4080 1 1 = 1 → (polder s 88).sealedAt + psMs 10 ≤ s.now → isFatal s = false →
    ∃ t, exec .hAutoReadmit s = .next t ∧ (polder t 88).st = .testing ∧ (polder t 88).pending = false ∧ { t with flt := s.flt } = s) ∧
  (∀ (page : Nat) (p : Page) (v : W32) (s : State), pageNum page = some p → pageTakes s p = true →
    (srcReal (bitsOf v.toNat 0 12) = true → srcPage (bitsOf v.toNat 0 12) = p → ∃ t, exec (.injectionArm page v) s = .next t ∧
      rfld t (p.at 0x20) 0 12 = bitsOf v.toNat 0 12 ∧ rfld t (p.at 0x20) 12 1 = 1 ∧
      t.sec.injCount = satAdd 32 s.sec.injCount 1 ∧ t.sec.injLast = bitsOf v.toNat 0 12 ∧
      { t with regs := s.regs, sec := s.sec } = s) ∧
    (bitAt v.toNat 12 = false → ∃ t, exec (.injectionDisarm page v) s = .next t ∧ rfld t (p.at 0x20) 12 1 = 0 ∧
      t.sec = s.sec ∧ { t with regs := s.regs } = s) ∧
    (∃ t, exec (.pageLock page) s = .next t ∧ bitAt (rget t (p.at 0x10)) 31 = true ∧ { t with regs := s.regs } = s)) ∧
  (∀ (page : Nat) (p : Page) (v : W32) (s : State), pageNum page = some p → pageTakes s p = false →
    exec (.injectionArm page v) s = .next s ∧ exec (.injectionDisarm page v) s = .next s ∧ exec (.pageLock page) s = .next s) ∧
  (∀ (page : Nat) (p : Page) (s : State), pageNum page = some p → isFatal s = false →
    (rfld s (p.at 0x20) 12 1 = 1 → ∃ t, exec (.injectionFire page) s = .next t ∧ rfld t (p.at 0x20) 12 1 = 0 ∧
      t.flt.reports = s.flt.reports ++ [{ src := rfld s (p.at 0x20) 0 12, inj := true }]) ∧
    (rfld s (p.at 0x20) 12 1 = 0 → exec (.injectionFire page) s = .next s))

/-- O57. The derailleur, AVS, droop and thermal control of a peloton act as R457 to R469 say. A slower target gear takes
effect at the evaluation, and a faster one waits until its entry voltage and the slack are reached. g_need covers the
admitted load and no slower gear does; the running gear is the slower of it, or of GEAR_SET, and g_cap. AVS moves the code
by one by the slack, never below the entry code of the running gear. A droop counts and stretches; when stretching covers
more than 2 µs of the last 10 and DROOP_ACT is 1 the droop cap is set one step slower than the running gear, and caps are
released 1 ms after the last trigger or release; a cap moves no gear until the next evaluation. A reading at or above
THROTTLE sets the thermal cap, and one at or above 115 °C raises. A supply excursion raises. A committed gear that the grade
offers is taken when it is faster, or when the load fits, and ignored otherwise. (R456, R457, R458, R459, R461, R462, R464,
R465, R466, R467, R469) -/
def Obligations.PowerControlSetsGearsAndVoltage : Prop :=
  (∀ s : State, ∃ t, exec .derailleurEval s = .next t ∧ ∀ p < 8,
    ((gearOf s p).run ≤ gearTarget s p → (gearOf t p).run = gearTarget s p ∧ (gearOf t p).pendingUp = none) ∧
    (gearTarget s p < (gearOf s p).run → (gearOf t p).run = (gearOf s p).run ∧ (gearOf t p).pendingUp = some (gearTarget s p))) ∧
  (∀ (s : State) (p : Nat), (gNeed s p = commitOf s p ∨ (commitOf s p < gNeed s p ∧ coversAt s p (gNeed s p) = true)) ∧
    (∀ g, 2 ≤ g → g ≤ 5 → gNeed s p < g → commitOf s p < g → coversAt s p g = false) ∧
    (bitAt (rget s (aPelCtrl p)) 3 = false → bitAt (rget s (aPelCtrl p)) 7 = false →
      gearTarget s p = max (gNeed s p) (gCap s p)) ∧
    (bitAt (rget s (aPelCtrl p)) 3 = true → bitAt (rget s (aPelCtrl p)) 7 = false →
      gearTarget s p = max (bitsOf (rget s (aPelCtrl p)) 4 3) (gCap s p))) ∧
  (∀ (p : Fin 8) (s : State) (g : Nat), (gearOf s p).pendingUp = some g →
    (entryCode g ≤ (gearOf s p).vCode → 2 ≤ (gearOf s p).slack → ∃ t, exec (.gearUp p) s = .next t ∧ (gearOf t p).run = g ∧
      (gearOf t p).pendingUp = none ∧ { t with gears := s.gears, regs := s.regs } = s) ∧
    (((gearOf s p).vCode < entryCode g ∨ (gearOf s p).slack < 2) → exec (.gearUp p) s = .next s)) ∧
  (∀ (p : Fin 8) (slack : Nat) (s : State), ∃ t, exec (.avsUpdate p slack) s = .next t ∧ (gearOf t p).slack = min slack 255 ∧
    (bitAt (rget s (aPelCtrl p)) 7 = true → (gearOf t p).vCode = bitsOf (rget s (aPelCtrl p)) 8 8) ∧
    (bitAt (rget s (aPelCtrl p)) 7 = false → (gearOf s p).pendingUp = none → entryCode (gearOf s p).run ≤ (gearOf s p).vCode →
      (gearOf s p).vCode ≤ 60 →
      (slack < 2 → (gearOf t p).vCode = min 60 ((gearOf s p).vCode + 1)) ∧
      (2 ≤ slack → slack ≤ 6 → (gearOf t p).vCode = (gearOf s p).vCode) ∧
      (6 < slack → (gearOf t p).vCode = max (entryCode (gearOf s p).run) ((gearOf s p).vCode - 1)))) ∧
  (∀ (p : Fin 8) (s : State),
    ((gearOf s p).stretchFrom = none → ∃ t, exec (.droopOnset p) s = .next t ∧ (gearOf t p).stretchFrom = some s.now ∧
      rfld t (aPelCnt p) 0 32 = satAdd 32 (rfld s (aPelCnt p) 0 32) 1 ∧ { t with gears := s.gears, regs := s.regs } = s) ∧
    (∀ x, (gearOf s p).stretchFrom = some x → ∃ t, exec (.droopEnd p) s = .next t ∧ (gearOf t p).stretchFrom = none ∧
      let long := decide (((((x, s.now) :: (gearOf s p).spans).filter (fun e => decide (e.2 + psUs 10 > s.now))).map
        (inWindow s.now)).sum > psUs 2)
      (long = true → rfld s 0x2080 24 1 = 1 → (gearOf t p).droop = some (gearSlower (gearOf s p).run)) ∧
      ((long = false ∨ rfld s 0x2080 24 1 = 0) → (gearOf t p).droop = (gearOf s p).droop ∧ (gearOf t p).run = (gearOf s p).run)) ∧
    ((gearOf s p).droop ≠ none → (gearOf s p).drLast + psMs 1 ≤ s.now → ∃ t, exec (.capRelease p false) s = .next t ∧
      (gearOf t p).droop = capFaster s p (gearOf s p).droop ∧ (gearOf t p).drLast = s.now) ∧
    ((gearOf s p).headroom ≠ none → (gearOf s p).hrLast + psMs 1 ≤ s.now → ∃ t, exec (.capRelease p true) s = .next t ∧
      (gearOf t p).headroom = capFaster s p (gearOf s p).headroom ∧ (gearOf t p).hrLast = s.now) ∧
    (s.now < (gearOf s p).drLast + psMs 1 → exec (.capRelease p false) s = .next s) ∧
    exec (.supplyExcursion p) s = .next (raise 0x15 p s)) ∧
  (∀ (p : Fin 8) (temps : List Nat) (s : State), ∃ t, exec (.thermalSample p temps) s = .next t ∧ (gearOf t p).temps = temps ∧
    (rfld s 0x2080 0 8 ≤ temps.foldl max 0 → (gearOf s p).thermal = none →
      (gearOf t p).thermal = some (gearSlower (gearOf s p).run)) ∧
    (temps.foldl max 0 < rfld s 0x2080 0 8 → (gearOf s p).thermal = none → (gearOf t p).thermal = none) ∧
    (gearOf t p).run = (gearOf s p).run ∧
    (115 ≤ temps.foldl max 0 → t.flt.reports = s.flt.reports ++ [{ src := 0x16 * 64 + p.val }]) ∧
    (temps.foldl max 0 < 115 → t.flt = s.flt)) ∧
  (∀ (p code : Fin 8) (s : State), isFatal s = false →
    (gearOffered s code = true → (code.val ≤ commitOf s p ∨ coversAt s p code = true) →
      ∃ t, exec (.commitGearWrite p code) s = .next t ∧ commitOf t p = code.val ∧ (∀ q < 8, q ≠ p.val → commitOf t q = commitOf s q)) ∧
    ((gearOffered s code = false ∨ (commitOf s p < code.val ∧ coversAt s p code = false)) →
      exec (.commitGearWrite p code) s = .next s))

/-- O58. Power, PERST#, the clocks and a warm reset take the block where R454, R474, R475 and R505 say, and JTAG selects its
registers. The rise of power leaves the block in reset with the clock at 0. PERST# held for 10 µs clears sessions, queues,
buffers and mailboxes and keeps the fatal state. Start-up deasserts it: with the SEC firmware not accepted it stops at step
2 in recovery, with the management firmware not accepted at step 4, with fewer than two controllers trained at step 6; else
it ends at step 8 with READY. A warm reset is accepted from the PF or SEC with its key, counted, and stops fetch and
transmission. Loss of the root PLL's lock outside reset raises DEVICE_FATAL, and it locks again only under PERST#. IDCODE,
BYPASS, SAMPLE and EXTEST select registers of 32, 1, 66 and 66 bits; a locked instruction acts as BYPASS. (R294, R384, R444,
R453, R454, R474, R475, R477, R505, R539, R542) -/
def Obligations.ResetsStartUpAndJtag : Prop :=
  (∀ (part : Part) (s : State), s.boot.rails = false → ∃ t, exec (.powerOn part) s = .next t ∧ t.boot.perst = true ∧
    t.boot.rails = true ∧ t.boot.rootLock = true ∧ t.boot.ready = false ∧ t.clk = 0 ∧ t.flt.fatal = none ∧ t.sess = [] ∧
    t.qps = [(0, {})] ∧ t.bufm = [] ∧ t.dram = [] ∧ t.regs = [] ∧ t.board.known = true ∧
    (s.board.known = true → t.board = s.board)) ∧
  (∀ (ns : Nat) (acts : Bool) (s : State), s.boot.perst = false → s.boot.rails = true →
    (10000 ≤ ns → ∃ t, exec (.perstAssert ns acts) s = .next t ∧ t.boot.perst = true ∧ t.boot.ready = false ∧ t.sess = [] ∧
      t.qps = [(0, {})] ∧ t.slots = [] ∧ t.mbx = [] ∧ t.bpm = {} ∧ t.bufm = [] ∧ t.flt.fatal = s.flt.fatal ∧ t.clk = s.clk ∧
      t.nvs.a = s.nvs.a ∧ t.nvs.b = s.nvs.b ∧ rfld t 0x3088 0 16 = satAdd 16 (rfld s 0x3088 0 16) 1) ∧
    (ns < 1000 → exec (.perstAssert ns acts) s = .next s)) ∧
  (∀ (straps : Byte) (train : List TrainRes) (fails : List (Fin 32)) (s : State), s.boot.perst = true → s.boot.rails = true →
    s.boot.rootLock = true → ∃ t, exec (.startUp straps train fails) s = .next t ∧ t.boot.perst = false ∧
      t.boot.straps = straps.toNat ∧ t.flt.fatal = s.flt.fatal ∧
      (s.flt.fatal ≠ none → t.boot.ready = false ∧ t.boot.stopStep = 1 ∧ t.boot.recovery = false) ∧
      (t.boot.ready = true → t.boot.step = 8 ∧ (tget ({} : Img) t.sec.images 0).good = true ∧
        (tget ({} : Img) t.sec.images 1).good = true ∧ 2 ≤ ((List.range 16).filter (fun n => (mcOf t n).inService)).length) ∧
      (t.boot.ready = false → t.boot.stopStep ∈ [1, 2, 4, 6] ∧ (t.boot.recovery = true ↔ t.boot.stopStep = 2 ∨ t.boot.stopStep = 4))) ∧
  (∀ (req : Req) (v : W32) (s : State),
    (v.toNat % 2 ^ 9 = 0x1C3 → s.boot.warm = false → s.boot.perst = false → isFatal s = false → (req = .fn 0 ∨ req = .sec) →
      ∃ t, exec (.warmReset req v) s = .next t ∧ t.boot.warm = true ∧ t.boot.fetchStop = true ∧ t.net.tx = [] ∧
        t.boot.cause = (if req = .sec then 3 else 2) ∧ rfld t 0x3088 16 16 = satAdd 16 (rfld s 0x3088 16 16) 1 ∧
        { t with boot := s.boot, net := s.net, regs := s.regs } = s) ∧
    ((v.toNat % 2 ^ 9 ≠ 0x1C3 ∨ (req ≠ .fn 0 ∧ req ≠ .sec)) → exec (.warmReset req v) s = .next s)) ∧
  (∀ (ref : Bool) (s : State), s.boot.rootLock = true → ∃ t, exec (.refclkLoss ref) s = .next t ∧ t.boot.rootLock = false ∧
    t.clk = s.clk ∧ (s.boot.perst = false → t.flt.reports = s.flt.reports ++ [{ src := 0x3F * 64 + 2 }]) ∧
    (s.boot.perst = true → t.flt = s.flt)) ∧
  (∀ s : State, s.boot.rails = true → s.boot.rootLock = false →
    (s.boot.perst = true → ∃ t, exec .rootPllRelock s = .next t ∧ t.boot.rootLock = true ∧
      (s.boot.everLocked = true → t.clk = s.clk) ∧ { t with boot := s.boot, clk := s.clk } = s) ∧
    (s.boot.perst = false → exec .rootPllRelock s = .next s)) ∧
  (∀ s : State, s.boot.rails = true →
    (s.boot.perst = true → ∃ t, exec .powerRemoval s = .next t ∧ t.boot.rails = false ∧ t.boot.aon = false ∧ t.sess = [] ∧
      t.flt.fatal = none ∧ t.sec.injCount = 0 ∧ t.board = s.board ∧ t.sec.lcBurnt = s.sec.lcBurnt) ∧
    (s.boot.perst = false → ∃ t, exec .powerRemoval s = .next t ∧ t.flt.reports = s.flt.reports ++ [{ src := 0x3F * 64 + 6 }])) ∧
  (∀ (pins : BitVec 66) (s : State), s.boot.aon = true →
    exec (.jtagInstruction .idcode pins) s = .next (emit (.jtag 0 32 0x16440B3F) { s with jtagIr := 0 }) ∧
    exec (.jtagInstruction .bypass pins) s = .next (emit (.jtag 1 1 0) { s with jtagIr := 1 }) ∧
    (∃ v, exec (.jtagInstruction .sample pins) s = .next (emit (.jtag 2 66 v) { s with jtagIr := 2 })) ∧
    ((s.boot.perst = true ∨ s.sec.dbgLevel = 2) →
      ∃ v, exec (.jtagInstruction .extest pins) s = .next (emit (.jtag 3 66 v) { s with jtagIr := 3 })) ∧
    (∀ c, s.sec.lc ≠ 0 → s.sec.dbgLevel ≠ 2 →
      exec (.jtagInstruction (.other c) pins) s = .next (emit (.jtag 1 1 0) { s with jtagIr := 1 })))

/-- O59. The NVS sequence starts a store only on both keys, and a store changes only the bank not in use. KEY 0x5A arms an
operation. The second write with the same operation within 1 ms starts a store, into the bank that is not in use, of the
registers and training records named; another operation, or a later write, abandons the sequence with a sequence error;
while a store runs it is refused. Without a second write within 1 ms the sequence is abandoned. The end of a write that
reads back leaves the new image valid in its bank, a generation later; one that does not leaves that bank invalid and raises
NVS's source. Requesters other than the PF and the management cores change nothing. (R478, R479, R480, R481, R482, R483,
R487) -/
def Obligations.SettingsStoreKeepsAValidBank : Prop :=
  (∀ (req : Req) (op : Fin 4) (s : State), nvsFrom s req = true → s.nvs.seq = none → op ≠ 0 →
    exec (.nvsCmdArm req op) s = .next { s with nvs := { s.nvs with seq := some (op.val, s.now) } }) ∧
  (∀ (req : Req) (op : Fin 4) (s : State), nvsFrom s req = false → exec (.nvsCmdArm req op) s = .next s ∧
    exec (.nvsStoreTrainLive req) s = .next s ∧ exec (.nvsStoreTrainStored req) s = .next s ∧ exec (.nvsClear req) s = .next s) ∧
  (∀ (req : Req) (s : State) (x : Nat), nvsFrom s req = true → s.now ≤ x + psMs 1 →
    let started := fun (t : State) (live clear : Bool) => t.nvs.seq = none ∧ (∃ w, t.nvs.write = some w ∧
        w.toB = (s.nvs.defaults || !s.nvs.inUseB) ∧ w.cmd = true ∧ w.image = capture s live clear ∧ w.slot = none) ∧
      t.nvs.a = s.nvs.a ∧ t.nvs.b = s.nvs.b ∧ { t with nvs := s.nvs } = s
    (s.nvs.seq = some (1, x) → s.nvs.write = none → ∃ t, exec (.nvsStoreTrainLive req) s = .next t ∧ started t true false) ∧
    (s.nvs.seq = some (2, x) → s.nvs.write = none → ∃ t, exec (.nvsStoreTrainStored req) s = .next t ∧ started t false false) ∧
    (s.nvs.seq = some (3, x) → s.nvs.write = none → ∃ t, exec (.nvsClear req) s = .next t ∧ started t false true ∧
      ∃ w, t.nvs.write = some w ∧ w.image.regs = [] ∧ w.image.train = [] ∧ w.image.valid = true) ∧
    (s.nvs.seq = some (2, x) → ∃ t, exec (.nvsClear req) s = .next t ∧ t.nvs.seq = none ∧ t.nvs.write = s.nvs.write ∧
      { t with nvs := s.nvs, regs := s.regs } = s) ∧
    (s.nvs.seq = some (1, x) → s.nvs.write.isSome = true → ∃ t, exec (.nvsStoreTrainLive req) s = .next t ∧
      t.nvs.write = s.nvs.write ∧ t.nvs.seq = none ∧ { t with nvs := s.nvs, regs := s.regs } = s)) ∧
  (∀ (s : State) (op x : Nat), s.nvs.seq = some (op, x) →
    (x + psMs 1 ≤ s.now → ∃ t, exec .nvsCmdTimeout s = .next t ∧ t.nvs.seq = none ∧ { t with nvs := s.nvs, regs := s.regs } = s) ∧
    (s.now < x + psMs 1 → exec .nvsCmdTimeout s = .next s)) ∧
  (∀ (s : State) (w : NvsWrite), s.nvs.write = some w →
    ∃ t, exec (.nvsWriteDone true) s = .next t ∧ t.nvs.write = none ∧ (w.toB = true → t.nvs.b = w.image ∧ t.nvs.a = s.nvs.a) ∧
      (w.toB = false → t.nvs.a = w.image ∧ t.nvs.b = s.nvs.b) ∧ t.flt.reports = s.flt.reports) ∧
  (∀ (s : State) (w : NvsWrite), s.nvs.write = some w →
    ∃ t, exec (.nvsWriteDone false) s = .next t ∧ t.nvs.write = none ∧ (w.toB = true → t.nvs.b.valid = false ∧ t.nvs.a = s.nvs.a) ∧
      (w.toB = false → t.nvs.a.valid = false ∧ t.nvs.b = s.nvs.b) ∧ { src := 0x3C * 64 } ∈ t.flt.reports) ∧
  (∀ (s : State) (live clear : Bool), (capture s live clear).valid = true ∧
    ∀ b, newerBank s.nvs = some b → (capture s live clear).gen = ((if b then s.nvs.b.gen else s.nvs.a.gen) + 1) % 2 ^ 32)

/-- O60. Register reads and writes go by size, page, polder and field, and every register reads its reset value after reset.
An access that is not 4 or 8 bytes, naturally aligned, has no effect but a count and reads 0; an unmapped offset reads 0 and
is counted for the host. A block register of a sealed page reads 0 and takes no write. A 32-bit write of PWR_CFG changes its
fields, and none outside its range. A 4-byte write to the low half of a 64-bit register is held until the high half is
written. A read of DEV_ACC_ERR gives its counts and clears them. After reset every register holds the reset value that its
page gives. A port without BAR0 answers Unsupported Request; reads and writes before PERST# is deasserted have no effect.
(R11, R12, R214, R451, R486, R491, R492, R493, R497, R498, R507) -/
def Obligations.RegisterAccessesReachTheirRegister : Prop :=
  (∀ (rid : W16) (auth : Bool) (addr len : Nat) (v : W64) (s : State), reqLive s (.fn 0) = true → isFatal s = false →
    (sized addr len = false → (∀ f o, pfTarget true addr ≠ .door f o) →
      exec (.registerWrite (.fn 0) rid auth addr len v) s = .next (rcnt 0x98 0 16 1 s) ∧
      exec (.registerRead (.fn 0) false addr len) s = .next (emit (.readData 0) (rcnt 0x98 0 16 1 s))) ∧
    (sized addr len = true → pfTarget true addr = .none →
      exec (.registerWrite (.fn 0) rid auth addr len v) s = .next (rcnt 0x98 16 16 1 s) ∧
      exec (.registerRead (.fn 0) false addr len) s = .next (emit (.readData 0) (rcnt 0x98 16 16 1 s)))) ∧
  (∀ (rid : W16) (auth : Bool) (p : Page) (off : Nat) (v : W64) (s : State), reqLive s (.fn 0) = true → isFatal s = false →
    pfTarget true (p.base + off) = .page p off → polOpen s p.polder = false → 0x80 ≤ off → off % 4 = 0 → (p.base + off) % 4 = 0 →
    ∀ r k, p.ty.reg off = some (r, k) → 0x80 ≤ r.off → r.wide = false →
      (∃ t, exec (.registerWrite (.fn 0) rid auth (p.base + off) 4 v) s = .next t ∧ { t with halves := s.halves } = s) ∧
      ∃ t, exec (.registerRead (.fn 0) false (p.base + off) 4) s = .next t ∧ t.out = .readData 0 :: s.out ∧
        { t with halves := s.halves, out := s.out } = s) ∧
  (∀ (rid : W16) (auth : Bool) (v : W64) (s : State), reqLive s (.fn 0) = true → isFatal s = false → polOpen s 94 = true →
    (∃ t, exec (.registerWrite (.fn 0) rid auth 0x20088 4 v) s = .next t ∧ t.regs = s.regs ∧
      (halfOf t (.fn 0)).held = some (0x20088, v.toNat % 2 ^ 32)) ∧
    (∃ t, exec (.registerRead (.fn 0) false 0x98 4) s = .next t ∧ t.out.head? = some (.readData (rget s 0x98 % 2 ^ 32)) ∧
      rget t 0x98 % 2 ^ 32 = 0)) ∧
  (∀ (rid : W16) (auth : Bool) (v : W64) (s : State), reqLive s (.fn 0) = true → isFatal s = false → polOpen s 94 = true →
    ∃ t, exec (.registerWrite (.fn 0) rid auth 0x2080 4 v) s = .next t ∧ { t with regs := s.regs, halves := s.halves } = s ∧
      bitAt (rget t 0x2080) 24 = bitAt v.toNat 24 ∧
      (85 ≤ bitsOf v.toNat 0 8 → bitsOf v.toNat 0 8 ≤ 110 → rfld t 0x2080 0 8 = bitsOf v.toNat 0 8) ∧
      ((bitsOf v.toNat 0 8 < 85 ∨ 110 < bitsOf v.toNat 0 8) → rfld t 0x2080 0 8 = rfld s 0x2080 0 8) ∧
      ∀ a, a ≠ 0x2080 → rget t a = rget s a) ∧
  (∀ (p : Fin 2) (rid : W16) (auth : Bool) (addr len : Nat) (v : W64) (s : State), reqLive s (.peer p) = true → isFatal s = false →
    exec (.registerWrite (.peer p) rid auth addr len v) s = .next (emit (.unsupported (1 + p.val)) s) ∧
    exec (.registerRead (.peer p) false addr len) s = .next (emit (.unsupported (1 + p.val)) s) ∧
    exec (.registerRead (.peer p) true addr len) s = .next (emit (.readData (bar2Read s addr len)) s)) ∧
  (∀ (req : Req) (rid : W16) (auth bar2 : Bool) (addr len : Nat) (v : W64) (s : State), s.boot.perst = true →
    exec (.registerWrite req rid auth addr len v) s = .next s ∧ exec (.registerRead req bar2 addr len) s = .next s) ∧
  (∀ a, rget State.reset a = resetAt a) ∧ State.reset.boot.perst = true ∧ State.reset.boot.ready = false ∧
  rget State.reset 0x5009C = 0x6400 ∧ rget State.reset 0x21000 = 0 ∧ State.reset.jtagIr = 0 ∧ State.reset.sess = []
end

