-- ==== Sys2Proof/Laws/Tables.lean ====
section
/-! SUPPORT. Laws of tables: what a read gives after each operation, for every table, and that the operations keep a table whose
keys rise. -/

namespace Sys2Proof

variable {α : Type}

theorem tfind_tput_same (t : Tab α) (i : Nat) (v : α) : tfind (tput t i v) i = some v := by
  induction t with
  | nil => simp [tput, tfind]
  | cons p t ih =>
    obtain ⟨k, w⟩ := p
    unfold tput
    split
    · simp [tfind]
    · split
      · simp [tfind]
      · rename_i h1 h2; simp [tfind, ih, Ne.symm h2]

theorem tfind_tput_other (t : Tab α) (i j : Nat) (v : α) (hij : j ≠ i) : tfind (tput t i v) j = tfind t j := by
  induction t with
  | nil => simp [tput, tfind, Ne.symm hij]
  | cons p t ih =>
    obtain ⟨k, w⟩ := p
    unfold tput
    split
    · simp [tfind, Ne.symm hij]
    · split
      · rename_i h; subst h; simp [tfind, Ne.symm hij]
      · simp [tfind, ih]

theorem tfind_tput (t : Tab α) (i j : Nat) (v : α) : tfind (tput t i v) j = if j = i then some v else tfind t j := by
  split
  · rename_i h; subst h; exact tfind_tput_same t j v
  · rename_i h; exact tfind_tput_other t i j v h

theorem tfind_terase (t : Tab α) (i j : Nat) : tfind (terase t i) j = if j = i then none else tfind t j := by
  induction t with
  | nil => simp [terase, tfind]
  | cons p t ih =>
    obtain ⟨k, w⟩ := p
    unfold terase
    by_cases hk : k = i
    · rw [if_pos hk, ih]
      by_cases hj : j = i
      · simp [hj]
      · simp [hj, tfind, hk, Ne.symm hj]
    · rw [if_neg hk]
      by_cases hj : j = i
      · subst hj; simp [tfind, hk, ih]
      · simp [tfind, ih, hj]

/-- A read with a default is the listed value, or the default. -/
theorem tget_eq (d : α) (t : Tab α) (i : Nat) : tget d t i = (tfind t i).getD d := by
  induction t with
  | nil => rfl
  | cons p t ih =>
    obtain ⟨k, w⟩ := p
    unfold tget tfind
    split
    · rfl
    · exact ih

theorem tget_tput (d : α) (t : Tab α) (i j : Nat) (v : α) : tget d (tput t i v) j = if j = i then v else tget d t j := by
  rw [tget_eq, tfind_tput, tget_eq]; split <;> rfl

theorem tget_terase (d : α) (t : Tab α) (i j : Nat) : tget d (terase t i) j = if j = i then d else tget d t j := by
  rw [tget_eq, tfind_terase, tget_eq]; split <;> rfl

theorem tget_tset [DecidableEq α] (d : α) (t : Tab α) (i j : Nat) (v : α) :
    tget d (tset d t i v) j = if j = i then v else tget d t j := by
  unfold tset
  split
  · rename_i h; rw [tget_terase, h]
  · exact tget_tput d t i j v

theorem tget_tmod [DecidableEq α] (d : α) (t : Tab α) (i j : Nat) (f : α → α) :
    tget d (tmod d t i f) j = if j = i then f (tget d t j) else tget d t j := by
  unfold tmod
  rw [tget_tset]
  split
  · rename_i h; rw [h]
  · rfl

@[simp] theorem tget_tmod_same [DecidableEq α] (d : α) (t : Tab α) (i : Nat) (f : α → α) :
    tget d (tmod d t i f) i = f (tget d t i) := by rw [tget_tmod, if_pos rfl]

theorem tget_tmod_other [DecidableEq α] (d : α) (t : Tab α) (i j : Nat) (f : α → α) (h : j ≠ i) :
    tget d (tmod d t i f) j = tget d t j := by rw [tget_tmod, if_neg h]

theorem tput_tput (t : Tab α) (i : Nat) (v w : α) : tput (tput t i v) i w = tput t i w := by
  induction t with
  | nil => simp [tput]
  | cons p t ih =>
    obtain ⟨k, x⟩ := p
    unfold tput
    by_cases h1 : i < k
    · simp [h1, tput]
    · by_cases h2 : i = k
      · simp [h2, tput]
      · simp [h1, h2, tput, ih]

theorem terase_tput (t : Tab α) (i : Nat) (v : α) : terase (tput t i v) i = terase t i := by
  induction t with
  | nil => simp [tput, terase]
  | cons p t ih =>
    obtain ⟨k, x⟩ := p
    unfold tput
    by_cases h1 : i < k
    · simp [h1, terase]
    · by_cases h2 : i = k
      · simp [h2, terase]
      · simp [h1, h2, terase, Ne.symm h2, ih]

/-! Tables whose keys rise. -/

theorem tsortedFrom_le {lo lo' : Nat} (h : lo' ≤ lo) : ∀ {t : Tab α}, tsortedFrom lo t = true → tsortedFrom lo' t = true
  | [], _ => rfl
  | (k, w) :: t, h1 => by
    simp only [tsortedFrom, Bool.and_eq_true, decide_eq_true_eq] at h1 ⊢
    exact ⟨by omega, h1.2⟩

theorem tsortedFrom_tput : ∀ (t : Tab α) (lo i : Nat) (v : α), lo ≤ i → tsortedFrom lo t = true →
    tsortedFrom lo (tput t i v) = true
  | [], lo, i, v, hi, _ => by simp [tput, tsortedFrom, hi]
  | (k, w) :: t, lo, i, v, hi, h => by
    simp only [tsortedFrom, Bool.and_eq_true, decide_eq_true_eq] at h
    unfold tput
    split
    · rename_i hk; simp [tsortedFrom, hi, h.2]; omega
    · split
      · rename_i hk; subst hk; simp [tsortedFrom, hi, h.2]
      · simp only [tsortedFrom, Bool.and_eq_true, decide_eq_true_eq]
        exact ⟨h.1, tsortedFrom_tput t (k + 1) i v (by omega) h.2⟩

theorem tsortedFrom_filter (p : Nat × α → Bool) : ∀ (t : Tab α) (lo : Nat), tsortedFrom lo t = true →
    tsortedFrom lo (t.filter p) = true
  | [], _, _ => rfl
  | (k, w) :: t, lo, h => by
    simp only [tsortedFrom, Bool.and_eq_true, decide_eq_true_eq] at h
    have ih := tsortedFrom_filter p t (k + 1) h.2
    rw [List.filter_cons]
    split
    · simp only [tsortedFrom, Bool.and_eq_true, decide_eq_true_eq]; exact ⟨h.1, ih⟩
    · exact tsortedFrom_le (by omega) ih

theorem tsortedFrom_tputs : ∀ (l : List α) (t : Tab α) (i : Nat), tsortedFrom 0 t = true → tsortedFrom 0 (tputs t i l) = true
  | [], _, _, h => h
  | v :: l, t, i, h => tsortedFrom_tputs l (tput t i v) (i + 1) (tsortedFrom_tput t 0 i v (Nat.zero_le _) h)

/-- What a run of consecutive keys leaves at a key. -/
theorem tfind_tputs : ∀ (l : List α) (t : Tab α) (i a : Nat),
    tfind (tputs t i l) a = if i ≤ a ∧ a < i + l.length then l[a - i]? else tfind t a
  | [], t, i, a => by rw [if_neg (by simp only [List.length_nil]; omega)]; rfl
  | v :: l, t, i, a => by
    unfold tputs
    rw [tfind_tputs l (tput t i v) (i + 1) a]
    by_cases h1 : i + 1 ≤ a ∧ a < i + 1 + l.length
    · have h2 : i ≤ a ∧ a < i + (v :: l).length := by simp; omega
      rw [if_pos h1, if_pos h2]
      have : a - i = (a - (i + 1)) + 1 := by omega
      rw [this, List.getElem?_cons_succ]
    · rw [if_neg h1, tfind_tput]
      by_cases h3 : a = i
      · subst h3; simp
      · have h2 : ¬ (i ≤ a ∧ a < i + (v :: l).length) := by simp; omega
        rw [if_neg h3, if_neg h2]

end Sys2Proof
end

