-- ==== Sys2Proof/Laws/State.lean ====
section
/-! SUPPORT. What each update of the state leaves as it was, one lemma per field and update, and what it gives in its own
field. -/

namespace Sys2Proof.Machine

variable (s : State)

/-! ### Fields an update does not change -/


@[simp] theorem rset_pending (a v : Nat) : (rset a v s).pending = s.pending := rfl
@[simp] theorem rset_board (a v : Nat) : (rset a v s).board = s.board := rfl
@[simp] theorem rset_boot (a v : Nat) : (rset a v s).boot = s.boot := rfl
@[simp] theorem rset_now (a v : Nat) : (rset a v s).now = s.now := rfl
@[simp] theorem rset_clk (a v : Nat) : (rset a v s).clk = s.clk := rfl
@[simp] theorem rset_adj (a v : Nat) : (rset a v s).adj = s.adj := rfl
@[simp] theorem rset_halves (a v : Nat) : (rset a v s).halves = s.halves := rfl
@[simp] theorem rset_funs (a v : Nat) : (rset a v s).funs = s.funs := rfl
@[simp] theorem rset_ports (a v : Nat) : (rset a v s).ports = s.ports := rfl
@[simp] theorem rset_qps (a v : Nat) : (rset a v s).qps = s.qps := rfl
@[simp] theorem rset_slots (a v : Nat) : (rset a v s).slots = s.slots := rfl
@[simp] theorem rset_fetchOrder (a v : Nat) : (rset a v s).fetchOrder = s.fetchOrder := rfl
@[simp] theorem rset_fetchPos (a v : Nat) : (rset a v s).fetchPos = s.fetchPos := rfl
@[simp] theorem rset_deferred (a v : Nat) : (rset a v s).deferred = s.deferred := rfl
@[simp] theorem rset_doorbells (a v : Nat) : (rset a v s).doorbells = s.doorbells := rfl
@[simp] theorem rset_sess (a v : Nat) : (rset a v s).sess = s.sess := rfl
@[simp] theorem rset_pels (a v : Nat) : (rset a v s).pels = s.pels := rfl
@[simp] theorem rset_cores (a v : Nat) : (rset a v s).cores = s.cores := rfl
@[simp] theorem rset_pairs (a v : Nat) : (rset a v s).pairs = s.pairs := rfl
@[simp] theorem rset_mcs (a v : Nat) : (rset a v s).mcs = s.mcs := rfl
@[simp] theorem rset_bpm (a v : Nat) : (rset a v s).bpm = s.bpm := rfl
@[simp] theorem rset_dram (a v : Nat) : (rset a v s).dram = s.dram := rfl
@[simp] theorem rset_bufm (a v : Nat) : (rset a v s).bufm = s.bufm := rfl
@[simp] theorem rset_dma (a v : Nat) : (rset a v s).dma = s.dma := rfl
@[simp] theorem rset_mbx (a v : Nat) : (rset a v s).mbx = s.mbx := rfl
@[simp] theorem rset_micSrc (a v : Nat) : (rset a v s).micSrc = s.micSrc := rfl
@[simp] theorem rset_micTgt (a v : Nat) : (rset a v s).micTgt = s.micTgt := rfl
@[simp] theorem rset_flt (a v : Nat) : (rset a v s).flt = s.flt := rfl
@[simp] theorem rset_gears (a v : Nat) : (rset a v s).gears = s.gears := rfl
@[simp] theorem rset_nvs (a v : Nat) : (rset a v s).nvs = s.nvs := rfl
@[simp] theorem rset_net (a v : Nat) : (rset a v s).net = s.net := rfl
@[simp] theorem rset_time (a v : Nat) : (rset a v s).time = s.time := rfl
@[simp] theorem rset_sec (a v : Nat) : (rset a v s).sec = s.sec := rfl
@[simp] theorem rset_mcode (a v : Nat) : (rset a v s).mcode = s.mcode := rfl
@[simp] theorem rset_jtagIr (a v : Nat) : (rset a v s).jtagIr = s.jtagIr := rfl
@[simp] theorem rset_rebalanceAt (a v : Nat) : (rset a v s).rebalanceAt = s.rebalanceAt := rfl
@[simp] theorem rset_free (a v : Nat) : (rset a v s).free = s.free := rfl
@[simp] theorem rset_out (a v : Nat) : (rset a v s).out = s.out := rfl

@[simp] theorem rfset_pending (a lo n v : Nat) : (rfset a lo n v s).pending = s.pending := rfl
@[simp] theorem rfset_board (a lo n v : Nat) : (rfset a lo n v s).board = s.board := rfl
@[simp] theorem rfset_boot (a lo n v : Nat) : (rfset a lo n v s).boot = s.boot := rfl
@[simp] theorem rfset_now (a lo n v : Nat) : (rfset a lo n v s).now = s.now := rfl
@[simp] theorem rfset_clk (a lo n v : Nat) : (rfset a lo n v s).clk = s.clk := rfl
@[simp] theorem rfset_adj (a lo n v : Nat) : (rfset a lo n v s).adj = s.adj := rfl
@[simp] theorem rfset_halves (a lo n v : Nat) : (rfset a lo n v s).halves = s.halves := rfl
@[simp] theorem rfset_funs (a lo n v : Nat) : (rfset a lo n v s).funs = s.funs := rfl
@[simp] theorem rfset_ports (a lo n v : Nat) : (rfset a lo n v s).ports = s.ports := rfl
@[simp] theorem rfset_qps (a lo n v : Nat) : (rfset a lo n v s).qps = s.qps := rfl
@[simp] theorem rfset_slots (a lo n v : Nat) : (rfset a lo n v s).slots = s.slots := rfl
@[simp] theorem rfset_fetchOrder (a lo n v : Nat) : (rfset a lo n v s).fetchOrder = s.fetchOrder := rfl
@[simp] theorem rfset_fetchPos (a lo n v : Nat) : (rfset a lo n v s).fetchPos = s.fetchPos := rfl
@[simp] theorem rfset_deferred (a lo n v : Nat) : (rfset a lo n v s).deferred = s.deferred := rfl
@[simp] theorem rfset_doorbells (a lo n v : Nat) : (rfset a lo n v s).doorbells = s.doorbells := rfl
@[simp] theorem rfset_sess (a lo n v : Nat) : (rfset a lo n v s).sess = s.sess := rfl
@[simp] theorem rfset_pels (a lo n v : Nat) : (rfset a lo n v s).pels = s.pels := rfl
@[simp] theorem rfset_cores (a lo n v : Nat) : (rfset a lo n v s).cores = s.cores := rfl
@[simp] theorem rfset_pairs (a lo n v : Nat) : (rfset a lo n v s).pairs = s.pairs := rfl
@[simp] theorem rfset_mcs (a lo n v : Nat) : (rfset a lo n v s).mcs = s.mcs := rfl
@[simp] theorem rfset_bpm (a lo n v : Nat) : (rfset a lo n v s).bpm = s.bpm := rfl
@[simp] theorem rfset_dram (a lo n v : Nat) : (rfset a lo n v s).dram = s.dram := rfl
@[simp] theorem rfset_bufm (a lo n v : Nat) : (rfset a lo n v s).bufm = s.bufm := rfl
@[simp] theorem rfset_dma (a lo n v : Nat) : (rfset a lo n v s).dma = s.dma := rfl
@[simp] theorem rfset_mbx (a lo n v : Nat) : (rfset a lo n v s).mbx = s.mbx := rfl
@[simp] theorem rfset_micSrc (a lo n v : Nat) : (rfset a lo n v s).micSrc = s.micSrc := rfl
@[simp] theorem rfset_micTgt (a lo n v : Nat) : (rfset a lo n v s).micTgt = s.micTgt := rfl
@[simp] theorem rfset_flt (a lo n v : Nat) : (rfset a lo n v s).flt = s.flt := rfl
@[simp] theorem rfset_gears (a lo n v : Nat) : (rfset a lo n v s).gears = s.gears := rfl
@[simp] theorem rfset_nvs (a lo n v : Nat) : (rfset a lo n v s).nvs = s.nvs := rfl
@[simp] theorem rfset_net (a lo n v : Nat) : (rfset a lo n v s).net = s.net := rfl
@[simp] theorem rfset_time (a lo n v : Nat) : (rfset a lo n v s).time = s.time := rfl
@[simp] theorem rfset_sec (a lo n v : Nat) : (rfset a lo n v s).sec = s.sec := rfl
@[simp] theorem rfset_mcode (a lo n v : Nat) : (rfset a lo n v s).mcode = s.mcode := rfl
@[simp] theorem rfset_jtagIr (a lo n v : Nat) : (rfset a lo n v s).jtagIr = s.jtagIr := rfl
@[simp] theorem rfset_rebalanceAt (a lo n v : Nat) : (rfset a lo n v s).rebalanceAt = s.rebalanceAt := rfl
@[simp] theorem rfset_free (a lo n v : Nat) : (rfset a lo n v s).free = s.free := rfl
@[simp] theorem rfset_out (a lo n v : Nat) : (rfset a lo n v s).out = s.out := rfl

@[simp] theorem rcnt_pending (a lo n k : Nat) : (rcnt a lo n k s).pending = s.pending := rfl
@[simp] theorem rcnt_board (a lo n k : Nat) : (rcnt a lo n k s).board = s.board := rfl
@[simp] theorem rcnt_boot (a lo n k : Nat) : (rcnt a lo n k s).boot = s.boot := rfl
@[simp] theorem rcnt_now (a lo n k : Nat) : (rcnt a lo n k s).now = s.now := rfl
@[simp] theorem rcnt_clk (a lo n k : Nat) : (rcnt a lo n k s).clk = s.clk := rfl
@[simp] theorem rcnt_adj (a lo n k : Nat) : (rcnt a lo n k s).adj = s.adj := rfl
@[simp] theorem rcnt_halves (a lo n k : Nat) : (rcnt a lo n k s).halves = s.halves := rfl
@[simp] theorem rcnt_funs (a lo n k : Nat) : (rcnt a lo n k s).funs = s.funs := rfl
@[simp] theorem rcnt_ports (a lo n k : Nat) : (rcnt a lo n k s).ports = s.ports := rfl
@[simp] theorem rcnt_qps (a lo n k : Nat) : (rcnt a lo n k s).qps = s.qps := rfl
@[simp] theorem rcnt_slots (a lo n k : Nat) : (rcnt a lo n k s).slots = s.slots := rfl
@[simp] theorem rcnt_fetchOrder (a lo n k : Nat) : (rcnt a lo n k s).fetchOrder = s.fetchOrder := rfl
@[simp] theorem rcnt_fetchPos (a lo n k : Nat) : (rcnt a lo n k s).fetchPos = s.fetchPos := rfl
@[simp] theorem rcnt_deferred (a lo n k : Nat) : (rcnt a lo n k s).deferred = s.deferred := rfl
@[simp] theorem rcnt_doorbells (a lo n k : Nat) : (rcnt a lo n k s).doorbells = s.doorbells := rfl
@[simp] theorem rcnt_sess (a lo n k : Nat) : (rcnt a lo n k s).sess = s.sess := rfl
@[simp] theorem rcnt_pels (a lo n k : Nat) : (rcnt a lo n k s).pels = s.pels := rfl
@[simp] theorem rcnt_cores (a lo n k : Nat) : (rcnt a lo n k s).cores = s.cores := rfl
@[simp] theorem rcnt_pairs (a lo n k : Nat) : (rcnt a lo n k s).pairs = s.pairs := rfl
@[simp] theorem rcnt_mcs (a lo n k : Nat) : (rcnt a lo n k s).mcs = s.mcs := rfl
@[simp] theorem rcnt_bpm (a lo n k : Nat) : (rcnt a lo n k s).bpm = s.bpm := rfl
@[simp] theorem rcnt_dram (a lo n k : Nat) : (rcnt a lo n k s).dram = s.dram := rfl
@[simp] theorem rcnt_bufm (a lo n k : Nat) : (rcnt a lo n k s).bufm = s.bufm := rfl
@[simp] theorem rcnt_dma (a lo n k : Nat) : (rcnt a lo n k s).dma = s.dma := rfl
@[simp] theorem rcnt_mbx (a lo n k : Nat) : (rcnt a lo n k s).mbx = s.mbx := rfl
@[simp] theorem rcnt_micSrc (a lo n k : Nat) : (rcnt a lo n k s).micSrc = s.micSrc := rfl
@[simp] theorem rcnt_micTgt (a lo n k : Nat) : (rcnt a lo n k s).micTgt = s.micTgt := rfl
@[simp] theorem rcnt_flt (a lo n k : Nat) : (rcnt a lo n k s).flt = s.flt := rfl
@[simp] theorem rcnt_gears (a lo n k : Nat) : (rcnt a lo n k s).gears = s.gears := rfl
@[simp] theorem rcnt_nvs (a lo n k : Nat) : (rcnt a lo n k s).nvs = s.nvs := rfl
@[simp] theorem rcnt_net (a lo n k : Nat) : (rcnt a lo n k s).net = s.net := rfl
@[simp] theorem rcnt_time (a lo n k : Nat) : (rcnt a lo n k s).time = s.time := rfl
@[simp] theorem rcnt_sec (a lo n k : Nat) : (rcnt a lo n k s).sec = s.sec := rfl
@[simp] theorem rcnt_mcode (a lo n k : Nat) : (rcnt a lo n k s).mcode = s.mcode := rfl
@[simp] theorem rcnt_jtagIr (a lo n k : Nat) : (rcnt a lo n k s).jtagIr = s.jtagIr := rfl
@[simp] theorem rcnt_rebalanceAt (a lo n k : Nat) : (rcnt a lo n k s).rebalanceAt = s.rebalanceAt := rfl
@[simp] theorem rcnt_free (a lo n k : Nat) : (rcnt a lo n k s).free = s.free := rfl
@[simp] theorem rcnt_out (a lo n k : Nat) : (rcnt a lo n k s).out = s.out := rfl

@[simp] theorem pgEvt_pending (p : Page) (b : Nat) : (pgEvt p b s).pending = s.pending := rfl
@[simp] theorem pgEvt_board (p : Page) (b : Nat) : (pgEvt p b s).board = s.board := rfl
@[simp] theorem pgEvt_boot (p : Page) (b : Nat) : (pgEvt p b s).boot = s.boot := rfl
@[simp] theorem pgEvt_now (p : Page) (b : Nat) : (pgEvt p b s).now = s.now := rfl
@[simp] theorem pgEvt_clk (p : Page) (b : Nat) : (pgEvt p b s).clk = s.clk := rfl
@[simp] theorem pgEvt_adj (p : Page) (b : Nat) : (pgEvt p b s).adj = s.adj := rfl
@[simp] theorem pgEvt_halves (p : Page) (b : Nat) : (pgEvt p b s).halves = s.halves := rfl
@[simp] theorem pgEvt_funs (p : Page) (b : Nat) : (pgEvt p b s).funs = s.funs := rfl
@[simp] theorem pgEvt_ports (p : Page) (b : Nat) : (pgEvt p b s).ports = s.ports := rfl
@[simp] theorem pgEvt_qps (p : Page) (b : Nat) : (pgEvt p b s).qps = s.qps := rfl
@[simp] theorem pgEvt_slots (p : Page) (b : Nat) : (pgEvt p b s).slots = s.slots := rfl
@[simp] theorem pgEvt_fetchOrder (p : Page) (b : Nat) : (pgEvt p b s).fetchOrder = s.fetchOrder := rfl
@[simp] theorem pgEvt_fetchPos (p : Page) (b : Nat) : (pgEvt p b s).fetchPos = s.fetchPos := rfl
@[simp] theorem pgEvt_deferred (p : Page) (b : Nat) : (pgEvt p b s).deferred = s.deferred := rfl
@[simp] theorem pgEvt_doorbells (p : Page) (b : Nat) : (pgEvt p b s).doorbells = s.doorbells := rfl
@[simp] theorem pgEvt_sess (p : Page) (b : Nat) : (pgEvt p b s).sess = s.sess := rfl
@[simp] theorem pgEvt_pels (p : Page) (b : Nat) : (pgEvt p b s).pels = s.pels := rfl
@[simp] theorem pgEvt_cores (p : Page) (b : Nat) : (pgEvt p b s).cores = s.cores := rfl
@[simp] theorem pgEvt_pairs (p : Page) (b : Nat) : (pgEvt p b s).pairs = s.pairs := rfl
@[simp] theorem pgEvt_mcs (p : Page) (b : Nat) : (pgEvt p b s).mcs = s.mcs := rfl
@[simp] theorem pgEvt_bpm (p : Page) (b : Nat) : (pgEvt p b s).bpm = s.bpm := rfl
@[simp] theorem pgEvt_dram (p : Page) (b : Nat) : (pgEvt p b s).dram = s.dram := rfl
@[simp] theorem pgEvt_bufm (p : Page) (b : Nat) : (pgEvt p b s).bufm = s.bufm := rfl
@[simp] theorem pgEvt_dma (p : Page) (b : Nat) : (pgEvt p b s).dma = s.dma := rfl
@[simp] theorem pgEvt_mbx (p : Page) (b : Nat) : (pgEvt p b s).mbx = s.mbx := rfl
@[simp] theorem pgEvt_micSrc (p : Page) (b : Nat) : (pgEvt p b s).micSrc = s.micSrc := rfl
@[simp] theorem pgEvt_micTgt (p : Page) (b : Nat) : (pgEvt p b s).micTgt = s.micTgt := rfl
@[simp] theorem pgEvt_flt (p : Page) (b : Nat) : (pgEvt p b s).flt = s.flt := rfl
@[simp] theorem pgEvt_gears (p : Page) (b : Nat) : (pgEvt p b s).gears = s.gears := rfl
@[simp] theorem pgEvt_nvs (p : Page) (b : Nat) : (pgEvt p b s).nvs = s.nvs := rfl
@[simp] theorem pgEvt_net (p : Page) (b : Nat) : (pgEvt p b s).net = s.net := rfl
@[simp] theorem pgEvt_time (p : Page) (b : Nat) : (pgEvt p b s).time = s.time := rfl
@[simp] theorem pgEvt_sec (p : Page) (b : Nat) : (pgEvt p b s).sec = s.sec := rfl
@[simp] theorem pgEvt_mcode (p : Page) (b : Nat) : (pgEvt p b s).mcode = s.mcode := rfl
@[simp] theorem pgEvt_jtagIr (p : Page) (b : Nat) : (pgEvt p b s).jtagIr = s.jtagIr := rfl
@[simp] theorem pgEvt_rebalanceAt (p : Page) (b : Nat) : (pgEvt p b s).rebalanceAt = s.rebalanceAt := rfl
@[simp] theorem pgEvt_free (p : Page) (b : Nat) : (pgEvt p b s).free = s.free := rfl
@[simp] theorem pgEvt_out (p : Page) (b : Nat) : (pgEvt p b s).out = s.out := rfl

@[simp] theorem pgBlock_pending (p : Page) : (pgBlock p s).pending = s.pending := rfl
@[simp] theorem pgBlock_board (p : Page) : (pgBlock p s).board = s.board := rfl
@[simp] theorem pgBlock_boot (p : Page) : (pgBlock p s).boot = s.boot := rfl
@[simp] theorem pgBlock_now (p : Page) : (pgBlock p s).now = s.now := rfl
@[simp] theorem pgBlock_clk (p : Page) : (pgBlock p s).clk = s.clk := rfl
@[simp] theorem pgBlock_adj (p : Page) : (pgBlock p s).adj = s.adj := rfl
@[simp] theorem pgBlock_halves (p : Page) : (pgBlock p s).halves = s.halves := rfl
@[simp] theorem pgBlock_funs (p : Page) : (pgBlock p s).funs = s.funs := rfl
@[simp] theorem pgBlock_ports (p : Page) : (pgBlock p s).ports = s.ports := rfl
@[simp] theorem pgBlock_qps (p : Page) : (pgBlock p s).qps = s.qps := rfl
@[simp] theorem pgBlock_slots (p : Page) : (pgBlock p s).slots = s.slots := rfl
@[simp] theorem pgBlock_fetchOrder (p : Page) : (pgBlock p s).fetchOrder = s.fetchOrder := rfl
@[simp] theorem pgBlock_fetchPos (p : Page) : (pgBlock p s).fetchPos = s.fetchPos := rfl
@[simp] theorem pgBlock_deferred (p : Page) : (pgBlock p s).deferred = s.deferred := rfl
@[simp] theorem pgBlock_doorbells (p : Page) : (pgBlock p s).doorbells = s.doorbells := rfl
@[simp] theorem pgBlock_sess (p : Page) : (pgBlock p s).sess = s.sess := rfl
@[simp] theorem pgBlock_pels (p : Page) : (pgBlock p s).pels = s.pels := rfl
@[simp] theorem pgBlock_cores (p : Page) : (pgBlock p s).cores = s.cores := rfl
@[simp] theorem pgBlock_pairs (p : Page) : (pgBlock p s).pairs = s.pairs := rfl
@[simp] theorem pgBlock_mcs (p : Page) : (pgBlock p s).mcs = s.mcs := rfl
@[simp] theorem pgBlock_bpm (p : Page) : (pgBlock p s).bpm = s.bpm := rfl
@[simp] theorem pgBlock_dram (p : Page) : (pgBlock p s).dram = s.dram := rfl
@[simp] theorem pgBlock_bufm (p : Page) : (pgBlock p s).bufm = s.bufm := rfl
@[simp] theorem pgBlock_dma (p : Page) : (pgBlock p s).dma = s.dma := rfl
@[simp] theorem pgBlock_mbx (p : Page) : (pgBlock p s).mbx = s.mbx := rfl
@[simp] theorem pgBlock_micSrc (p : Page) : (pgBlock p s).micSrc = s.micSrc := rfl
@[simp] theorem pgBlock_micTgt (p : Page) : (pgBlock p s).micTgt = s.micTgt := rfl
@[simp] theorem pgBlock_flt (p : Page) : (pgBlock p s).flt = s.flt := rfl
@[simp] theorem pgBlock_gears (p : Page) : (pgBlock p s).gears = s.gears := rfl
@[simp] theorem pgBlock_nvs (p : Page) : (pgBlock p s).nvs = s.nvs := rfl
@[simp] theorem pgBlock_net (p : Page) : (pgBlock p s).net = s.net := rfl
@[simp] theorem pgBlock_time (p : Page) : (pgBlock p s).time = s.time := rfl
@[simp] theorem pgBlock_sec (p : Page) : (pgBlock p s).sec = s.sec := rfl
@[simp] theorem pgBlock_mcode (p : Page) : (pgBlock p s).mcode = s.mcode := rfl
@[simp] theorem pgBlock_jtagIr (p : Page) : (pgBlock p s).jtagIr = s.jtagIr := rfl
@[simp] theorem pgBlock_rebalanceAt (p : Page) : (pgBlock p s).rebalanceAt = s.rebalanceAt := rfl
@[simp] theorem pgBlock_free (p : Page) : (pgBlock p s).free = s.free := rfl
@[simp] theorem pgBlock_out (p : Page) : (pgBlock p s).out = s.out := rfl

@[simp] theorem emit_pending (o : Out) : (emit o s).pending = s.pending := rfl
@[simp] theorem emit_board (o : Out) : (emit o s).board = s.board := rfl
@[simp] theorem emit_boot (o : Out) : (emit o s).boot = s.boot := rfl
@[simp] theorem emit_now (o : Out) : (emit o s).now = s.now := rfl
@[simp] theorem emit_clk (o : Out) : (emit o s).clk = s.clk := rfl
@[simp] theorem emit_adj (o : Out) : (emit o s).adj = s.adj := rfl
@[simp] theorem emit_regs (o : Out) : (emit o s).regs = s.regs := rfl
@[simp] theorem emit_halves (o : Out) : (emit o s).halves = s.halves := rfl
@[simp] theorem emit_funs (o : Out) : (emit o s).funs = s.funs := rfl
@[simp] theorem emit_ports (o : Out) : (emit o s).ports = s.ports := rfl
@[simp] theorem emit_qps (o : Out) : (emit o s).qps = s.qps := rfl
@[simp] theorem emit_slots (o : Out) : (emit o s).slots = s.slots := rfl
@[simp] theorem emit_fetchOrder (o : Out) : (emit o s).fetchOrder = s.fetchOrder := rfl
@[simp] theorem emit_fetchPos (o : Out) : (emit o s).fetchPos = s.fetchPos := rfl
@[simp] theorem emit_deferred (o : Out) : (emit o s).deferred = s.deferred := rfl
@[simp] theorem emit_doorbells (o : Out) : (emit o s).doorbells = s.doorbells := rfl
@[simp] theorem emit_sess (o : Out) : (emit o s).sess = s.sess := rfl
@[simp] theorem emit_pels (o : Out) : (emit o s).pels = s.pels := rfl
@[simp] theorem emit_cores (o : Out) : (emit o s).cores = s.cores := rfl
@[simp] theorem emit_pairs (o : Out) : (emit o s).pairs = s.pairs := rfl
@[simp] theorem emit_mcs (o : Out) : (emit o s).mcs = s.mcs := rfl
@[simp] theorem emit_bpm (o : Out) : (emit o s).bpm = s.bpm := rfl
@[simp] theorem emit_dram (o : Out) : (emit o s).dram = s.dram := rfl
@[simp] theorem emit_bufm (o : Out) : (emit o s).bufm = s.bufm := rfl
@[simp] theorem emit_dma (o : Out) : (emit o s).dma = s.dma := rfl
@[simp] theorem emit_mbx (o : Out) : (emit o s).mbx = s.mbx := rfl
@[simp] theorem emit_micSrc (o : Out) : (emit o s).micSrc = s.micSrc := rfl
@[simp] theorem emit_micTgt (o : Out) : (emit o s).micTgt = s.micTgt := rfl
@[simp] theorem emit_flt (o : Out) : (emit o s).flt = s.flt := rfl
@[simp] theorem emit_gears (o : Out) : (emit o s).gears = s.gears := rfl
@[simp] theorem emit_nvs (o : Out) : (emit o s).nvs = s.nvs := rfl
@[simp] theorem emit_net (o : Out) : (emit o s).net = s.net := rfl
@[simp] theorem emit_time (o : Out) : (emit o s).time = s.time := rfl
@[simp] theorem emit_sec (o : Out) : (emit o s).sec = s.sec := rfl
@[simp] theorem emit_mcode (o : Out) : (emit o s).mcode = s.mcode := rfl
@[simp] theorem emit_jtagIr (o : Out) : (emit o s).jtagIr = s.jtagIr := rfl
@[simp] theorem emit_rebalanceAt (o : Out) : (emit o s).rebalanceAt = s.rebalanceAt := rfl
@[simp] theorem emit_free (o : Out) : (emit o s).free = s.free := rfl

@[simp] theorem polMod_pending (i : Nat) (g : Polder → Polder) : (polMod i g s).pending = s.pending := rfl
@[simp] theorem polMod_board (i : Nat) (g : Polder → Polder) : (polMod i g s).board = s.board := rfl
@[simp] theorem polMod_boot (i : Nat) (g : Polder → Polder) : (polMod i g s).boot = s.boot := rfl
@[simp] theorem polMod_now (i : Nat) (g : Polder → Polder) : (polMod i g s).now = s.now := rfl
@[simp] theorem polMod_clk (i : Nat) (g : Polder → Polder) : (polMod i g s).clk = s.clk := rfl
@[simp] theorem polMod_adj (i : Nat) (g : Polder → Polder) : (polMod i g s).adj = s.adj := rfl
@[simp] theorem polMod_regs (i : Nat) (g : Polder → Polder) : (polMod i g s).regs = s.regs := rfl
@[simp] theorem polMod_halves (i : Nat) (g : Polder → Polder) : (polMod i g s).halves = s.halves := rfl
@[simp] theorem polMod_funs (i : Nat) (g : Polder → Polder) : (polMod i g s).funs = s.funs := rfl
@[simp] theorem polMod_ports (i : Nat) (g : Polder → Polder) : (polMod i g s).ports = s.ports := rfl
@[simp] theorem polMod_qps (i : Nat) (g : Polder → Polder) : (polMod i g s).qps = s.qps := rfl
@[simp] theorem polMod_slots (i : Nat) (g : Polder → Polder) : (polMod i g s).slots = s.slots := rfl
@[simp] theorem polMod_fetchOrder (i : Nat) (g : Polder → Polder) : (polMod i g s).fetchOrder = s.fetchOrder := rfl
@[simp] theorem polMod_fetchPos (i : Nat) (g : Polder → Polder) : (polMod i g s).fetchPos = s.fetchPos := rfl
@[simp] theorem polMod_deferred (i : Nat) (g : Polder → Polder) : (polMod i g s).deferred = s.deferred := rfl
@[simp] theorem polMod_doorbells (i : Nat) (g : Polder → Polder) : (polMod i g s).doorbells = s.doorbells := rfl
@[simp] theorem polMod_sess (i : Nat) (g : Polder → Polder) : (polMod i g s).sess = s.sess := rfl
@[simp] theorem polMod_pels (i : Nat) (g : Polder → Polder) : (polMod i g s).pels = s.pels := rfl
@[simp] theorem polMod_cores (i : Nat) (g : Polder → Polder) : (polMod i g s).cores = s.cores := rfl
@[simp] theorem polMod_pairs (i : Nat) (g : Polder → Polder) : (polMod i g s).pairs = s.pairs := rfl
@[simp] theorem polMod_mcs (i : Nat) (g : Polder → Polder) : (polMod i g s).mcs = s.mcs := rfl
@[simp] theorem polMod_bpm (i : Nat) (g : Polder → Polder) : (polMod i g s).bpm = s.bpm := rfl
@[simp] theorem polMod_dram (i : Nat) (g : Polder → Polder) : (polMod i g s).dram = s.dram := rfl
@[simp] theorem polMod_bufm (i : Nat) (g : Polder → Polder) : (polMod i g s).bufm = s.bufm := rfl
@[simp] theorem polMod_dma (i : Nat) (g : Polder → Polder) : (polMod i g s).dma = s.dma := rfl
@[simp] theorem polMod_mbx (i : Nat) (g : Polder → Polder) : (polMod i g s).mbx = s.mbx := rfl
@[simp] theorem polMod_micSrc (i : Nat) (g : Polder → Polder) : (polMod i g s).micSrc = s.micSrc := rfl
@[simp] theorem polMod_micTgt (i : Nat) (g : Polder → Polder) : (polMod i g s).micTgt = s.micTgt := rfl
@[simp] theorem polMod_gears (i : Nat) (g : Polder → Polder) : (polMod i g s).gears = s.gears := rfl
@[simp] theorem polMod_nvs (i : Nat) (g : Polder → Polder) : (polMod i g s).nvs = s.nvs := rfl
@[simp] theorem polMod_net (i : Nat) (g : Polder → Polder) : (polMod i g s).net = s.net := rfl
@[simp] theorem polMod_time (i : Nat) (g : Polder → Polder) : (polMod i g s).time = s.time := rfl
@[simp] theorem polMod_sec (i : Nat) (g : Polder → Polder) : (polMod i g s).sec = s.sec := rfl
@[simp] theorem polMod_mcode (i : Nat) (g : Polder → Polder) : (polMod i g s).mcode = s.mcode := rfl
@[simp] theorem polMod_jtagIr (i : Nat) (g : Polder → Polder) : (polMod i g s).jtagIr = s.jtagIr := rfl
@[simp] theorem polMod_rebalanceAt (i : Nat) (g : Polder → Polder) : (polMod i g s).rebalanceAt = s.rebalanceAt := rfl
@[simp] theorem polMod_free (i : Nat) (g : Polder → Polder) : (polMod i g s).free = s.free := rfl
@[simp] theorem polMod_out (i : Nat) (g : Polder → Polder) : (polMod i g s).out = s.out := rfl

@[simp] theorem funcMod_pending (i : Nat) (g : Func → Func) : (funcMod i g s).pending = s.pending := rfl
@[simp] theorem funcMod_board (i : Nat) (g : Func → Func) : (funcMod i g s).board = s.board := rfl
@[simp] theorem funcMod_boot (i : Nat) (g : Func → Func) : (funcMod i g s).boot = s.boot := rfl
@[simp] theorem funcMod_now (i : Nat) (g : Func → Func) : (funcMod i g s).now = s.now := rfl
@[simp] theorem funcMod_clk (i : Nat) (g : Func → Func) : (funcMod i g s).clk = s.clk := rfl
@[simp] theorem funcMod_adj (i : Nat) (g : Func → Func) : (funcMod i g s).adj = s.adj := rfl
@[simp] theorem funcMod_regs (i : Nat) (g : Func → Func) : (funcMod i g s).regs = s.regs := rfl
@[simp] theorem funcMod_halves (i : Nat) (g : Func → Func) : (funcMod i g s).halves = s.halves := rfl
@[simp] theorem funcMod_ports (i : Nat) (g : Func → Func) : (funcMod i g s).ports = s.ports := rfl
@[simp] theorem funcMod_qps (i : Nat) (g : Func → Func) : (funcMod i g s).qps = s.qps := rfl
@[simp] theorem funcMod_slots (i : Nat) (g : Func → Func) : (funcMod i g s).slots = s.slots := rfl
@[simp] theorem funcMod_fetchOrder (i : Nat) (g : Func → Func) : (funcMod i g s).fetchOrder = s.fetchOrder := rfl
@[simp] theorem funcMod_fetchPos (i : Nat) (g : Func → Func) : (funcMod i g s).fetchPos = s.fetchPos := rfl
@[simp] theorem funcMod_deferred (i : Nat) (g : Func → Func) : (funcMod i g s).deferred = s.deferred := rfl
@[simp] theorem funcMod_doorbells (i : Nat) (g : Func → Func) : (funcMod i g s).doorbells = s.doorbells := rfl
@[simp] theorem funcMod_sess (i : Nat) (g : Func → Func) : (funcMod i g s).sess = s.sess := rfl
@[simp] theorem funcMod_pels (i : Nat) (g : Func → Func) : (funcMod i g s).pels = s.pels := rfl
@[simp] theorem funcMod_cores (i : Nat) (g : Func → Func) : (funcMod i g s).cores = s.cores := rfl
@[simp] theorem funcMod_pairs (i : Nat) (g : Func → Func) : (funcMod i g s).pairs = s.pairs := rfl
@[simp] theorem funcMod_mcs (i : Nat) (g : Func → Func) : (funcMod i g s).mcs = s.mcs := rfl
@[simp] theorem funcMod_bpm (i : Nat) (g : Func → Func) : (funcMod i g s).bpm = s.bpm := rfl
@[simp] theorem funcMod_dram (i : Nat) (g : Func → Func) : (funcMod i g s).dram = s.dram := rfl
@[simp] theorem funcMod_bufm (i : Nat) (g : Func → Func) : (funcMod i g s).bufm = s.bufm := rfl
@[simp] theorem funcMod_dma (i : Nat) (g : Func → Func) : (funcMod i g s).dma = s.dma := rfl
@[simp] theorem funcMod_mbx (i : Nat) (g : Func → Func) : (funcMod i g s).mbx = s.mbx := rfl
@[simp] theorem funcMod_micSrc (i : Nat) (g : Func → Func) : (funcMod i g s).micSrc = s.micSrc := rfl
@[simp] theorem funcMod_micTgt (i : Nat) (g : Func → Func) : (funcMod i g s).micTgt = s.micTgt := rfl
@[simp] theorem funcMod_flt (i : Nat) (g : Func → Func) : (funcMod i g s).flt = s.flt := rfl
@[simp] theorem funcMod_gears (i : Nat) (g : Func → Func) : (funcMod i g s).gears = s.gears := rfl
@[simp] theorem funcMod_nvs (i : Nat) (g : Func → Func) : (funcMod i g s).nvs = s.nvs := rfl
@[simp] theorem funcMod_net (i : Nat) (g : Func → Func) : (funcMod i g s).net = s.net := rfl
@[simp] theorem funcMod_time (i : Nat) (g : Func → Func) : (funcMod i g s).time = s.time := rfl
@[simp] theorem funcMod_sec (i : Nat) (g : Func → Func) : (funcMod i g s).sec = s.sec := rfl
@[simp] theorem funcMod_mcode (i : Nat) (g : Func → Func) : (funcMod i g s).mcode = s.mcode := rfl
@[simp] theorem funcMod_jtagIr (i : Nat) (g : Func → Func) : (funcMod i g s).jtagIr = s.jtagIr := rfl
@[simp] theorem funcMod_rebalanceAt (i : Nat) (g : Func → Func) : (funcMod i g s).rebalanceAt = s.rebalanceAt := rfl
@[simp] theorem funcMod_free (i : Nat) (g : Func → Func) : (funcMod i g s).free = s.free := rfl
@[simp] theorem funcMod_out (i : Nat) (g : Func → Func) : (funcMod i g s).out = s.out := rfl

@[simp] theorem portMod_pending (i : Nat) (g : Port → Port) : (portMod i g s).pending = s.pending := rfl
@[simp] theorem portMod_board (i : Nat) (g : Port → Port) : (portMod i g s).board = s.board := rfl
@[simp] theorem portMod_boot (i : Nat) (g : Port → Port) : (portMod i g s).boot = s.boot := rfl
@[simp] theorem portMod_now (i : Nat) (g : Port → Port) : (portMod i g s).now = s.now := rfl
@[simp] theorem portMod_clk (i : Nat) (g : Port → Port) : (portMod i g s).clk = s.clk := rfl
@[simp] theorem portMod_adj (i : Nat) (g : Port → Port) : (portMod i g s).adj = s.adj := rfl
@[simp] theorem portMod_regs (i : Nat) (g : Port → Port) : (portMod i g s).regs = s.regs := rfl
@[simp] theorem portMod_halves (i : Nat) (g : Port → Port) : (portMod i g s).halves = s.halves := rfl
@[simp] theorem portMod_funs (i : Nat) (g : Port → Port) : (portMod i g s).funs = s.funs := rfl
@[simp] theorem portMod_qps (i : Nat) (g : Port → Port) : (portMod i g s).qps = s.qps := rfl
@[simp] theorem portMod_slots (i : Nat) (g : Port → Port) : (portMod i g s).slots = s.slots := rfl
@[simp] theorem portMod_fetchOrder (i : Nat) (g : Port → Port) : (portMod i g s).fetchOrder = s.fetchOrder := rfl
@[simp] theorem portMod_fetchPos (i : Nat) (g : Port → Port) : (portMod i g s).fetchPos = s.fetchPos := rfl
@[simp] theorem portMod_deferred (i : Nat) (g : Port → Port) : (portMod i g s).deferred = s.deferred := rfl
@[simp] theorem portMod_doorbells (i : Nat) (g : Port → Port) : (portMod i g s).doorbells = s.doorbells := rfl
@[simp] theorem portMod_sess (i : Nat) (g : Port → Port) : (portMod i g s).sess = s.sess := rfl
@[simp] theorem portMod_pels (i : Nat) (g : Port → Port) : (portMod i g s).pels = s.pels := rfl
@[simp] theorem portMod_cores (i : Nat) (g : Port → Port) : (portMod i g s).cores = s.cores := rfl
@[simp] theorem portMod_pairs (i : Nat) (g : Port → Port) : (portMod i g s).pairs = s.pairs := rfl
@[simp] theorem portMod_mcs (i : Nat) (g : Port → Port) : (portMod i g s).mcs = s.mcs := rfl
@[simp] theorem portMod_bpm (i : Nat) (g : Port → Port) : (portMod i g s).bpm = s.bpm := rfl
@[simp] theorem portMod_dram (i : Nat) (g : Port → Port) : (portMod i g s).dram = s.dram := rfl
@[simp] theorem portMod_bufm (i : Nat) (g : Port → Port) : (portMod i g s).bufm = s.bufm := rfl
@[simp] theorem portMod_dma (i : Nat) (g : Port → Port) : (portMod i g s).dma = s.dma := rfl
@[simp] theorem portMod_mbx (i : Nat) (g : Port → Port) : (portMod i g s).mbx = s.mbx := rfl
@[simp] theorem portMod_micSrc (i : Nat) (g : Port → Port) : (portMod i g s).micSrc = s.micSrc := rfl
@[simp] theorem portMod_micTgt (i : Nat) (g : Port → Port) : (portMod i g s).micTgt = s.micTgt := rfl
@[simp] theorem portMod_flt (i : Nat) (g : Port → Port) : (portMod i g s).flt = s.flt := rfl
@[simp] theorem portMod_gears (i : Nat) (g : Port → Port) : (portMod i g s).gears = s.gears := rfl
@[simp] theorem portMod_nvs (i : Nat) (g : Port → Port) : (portMod i g s).nvs = s.nvs := rfl
@[simp] theorem portMod_net (i : Nat) (g : Port → Port) : (portMod i g s).net = s.net := rfl
@[simp] theorem portMod_time (i : Nat) (g : Port → Port) : (portMod i g s).time = s.time := rfl
@[simp] theorem portMod_sec (i : Nat) (g : Port → Port) : (portMod i g s).sec = s.sec := rfl
@[simp] theorem portMod_mcode (i : Nat) (g : Port → Port) : (portMod i g s).mcode = s.mcode := rfl
@[simp] theorem portMod_jtagIr (i : Nat) (g : Port → Port) : (portMod i g s).jtagIr = s.jtagIr := rfl
@[simp] theorem portMod_rebalanceAt (i : Nat) (g : Port → Port) : (portMod i g s).rebalanceAt = s.rebalanceAt := rfl
@[simp] theorem portMod_free (i : Nat) (g : Port → Port) : (portMod i g s).free = s.free := rfl
@[simp] theorem portMod_out (i : Nat) (g : Port → Port) : (portMod i g s).out = s.out := rfl

@[simp] theorem sessMod_pending (i : Nat) (g : Session → Session) : (sessMod i g s).pending = s.pending := rfl
@[simp] theorem sessMod_board (i : Nat) (g : Session → Session) : (sessMod i g s).board = s.board := rfl
@[simp] theorem sessMod_boot (i : Nat) (g : Session → Session) : (sessMod i g s).boot = s.boot := rfl
@[simp] theorem sessMod_now (i : Nat) (g : Session → Session) : (sessMod i g s).now = s.now := rfl
@[simp] theorem sessMod_clk (i : Nat) (g : Session → Session) : (sessMod i g s).clk = s.clk := rfl
@[simp] theorem sessMod_adj (i : Nat) (g : Session → Session) : (sessMod i g s).adj = s.adj := rfl
@[simp] theorem sessMod_regs (i : Nat) (g : Session → Session) : (sessMod i g s).regs = s.regs := rfl
@[simp] theorem sessMod_halves (i : Nat) (g : Session → Session) : (sessMod i g s).halves = s.halves := rfl
@[simp] theorem sessMod_funs (i : Nat) (g : Session → Session) : (sessMod i g s).funs = s.funs := rfl
@[simp] theorem sessMod_ports (i : Nat) (g : Session → Session) : (sessMod i g s).ports = s.ports := rfl
@[simp] theorem sessMod_qps (i : Nat) (g : Session → Session) : (sessMod i g s).qps = s.qps := rfl
@[simp] theorem sessMod_slots (i : Nat) (g : Session → Session) : (sessMod i g s).slots = s.slots := rfl
@[simp] theorem sessMod_fetchOrder (i : Nat) (g : Session → Session) : (sessMod i g s).fetchOrder = s.fetchOrder := rfl
@[simp] theorem sessMod_fetchPos (i : Nat) (g : Session → Session) : (sessMod i g s).fetchPos = s.fetchPos := rfl
@[simp] theorem sessMod_deferred (i : Nat) (g : Session → Session) : (sessMod i g s).deferred = s.deferred := rfl
@[simp] theorem sessMod_doorbells (i : Nat) (g : Session → Session) : (sessMod i g s).doorbells = s.doorbells := rfl
@[simp] theorem sessMod_pels (i : Nat) (g : Session → Session) : (sessMod i g s).pels = s.pels := rfl
@[simp] theorem sessMod_cores (i : Nat) (g : Session → Session) : (sessMod i g s).cores = s.cores := rfl
@[simp] theorem sessMod_pairs (i : Nat) (g : Session → Session) : (sessMod i g s).pairs = s.pairs := rfl
@[simp] theorem sessMod_mcs (i : Nat) (g : Session → Session) : (sessMod i g s).mcs = s.mcs := rfl
@[simp] theorem sessMod_bpm (i : Nat) (g : Session → Session) : (sessMod i g s).bpm = s.bpm := rfl
@[simp] theorem sessMod_dram (i : Nat) (g : Session → Session) : (sessMod i g s).dram = s.dram := rfl
@[simp] theorem sessMod_bufm (i : Nat) (g : Session → Session) : (sessMod i g s).bufm = s.bufm := rfl
@[simp] theorem sessMod_dma (i : Nat) (g : Session → Session) : (sessMod i g s).dma = s.dma := rfl
@[simp] theorem sessMod_mbx (i : Nat) (g : Session → Session) : (sessMod i g s).mbx = s.mbx := rfl
@[simp] theorem sessMod_micSrc (i : Nat) (g : Session → Session) : (sessMod i g s).micSrc = s.micSrc := rfl
@[simp] theorem sessMod_micTgt (i : Nat) (g : Session → Session) : (sessMod i g s).micTgt = s.micTgt := rfl
@[simp] theorem sessMod_flt (i : Nat) (g : Session → Session) : (sessMod i g s).flt = s.flt := rfl
@[simp] theorem sessMod_gears (i : Nat) (g : Session → Session) : (sessMod i g s).gears = s.gears := rfl
@[simp] theorem sessMod_nvs (i : Nat) (g : Session → Session) : (sessMod i g s).nvs = s.nvs := rfl
@[simp] theorem sessMod_net (i : Nat) (g : Session → Session) : (sessMod i g s).net = s.net := rfl
@[simp] theorem sessMod_time (i : Nat) (g : Session → Session) : (sessMod i g s).time = s.time := rfl
@[simp] theorem sessMod_sec (i : Nat) (g : Session → Session) : (sessMod i g s).sec = s.sec := rfl
@[simp] theorem sessMod_mcode (i : Nat) (g : Session → Session) : (sessMod i g s).mcode = s.mcode := rfl
@[simp] theorem sessMod_jtagIr (i : Nat) (g : Session → Session) : (sessMod i g s).jtagIr = s.jtagIr := rfl
@[simp] theorem sessMod_rebalanceAt (i : Nat) (g : Session → Session) : (sessMod i g s).rebalanceAt = s.rebalanceAt := rfl
@[simp] theorem sessMod_free (i : Nat) (g : Session → Session) : (sessMod i g s).free = s.free := rfl
@[simp] theorem sessMod_out (i : Nat) (g : Session → Session) : (sessMod i g s).out = s.out := rfl

@[simp] theorem coreMod_pending (i : Nat) (g : Core → Core) : (coreMod i g s).pending = s.pending := rfl
@[simp] theorem coreMod_board (i : Nat) (g : Core → Core) : (coreMod i g s).board = s.board := rfl
@[simp] theorem coreMod_boot (i : Nat) (g : Core → Core) : (coreMod i g s).boot = s.boot := rfl
@[simp] theorem coreMod_now (i : Nat) (g : Core → Core) : (coreMod i g s).now = s.now := rfl
@[simp] theorem coreMod_clk (i : Nat) (g : Core → Core) : (coreMod i g s).clk = s.clk := rfl
@[simp] theorem coreMod_adj (i : Nat) (g : Core → Core) : (coreMod i g s).adj = s.adj := rfl
@[simp] theorem coreMod_regs (i : Nat) (g : Core → Core) : (coreMod i g s).regs = s.regs := rfl
@[simp] theorem coreMod_halves (i : Nat) (g : Core → Core) : (coreMod i g s).halves = s.halves := rfl
@[simp] theorem coreMod_funs (i : Nat) (g : Core → Core) : (coreMod i g s).funs = s.funs := rfl
@[simp] theorem coreMod_ports (i : Nat) (g : Core → Core) : (coreMod i g s).ports = s.ports := rfl
@[simp] theorem coreMod_qps (i : Nat) (g : Core → Core) : (coreMod i g s).qps = s.qps := rfl
@[simp] theorem coreMod_slots (i : Nat) (g : Core → Core) : (coreMod i g s).slots = s.slots := rfl
@[simp] theorem coreMod_fetchOrder (i : Nat) (g : Core → Core) : (coreMod i g s).fetchOrder = s.fetchOrder := rfl
@[simp] theorem coreMod_fetchPos (i : Nat) (g : Core → Core) : (coreMod i g s).fetchPos = s.fetchPos := rfl
@[simp] theorem coreMod_deferred (i : Nat) (g : Core → Core) : (coreMod i g s).deferred = s.deferred := rfl
@[simp] theorem coreMod_doorbells (i : Nat) (g : Core → Core) : (coreMod i g s).doorbells = s.doorbells := rfl
@[simp] theorem coreMod_sess (i : Nat) (g : Core → Core) : (coreMod i g s).sess = s.sess := rfl
@[simp] theorem coreMod_pels (i : Nat) (g : Core → Core) : (coreMod i g s).pels = s.pels := rfl
@[simp] theorem coreMod_pairs (i : Nat) (g : Core → Core) : (coreMod i g s).pairs = s.pairs := rfl
@[simp] theorem coreMod_mcs (i : Nat) (g : Core → Core) : (coreMod i g s).mcs = s.mcs := rfl
@[simp] theorem coreMod_bpm (i : Nat) (g : Core → Core) : (coreMod i g s).bpm = s.bpm := rfl
@[simp] theorem coreMod_dram (i : Nat) (g : Core → Core) : (coreMod i g s).dram = s.dram := rfl
@[simp] theorem coreMod_bufm (i : Nat) (g : Core → Core) : (coreMod i g s).bufm = s.bufm := rfl
@[simp] theorem coreMod_dma (i : Nat) (g : Core → Core) : (coreMod i g s).dma = s.dma := rfl
@[simp] theorem coreMod_mbx (i : Nat) (g : Core → Core) : (coreMod i g s).mbx = s.mbx := rfl
@[simp] theorem coreMod_micSrc (i : Nat) (g : Core → Core) : (coreMod i g s).micSrc = s.micSrc := rfl
@[simp] theorem coreMod_micTgt (i : Nat) (g : Core → Core) : (coreMod i g s).micTgt = s.micTgt := rfl
@[simp] theorem coreMod_flt (i : Nat) (g : Core → Core) : (coreMod i g s).flt = s.flt := rfl
@[simp] theorem coreMod_gears (i : Nat) (g : Core → Core) : (coreMod i g s).gears = s.gears := rfl
@[simp] theorem coreMod_nvs (i : Nat) (g : Core → Core) : (coreMod i g s).nvs = s.nvs := rfl
@[simp] theorem coreMod_net (i : Nat) (g : Core → Core) : (coreMod i g s).net = s.net := rfl
@[simp] theorem coreMod_time (i : Nat) (g : Core → Core) : (coreMod i g s).time = s.time := rfl
@[simp] theorem coreMod_sec (i : Nat) (g : Core → Core) : (coreMod i g s).sec = s.sec := rfl
@[simp] theorem coreMod_mcode (i : Nat) (g : Core → Core) : (coreMod i g s).mcode = s.mcode := rfl
@[simp] theorem coreMod_jtagIr (i : Nat) (g : Core → Core) : (coreMod i g s).jtagIr = s.jtagIr := rfl
@[simp] theorem coreMod_rebalanceAt (i : Nat) (g : Core → Core) : (coreMod i g s).rebalanceAt = s.rebalanceAt := rfl
@[simp] theorem coreMod_free (i : Nat) (g : Core → Core) : (coreMod i g s).free = s.free := rfl
@[simp] theorem coreMod_out (i : Nat) (g : Core → Core) : (coreMod i g s).out = s.out := rfl

@[simp] theorem pelMod_pending (i : Nat) (g : Pel → Pel) : (pelMod i g s).pending = s.pending := rfl
@[simp] theorem pelMod_board (i : Nat) (g : Pel → Pel) : (pelMod i g s).board = s.board := rfl
@[simp] theorem pelMod_boot (i : Nat) (g : Pel → Pel) : (pelMod i g s).boot = s.boot := rfl
@[simp] theorem pelMod_now (i : Nat) (g : Pel → Pel) : (pelMod i g s).now = s.now := rfl
@[simp] theorem pelMod_clk (i : Nat) (g : Pel → Pel) : (pelMod i g s).clk = s.clk := rfl
@[simp] theorem pelMod_adj (i : Nat) (g : Pel → Pel) : (pelMod i g s).adj = s.adj := rfl
@[simp] theorem pelMod_regs (i : Nat) (g : Pel → Pel) : (pelMod i g s).regs = s.regs := rfl
@[simp] theorem pelMod_halves (i : Nat) (g : Pel → Pel) : (pelMod i g s).halves = s.halves := rfl
@[simp] theorem pelMod_funs (i : Nat) (g : Pel → Pel) : (pelMod i g s).funs = s.funs := rfl
@[simp] theorem pelMod_ports (i : Nat) (g : Pel → Pel) : (pelMod i g s).ports = s.ports := rfl
@[simp] theorem pelMod_qps (i : Nat) (g : Pel → Pel) : (pelMod i g s).qps = s.qps := rfl
@[simp] theorem pelMod_slots (i : Nat) (g : Pel → Pel) : (pelMod i g s).slots = s.slots := rfl
@[simp] theorem pelMod_fetchOrder (i : Nat) (g : Pel → Pel) : (pelMod i g s).fetchOrder = s.fetchOrder := rfl
@[simp] theorem pelMod_fetchPos (i : Nat) (g : Pel → Pel) : (pelMod i g s).fetchPos = s.fetchPos := rfl
@[simp] theorem pelMod_deferred (i : Nat) (g : Pel → Pel) : (pelMod i g s).deferred = s.deferred := rfl
@[simp] theorem pelMod_doorbells (i : Nat) (g : Pel → Pel) : (pelMod i g s).doorbells = s.doorbells := rfl
@[simp] theorem pelMod_sess (i : Nat) (g : Pel → Pel) : (pelMod i g s).sess = s.sess := rfl
@[simp] theorem pelMod_cores (i : Nat) (g : Pel → Pel) : (pelMod i g s).cores = s.cores := rfl
@[simp] theorem pelMod_pairs (i : Nat) (g : Pel → Pel) : (pelMod i g s).pairs = s.pairs := rfl
@[simp] theorem pelMod_mcs (i : Nat) (g : Pel → Pel) : (pelMod i g s).mcs = s.mcs := rfl
@[simp] theorem pelMod_bpm (i : Nat) (g : Pel → Pel) : (pelMod i g s).bpm = s.bpm := rfl
@[simp] theorem pelMod_dram (i : Nat) (g : Pel → Pel) : (pelMod i g s).dram = s.dram := rfl
@[simp] theorem pelMod_bufm (i : Nat) (g : Pel → Pel) : (pelMod i g s).bufm = s.bufm := rfl
@[simp] theorem pelMod_dma (i : Nat) (g : Pel → Pel) : (pelMod i g s).dma = s.dma := rfl
@[simp] theorem pelMod_mbx (i : Nat) (g : Pel → Pel) : (pelMod i g s).mbx = s.mbx := rfl
@[simp] theorem pelMod_micSrc (i : Nat) (g : Pel → Pel) : (pelMod i g s).micSrc = s.micSrc := rfl
@[simp] theorem pelMod_micTgt (i : Nat) (g : Pel → Pel) : (pelMod i g s).micTgt = s.micTgt := rfl
@[simp] theorem pelMod_flt (i : Nat) (g : Pel → Pel) : (pelMod i g s).flt = s.flt := rfl
@[simp] theorem pelMod_gears (i : Nat) (g : Pel → Pel) : (pelMod i g s).gears = s.gears := rfl
@[simp] theorem pelMod_nvs (i : Nat) (g : Pel → Pel) : (pelMod i g s).nvs = s.nvs := rfl
@[simp] theorem pelMod_net (i : Nat) (g : Pel → Pel) : (pelMod i g s).net = s.net := rfl
@[simp] theorem pelMod_time (i : Nat) (g : Pel → Pel) : (pelMod i g s).time = s.time := rfl
@[simp] theorem pelMod_sec (i : Nat) (g : Pel → Pel) : (pelMod i g s).sec = s.sec := rfl
@[simp] theorem pelMod_mcode (i : Nat) (g : Pel → Pel) : (pelMod i g s).mcode = s.mcode := rfl
@[simp] theorem pelMod_jtagIr (i : Nat) (g : Pel → Pel) : (pelMod i g s).jtagIr = s.jtagIr := rfl
@[simp] theorem pelMod_rebalanceAt (i : Nat) (g : Pel → Pel) : (pelMod i g s).rebalanceAt = s.rebalanceAt := rfl
@[simp] theorem pelMod_free (i : Nat) (g : Pel → Pel) : (pelMod i g s).free = s.free := rfl
@[simp] theorem pelMod_out (i : Nat) (g : Pel → Pel) : (pelMod i g s).out = s.out := rfl

@[simp] theorem pairMod_pending (i : Nat) (g : Pair → Pair) : (pairMod i g s).pending = s.pending := rfl
@[simp] theorem pairMod_board (i : Nat) (g : Pair → Pair) : (pairMod i g s).board = s.board := rfl
@[simp] theorem pairMod_boot (i : Nat) (g : Pair → Pair) : (pairMod i g s).boot = s.boot := rfl
@[simp] theorem pairMod_now (i : Nat) (g : Pair → Pair) : (pairMod i g s).now = s.now := rfl
@[simp] theorem pairMod_clk (i : Nat) (g : Pair → Pair) : (pairMod i g s).clk = s.clk := rfl
@[simp] theorem pairMod_adj (i : Nat) (g : Pair → Pair) : (pairMod i g s).adj = s.adj := rfl
@[simp] theorem pairMod_regs (i : Nat) (g : Pair → Pair) : (pairMod i g s).regs = s.regs := rfl
@[simp] theorem pairMod_halves (i : Nat) (g : Pair → Pair) : (pairMod i g s).halves = s.halves := rfl
@[simp] theorem pairMod_funs (i : Nat) (g : Pair → Pair) : (pairMod i g s).funs = s.funs := rfl
@[simp] theorem pairMod_ports (i : Nat) (g : Pair → Pair) : (pairMod i g s).ports = s.ports := rfl
@[simp] theorem pairMod_qps (i : Nat) (g : Pair → Pair) : (pairMod i g s).qps = s.qps := rfl
@[simp] theorem pairMod_slots (i : Nat) (g : Pair → Pair) : (pairMod i g s).slots = s.slots := rfl
@[simp] theorem pairMod_fetchOrder (i : Nat) (g : Pair → Pair) : (pairMod i g s).fetchOrder = s.fetchOrder := rfl
@[simp] theorem pairMod_fetchPos (i : Nat) (g : Pair → Pair) : (pairMod i g s).fetchPos = s.fetchPos := rfl
@[simp] theorem pairMod_deferred (i : Nat) (g : Pair → Pair) : (pairMod i g s).deferred = s.deferred := rfl
@[simp] theorem pairMod_doorbells (i : Nat) (g : Pair → Pair) : (pairMod i g s).doorbells = s.doorbells := rfl
@[simp] theorem pairMod_sess (i : Nat) (g : Pair → Pair) : (pairMod i g s).sess = s.sess := rfl
@[simp] theorem pairMod_pels (i : Nat) (g : Pair → Pair) : (pairMod i g s).pels = s.pels := rfl
@[simp] theorem pairMod_cores (i : Nat) (g : Pair → Pair) : (pairMod i g s).cores = s.cores := rfl
@[simp] theorem pairMod_mcs (i : Nat) (g : Pair → Pair) : (pairMod i g s).mcs = s.mcs := rfl
@[simp] theorem pairMod_bpm (i : Nat) (g : Pair → Pair) : (pairMod i g s).bpm = s.bpm := rfl
@[simp] theorem pairMod_dram (i : Nat) (g : Pair → Pair) : (pairMod i g s).dram = s.dram := rfl
@[simp] theorem pairMod_bufm (i : Nat) (g : Pair → Pair) : (pairMod i g s).bufm = s.bufm := rfl
@[simp] theorem pairMod_dma (i : Nat) (g : Pair → Pair) : (pairMod i g s).dma = s.dma := rfl
@[simp] theorem pairMod_mbx (i : Nat) (g : Pair → Pair) : (pairMod i g s).mbx = s.mbx := rfl
@[simp] theorem pairMod_micSrc (i : Nat) (g : Pair → Pair) : (pairMod i g s).micSrc = s.micSrc := rfl
@[simp] theorem pairMod_micTgt (i : Nat) (g : Pair → Pair) : (pairMod i g s).micTgt = s.micTgt := rfl
@[simp] theorem pairMod_flt (i : Nat) (g : Pair → Pair) : (pairMod i g s).flt = s.flt := rfl
@[simp] theorem pairMod_gears (i : Nat) (g : Pair → Pair) : (pairMod i g s).gears = s.gears := rfl
@[simp] theorem pairMod_nvs (i : Nat) (g : Pair → Pair) : (pairMod i g s).nvs = s.nvs := rfl
@[simp] theorem pairMod_net (i : Nat) (g : Pair → Pair) : (pairMod i g s).net = s.net := rfl
@[simp] theorem pairMod_time (i : Nat) (g : Pair → Pair) : (pairMod i g s).time = s.time := rfl
@[simp] theorem pairMod_sec (i : Nat) (g : Pair → Pair) : (pairMod i g s).sec = s.sec := rfl
@[simp] theorem pairMod_mcode (i : Nat) (g : Pair → Pair) : (pairMod i g s).mcode = s.mcode := rfl
@[simp] theorem pairMod_jtagIr (i : Nat) (g : Pair → Pair) : (pairMod i g s).jtagIr = s.jtagIr := rfl
@[simp] theorem pairMod_rebalanceAt (i : Nat) (g : Pair → Pair) : (pairMod i g s).rebalanceAt = s.rebalanceAt := rfl
@[simp] theorem pairMod_free (i : Nat) (g : Pair → Pair) : (pairMod i g s).free = s.free := rfl
@[simp] theorem pairMod_out (i : Nat) (g : Pair → Pair) : (pairMod i g s).out = s.out := rfl

@[simp] theorem mcMod_pending (i : Nat) (g : Mc → Mc) : (mcMod i g s).pending = s.pending := rfl
@[simp] theorem mcMod_board (i : Nat) (g : Mc → Mc) : (mcMod i g s).board = s.board := rfl
@[simp] theorem mcMod_boot (i : Nat) (g : Mc → Mc) : (mcMod i g s).boot = s.boot := rfl
@[simp] theorem mcMod_now (i : Nat) (g : Mc → Mc) : (mcMod i g s).now = s.now := rfl
@[simp] theorem mcMod_clk (i : Nat) (g : Mc → Mc) : (mcMod i g s).clk = s.clk := rfl
@[simp] theorem mcMod_adj (i : Nat) (g : Mc → Mc) : (mcMod i g s).adj = s.adj := rfl
@[simp] theorem mcMod_regs (i : Nat) (g : Mc → Mc) : (mcMod i g s).regs = s.regs := rfl
@[simp] theorem mcMod_halves (i : Nat) (g : Mc → Mc) : (mcMod i g s).halves = s.halves := rfl
@[simp] theorem mcMod_funs (i : Nat) (g : Mc → Mc) : (mcMod i g s).funs = s.funs := rfl
@[simp] theorem mcMod_ports (i : Nat) (g : Mc → Mc) : (mcMod i g s).ports = s.ports := rfl
@[simp] theorem mcMod_qps (i : Nat) (g : Mc → Mc) : (mcMod i g s).qps = s.qps := rfl
@[simp] theorem mcMod_slots (i : Nat) (g : Mc → Mc) : (mcMod i g s).slots = s.slots := rfl
@[simp] theorem mcMod_fetchOrder (i : Nat) (g : Mc → Mc) : (mcMod i g s).fetchOrder = s.fetchOrder := rfl
@[simp] theorem mcMod_fetchPos (i : Nat) (g : Mc → Mc) : (mcMod i g s).fetchPos = s.fetchPos := rfl
@[simp] theorem mcMod_deferred (i : Nat) (g : Mc → Mc) : (mcMod i g s).deferred = s.deferred := rfl
@[simp] theorem mcMod_doorbells (i : Nat) (g : Mc → Mc) : (mcMod i g s).doorbells = s.doorbells := rfl
@[simp] theorem mcMod_sess (i : Nat) (g : Mc → Mc) : (mcMod i g s).sess = s.sess := rfl
@[simp] theorem mcMod_pels (i : Nat) (g : Mc → Mc) : (mcMod i g s).pels = s.pels := rfl
@[simp] theorem mcMod_cores (i : Nat) (g : Mc → Mc) : (mcMod i g s).cores = s.cores := rfl
@[simp] theorem mcMod_pairs (i : Nat) (g : Mc → Mc) : (mcMod i g s).pairs = s.pairs := rfl
@[simp] theorem mcMod_bpm (i : Nat) (g : Mc → Mc) : (mcMod i g s).bpm = s.bpm := rfl
@[simp] theorem mcMod_dram (i : Nat) (g : Mc → Mc) : (mcMod i g s).dram = s.dram := rfl
@[simp] theorem mcMod_bufm (i : Nat) (g : Mc → Mc) : (mcMod i g s).bufm = s.bufm := rfl
@[simp] theorem mcMod_dma (i : Nat) (g : Mc → Mc) : (mcMod i g s).dma = s.dma := rfl
@[simp] theorem mcMod_mbx (i : Nat) (g : Mc → Mc) : (mcMod i g s).mbx = s.mbx := rfl
@[simp] theorem mcMod_micSrc (i : Nat) (g : Mc → Mc) : (mcMod i g s).micSrc = s.micSrc := rfl
@[simp] theorem mcMod_micTgt (i : Nat) (g : Mc → Mc) : (mcMod i g s).micTgt = s.micTgt := rfl
@[simp] theorem mcMod_flt (i : Nat) (g : Mc → Mc) : (mcMod i g s).flt = s.flt := rfl
@[simp] theorem mcMod_gears (i : Nat) (g : Mc → Mc) : (mcMod i g s).gears = s.gears := rfl
@[simp] theorem mcMod_nvs (i : Nat) (g : Mc → Mc) : (mcMod i g s).nvs = s.nvs := rfl
@[simp] theorem mcMod_net (i : Nat) (g : Mc → Mc) : (mcMod i g s).net = s.net := rfl
@[simp] theorem mcMod_time (i : Nat) (g : Mc → Mc) : (mcMod i g s).time = s.time := rfl
@[simp] theorem mcMod_sec (i : Nat) (g : Mc → Mc) : (mcMod i g s).sec = s.sec := rfl
@[simp] theorem mcMod_mcode (i : Nat) (g : Mc → Mc) : (mcMod i g s).mcode = s.mcode := rfl
@[simp] theorem mcMod_jtagIr (i : Nat) (g : Mc → Mc) : (mcMod i g s).jtagIr = s.jtagIr := rfl
@[simp] theorem mcMod_rebalanceAt (i : Nat) (g : Mc → Mc) : (mcMod i g s).rebalanceAt = s.rebalanceAt := rfl
@[simp] theorem mcMod_free (i : Nat) (g : Mc → Mc) : (mcMod i g s).free = s.free := rfl
@[simp] theorem mcMod_out (i : Nat) (g : Mc → Mc) : (mcMod i g s).out = s.out := rfl

@[simp] theorem chMod_pending (i c : Nat) (g : McCh → McCh) : (chMod i c g s).pending = s.pending := rfl
@[simp] theorem chMod_board (i c : Nat) (g : McCh → McCh) : (chMod i c g s).board = s.board := rfl
@[simp] theorem chMod_boot (i c : Nat) (g : McCh → McCh) : (chMod i c g s).boot = s.boot := rfl
@[simp] theorem chMod_now (i c : Nat) (g : McCh → McCh) : (chMod i c g s).now = s.now := rfl
@[simp] theorem chMod_clk (i c : Nat) (g : McCh → McCh) : (chMod i c g s).clk = s.clk := rfl
@[simp] theorem chMod_adj (i c : Nat) (g : McCh → McCh) : (chMod i c g s).adj = s.adj := rfl
@[simp] theorem chMod_regs (i c : Nat) (g : McCh → McCh) : (chMod i c g s).regs = s.regs := rfl
@[simp] theorem chMod_halves (i c : Nat) (g : McCh → McCh) : (chMod i c g s).halves = s.halves := rfl
@[simp] theorem chMod_funs (i c : Nat) (g : McCh → McCh) : (chMod i c g s).funs = s.funs := rfl
@[simp] theorem chMod_ports (i c : Nat) (g : McCh → McCh) : (chMod i c g s).ports = s.ports := rfl
@[simp] theorem chMod_qps (i c : Nat) (g : McCh → McCh) : (chMod i c g s).qps = s.qps := rfl
@[simp] theorem chMod_slots (i c : Nat) (g : McCh → McCh) : (chMod i c g s).slots = s.slots := rfl
@[simp] theorem chMod_fetchOrder (i c : Nat) (g : McCh → McCh) : (chMod i c g s).fetchOrder = s.fetchOrder := rfl
@[simp] theorem chMod_fetchPos (i c : Nat) (g : McCh → McCh) : (chMod i c g s).fetchPos = s.fetchPos := rfl
@[simp] theorem chMod_deferred (i c : Nat) (g : McCh → McCh) : (chMod i c g s).deferred = s.deferred := rfl
@[simp] theorem chMod_doorbells (i c : Nat) (g : McCh → McCh) : (chMod i c g s).doorbells = s.doorbells := rfl
@[simp] theorem chMod_sess (i c : Nat) (g : McCh → McCh) : (chMod i c g s).sess = s.sess := rfl
@[simp] theorem chMod_pels (i c : Nat) (g : McCh → McCh) : (chMod i c g s).pels = s.pels := rfl
@[simp] theorem chMod_cores (i c : Nat) (g : McCh → McCh) : (chMod i c g s).cores = s.cores := rfl
@[simp] theorem chMod_pairs (i c : Nat) (g : McCh → McCh) : (chMod i c g s).pairs = s.pairs := rfl
@[simp] theorem chMod_bpm (i c : Nat) (g : McCh → McCh) : (chMod i c g s).bpm = s.bpm := rfl
@[simp] theorem chMod_dram (i c : Nat) (g : McCh → McCh) : (chMod i c g s).dram = s.dram := rfl
@[simp] theorem chMod_bufm (i c : Nat) (g : McCh → McCh) : (chMod i c g s).bufm = s.bufm := rfl
@[simp] theorem chMod_dma (i c : Nat) (g : McCh → McCh) : (chMod i c g s).dma = s.dma := rfl
@[simp] theorem chMod_mbx (i c : Nat) (g : McCh → McCh) : (chMod i c g s).mbx = s.mbx := rfl
@[simp] theorem chMod_micSrc (i c : Nat) (g : McCh → McCh) : (chMod i c g s).micSrc = s.micSrc := rfl
@[simp] theorem chMod_micTgt (i c : Nat) (g : McCh → McCh) : (chMod i c g s).micTgt = s.micTgt := rfl
@[simp] theorem chMod_flt (i c : Nat) (g : McCh → McCh) : (chMod i c g s).flt = s.flt := rfl
@[simp] theorem chMod_gears (i c : Nat) (g : McCh → McCh) : (chMod i c g s).gears = s.gears := rfl
@[simp] theorem chMod_nvs (i c : Nat) (g : McCh → McCh) : (chMod i c g s).nvs = s.nvs := rfl
@[simp] theorem chMod_net (i c : Nat) (g : McCh → McCh) : (chMod i c g s).net = s.net := rfl
@[simp] theorem chMod_time (i c : Nat) (g : McCh → McCh) : (chMod i c g s).time = s.time := rfl
@[simp] theorem chMod_sec (i c : Nat) (g : McCh → McCh) : (chMod i c g s).sec = s.sec := rfl
@[simp] theorem chMod_mcode (i c : Nat) (g : McCh → McCh) : (chMod i c g s).mcode = s.mcode := rfl
@[simp] theorem chMod_jtagIr (i c : Nat) (g : McCh → McCh) : (chMod i c g s).jtagIr = s.jtagIr := rfl
@[simp] theorem chMod_rebalanceAt (i c : Nat) (g : McCh → McCh) : (chMod i c g s).rebalanceAt = s.rebalanceAt := rfl
@[simp] theorem chMod_free (i c : Nat) (g : McCh → McCh) : (chMod i c g s).free = s.free := rfl
@[simp] theorem chMod_out (i c : Nat) (g : McCh → McCh) : (chMod i c g s).out = s.out := rfl

@[simp] theorem gearMod_pending (i : Nat) (g : Gear → Gear) : (gearMod i g s).pending = s.pending := rfl
@[simp] theorem gearMod_board (i : Nat) (g : Gear → Gear) : (gearMod i g s).board = s.board := rfl
@[simp] theorem gearMod_boot (i : Nat) (g : Gear → Gear) : (gearMod i g s).boot = s.boot := rfl
@[simp] theorem gearMod_now (i : Nat) (g : Gear → Gear) : (gearMod i g s).now = s.now := rfl
@[simp] theorem gearMod_clk (i : Nat) (g : Gear → Gear) : (gearMod i g s).clk = s.clk := rfl
@[simp] theorem gearMod_adj (i : Nat) (g : Gear → Gear) : (gearMod i g s).adj = s.adj := rfl
@[simp] theorem gearMod_regs (i : Nat) (g : Gear → Gear) : (gearMod i g s).regs = s.regs := rfl
@[simp] theorem gearMod_halves (i : Nat) (g : Gear → Gear) : (gearMod i g s).halves = s.halves := rfl
@[simp] theorem gearMod_funs (i : Nat) (g : Gear → Gear) : (gearMod i g s).funs = s.funs := rfl
@[simp] theorem gearMod_ports (i : Nat) (g : Gear → Gear) : (gearMod i g s).ports = s.ports := rfl
@[simp] theorem gearMod_qps (i : Nat) (g : Gear → Gear) : (gearMod i g s).qps = s.qps := rfl
@[simp] theorem gearMod_slots (i : Nat) (g : Gear → Gear) : (gearMod i g s).slots = s.slots := rfl
@[simp] theorem gearMod_fetchOrder (i : Nat) (g : Gear → Gear) : (gearMod i g s).fetchOrder = s.fetchOrder := rfl
@[simp] theorem gearMod_fetchPos (i : Nat) (g : Gear → Gear) : (gearMod i g s).fetchPos = s.fetchPos := rfl
@[simp] theorem gearMod_deferred (i : Nat) (g : Gear → Gear) : (gearMod i g s).deferred = s.deferred := rfl
@[simp] theorem gearMod_doorbells (i : Nat) (g : Gear → Gear) : (gearMod i g s).doorbells = s.doorbells := rfl
@[simp] theorem gearMod_sess (i : Nat) (g : Gear → Gear) : (gearMod i g s).sess = s.sess := rfl
@[simp] theorem gearMod_pels (i : Nat) (g : Gear → Gear) : (gearMod i g s).pels = s.pels := rfl
@[simp] theorem gearMod_cores (i : Nat) (g : Gear → Gear) : (gearMod i g s).cores = s.cores := rfl
@[simp] theorem gearMod_pairs (i : Nat) (g : Gear → Gear) : (gearMod i g s).pairs = s.pairs := rfl
@[simp] theorem gearMod_mcs (i : Nat) (g : Gear → Gear) : (gearMod i g s).mcs = s.mcs := rfl
@[simp] theorem gearMod_bpm (i : Nat) (g : Gear → Gear) : (gearMod i g s).bpm = s.bpm := rfl
@[simp] theorem gearMod_dram (i : Nat) (g : Gear → Gear) : (gearMod i g s).dram = s.dram := rfl
@[simp] theorem gearMod_bufm (i : Nat) (g : Gear → Gear) : (gearMod i g s).bufm = s.bufm := rfl
@[simp] theorem gearMod_dma (i : Nat) (g : Gear → Gear) : (gearMod i g s).dma = s.dma := rfl
@[simp] theorem gearMod_mbx (i : Nat) (g : Gear → Gear) : (gearMod i g s).mbx = s.mbx := rfl
@[simp] theorem gearMod_micSrc (i : Nat) (g : Gear → Gear) : (gearMod i g s).micSrc = s.micSrc := rfl
@[simp] theorem gearMod_micTgt (i : Nat) (g : Gear → Gear) : (gearMod i g s).micTgt = s.micTgt := rfl
@[simp] theorem gearMod_flt (i : Nat) (g : Gear → Gear) : (gearMod i g s).flt = s.flt := rfl
@[simp] theorem gearMod_nvs (i : Nat) (g : Gear → Gear) : (gearMod i g s).nvs = s.nvs := rfl
@[simp] theorem gearMod_net (i : Nat) (g : Gear → Gear) : (gearMod i g s).net = s.net := rfl
@[simp] theorem gearMod_time (i : Nat) (g : Gear → Gear) : (gearMod i g s).time = s.time := rfl
@[simp] theorem gearMod_sec (i : Nat) (g : Gear → Gear) : (gearMod i g s).sec = s.sec := rfl
@[simp] theorem gearMod_mcode (i : Nat) (g : Gear → Gear) : (gearMod i g s).mcode = s.mcode := rfl
@[simp] theorem gearMod_jtagIr (i : Nat) (g : Gear → Gear) : (gearMod i g s).jtagIr = s.jtagIr := rfl
@[simp] theorem gearMod_rebalanceAt (i : Nat) (g : Gear → Gear) : (gearMod i g s).rebalanceAt = s.rebalanceAt := rfl
@[simp] theorem gearMod_free (i : Nat) (g : Gear → Gear) : (gearMod i g s).free = s.free := rfl
@[simp] theorem gearMod_out (i : Nat) (g : Gear → Gear) : (gearMod i g s).out = s.out := rfl

@[simp] theorem subMod_pending (i : Nat) (g : Subport → Subport) : (subMod i g s).pending = s.pending := rfl
@[simp] theorem subMod_board (i : Nat) (g : Subport → Subport) : (subMod i g s).board = s.board := rfl
@[simp] theorem subMod_boot (i : Nat) (g : Subport → Subport) : (subMod i g s).boot = s.boot := rfl
@[simp] theorem subMod_now (i : Nat) (g : Subport → Subport) : (subMod i g s).now = s.now := rfl
@[simp] theorem subMod_clk (i : Nat) (g : Subport → Subport) : (subMod i g s).clk = s.clk := rfl
@[simp] theorem subMod_adj (i : Nat) (g : Subport → Subport) : (subMod i g s).adj = s.adj := rfl
@[simp] theorem subMod_regs (i : Nat) (g : Subport → Subport) : (subMod i g s).regs = s.regs := rfl
@[simp] theorem subMod_halves (i : Nat) (g : Subport → Subport) : (subMod i g s).halves = s.halves := rfl
@[simp] theorem subMod_funs (i : Nat) (g : Subport → Subport) : (subMod i g s).funs = s.funs := rfl
@[simp] theorem subMod_ports (i : Nat) (g : Subport → Subport) : (subMod i g s).ports = s.ports := rfl
@[simp] theorem subMod_qps (i : Nat) (g : Subport → Subport) : (subMod i g s).qps = s.qps := rfl
@[simp] theorem subMod_slots (i : Nat) (g : Subport → Subport) : (subMod i g s).slots = s.slots := rfl
@[simp] theorem subMod_fetchOrder (i : Nat) (g : Subport → Subport) : (subMod i g s).fetchOrder = s.fetchOrder := rfl
@[simp] theorem subMod_fetchPos (i : Nat) (g : Subport → Subport) : (subMod i g s).fetchPos = s.fetchPos := rfl
@[simp] theorem subMod_deferred (i : Nat) (g : Subport → Subport) : (subMod i g s).deferred = s.deferred := rfl
@[simp] theorem subMod_doorbells (i : Nat) (g : Subport → Subport) : (subMod i g s).doorbells = s.doorbells := rfl
@[simp] theorem subMod_sess (i : Nat) (g : Subport → Subport) : (subMod i g s).sess = s.sess := rfl
@[simp] theorem subMod_pels (i : Nat) (g : Subport → Subport) : (subMod i g s).pels = s.pels := rfl
@[simp] theorem subMod_cores (i : Nat) (g : Subport → Subport) : (subMod i g s).cores = s.cores := rfl
@[simp] theorem subMod_pairs (i : Nat) (g : Subport → Subport) : (subMod i g s).pairs = s.pairs := rfl
@[simp] theorem subMod_mcs (i : Nat) (g : Subport → Subport) : (subMod i g s).mcs = s.mcs := rfl
@[simp] theorem subMod_bpm (i : Nat) (g : Subport → Subport) : (subMod i g s).bpm = s.bpm := rfl
@[simp] theorem subMod_dram (i : Nat) (g : Subport → Subport) : (subMod i g s).dram = s.dram := rfl
@[simp] theorem subMod_bufm (i : Nat) (g : Subport → Subport) : (subMod i g s).bufm = s.bufm := rfl
@[simp] theorem subMod_dma (i : Nat) (g : Subport → Subport) : (subMod i g s).dma = s.dma := rfl
@[simp] theorem subMod_mbx (i : Nat) (g : Subport → Subport) : (subMod i g s).mbx = s.mbx := rfl
@[simp] theorem subMod_micSrc (i : Nat) (g : Subport → Subport) : (subMod i g s).micSrc = s.micSrc := rfl
@[simp] theorem subMod_micTgt (i : Nat) (g : Subport → Subport) : (subMod i g s).micTgt = s.micTgt := rfl
@[simp] theorem subMod_flt (i : Nat) (g : Subport → Subport) : (subMod i g s).flt = s.flt := rfl
@[simp] theorem subMod_gears (i : Nat) (g : Subport → Subport) : (subMod i g s).gears = s.gears := rfl
@[simp] theorem subMod_nvs (i : Nat) (g : Subport → Subport) : (subMod i g s).nvs = s.nvs := rfl
@[simp] theorem subMod_time (i : Nat) (g : Subport → Subport) : (subMod i g s).time = s.time := rfl
@[simp] theorem subMod_sec (i : Nat) (g : Subport → Subport) : (subMod i g s).sec = s.sec := rfl
@[simp] theorem subMod_mcode (i : Nat) (g : Subport → Subport) : (subMod i g s).mcode = s.mcode := rfl
@[simp] theorem subMod_jtagIr (i : Nat) (g : Subport → Subport) : (subMod i g s).jtagIr = s.jtagIr := rfl
@[simp] theorem subMod_rebalanceAt (i : Nat) (g : Subport → Subport) : (subMod i g s).rebalanceAt = s.rebalanceAt := rfl
@[simp] theorem subMod_free (i : Nat) (g : Subport → Subport) : (subMod i g s).free = s.free := rfl
@[simp] theorem subMod_out (i : Nat) (g : Subport → Subport) : (subMod i g s).out = s.out := rfl

@[simp] theorem raiseRep_pending (r : Report) : (raiseRep r s).pending = s.pending := rfl
@[simp] theorem raiseRep_board (r : Report) : (raiseRep r s).board = s.board := rfl
@[simp] theorem raiseRep_boot (r : Report) : (raiseRep r s).boot = s.boot := rfl
@[simp] theorem raiseRep_now (r : Report) : (raiseRep r s).now = s.now := rfl
@[simp] theorem raiseRep_clk (r : Report) : (raiseRep r s).clk = s.clk := rfl
@[simp] theorem raiseRep_adj (r : Report) : (raiseRep r s).adj = s.adj := rfl
@[simp] theorem raiseRep_regs (r : Report) : (raiseRep r s).regs = s.regs := rfl
@[simp] theorem raiseRep_halves (r : Report) : (raiseRep r s).halves = s.halves := rfl
@[simp] theorem raiseRep_funs (r : Report) : (raiseRep r s).funs = s.funs := rfl
@[simp] theorem raiseRep_ports (r : Report) : (raiseRep r s).ports = s.ports := rfl
@[simp] theorem raiseRep_qps (r : Report) : (raiseRep r s).qps = s.qps := rfl
@[simp] theorem raiseRep_slots (r : Report) : (raiseRep r s).slots = s.slots := rfl
@[simp] theorem raiseRep_fetchOrder (r : Report) : (raiseRep r s).fetchOrder = s.fetchOrder := rfl
@[simp] theorem raiseRep_fetchPos (r : Report) : (raiseRep r s).fetchPos = s.fetchPos := rfl
@[simp] theorem raiseRep_deferred (r : Report) : (raiseRep r s).deferred = s.deferred := rfl
@[simp] theorem raiseRep_doorbells (r : Report) : (raiseRep r s).doorbells = s.doorbells := rfl
@[simp] theorem raiseRep_sess (r : Report) : (raiseRep r s).sess = s.sess := rfl
@[simp] theorem raiseRep_pels (r : Report) : (raiseRep r s).pels = s.pels := rfl
@[simp] theorem raiseRep_cores (r : Report) : (raiseRep r s).cores = s.cores := rfl
@[simp] theorem raiseRep_pairs (r : Report) : (raiseRep r s).pairs = s.pairs := rfl
@[simp] theorem raiseRep_mcs (r : Report) : (raiseRep r s).mcs = s.mcs := rfl
@[simp] theorem raiseRep_bpm (r : Report) : (raiseRep r s).bpm = s.bpm := rfl
@[simp] theorem raiseRep_dram (r : Report) : (raiseRep r s).dram = s.dram := rfl
@[simp] theorem raiseRep_bufm (r : Report) : (raiseRep r s).bufm = s.bufm := rfl
@[simp] theorem raiseRep_dma (r : Report) : (raiseRep r s).dma = s.dma := rfl
@[simp] theorem raiseRep_mbx (r : Report) : (raiseRep r s).mbx = s.mbx := rfl
@[simp] theorem raiseRep_micSrc (r : Report) : (raiseRep r s).micSrc = s.micSrc := rfl
@[simp] theorem raiseRep_micTgt (r : Report) : (raiseRep r s).micTgt = s.micTgt := rfl
@[simp] theorem raiseRep_gears (r : Report) : (raiseRep r s).gears = s.gears := rfl
@[simp] theorem raiseRep_nvs (r : Report) : (raiseRep r s).nvs = s.nvs := rfl
@[simp] theorem raiseRep_net (r : Report) : (raiseRep r s).net = s.net := rfl
@[simp] theorem raiseRep_time (r : Report) : (raiseRep r s).time = s.time := rfl
@[simp] theorem raiseRep_sec (r : Report) : (raiseRep r s).sec = s.sec := rfl
@[simp] theorem raiseRep_mcode (r : Report) : (raiseRep r s).mcode = s.mcode := rfl
@[simp] theorem raiseRep_jtagIr (r : Report) : (raiseRep r s).jtagIr = s.jtagIr := rfl
@[simp] theorem raiseRep_rebalanceAt (r : Report) : (raiseRep r s).rebalanceAt = s.rebalanceAt := rfl
@[simp] theorem raiseRep_free (r : Report) : (raiseRep r s).free = s.free := rfl
@[simp] theorem raiseRep_out (r : Report) : (raiseRep r s).out = s.out := rfl

@[simp] theorem raise_pending (kind inst : Nat) : (raise kind inst s).pending = s.pending := rfl
@[simp] theorem raise_board (kind inst : Nat) : (raise kind inst s).board = s.board := rfl
@[simp] theorem raise_boot (kind inst : Nat) : (raise kind inst s).boot = s.boot := rfl
@[simp] theorem raise_now (kind inst : Nat) : (raise kind inst s).now = s.now := rfl
@[simp] theorem raise_clk (kind inst : Nat) : (raise kind inst s).clk = s.clk := rfl
@[simp] theorem raise_adj (kind inst : Nat) : (raise kind inst s).adj = s.adj := rfl
@[simp] theorem raise_regs (kind inst : Nat) : (raise kind inst s).regs = s.regs := rfl
@[simp] theorem raise_halves (kind inst : Nat) : (raise kind inst s).halves = s.halves := rfl
@[simp] theorem raise_funs (kind inst : Nat) : (raise kind inst s).funs = s.funs := rfl
@[simp] theorem raise_ports (kind inst : Nat) : (raise kind inst s).ports = s.ports := rfl
@[simp] theorem raise_qps (kind inst : Nat) : (raise kind inst s).qps = s.qps := rfl
@[simp] theorem raise_slots (kind inst : Nat) : (raise kind inst s).slots = s.slots := rfl
@[simp] theorem raise_fetchOrder (kind inst : Nat) : (raise kind inst s).fetchOrder = s.fetchOrder := rfl
@[simp] theorem raise_fetchPos (kind inst : Nat) : (raise kind inst s).fetchPos = s.fetchPos := rfl
@[simp] theorem raise_deferred (kind inst : Nat) : (raise kind inst s).deferred = s.deferred := rfl
@[simp] theorem raise_doorbells (kind inst : Nat) : (raise kind inst s).doorbells = s.doorbells := rfl
@[simp] theorem raise_sess (kind inst : Nat) : (raise kind inst s).sess = s.sess := rfl
@[simp] theorem raise_pels (kind inst : Nat) : (raise kind inst s).pels = s.pels := rfl
@[simp] theorem raise_cores (kind inst : Nat) : (raise kind inst s).cores = s.cores := rfl
@[simp] theorem raise_pairs (kind inst : Nat) : (raise kind inst s).pairs = s.pairs := rfl
@[simp] theorem raise_mcs (kind inst : Nat) : (raise kind inst s).mcs = s.mcs := rfl
@[simp] theorem raise_bpm (kind inst : Nat) : (raise kind inst s).bpm = s.bpm := rfl
@[simp] theorem raise_dram (kind inst : Nat) : (raise kind inst s).dram = s.dram := rfl
@[simp] theorem raise_bufm (kind inst : Nat) : (raise kind inst s).bufm = s.bufm := rfl
@[simp] theorem raise_dma (kind inst : Nat) : (raise kind inst s).dma = s.dma := rfl
@[simp] theorem raise_mbx (kind inst : Nat) : (raise kind inst s).mbx = s.mbx := rfl
@[simp] theorem raise_micSrc (kind inst : Nat) : (raise kind inst s).micSrc = s.micSrc := rfl
@[simp] theorem raise_micTgt (kind inst : Nat) : (raise kind inst s).micTgt = s.micTgt := rfl
@[simp] theorem raise_gears (kind inst : Nat) : (raise kind inst s).gears = s.gears := rfl
@[simp] theorem raise_nvs (kind inst : Nat) : (raise kind inst s).nvs = s.nvs := rfl
@[simp] theorem raise_net (kind inst : Nat) : (raise kind inst s).net = s.net := rfl
@[simp] theorem raise_time (kind inst : Nat) : (raise kind inst s).time = s.time := rfl
@[simp] theorem raise_sec (kind inst : Nat) : (raise kind inst s).sec = s.sec := rfl
@[simp] theorem raise_mcode (kind inst : Nat) : (raise kind inst s).mcode = s.mcode := rfl
@[simp] theorem raise_jtagIr (kind inst : Nat) : (raise kind inst s).jtagIr = s.jtagIr := rfl
@[simp] theorem raise_rebalanceAt (kind inst : Nat) : (raise kind inst s).rebalanceAt = s.rebalanceAt := rfl
@[simp] theorem raise_free (kind inst : Nat) : (raise kind inst s).free = s.free := rfl
@[simp] theorem raise_out (kind inst : Nat) : (raise kind inst s).out = s.out := rfl

@[simp] theorem poolMod_pending (i : Nat) (g : Pool → Pool) : (poolMod i g s).pending = s.pending := rfl
@[simp] theorem poolMod_board (i : Nat) (g : Pool → Pool) : (poolMod i g s).board = s.board := rfl
@[simp] theorem poolMod_boot (i : Nat) (g : Pool → Pool) : (poolMod i g s).boot = s.boot := rfl
@[simp] theorem poolMod_now (i : Nat) (g : Pool → Pool) : (poolMod i g s).now = s.now := rfl
@[simp] theorem poolMod_clk (i : Nat) (g : Pool → Pool) : (poolMod i g s).clk = s.clk := rfl
@[simp] theorem poolMod_adj (i : Nat) (g : Pool → Pool) : (poolMod i g s).adj = s.adj := rfl
@[simp] theorem poolMod_regs (i : Nat) (g : Pool → Pool) : (poolMod i g s).regs = s.regs := rfl
@[simp] theorem poolMod_halves (i : Nat) (g : Pool → Pool) : (poolMod i g s).halves = s.halves := rfl
@[simp] theorem poolMod_funs (i : Nat) (g : Pool → Pool) : (poolMod i g s).funs = s.funs := rfl
@[simp] theorem poolMod_ports (i : Nat) (g : Pool → Pool) : (poolMod i g s).ports = s.ports := rfl
@[simp] theorem poolMod_qps (i : Nat) (g : Pool → Pool) : (poolMod i g s).qps = s.qps := rfl
@[simp] theorem poolMod_slots (i : Nat) (g : Pool → Pool) : (poolMod i g s).slots = s.slots := rfl
@[simp] theorem poolMod_fetchOrder (i : Nat) (g : Pool → Pool) : (poolMod i g s).fetchOrder = s.fetchOrder := rfl
@[simp] theorem poolMod_fetchPos (i : Nat) (g : Pool → Pool) : (poolMod i g s).fetchPos = s.fetchPos := rfl
@[simp] theorem poolMod_deferred (i : Nat) (g : Pool → Pool) : (poolMod i g s).deferred = s.deferred := rfl
@[simp] theorem poolMod_doorbells (i : Nat) (g : Pool → Pool) : (poolMod i g s).doorbells = s.doorbells := rfl
@[simp] theorem poolMod_sess (i : Nat) (g : Pool → Pool) : (poolMod i g s).sess = s.sess := rfl
@[simp] theorem poolMod_pels (i : Nat) (g : Pool → Pool) : (poolMod i g s).pels = s.pels := rfl
@[simp] theorem poolMod_cores (i : Nat) (g : Pool → Pool) : (poolMod i g s).cores = s.cores := rfl
@[simp] theorem poolMod_pairs (i : Nat) (g : Pool → Pool) : (poolMod i g s).pairs = s.pairs := rfl
@[simp] theorem poolMod_mcs (i : Nat) (g : Pool → Pool) : (poolMod i g s).mcs = s.mcs := rfl
@[simp] theorem poolMod_dram (i : Nat) (g : Pool → Pool) : (poolMod i g s).dram = s.dram := rfl
@[simp] theorem poolMod_bufm (i : Nat) (g : Pool → Pool) : (poolMod i g s).bufm = s.bufm := rfl
@[simp] theorem poolMod_dma (i : Nat) (g : Pool → Pool) : (poolMod i g s).dma = s.dma := rfl
@[simp] theorem poolMod_mbx (i : Nat) (g : Pool → Pool) : (poolMod i g s).mbx = s.mbx := rfl
@[simp] theorem poolMod_micSrc (i : Nat) (g : Pool → Pool) : (poolMod i g s).micSrc = s.micSrc := rfl
@[simp] theorem poolMod_micTgt (i : Nat) (g : Pool → Pool) : (poolMod i g s).micTgt = s.micTgt := rfl
@[simp] theorem poolMod_flt (i : Nat) (g : Pool → Pool) : (poolMod i g s).flt = s.flt := rfl
@[simp] theorem poolMod_gears (i : Nat) (g : Pool → Pool) : (poolMod i g s).gears = s.gears := rfl
@[simp] theorem poolMod_nvs (i : Nat) (g : Pool → Pool) : (poolMod i g s).nvs = s.nvs := rfl
@[simp] theorem poolMod_net (i : Nat) (g : Pool → Pool) : (poolMod i g s).net = s.net := rfl
@[simp] theorem poolMod_time (i : Nat) (g : Pool → Pool) : (poolMod i g s).time = s.time := rfl
@[simp] theorem poolMod_sec (i : Nat) (g : Pool → Pool) : (poolMod i g s).sec = s.sec := rfl
@[simp] theorem poolMod_mcode (i : Nat) (g : Pool → Pool) : (poolMod i g s).mcode = s.mcode := rfl
@[simp] theorem poolMod_jtagIr (i : Nat) (g : Pool → Pool) : (poolMod i g s).jtagIr = s.jtagIr := rfl
@[simp] theorem poolMod_rebalanceAt (i : Nat) (g : Pool → Pool) : (poolMod i g s).rebalanceAt = s.rebalanceAt := rfl
@[simp] theorem poolMod_free (i : Nat) (g : Pool → Pool) : (poolMod i g s).free = s.free := rfl
@[simp] theorem poolMod_out (i : Nat) (g : Pool → Pool) : (poolMod i g s).out = s.out := rfl

@[simp] theorem bufMod_pending (i : Nat) (g : BufRec → BufRec) : (bufMod i g s).pending = s.pending := rfl
@[simp] theorem bufMod_board (i : Nat) (g : BufRec → BufRec) : (bufMod i g s).board = s.board := rfl
@[simp] theorem bufMod_boot (i : Nat) (g : BufRec → BufRec) : (bufMod i g s).boot = s.boot := rfl
@[simp] theorem bufMod_now (i : Nat) (g : BufRec → BufRec) : (bufMod i g s).now = s.now := rfl
@[simp] theorem bufMod_clk (i : Nat) (g : BufRec → BufRec) : (bufMod i g s).clk = s.clk := rfl
@[simp] theorem bufMod_adj (i : Nat) (g : BufRec → BufRec) : (bufMod i g s).adj = s.adj := rfl
@[simp] theorem bufMod_regs (i : Nat) (g : BufRec → BufRec) : (bufMod i g s).regs = s.regs := rfl
@[simp] theorem bufMod_halves (i : Nat) (g : BufRec → BufRec) : (bufMod i g s).halves = s.halves := rfl
@[simp] theorem bufMod_funs (i : Nat) (g : BufRec → BufRec) : (bufMod i g s).funs = s.funs := rfl
@[simp] theorem bufMod_ports (i : Nat) (g : BufRec → BufRec) : (bufMod i g s).ports = s.ports := rfl
@[simp] theorem bufMod_qps (i : Nat) (g : BufRec → BufRec) : (bufMod i g s).qps = s.qps := rfl
@[simp] theorem bufMod_slots (i : Nat) (g : BufRec → BufRec) : (bufMod i g s).slots = s.slots := rfl
@[simp] theorem bufMod_fetchOrder (i : Nat) (g : BufRec → BufRec) : (bufMod i g s).fetchOrder = s.fetchOrder := rfl
@[simp] theorem bufMod_fetchPos (i : Nat) (g : BufRec → BufRec) : (bufMod i g s).fetchPos = s.fetchPos := rfl
@[simp] theorem bufMod_deferred (i : Nat) (g : BufRec → BufRec) : (bufMod i g s).deferred = s.deferred := rfl
@[simp] theorem bufMod_doorbells (i : Nat) (g : BufRec → BufRec) : (bufMod i g s).doorbells = s.doorbells := rfl
@[simp] theorem bufMod_sess (i : Nat) (g : BufRec → BufRec) : (bufMod i g s).sess = s.sess := rfl
@[simp] theorem bufMod_pels (i : Nat) (g : BufRec → BufRec) : (bufMod i g s).pels = s.pels := rfl
@[simp] theorem bufMod_cores (i : Nat) (g : BufRec → BufRec) : (bufMod i g s).cores = s.cores := rfl
@[simp] theorem bufMod_pairs (i : Nat) (g : BufRec → BufRec) : (bufMod i g s).pairs = s.pairs := rfl
@[simp] theorem bufMod_mcs (i : Nat) (g : BufRec → BufRec) : (bufMod i g s).mcs = s.mcs := rfl
@[simp] theorem bufMod_dram (i : Nat) (g : BufRec → BufRec) : (bufMod i g s).dram = s.dram := rfl
@[simp] theorem bufMod_bufm (i : Nat) (g : BufRec → BufRec) : (bufMod i g s).bufm = s.bufm := rfl
@[simp] theorem bufMod_dma (i : Nat) (g : BufRec → BufRec) : (bufMod i g s).dma = s.dma := rfl
@[simp] theorem bufMod_mbx (i : Nat) (g : BufRec → BufRec) : (bufMod i g s).mbx = s.mbx := rfl
@[simp] theorem bufMod_micSrc (i : Nat) (g : BufRec → BufRec) : (bufMod i g s).micSrc = s.micSrc := rfl
@[simp] theorem bufMod_micTgt (i : Nat) (g : BufRec → BufRec) : (bufMod i g s).micTgt = s.micTgt := rfl
@[simp] theorem bufMod_flt (i : Nat) (g : BufRec → BufRec) : (bufMod i g s).flt = s.flt := rfl
@[simp] theorem bufMod_gears (i : Nat) (g : BufRec → BufRec) : (bufMod i g s).gears = s.gears := rfl
@[simp] theorem bufMod_nvs (i : Nat) (g : BufRec → BufRec) : (bufMod i g s).nvs = s.nvs := rfl
@[simp] theorem bufMod_net (i : Nat) (g : BufRec → BufRec) : (bufMod i g s).net = s.net := rfl
@[simp] theorem bufMod_time (i : Nat) (g : BufRec → BufRec) : (bufMod i g s).time = s.time := rfl
@[simp] theorem bufMod_sec (i : Nat) (g : BufRec → BufRec) : (bufMod i g s).sec = s.sec := rfl
@[simp] theorem bufMod_mcode (i : Nat) (g : BufRec → BufRec) : (bufMod i g s).mcode = s.mcode := rfl
@[simp] theorem bufMod_jtagIr (i : Nat) (g : BufRec → BufRec) : (bufMod i g s).jtagIr = s.jtagIr := rfl
@[simp] theorem bufMod_rebalanceAt (i : Nat) (g : BufRec → BufRec) : (bufMod i g s).rebalanceAt = s.rebalanceAt := rfl
@[simp] theorem bufMod_free (i : Nat) (g : BufRec → BufRec) : (bufMod i g s).free = s.free := rfl
@[simp] theorem bufMod_out (i : Nat) (g : BufRec → BufRec) : (bufMod i g s).out = s.out := rfl

@[simp] theorem dmaMod_pending (i : Nat) (g : DmaCh → DmaCh) : (dmaMod i g s).pending = s.pending := rfl
@[simp] theorem dmaMod_board (i : Nat) (g : DmaCh → DmaCh) : (dmaMod i g s).board = s.board := rfl
@[simp] theorem dmaMod_boot (i : Nat) (g : DmaCh → DmaCh) : (dmaMod i g s).boot = s.boot := rfl
@[simp] theorem dmaMod_now (i : Nat) (g : DmaCh → DmaCh) : (dmaMod i g s).now = s.now := rfl
@[simp] theorem dmaMod_clk (i : Nat) (g : DmaCh → DmaCh) : (dmaMod i g s).clk = s.clk := rfl
@[simp] theorem dmaMod_adj (i : Nat) (g : DmaCh → DmaCh) : (dmaMod i g s).adj = s.adj := rfl
@[simp] theorem dmaMod_regs (i : Nat) (g : DmaCh → DmaCh) : (dmaMod i g s).regs = s.regs := rfl
@[simp] theorem dmaMod_halves (i : Nat) (g : DmaCh → DmaCh) : (dmaMod i g s).halves = s.halves := rfl
@[simp] theorem dmaMod_funs (i : Nat) (g : DmaCh → DmaCh) : (dmaMod i g s).funs = s.funs := rfl
@[simp] theorem dmaMod_ports (i : Nat) (g : DmaCh → DmaCh) : (dmaMod i g s).ports = s.ports := rfl
@[simp] theorem dmaMod_qps (i : Nat) (g : DmaCh → DmaCh) : (dmaMod i g s).qps = s.qps := rfl
@[simp] theorem dmaMod_slots (i : Nat) (g : DmaCh → DmaCh) : (dmaMod i g s).slots = s.slots := rfl
@[simp] theorem dmaMod_fetchOrder (i : Nat) (g : DmaCh → DmaCh) : (dmaMod i g s).fetchOrder = s.fetchOrder := rfl
@[simp] theorem dmaMod_fetchPos (i : Nat) (g : DmaCh → DmaCh) : (dmaMod i g s).fetchPos = s.fetchPos := rfl
@[simp] theorem dmaMod_deferred (i : Nat) (g : DmaCh → DmaCh) : (dmaMod i g s).deferred = s.deferred := rfl
@[simp] theorem dmaMod_doorbells (i : Nat) (g : DmaCh → DmaCh) : (dmaMod i g s).doorbells = s.doorbells := rfl
@[simp] theorem dmaMod_sess (i : Nat) (g : DmaCh → DmaCh) : (dmaMod i g s).sess = s.sess := rfl
@[simp] theorem dmaMod_pels (i : Nat) (g : DmaCh → DmaCh) : (dmaMod i g s).pels = s.pels := rfl
@[simp] theorem dmaMod_cores (i : Nat) (g : DmaCh → DmaCh) : (dmaMod i g s).cores = s.cores := rfl
@[simp] theorem dmaMod_pairs (i : Nat) (g : DmaCh → DmaCh) : (dmaMod i g s).pairs = s.pairs := rfl
@[simp] theorem dmaMod_mcs (i : Nat) (g : DmaCh → DmaCh) : (dmaMod i g s).mcs = s.mcs := rfl
@[simp] theorem dmaMod_bpm (i : Nat) (g : DmaCh → DmaCh) : (dmaMod i g s).bpm = s.bpm := rfl
@[simp] theorem dmaMod_dram (i : Nat) (g : DmaCh → DmaCh) : (dmaMod i g s).dram = s.dram := rfl
@[simp] theorem dmaMod_bufm (i : Nat) (g : DmaCh → DmaCh) : (dmaMod i g s).bufm = s.bufm := rfl
@[simp] theorem dmaMod_mbx (i : Nat) (g : DmaCh → DmaCh) : (dmaMod i g s).mbx = s.mbx := rfl
@[simp] theorem dmaMod_micSrc (i : Nat) (g : DmaCh → DmaCh) : (dmaMod i g s).micSrc = s.micSrc := rfl
@[simp] theorem dmaMod_micTgt (i : Nat) (g : DmaCh → DmaCh) : (dmaMod i g s).micTgt = s.micTgt := rfl
@[simp] theorem dmaMod_flt (i : Nat) (g : DmaCh → DmaCh) : (dmaMod i g s).flt = s.flt := rfl
@[simp] theorem dmaMod_gears (i : Nat) (g : DmaCh → DmaCh) : (dmaMod i g s).gears = s.gears := rfl
@[simp] theorem dmaMod_nvs (i : Nat) (g : DmaCh → DmaCh) : (dmaMod i g s).nvs = s.nvs := rfl
@[simp] theorem dmaMod_net (i : Nat) (g : DmaCh → DmaCh) : (dmaMod i g s).net = s.net := rfl
@[simp] theorem dmaMod_time (i : Nat) (g : DmaCh → DmaCh) : (dmaMod i g s).time = s.time := rfl
@[simp] theorem dmaMod_sec (i : Nat) (g : DmaCh → DmaCh) : (dmaMod i g s).sec = s.sec := rfl
@[simp] theorem dmaMod_mcode (i : Nat) (g : DmaCh → DmaCh) : (dmaMod i g s).mcode = s.mcode := rfl
@[simp] theorem dmaMod_jtagIr (i : Nat) (g : DmaCh → DmaCh) : (dmaMod i g s).jtagIr = s.jtagIr := rfl
@[simp] theorem dmaMod_rebalanceAt (i : Nat) (g : DmaCh → DmaCh) : (dmaMod i g s).rebalanceAt = s.rebalanceAt := rfl
@[simp] theorem dmaMod_free (i : Nat) (g : DmaCh → DmaCh) : (dmaMod i g s).free = s.free := rfl
@[simp] theorem dmaMod_out (i : Nat) (g : DmaCh → DmaCh) : (dmaMod i g s).out = s.out := rfl

@[simp] theorem mbxMod_pending (i : Nat) (g : Mbx → Mbx) : (mbxMod i g s).pending = s.pending := rfl
@[simp] theorem mbxMod_board (i : Nat) (g : Mbx → Mbx) : (mbxMod i g s).board = s.board := rfl
@[simp] theorem mbxMod_boot (i : Nat) (g : Mbx → Mbx) : (mbxMod i g s).boot = s.boot := rfl
@[simp] theorem mbxMod_now (i : Nat) (g : Mbx → Mbx) : (mbxMod i g s).now = s.now := rfl
@[simp] theorem mbxMod_clk (i : Nat) (g : Mbx → Mbx) : (mbxMod i g s).clk = s.clk := rfl
@[simp] theorem mbxMod_adj (i : Nat) (g : Mbx → Mbx) : (mbxMod i g s).adj = s.adj := rfl
@[simp] theorem mbxMod_regs (i : Nat) (g : Mbx → Mbx) : (mbxMod i g s).regs = s.regs := rfl
@[simp] theorem mbxMod_halves (i : Nat) (g : Mbx → Mbx) : (mbxMod i g s).halves = s.halves := rfl
@[simp] theorem mbxMod_funs (i : Nat) (g : Mbx → Mbx) : (mbxMod i g s).funs = s.funs := rfl
@[simp] theorem mbxMod_ports (i : Nat) (g : Mbx → Mbx) : (mbxMod i g s).ports = s.ports := rfl
@[simp] theorem mbxMod_qps (i : Nat) (g : Mbx → Mbx) : (mbxMod i g s).qps = s.qps := rfl
@[simp] theorem mbxMod_slots (i : Nat) (g : Mbx → Mbx) : (mbxMod i g s).slots = s.slots := rfl
@[simp] theorem mbxMod_fetchOrder (i : Nat) (g : Mbx → Mbx) : (mbxMod i g s).fetchOrder = s.fetchOrder := rfl
@[simp] theorem mbxMod_fetchPos (i : Nat) (g : Mbx → Mbx) : (mbxMod i g s).fetchPos = s.fetchPos := rfl
@[simp] theorem mbxMod_deferred (i : Nat) (g : Mbx → Mbx) : (mbxMod i g s).deferred = s.deferred := rfl
@[simp] theorem mbxMod_doorbells (i : Nat) (g : Mbx → Mbx) : (mbxMod i g s).doorbells = s.doorbells := rfl
@[simp] theorem mbxMod_sess (i : Nat) (g : Mbx → Mbx) : (mbxMod i g s).sess = s.sess := rfl
@[simp] theorem mbxMod_pels (i : Nat) (g : Mbx → Mbx) : (mbxMod i g s).pels = s.pels := rfl
@[simp] theorem mbxMod_cores (i : Nat) (g : Mbx → Mbx) : (mbxMod i g s).cores = s.cores := rfl
@[simp] theorem mbxMod_pairs (i : Nat) (g : Mbx → Mbx) : (mbxMod i g s).pairs = s.pairs := rfl
@[simp] theorem mbxMod_mcs (i : Nat) (g : Mbx → Mbx) : (mbxMod i g s).mcs = s.mcs := rfl
@[simp] theorem mbxMod_bpm (i : Nat) (g : Mbx → Mbx) : (mbxMod i g s).bpm = s.bpm := rfl
@[simp] theorem mbxMod_dram (i : Nat) (g : Mbx → Mbx) : (mbxMod i g s).dram = s.dram := rfl
@[simp] theorem mbxMod_bufm (i : Nat) (g : Mbx → Mbx) : (mbxMod i g s).bufm = s.bufm := rfl
@[simp] theorem mbxMod_dma (i : Nat) (g : Mbx → Mbx) : (mbxMod i g s).dma = s.dma := rfl
@[simp] theorem mbxMod_micSrc (i : Nat) (g : Mbx → Mbx) : (mbxMod i g s).micSrc = s.micSrc := rfl
@[simp] theorem mbxMod_micTgt (i : Nat) (g : Mbx → Mbx) : (mbxMod i g s).micTgt = s.micTgt := rfl
@[simp] theorem mbxMod_flt (i : Nat) (g : Mbx → Mbx) : (mbxMod i g s).flt = s.flt := rfl
@[simp] theorem mbxMod_gears (i : Nat) (g : Mbx → Mbx) : (mbxMod i g s).gears = s.gears := rfl
@[simp] theorem mbxMod_nvs (i : Nat) (g : Mbx → Mbx) : (mbxMod i g s).nvs = s.nvs := rfl
@[simp] theorem mbxMod_net (i : Nat) (g : Mbx → Mbx) : (mbxMod i g s).net = s.net := rfl
@[simp] theorem mbxMod_time (i : Nat) (g : Mbx → Mbx) : (mbxMod i g s).time = s.time := rfl
@[simp] theorem mbxMod_sec (i : Nat) (g : Mbx → Mbx) : (mbxMod i g s).sec = s.sec := rfl
@[simp] theorem mbxMod_mcode (i : Nat) (g : Mbx → Mbx) : (mbxMod i g s).mcode = s.mcode := rfl
@[simp] theorem mbxMod_jtagIr (i : Nat) (g : Mbx → Mbx) : (mbxMod i g s).jtagIr = s.jtagIr := rfl
@[simp] theorem mbxMod_rebalanceAt (i : Nat) (g : Mbx → Mbx) : (mbxMod i g s).rebalanceAt = s.rebalanceAt := rfl
@[simp] theorem mbxMod_free (i : Nat) (g : Mbx → Mbx) : (mbxMod i g s).free = s.free := rfl
@[simp] theorem mbxMod_out (i : Nat) (g : Mbx → Mbx) : (mbxMod i g s).out = s.out := rfl

@[simp] theorem micSrcMod_pending (i : Nat) (g : MicSrc → MicSrc) : (micSrcMod i g s).pending = s.pending := rfl
@[simp] theorem micSrcMod_board (i : Nat) (g : MicSrc → MicSrc) : (micSrcMod i g s).board = s.board := rfl
@[simp] theorem micSrcMod_boot (i : Nat) (g : MicSrc → MicSrc) : (micSrcMod i g s).boot = s.boot := rfl
@[simp] theorem micSrcMod_now (i : Nat) (g : MicSrc → MicSrc) : (micSrcMod i g s).now = s.now := rfl
@[simp] theorem micSrcMod_clk (i : Nat) (g : MicSrc → MicSrc) : (micSrcMod i g s).clk = s.clk := rfl
@[simp] theorem micSrcMod_adj (i : Nat) (g : MicSrc → MicSrc) : (micSrcMod i g s).adj = s.adj := rfl
@[simp] theorem micSrcMod_regs (i : Nat) (g : MicSrc → MicSrc) : (micSrcMod i g s).regs = s.regs := rfl
@[simp] theorem micSrcMod_halves (i : Nat) (g : MicSrc → MicSrc) : (micSrcMod i g s).halves = s.halves := rfl
@[simp] theorem micSrcMod_funs (i : Nat) (g : MicSrc → MicSrc) : (micSrcMod i g s).funs = s.funs := rfl
@[simp] theorem micSrcMod_ports (i : Nat) (g : MicSrc → MicSrc) : (micSrcMod i g s).ports = s.ports := rfl
@[simp] theorem micSrcMod_qps (i : Nat) (g : MicSrc → MicSrc) : (micSrcMod i g s).qps = s.qps := rfl
@[simp] theorem micSrcMod_slots (i : Nat) (g : MicSrc → MicSrc) : (micSrcMod i g s).slots = s.slots := rfl
@[simp] theorem micSrcMod_fetchOrder (i : Nat) (g : MicSrc → MicSrc) : (micSrcMod i g s).fetchOrder = s.fetchOrder := rfl
@[simp] theorem micSrcMod_fetchPos (i : Nat) (g : MicSrc → MicSrc) : (micSrcMod i g s).fetchPos = s.fetchPos := rfl
@[simp] theorem micSrcMod_deferred (i : Nat) (g : MicSrc → MicSrc) : (micSrcMod i g s).deferred = s.deferred := rfl
@[simp] theorem micSrcMod_doorbells (i : Nat) (g : MicSrc → MicSrc) : (micSrcMod i g s).doorbells = s.doorbells := rfl
@[simp] theorem micSrcMod_sess (i : Nat) (g : MicSrc → MicSrc) : (micSrcMod i g s).sess = s.sess := rfl
@[simp] theorem micSrcMod_pels (i : Nat) (g : MicSrc → MicSrc) : (micSrcMod i g s).pels = s.pels := rfl
@[simp] theorem micSrcMod_cores (i : Nat) (g : MicSrc → MicSrc) : (micSrcMod i g s).cores = s.cores := rfl
@[simp] theorem micSrcMod_pairs (i : Nat) (g : MicSrc → MicSrc) : (micSrcMod i g s).pairs = s.pairs := rfl
@[simp] theorem micSrcMod_mcs (i : Nat) (g : MicSrc → MicSrc) : (micSrcMod i g s).mcs = s.mcs := rfl
@[simp] theorem micSrcMod_bpm (i : Nat) (g : MicSrc → MicSrc) : (micSrcMod i g s).bpm = s.bpm := rfl
@[simp] theorem micSrcMod_dram (i : Nat) (g : MicSrc → MicSrc) : (micSrcMod i g s).dram = s.dram := rfl
@[simp] theorem micSrcMod_bufm (i : Nat) (g : MicSrc → MicSrc) : (micSrcMod i g s).bufm = s.bufm := rfl
@[simp] theorem micSrcMod_dma (i : Nat) (g : MicSrc → MicSrc) : (micSrcMod i g s).dma = s.dma := rfl
@[simp] theorem micSrcMod_mbx (i : Nat) (g : MicSrc → MicSrc) : (micSrcMod i g s).mbx = s.mbx := rfl
@[simp] theorem micSrcMod_micTgt (i : Nat) (g : MicSrc → MicSrc) : (micSrcMod i g s).micTgt = s.micTgt := rfl
@[simp] theorem micSrcMod_flt (i : Nat) (g : MicSrc → MicSrc) : (micSrcMod i g s).flt = s.flt := rfl
@[simp] theorem micSrcMod_gears (i : Nat) (g : MicSrc → MicSrc) : (micSrcMod i g s).gears = s.gears := rfl
@[simp] theorem micSrcMod_nvs (i : Nat) (g : MicSrc → MicSrc) : (micSrcMod i g s).nvs = s.nvs := rfl
@[simp] theorem micSrcMod_net (i : Nat) (g : MicSrc → MicSrc) : (micSrcMod i g s).net = s.net := rfl
@[simp] theorem micSrcMod_time (i : Nat) (g : MicSrc → MicSrc) : (micSrcMod i g s).time = s.time := rfl
@[simp] theorem micSrcMod_sec (i : Nat) (g : MicSrc → MicSrc) : (micSrcMod i g s).sec = s.sec := rfl
@[simp] theorem micSrcMod_mcode (i : Nat) (g : MicSrc → MicSrc) : (micSrcMod i g s).mcode = s.mcode := rfl
@[simp] theorem micSrcMod_jtagIr (i : Nat) (g : MicSrc → MicSrc) : (micSrcMod i g s).jtagIr = s.jtagIr := rfl
@[simp] theorem micSrcMod_rebalanceAt (i : Nat) (g : MicSrc → MicSrc) : (micSrcMod i g s).rebalanceAt = s.rebalanceAt := rfl
@[simp] theorem micSrcMod_free (i : Nat) (g : MicSrc → MicSrc) : (micSrcMod i g s).free = s.free := rfl
@[simp] theorem micSrcMod_out (i : Nat) (g : MicSrc → MicSrc) : (micSrcMod i g s).out = s.out := rfl

@[simp] theorem micTgtMod_pending (i : Nat) (g : MicTgt → MicTgt) : (micTgtMod i g s).pending = s.pending := rfl
@[simp] theorem micTgtMod_board (i : Nat) (g : MicTgt → MicTgt) : (micTgtMod i g s).board = s.board := rfl
@[simp] theorem micTgtMod_boot (i : Nat) (g : MicTgt → MicTgt) : (micTgtMod i g s).boot = s.boot := rfl
@[simp] theorem micTgtMod_now (i : Nat) (g : MicTgt → MicTgt) : (micTgtMod i g s).now = s.now := rfl
@[simp] theorem micTgtMod_clk (i : Nat) (g : MicTgt → MicTgt) : (micTgtMod i g s).clk = s.clk := rfl
@[simp] theorem micTgtMod_adj (i : Nat) (g : MicTgt → MicTgt) : (micTgtMod i g s).adj = s.adj := rfl
@[simp] theorem micTgtMod_regs (i : Nat) (g : MicTgt → MicTgt) : (micTgtMod i g s).regs = s.regs := rfl
@[simp] theorem micTgtMod_halves (i : Nat) (g : MicTgt → MicTgt) : (micTgtMod i g s).halves = s.halves := rfl
@[simp] theorem micTgtMod_funs (i : Nat) (g : MicTgt → MicTgt) : (micTgtMod i g s).funs = s.funs := rfl
@[simp] theorem micTgtMod_ports (i : Nat) (g : MicTgt → MicTgt) : (micTgtMod i g s).ports = s.ports := rfl
@[simp] theorem micTgtMod_qps (i : Nat) (g : MicTgt → MicTgt) : (micTgtMod i g s).qps = s.qps := rfl
@[simp] theorem micTgtMod_slots (i : Nat) (g : MicTgt → MicTgt) : (micTgtMod i g s).slots = s.slots := rfl
@[simp] theorem micTgtMod_fetchOrder (i : Nat) (g : MicTgt → MicTgt) : (micTgtMod i g s).fetchOrder = s.fetchOrder := rfl
@[simp] theorem micTgtMod_fetchPos (i : Nat) (g : MicTgt → MicTgt) : (micTgtMod i g s).fetchPos = s.fetchPos := rfl
@[simp] theorem micTgtMod_deferred (i : Nat) (g : MicTgt → MicTgt) : (micTgtMod i g s).deferred = s.deferred := rfl
@[simp] theorem micTgtMod_doorbells (i : Nat) (g : MicTgt → MicTgt) : (micTgtMod i g s).doorbells = s.doorbells := rfl
@[simp] theorem micTgtMod_sess (i : Nat) (g : MicTgt → MicTgt) : (micTgtMod i g s).sess = s.sess := rfl
@[simp] theorem micTgtMod_pels (i : Nat) (g : MicTgt → MicTgt) : (micTgtMod i g s).pels = s.pels := rfl
@[simp] theorem micTgtMod_cores (i : Nat) (g : MicTgt → MicTgt) : (micTgtMod i g s).cores = s.cores := rfl
@[simp] theorem micTgtMod_pairs (i : Nat) (g : MicTgt → MicTgt) : (micTgtMod i g s).pairs = s.pairs := rfl
@[simp] theorem micTgtMod_mcs (i : Nat) (g : MicTgt → MicTgt) : (micTgtMod i g s).mcs = s.mcs := rfl
@[simp] theorem micTgtMod_bpm (i : Nat) (g : MicTgt → MicTgt) : (micTgtMod i g s).bpm = s.bpm := rfl
@[simp] theorem micTgtMod_dram (i : Nat) (g : MicTgt → MicTgt) : (micTgtMod i g s).dram = s.dram := rfl
@[simp] theorem micTgtMod_bufm (i : Nat) (g : MicTgt → MicTgt) : (micTgtMod i g s).bufm = s.bufm := rfl
@[simp] theorem micTgtMod_dma (i : Nat) (g : MicTgt → MicTgt) : (micTgtMod i g s).dma = s.dma := rfl
@[simp] theorem micTgtMod_mbx (i : Nat) (g : MicTgt → MicTgt) : (micTgtMod i g s).mbx = s.mbx := rfl
@[simp] theorem micTgtMod_micSrc (i : Nat) (g : MicTgt → MicTgt) : (micTgtMod i g s).micSrc = s.micSrc := rfl
@[simp] theorem micTgtMod_flt (i : Nat) (g : MicTgt → MicTgt) : (micTgtMod i g s).flt = s.flt := rfl
@[simp] theorem micTgtMod_gears (i : Nat) (g : MicTgt → MicTgt) : (micTgtMod i g s).gears = s.gears := rfl
@[simp] theorem micTgtMod_nvs (i : Nat) (g : MicTgt → MicTgt) : (micTgtMod i g s).nvs = s.nvs := rfl
@[simp] theorem micTgtMod_net (i : Nat) (g : MicTgt → MicTgt) : (micTgtMod i g s).net = s.net := rfl
@[simp] theorem micTgtMod_time (i : Nat) (g : MicTgt → MicTgt) : (micTgtMod i g s).time = s.time := rfl
@[simp] theorem micTgtMod_sec (i : Nat) (g : MicTgt → MicTgt) : (micTgtMod i g s).sec = s.sec := rfl
@[simp] theorem micTgtMod_mcode (i : Nat) (g : MicTgt → MicTgt) : (micTgtMod i g s).mcode = s.mcode := rfl
@[simp] theorem micTgtMod_jtagIr (i : Nat) (g : MicTgt → MicTgt) : (micTgtMod i g s).jtagIr = s.jtagIr := rfl
@[simp] theorem micTgtMod_rebalanceAt (i : Nat) (g : MicTgt → MicTgt) : (micTgtMod i g s).rebalanceAt = s.rebalanceAt := rfl
@[simp] theorem micTgtMod_free (i : Nat) (g : MicTgt → MicTgt) : (micTgtMod i g s).free = s.free := rfl
@[simp] theorem micTgtMod_out (i : Nat) (g : MicTgt → MicTgt) : (micTgtMod i g s).out = s.out := rfl

/-! ### What an update gives in its own field -/

theorem rget_rset (a v b : Nat) : rget (rset a v s) b = if b = a then v else rget s b := by
  by_cases hb : b = a
  · subst hb
    by_cases hv : v = resetAt b
    · simp [rget, rset, hv, tfind_terase]
    · simp [rget, rset, hv, tfind_tput]
  · by_cases hv : v = resetAt a
    · simp [rget, rset, hv, tfind_terase, hb]
    · simp [rget, rset, hv, tfind_tput, hb]

@[simp] theorem rget_rset_same (a v : Nat) : rget (rset a v s) a = v := by rw [rget_rset, if_pos rfl]

theorem rget_rset_other (a v b : Nat) (h : b ≠ a) : rget (rset a v s) b = rget s b := by rw [rget_rset, if_neg h]

/-- A register reads as the table of registers gives. -/
theorem rget_congr {s t : State} (h : s.regs = t.regs) (a : Nat) : rget s a = rget t a := by unfold rget; rw [h]

theorem polder_polMod (i j : Nat) (g : Polder → Polder) : polder (polMod i g s) j = if j = i then g (polder s j) else polder s j :=
  tget_tmod _ _ i j g
@[simp] theorem polder_polMod_same (i : Nat) (g : Polder → Polder) : polder (polMod i g s) i = g (polder s i) := tget_tmod_same _ _ i g
theorem polder_congr {s t : State} (h : s.flt.polders = t.flt.polders) (i : Nat) : polder s i = polder t i := by
  unfold polder; rw [h]
theorem func_funcMod (i j : Nat) (g : Func → Func) : func (funcMod i g s) j = if j = i then g (func s j) else func s j :=
  tget_tmod _ _ i j g
@[simp] theorem func_funcMod_same (i : Nat) (g : Func → Func) : func (funcMod i g s) i = g (func s i) := tget_tmod_same _ _ i g
theorem func_congr {s t : State} (h : s.funs = t.funs) (i : Nat) : func s i = func t i := by
  unfold func; rw [h]
theorem port_portMod (i j : Nat) (g : Port → Port) : port (portMod i g s) j = if j = i then g (port s j) else port s j :=
  tget_tmod _ _ i j g
@[simp] theorem port_portMod_same (i : Nat) (g : Port → Port) : port (portMod i g s) i = g (port s i) := tget_tmod_same _ _ i g
theorem port_congr {s t : State} (h : s.ports = t.ports) (i : Nat) : port s i = port t i := by
  unfold port; rw [h]
theorem sessOf_sessMod (i j : Nat) (g : Session → Session) : sessOf (sessMod i g s) j = if j = i then g (sessOf s j) else sessOf s j :=
  tget_tmod _ _ i j g
@[simp] theorem sessOf_sessMod_same (i : Nat) (g : Session → Session) : sessOf (sessMod i g s) i = g (sessOf s i) := tget_tmod_same _ _ i g
theorem sessOf_congr {s t : State} (h : s.sess = t.sess) (i : Nat) : sessOf s i = sessOf t i := by
  unfold sessOf; rw [h]
theorem coreOf_coreMod (i j : Nat) (g : Core → Core) : coreOf (coreMod i g s) j = if j = i then g (coreOf s j) else coreOf s j :=
  tget_tmod _ _ i j g
@[simp] theorem coreOf_coreMod_same (i : Nat) (g : Core → Core) : coreOf (coreMod i g s) i = g (coreOf s i) := tget_tmod_same _ _ i g
theorem coreOf_congr {s t : State} (h : s.cores = t.cores) (i : Nat) : coreOf s i = coreOf t i := by
  unfold coreOf; rw [h]
theorem pelOf_pelMod (i j : Nat) (g : Pel → Pel) : pelOf (pelMod i g s) j = if j = i then g (pelOf s j) else pelOf s j :=
  tget_tmod _ _ i j g
@[simp] theorem pelOf_pelMod_same (i : Nat) (g : Pel → Pel) : pelOf (pelMod i g s) i = g (pelOf s i) := tget_tmod_same _ _ i g
theorem pelOf_congr {s t : State} (h : s.pels = t.pels) (i : Nat) : pelOf s i = pelOf t i := by
  unfold pelOf; rw [h]
theorem pairOf_pairMod (i j : Nat) (g : Pair → Pair) : pairOf (pairMod i g s) j = if j = i then g (pairOf s j) else pairOf s j :=
  tget_tmod _ _ i j g
@[simp] theorem pairOf_pairMod_same (i : Nat) (g : Pair → Pair) : pairOf (pairMod i g s) i = g (pairOf s i) := tget_tmod_same _ _ i g
theorem pairOf_congr {s t : State} (h : s.pairs = t.pairs) (i : Nat) : pairOf s i = pairOf t i := by
  unfold pairOf; rw [h]
theorem mcOf_mcMod (i j : Nat) (g : Mc → Mc) : mcOf (mcMod i g s) j = if j = i then g (mcOf s j) else mcOf s j :=
  tget_tmod _ _ i j g
@[simp] theorem mcOf_mcMod_same (i : Nat) (g : Mc → Mc) : mcOf (mcMod i g s) i = g (mcOf s i) := tget_tmod_same _ _ i g
theorem mcOf_congr {s t : State} (h : s.mcs = t.mcs) (i : Nat) : mcOf s i = mcOf t i := by
  unfold mcOf; rw [h]
theorem gearOf_gearMod (i j : Nat) (g : Gear → Gear) : gearOf (gearMod i g s) j = if j = i then g (gearOf s j) else gearOf s j :=
  tget_tmod _ _ i j g
@[simp] theorem gearOf_gearMod_same (i : Nat) (g : Gear → Gear) : gearOf (gearMod i g s) i = g (gearOf s i) := tget_tmod_same _ _ i g
theorem gearOf_congr {s t : State} (h : s.gears = t.gears) (i : Nat) : gearOf s i = gearOf t i := by
  unfold gearOf; rw [h]
theorem subOf_subMod (i j : Nat) (g : Subport → Subport) : subOf (subMod i g s) j = if j = i then g (subOf s j) else subOf s j :=
  tget_tmod _ _ i j g
@[simp] theorem subOf_subMod_same (i : Nat) (g : Subport → Subport) : subOf (subMod i g s) i = g (subOf s i) := tget_tmod_same _ _ i g
theorem subOf_congr {s t : State} (h : s.net.subs = t.net.subs) (i : Nat) : subOf s i = subOf t i := by
  unfold subOf; rw [h]
theorem poolOf_poolMod (i j : Nat) (g : Pool → Pool) : poolOf (poolMod i g s) j = if j = i then g (poolOf s j) else poolOf s j :=
  tget_tmod _ _ i j g
@[simp] theorem poolOf_poolMod_same (i : Nat) (g : Pool → Pool) : poolOf (poolMod i g s) i = g (poolOf s i) := tget_tmod_same _ _ i g
theorem poolOf_congr {s t : State} (h : s.bpm.pools = t.bpm.pools) (i : Nat) : poolOf s i = poolOf t i := by
  unfold poolOf; rw [h]
theorem bufOf_bufMod (i j : Nat) (g : BufRec → BufRec) : bufOf (bufMod i g s) j = if j = i then g (bufOf s j) else bufOf s j :=
  tget_tmod _ _ i j g
@[simp] theorem bufOf_bufMod_same (i : Nat) (g : BufRec → BufRec) : bufOf (bufMod i g s) i = g (bufOf s i) := tget_tmod_same _ _ i g
theorem bufOf_congr {s t : State} (h : s.bpm.bufs = t.bpm.bufs) (i : Nat) : bufOf s i = bufOf t i := by
  unfold bufOf; rw [h]
theorem dmaOf_dmaMod (i j : Nat) (g : DmaCh → DmaCh) : dmaOf (dmaMod i g s) j = if j = i then g (dmaOf s j) else dmaOf s j :=
  tget_tmod _ _ i j g
@[simp] theorem dmaOf_dmaMod_same (i : Nat) (g : DmaCh → DmaCh) : dmaOf (dmaMod i g s) i = g (dmaOf s i) := tget_tmod_same _ _ i g
theorem dmaOf_congr {s t : State} (h : s.dma = t.dma) (i : Nat) : dmaOf s i = dmaOf t i := by
  unfold dmaOf; rw [h]
theorem mbxOf_mbxMod (i j : Nat) (g : Mbx → Mbx) : mbxOf (mbxMod i g s) j = if j = i then g (mbxOf s j) else mbxOf s j :=
  tget_tmod _ _ i j g
@[simp] theorem mbxOf_mbxMod_same (i : Nat) (g : Mbx → Mbx) : mbxOf (mbxMod i g s) i = g (mbxOf s i) := tget_tmod_same _ _ i g
theorem mbxOf_congr {s t : State} (h : s.mbx = t.mbx) (i : Nat) : mbxOf s i = mbxOf t i := by
  unfold mbxOf; rw [h]
theorem micSrcOf_micSrcMod (i j : Nat) (g : MicSrc → MicSrc) : micSrcOf (micSrcMod i g s) j = if j = i then g (micSrcOf s j) else micSrcOf s j :=
  tget_tmod _ _ i j g
@[simp] theorem micSrcOf_micSrcMod_same (i : Nat) (g : MicSrc → MicSrc) : micSrcOf (micSrcMod i g s) i = g (micSrcOf s i) := tget_tmod_same _ _ i g
theorem micSrcOf_congr {s t : State} (h : s.micSrc = t.micSrc) (i : Nat) : micSrcOf s i = micSrcOf t i := by
  unfold micSrcOf; rw [h]
theorem micTgtOf_micTgtMod (i j : Nat) (g : MicTgt → MicTgt) : micTgtOf (micTgtMod i g s) j = if j = i then g (micTgtOf s j) else micTgtOf s j :=
  tget_tmod _ _ i j g
@[simp] theorem micTgtOf_micTgtMod_same (i : Nat) (g : MicTgt → MicTgt) : micTgtOf (micTgtMod i g s) i = g (micTgtOf s i) := tget_tmod_same _ _ i g
theorem micTgtOf_congr {s t : State} (h : s.micTgt = t.micTgt) (i : Nat) : micTgtOf s i = micTgtOf t i := by
  unfold micTgtOf; rw [h]

/-! ### What is read of one part is left by an update of another -/

@[simp] theorem polder_rset (a v : Nat) (j : Nat) : polder (rset a v s) j = polder s j := rfl
@[simp] theorem func_rset (a v : Nat) (j : Nat) : func (rset a v s) j = func s j := rfl
@[simp] theorem port_rset (a v : Nat) (j : Nat) : port (rset a v s) j = port s j := rfl
@[simp] theorem sessOf_rset (a v : Nat) (j : Nat) : sessOf (rset a v s) j = sessOf s j := rfl
@[simp] theorem coreOf_rset (a v : Nat) (j : Nat) : coreOf (rset a v s) j = coreOf s j := rfl
@[simp] theorem pelOf_rset (a v : Nat) (j : Nat) : pelOf (rset a v s) j = pelOf s j := rfl
@[simp] theorem pairOf_rset (a v : Nat) (j : Nat) : pairOf (rset a v s) j = pairOf s j := rfl
@[simp] theorem mcOf_rset (a v : Nat) (j : Nat) : mcOf (rset a v s) j = mcOf s j := rfl
@[simp] theorem gearOf_rset (a v : Nat) (j : Nat) : gearOf (rset a v s) j = gearOf s j := rfl
@[simp] theorem subOf_rset (a v : Nat) (j : Nat) : subOf (rset a v s) j = subOf s j := rfl
@[simp] theorem poolOf_rset (a v : Nat) (j : Nat) : poolOf (rset a v s) j = poolOf s j := rfl
@[simp] theorem bufOf_rset (a v : Nat) (j : Nat) : bufOf (rset a v s) j = bufOf s j := rfl
@[simp] theorem dmaOf_rset (a v : Nat) (j : Nat) : dmaOf (rset a v s) j = dmaOf s j := rfl
@[simp] theorem mbxOf_rset (a v : Nat) (j : Nat) : mbxOf (rset a v s) j = mbxOf s j := rfl
@[simp] theorem micSrcOf_rset (a v : Nat) (j : Nat) : micSrcOf (rset a v s) j = micSrcOf s j := rfl
@[simp] theorem micTgtOf_rset (a v : Nat) (j : Nat) : micTgtOf (rset a v s) j = micTgtOf s j := rfl
@[simp] theorem polOpen_rset (a v : Nat) (j : Nat) : polOpen (rset a v s) j = polOpen s j := rfl
@[simp] theorem isFatal_rset (a v : Nat) : isFatal (rset a v s) = isFatal s := rfl
@[simp] theorem devNs_rset (a v : Nat) : devNs (rset a v s) = devNs s := rfl
@[simp] theorem polder_rfset (a lo n v : Nat) (j : Nat) : polder (rfset a lo n v s) j = polder s j := rfl
@[simp] theorem func_rfset (a lo n v : Nat) (j : Nat) : func (rfset a lo n v s) j = func s j := rfl
@[simp] theorem port_rfset (a lo n v : Nat) (j : Nat) : port (rfset a lo n v s) j = port s j := rfl
@[simp] theorem sessOf_rfset (a lo n v : Nat) (j : Nat) : sessOf (rfset a lo n v s) j = sessOf s j := rfl
@[simp] theorem coreOf_rfset (a lo n v : Nat) (j : Nat) : coreOf (rfset a lo n v s) j = coreOf s j := rfl
@[simp] theorem pelOf_rfset (a lo n v : Nat) (j : Nat) : pelOf (rfset a lo n v s) j = pelOf s j := rfl
@[simp] theorem pairOf_rfset (a lo n v : Nat) (j : Nat) : pairOf (rfset a lo n v s) j = pairOf s j := rfl
@[simp] theorem mcOf_rfset (a lo n v : Nat) (j : Nat) : mcOf (rfset a lo n v s) j = mcOf s j := rfl
@[simp] theorem gearOf_rfset (a lo n v : Nat) (j : Nat) : gearOf (rfset a lo n v s) j = gearOf s j := rfl
@[simp] theorem subOf_rfset (a lo n v : Nat) (j : Nat) : subOf (rfset a lo n v s) j = subOf s j := rfl
@[simp] theorem poolOf_rfset (a lo n v : Nat) (j : Nat) : poolOf (rfset a lo n v s) j = poolOf s j := rfl
@[simp] theorem bufOf_rfset (a lo n v : Nat) (j : Nat) : bufOf (rfset a lo n v s) j = bufOf s j := rfl
@[simp] theorem dmaOf_rfset (a lo n v : Nat) (j : Nat) : dmaOf (rfset a lo n v s) j = dmaOf s j := rfl
@[simp] theorem mbxOf_rfset (a lo n v : Nat) (j : Nat) : mbxOf (rfset a lo n v s) j = mbxOf s j := rfl
@[simp] theorem micSrcOf_rfset (a lo n v : Nat) (j : Nat) : micSrcOf (rfset a lo n v s) j = micSrcOf s j := rfl
@[simp] theorem micTgtOf_rfset (a lo n v : Nat) (j : Nat) : micTgtOf (rfset a lo n v s) j = micTgtOf s j := rfl
@[simp] theorem polOpen_rfset (a lo n v : Nat) (j : Nat) : polOpen (rfset a lo n v s) j = polOpen s j := rfl
@[simp] theorem isFatal_rfset (a lo n v : Nat) : isFatal (rfset a lo n v s) = isFatal s := rfl
@[simp] theorem devNs_rfset (a lo n v : Nat) : devNs (rfset a lo n v s) = devNs s := rfl
@[simp] theorem polder_rcnt (a lo n k : Nat) (j : Nat) : polder (rcnt a lo n k s) j = polder s j := rfl
@[simp] theorem func_rcnt (a lo n k : Nat) (j : Nat) : func (rcnt a lo n k s) j = func s j := rfl
@[simp] theorem port_rcnt (a lo n k : Nat) (j : Nat) : port (rcnt a lo n k s) j = port s j := rfl
@[simp] theorem sessOf_rcnt (a lo n k : Nat) (j : Nat) : sessOf (rcnt a lo n k s) j = sessOf s j := rfl
@[simp] theorem coreOf_rcnt (a lo n k : Nat) (j : Nat) : coreOf (rcnt a lo n k s) j = coreOf s j := rfl
@[simp] theorem pelOf_rcnt (a lo n k : Nat) (j : Nat) : pelOf (rcnt a lo n k s) j = pelOf s j := rfl
@[simp] theorem pairOf_rcnt (a lo n k : Nat) (j : Nat) : pairOf (rcnt a lo n k s) j = pairOf s j := rfl
@[simp] theorem mcOf_rcnt (a lo n k : Nat) (j : Nat) : mcOf (rcnt a lo n k s) j = mcOf s j := rfl
@[simp] theorem gearOf_rcnt (a lo n k : Nat) (j : Nat) : gearOf (rcnt a lo n k s) j = gearOf s j := rfl
@[simp] theorem subOf_rcnt (a lo n k : Nat) (j : Nat) : subOf (rcnt a lo n k s) j = subOf s j := rfl
@[simp] theorem poolOf_rcnt (a lo n k : Nat) (j : Nat) : poolOf (rcnt a lo n k s) j = poolOf s j := rfl
@[simp] theorem bufOf_rcnt (a lo n k : Nat) (j : Nat) : bufOf (rcnt a lo n k s) j = bufOf s j := rfl
@[simp] theorem dmaOf_rcnt (a lo n k : Nat) (j : Nat) : dmaOf (rcnt a lo n k s) j = dmaOf s j := rfl
@[simp] theorem mbxOf_rcnt (a lo n k : Nat) (j : Nat) : mbxOf (rcnt a lo n k s) j = mbxOf s j := rfl
@[simp] theorem micSrcOf_rcnt (a lo n k : Nat) (j : Nat) : micSrcOf (rcnt a lo n k s) j = micSrcOf s j := rfl
@[simp] theorem micTgtOf_rcnt (a lo n k : Nat) (j : Nat) : micTgtOf (rcnt a lo n k s) j = micTgtOf s j := rfl
@[simp] theorem polOpen_rcnt (a lo n k : Nat) (j : Nat) : polOpen (rcnt a lo n k s) j = polOpen s j := rfl
@[simp] theorem isFatal_rcnt (a lo n k : Nat) : isFatal (rcnt a lo n k s) = isFatal s := rfl
@[simp] theorem devNs_rcnt (a lo n k : Nat) : devNs (rcnt a lo n k s) = devNs s := rfl
@[simp] theorem polder_pgEvt (p : Page) (b : Nat) (j : Nat) : polder (pgEvt p b s) j = polder s j := rfl
@[simp] theorem func_pgEvt (p : Page) (b : Nat) (j : Nat) : func (pgEvt p b s) j = func s j := rfl
@[simp] theorem port_pgEvt (p : Page) (b : Nat) (j : Nat) : port (pgEvt p b s) j = port s j := rfl
@[simp] theorem sessOf_pgEvt (p : Page) (b : Nat) (j : Nat) : sessOf (pgEvt p b s) j = sessOf s j := rfl
@[simp] theorem coreOf_pgEvt (p : Page) (b : Nat) (j : Nat) : coreOf (pgEvt p b s) j = coreOf s j := rfl
@[simp] theorem pelOf_pgEvt (p : Page) (b : Nat) (j : Nat) : pelOf (pgEvt p b s) j = pelOf s j := rfl
@[simp] theorem pairOf_pgEvt (p : Page) (b : Nat) (j : Nat) : pairOf (pgEvt p b s) j = pairOf s j := rfl
@[simp] theorem mcOf_pgEvt (p : Page) (b : Nat) (j : Nat) : mcOf (pgEvt p b s) j = mcOf s j := rfl
@[simp] theorem gearOf_pgEvt (p : Page) (b : Nat) (j : Nat) : gearOf (pgEvt p b s) j = gearOf s j := rfl
@[simp] theorem subOf_pgEvt (p : Page) (b : Nat) (j : Nat) : subOf (pgEvt p b s) j = subOf s j := rfl
@[simp] theorem poolOf_pgEvt (p : Page) (b : Nat) (j : Nat) : poolOf (pgEvt p b s) j = poolOf s j := rfl
@[simp] theorem bufOf_pgEvt (p : Page) (b : Nat) (j : Nat) : bufOf (pgEvt p b s) j = bufOf s j := rfl
@[simp] theorem dmaOf_pgEvt (p : Page) (b : Nat) (j : Nat) : dmaOf (pgEvt p b s) j = dmaOf s j := rfl
@[simp] theorem mbxOf_pgEvt (p : Page) (b : Nat) (j : Nat) : mbxOf (pgEvt p b s) j = mbxOf s j := rfl
@[simp] theorem micSrcOf_pgEvt (p : Page) (b : Nat) (j : Nat) : micSrcOf (pgEvt p b s) j = micSrcOf s j := rfl
@[simp] theorem micTgtOf_pgEvt (p : Page) (b : Nat) (j : Nat) : micTgtOf (pgEvt p b s) j = micTgtOf s j := rfl
@[simp] theorem polOpen_pgEvt (p : Page) (b : Nat) (j : Nat) : polOpen (pgEvt p b s) j = polOpen s j := rfl
@[simp] theorem isFatal_pgEvt (p : Page) (b : Nat) : isFatal (pgEvt p b s) = isFatal s := rfl
@[simp] theorem devNs_pgEvt (p : Page) (b : Nat) : devNs (pgEvt p b s) = devNs s := rfl
@[simp] theorem polder_pgBlock (p : Page) (j : Nat) : polder (pgBlock p s) j = polder s j := rfl
@[simp] theorem func_pgBlock (p : Page) (j : Nat) : func (pgBlock p s) j = func s j := rfl
@[simp] theorem port_pgBlock (p : Page) (j : Nat) : port (pgBlock p s) j = port s j := rfl
@[simp] theorem sessOf_pgBlock (p : Page) (j : Nat) : sessOf (pgBlock p s) j = sessOf s j := rfl
@[simp] theorem coreOf_pgBlock (p : Page) (j : Nat) : coreOf (pgBlock p s) j = coreOf s j := rfl
@[simp] theorem pelOf_pgBlock (p : Page) (j : Nat) : pelOf (pgBlock p s) j = pelOf s j := rfl
@[simp] theorem pairOf_pgBlock (p : Page) (j : Nat) : pairOf (pgBlock p s) j = pairOf s j := rfl
@[simp] theorem mcOf_pgBlock (p : Page) (j : Nat) : mcOf (pgBlock p s) j = mcOf s j := rfl
@[simp] theorem gearOf_pgBlock (p : Page) (j : Nat) : gearOf (pgBlock p s) j = gearOf s j := rfl
@[simp] theorem subOf_pgBlock (p : Page) (j : Nat) : subOf (pgBlock p s) j = subOf s j := rfl
@[simp] theorem poolOf_pgBlock (p : Page) (j : Nat) : poolOf (pgBlock p s) j = poolOf s j := rfl
@[simp] theorem bufOf_pgBlock (p : Page) (j : Nat) : bufOf (pgBlock p s) j = bufOf s j := rfl
@[simp] theorem dmaOf_pgBlock (p : Page) (j : Nat) : dmaOf (pgBlock p s) j = dmaOf s j := rfl
@[simp] theorem mbxOf_pgBlock (p : Page) (j : Nat) : mbxOf (pgBlock p s) j = mbxOf s j := rfl
@[simp] theorem micSrcOf_pgBlock (p : Page) (j : Nat) : micSrcOf (pgBlock p s) j = micSrcOf s j := rfl
@[simp] theorem micTgtOf_pgBlock (p : Page) (j : Nat) : micTgtOf (pgBlock p s) j = micTgtOf s j := rfl
@[simp] theorem polOpen_pgBlock (p : Page) (j : Nat) : polOpen (pgBlock p s) j = polOpen s j := rfl
@[simp] theorem isFatal_pgBlock (p : Page) : isFatal (pgBlock p s) = isFatal s := rfl
@[simp] theorem devNs_pgBlock (p : Page) : devNs (pgBlock p s) = devNs s := rfl
@[simp] theorem polder_emit (o : Out) (j : Nat) : polder (emit o s) j = polder s j := rfl
@[simp] theorem func_emit (o : Out) (j : Nat) : func (emit o s) j = func s j := rfl
@[simp] theorem port_emit (o : Out) (j : Nat) : port (emit o s) j = port s j := rfl
@[simp] theorem sessOf_emit (o : Out) (j : Nat) : sessOf (emit o s) j = sessOf s j := rfl
@[simp] theorem coreOf_emit (o : Out) (j : Nat) : coreOf (emit o s) j = coreOf s j := rfl
@[simp] theorem pelOf_emit (o : Out) (j : Nat) : pelOf (emit o s) j = pelOf s j := rfl
@[simp] theorem pairOf_emit (o : Out) (j : Nat) : pairOf (emit o s) j = pairOf s j := rfl
@[simp] theorem mcOf_emit (o : Out) (j : Nat) : mcOf (emit o s) j = mcOf s j := rfl
@[simp] theorem gearOf_emit (o : Out) (j : Nat) : gearOf (emit o s) j = gearOf s j := rfl
@[simp] theorem subOf_emit (o : Out) (j : Nat) : subOf (emit o s) j = subOf s j := rfl
@[simp] theorem poolOf_emit (o : Out) (j : Nat) : poolOf (emit o s) j = poolOf s j := rfl
@[simp] theorem bufOf_emit (o : Out) (j : Nat) : bufOf (emit o s) j = bufOf s j := rfl
@[simp] theorem dmaOf_emit (o : Out) (j : Nat) : dmaOf (emit o s) j = dmaOf s j := rfl
@[simp] theorem mbxOf_emit (o : Out) (j : Nat) : mbxOf (emit o s) j = mbxOf s j := rfl
@[simp] theorem micSrcOf_emit (o : Out) (j : Nat) : micSrcOf (emit o s) j = micSrcOf s j := rfl
@[simp] theorem micTgtOf_emit (o : Out) (j : Nat) : micTgtOf (emit o s) j = micTgtOf s j := rfl
@[simp] theorem rget_emit (o : Out) (j : Nat) : rget (emit o s) j = rget s j := rfl
@[simp] theorem rfld_emit (o : Out) (j b m : Nat) : rfld (emit o s) j b m = rfld s j b m := rfl
@[simp] theorem polOpen_emit (o : Out) (j : Nat) : polOpen (emit o s) j = polOpen s j := rfl
@[simp] theorem isFatal_emit (o : Out) : isFatal (emit o s) = isFatal s := rfl
@[simp] theorem devNs_emit (o : Out) : devNs (emit o s) = devNs s := rfl
@[simp] theorem func_polMod (i : Nat) (g : Polder → Polder) (j : Nat) : func (polMod i g s) j = func s j := rfl
@[simp] theorem port_polMod (i : Nat) (g : Polder → Polder) (j : Nat) : port (polMod i g s) j = port s j := rfl
@[simp] theorem sessOf_polMod (i : Nat) (g : Polder → Polder) (j : Nat) : sessOf (polMod i g s) j = sessOf s j := rfl
@[simp] theorem coreOf_polMod (i : Nat) (g : Polder → Polder) (j : Nat) : coreOf (polMod i g s) j = coreOf s j := rfl
@[simp] theorem pelOf_polMod (i : Nat) (g : Polder → Polder) (j : Nat) : pelOf (polMod i g s) j = pelOf s j := rfl
@[simp] theorem pairOf_polMod (i : Nat) (g : Polder → Polder) (j : Nat) : pairOf (polMod i g s) j = pairOf s j := rfl
@[simp] theorem mcOf_polMod (i : Nat) (g : Polder → Polder) (j : Nat) : mcOf (polMod i g s) j = mcOf s j := rfl
@[simp] theorem gearOf_polMod (i : Nat) (g : Polder → Polder) (j : Nat) : gearOf (polMod i g s) j = gearOf s j := rfl
@[simp] theorem subOf_polMod (i : Nat) (g : Polder → Polder) (j : Nat) : subOf (polMod i g s) j = subOf s j := rfl
@[simp] theorem poolOf_polMod (i : Nat) (g : Polder → Polder) (j : Nat) : poolOf (polMod i g s) j = poolOf s j := rfl
@[simp] theorem bufOf_polMod (i : Nat) (g : Polder → Polder) (j : Nat) : bufOf (polMod i g s) j = bufOf s j := rfl
@[simp] theorem dmaOf_polMod (i : Nat) (g : Polder → Polder) (j : Nat) : dmaOf (polMod i g s) j = dmaOf s j := rfl
@[simp] theorem mbxOf_polMod (i : Nat) (g : Polder → Polder) (j : Nat) : mbxOf (polMod i g s) j = mbxOf s j := rfl
@[simp] theorem micSrcOf_polMod (i : Nat) (g : Polder → Polder) (j : Nat) : micSrcOf (polMod i g s) j = micSrcOf s j := rfl
@[simp] theorem micTgtOf_polMod (i : Nat) (g : Polder → Polder) (j : Nat) : micTgtOf (polMod i g s) j = micTgtOf s j := rfl
@[simp] theorem rget_polMod (i : Nat) (g : Polder → Polder) (j : Nat) : rget (polMod i g s) j = rget s j := rfl
@[simp] theorem rfld_polMod (i : Nat) (g : Polder → Polder) (j b m : Nat) : rfld (polMod i g s) j b m = rfld s j b m := rfl
@[simp] theorem isFatal_polMod (i : Nat) (g : Polder → Polder) : isFatal (polMod i g s) = isFatal s := rfl
@[simp] theorem devNs_polMod (i : Nat) (g : Polder → Polder) : devNs (polMod i g s) = devNs s := rfl
@[simp] theorem polder_funcMod (i : Nat) (g : Func → Func) (j : Nat) : polder (funcMod i g s) j = polder s j := rfl
@[simp] theorem port_funcMod (i : Nat) (g : Func → Func) (j : Nat) : port (funcMod i g s) j = port s j := rfl
@[simp] theorem sessOf_funcMod (i : Nat) (g : Func → Func) (j : Nat) : sessOf (funcMod i g s) j = sessOf s j := rfl
@[simp] theorem coreOf_funcMod (i : Nat) (g : Func → Func) (j : Nat) : coreOf (funcMod i g s) j = coreOf s j := rfl
@[simp] theorem pelOf_funcMod (i : Nat) (g : Func → Func) (j : Nat) : pelOf (funcMod i g s) j = pelOf s j := rfl
@[simp] theorem pairOf_funcMod (i : Nat) (g : Func → Func) (j : Nat) : pairOf (funcMod i g s) j = pairOf s j := rfl
@[simp] theorem mcOf_funcMod (i : Nat) (g : Func → Func) (j : Nat) : mcOf (funcMod i g s) j = mcOf s j := rfl
@[simp] theorem gearOf_funcMod (i : Nat) (g : Func → Func) (j : Nat) : gearOf (funcMod i g s) j = gearOf s j := rfl
@[simp] theorem subOf_funcMod (i : Nat) (g : Func → Func) (j : Nat) : subOf (funcMod i g s) j = subOf s j := rfl
@[simp] theorem poolOf_funcMod (i : Nat) (g : Func → Func) (j : Nat) : poolOf (funcMod i g s) j = poolOf s j := rfl
@[simp] theorem bufOf_funcMod (i : Nat) (g : Func → Func) (j : Nat) : bufOf (funcMod i g s) j = bufOf s j := rfl
@[simp] theorem dmaOf_funcMod (i : Nat) (g : Func → Func) (j : Nat) : dmaOf (funcMod i g s) j = dmaOf s j := rfl
@[simp] theorem mbxOf_funcMod (i : Nat) (g : Func → Func) (j : Nat) : mbxOf (funcMod i g s) j = mbxOf s j := rfl
@[simp] theorem micSrcOf_funcMod (i : Nat) (g : Func → Func) (j : Nat) : micSrcOf (funcMod i g s) j = micSrcOf s j := rfl
@[simp] theorem micTgtOf_funcMod (i : Nat) (g : Func → Func) (j : Nat) : micTgtOf (funcMod i g s) j = micTgtOf s j := rfl
@[simp] theorem rget_funcMod (i : Nat) (g : Func → Func) (j : Nat) : rget (funcMod i g s) j = rget s j := rfl
@[simp] theorem rfld_funcMod (i : Nat) (g : Func → Func) (j b m : Nat) : rfld (funcMod i g s) j b m = rfld s j b m := rfl
@[simp] theorem polOpen_funcMod (i : Nat) (g : Func → Func) (j : Nat) : polOpen (funcMod i g s) j = polOpen s j := rfl
@[simp] theorem isFatal_funcMod (i : Nat) (g : Func → Func) : isFatal (funcMod i g s) = isFatal s := rfl
@[simp] theorem devNs_funcMod (i : Nat) (g : Func → Func) : devNs (funcMod i g s) = devNs s := rfl
@[simp] theorem polder_portMod (i : Nat) (g : Port → Port) (j : Nat) : polder (portMod i g s) j = polder s j := rfl
@[simp] theorem func_portMod (i : Nat) (g : Port → Port) (j : Nat) : func (portMod i g s) j = func s j := rfl
@[simp] theorem sessOf_portMod (i : Nat) (g : Port → Port) (j : Nat) : sessOf (portMod i g s) j = sessOf s j := rfl
@[simp] theorem coreOf_portMod (i : Nat) (g : Port → Port) (j : Nat) : coreOf (portMod i g s) j = coreOf s j := rfl
@[simp] theorem pelOf_portMod (i : Nat) (g : Port → Port) (j : Nat) : pelOf (portMod i g s) j = pelOf s j := rfl
@[simp] theorem pairOf_portMod (i : Nat) (g : Port → Port) (j : Nat) : pairOf (portMod i g s) j = pairOf s j := rfl
@[simp] theorem mcOf_portMod (i : Nat) (g : Port → Port) (j : Nat) : mcOf (portMod i g s) j = mcOf s j := rfl
@[simp] theorem gearOf_portMod (i : Nat) (g : Port → Port) (j : Nat) : gearOf (portMod i g s) j = gearOf s j := rfl
@[simp] theorem subOf_portMod (i : Nat) (g : Port → Port) (j : Nat) : subOf (portMod i g s) j = subOf s j := rfl
@[simp] theorem poolOf_portMod (i : Nat) (g : Port → Port) (j : Nat) : poolOf (portMod i g s) j = poolOf s j := rfl
@[simp] theorem bufOf_portMod (i : Nat) (g : Port → Port) (j : Nat) : bufOf (portMod i g s) j = bufOf s j := rfl
@[simp] theorem dmaOf_portMod (i : Nat) (g : Port → Port) (j : Nat) : dmaOf (portMod i g s) j = dmaOf s j := rfl
@[simp] theorem mbxOf_portMod (i : Nat) (g : Port → Port) (j : Nat) : mbxOf (portMod i g s) j = mbxOf s j := rfl
@[simp] theorem micSrcOf_portMod (i : Nat) (g : Port → Port) (j : Nat) : micSrcOf (portMod i g s) j = micSrcOf s j := rfl
@[simp] theorem micTgtOf_portMod (i : Nat) (g : Port → Port) (j : Nat) : micTgtOf (portMod i g s) j = micTgtOf s j := rfl
@[simp] theorem rget_portMod (i : Nat) (g : Port → Port) (j : Nat) : rget (portMod i g s) j = rget s j := rfl
@[simp] theorem rfld_portMod (i : Nat) (g : Port → Port) (j b m : Nat) : rfld (portMod i g s) j b m = rfld s j b m := rfl
@[simp] theorem polOpen_portMod (i : Nat) (g : Port → Port) (j : Nat) : polOpen (portMod i g s) j = polOpen s j := rfl
@[simp] theorem isFatal_portMod (i : Nat) (g : Port → Port) : isFatal (portMod i g s) = isFatal s := rfl
@[simp] theorem devNs_portMod (i : Nat) (g : Port → Port) : devNs (portMod i g s) = devNs s := rfl
@[simp] theorem polder_sessMod (i : Nat) (g : Session → Session) (j : Nat) : polder (sessMod i g s) j = polder s j := rfl
@[simp] theorem func_sessMod (i : Nat) (g : Session → Session) (j : Nat) : func (sessMod i g s) j = func s j := rfl
@[simp] theorem port_sessMod (i : Nat) (g : Session → Session) (j : Nat) : port (sessMod i g s) j = port s j := rfl
@[simp] theorem coreOf_sessMod (i : Nat) (g : Session → Session) (j : Nat) : coreOf (sessMod i g s) j = coreOf s j := rfl
@[simp] theorem pelOf_sessMod (i : Nat) (g : Session → Session) (j : Nat) : pelOf (sessMod i g s) j = pelOf s j := rfl
@[simp] theorem pairOf_sessMod (i : Nat) (g : Session → Session) (j : Nat) : pairOf (sessMod i g s) j = pairOf s j := rfl
@[simp] theorem mcOf_sessMod (i : Nat) (g : Session → Session) (j : Nat) : mcOf (sessMod i g s) j = mcOf s j := rfl
@[simp] theorem gearOf_sessMod (i : Nat) (g : Session → Session) (j : Nat) : gearOf (sessMod i g s) j = gearOf s j := rfl
@[simp] theorem subOf_sessMod (i : Nat) (g : Session → Session) (j : Nat) : subOf (sessMod i g s) j = subOf s j := rfl
@[simp] theorem poolOf_sessMod (i : Nat) (g : Session → Session) (j : Nat) : poolOf (sessMod i g s) j = poolOf s j := rfl
@[simp] theorem bufOf_sessMod (i : Nat) (g : Session → Session) (j : Nat) : bufOf (sessMod i g s) j = bufOf s j := rfl
@[simp] theorem dmaOf_sessMod (i : Nat) (g : Session → Session) (j : Nat) : dmaOf (sessMod i g s) j = dmaOf s j := rfl
@[simp] theorem mbxOf_sessMod (i : Nat) (g : Session → Session) (j : Nat) : mbxOf (sessMod i g s) j = mbxOf s j := rfl
@[simp] theorem micSrcOf_sessMod (i : Nat) (g : Session → Session) (j : Nat) : micSrcOf (sessMod i g s) j = micSrcOf s j := rfl
@[simp] theorem micTgtOf_sessMod (i : Nat) (g : Session → Session) (j : Nat) : micTgtOf (sessMod i g s) j = micTgtOf s j := rfl
@[simp] theorem rget_sessMod (i : Nat) (g : Session → Session) (j : Nat) : rget (sessMod i g s) j = rget s j := rfl
@[simp] theorem rfld_sessMod (i : Nat) (g : Session → Session) (j b m : Nat) : rfld (sessMod i g s) j b m = rfld s j b m := rfl
@[simp] theorem polOpen_sessMod (i : Nat) (g : Session → Session) (j : Nat) : polOpen (sessMod i g s) j = polOpen s j := rfl
@[simp] theorem isFatal_sessMod (i : Nat) (g : Session → Session) : isFatal (sessMod i g s) = isFatal s := rfl
@[simp] theorem devNs_sessMod (i : Nat) (g : Session → Session) : devNs (sessMod i g s) = devNs s := rfl
@[simp] theorem polder_coreMod (i : Nat) (g : Core → Core) (j : Nat) : polder (coreMod i g s) j = polder s j := rfl
@[simp] theorem func_coreMod (i : Nat) (g : Core → Core) (j : Nat) : func (coreMod i g s) j = func s j := rfl
@[simp] theorem port_coreMod (i : Nat) (g : Core → Core) (j : Nat) : port (coreMod i g s) j = port s j := rfl
@[simp] theorem sessOf_coreMod (i : Nat) (g : Core → Core) (j : Nat) : sessOf (coreMod i g s) j = sessOf s j := rfl
@[simp] theorem pelOf_coreMod (i : Nat) (g : Core → Core) (j : Nat) : pelOf (coreMod i g s) j = pelOf s j := rfl
@[simp] theorem pairOf_coreMod (i : Nat) (g : Core → Core) (j : Nat) : pairOf (coreMod i g s) j = pairOf s j := rfl
@[simp] theorem mcOf_coreMod (i : Nat) (g : Core → Core) (j : Nat) : mcOf (coreMod i g s) j = mcOf s j := rfl
@[simp] theorem gearOf_coreMod (i : Nat) (g : Core → Core) (j : Nat) : gearOf (coreMod i g s) j = gearOf s j := rfl
@[simp] theorem subOf_coreMod (i : Nat) (g : Core → Core) (j : Nat) : subOf (coreMod i g s) j = subOf s j := rfl
@[simp] theorem poolOf_coreMod (i : Nat) (g : Core → Core) (j : Nat) : poolOf (coreMod i g s) j = poolOf s j := rfl
@[simp] theorem bufOf_coreMod (i : Nat) (g : Core → Core) (j : Nat) : bufOf (coreMod i g s) j = bufOf s j := rfl
@[simp] theorem dmaOf_coreMod (i : Nat) (g : Core → Core) (j : Nat) : dmaOf (coreMod i g s) j = dmaOf s j := rfl
@[simp] theorem mbxOf_coreMod (i : Nat) (g : Core → Core) (j : Nat) : mbxOf (coreMod i g s) j = mbxOf s j := rfl
@[simp] theorem micSrcOf_coreMod (i : Nat) (g : Core → Core) (j : Nat) : micSrcOf (coreMod i g s) j = micSrcOf s j := rfl
@[simp] theorem micTgtOf_coreMod (i : Nat) (g : Core → Core) (j : Nat) : micTgtOf (coreMod i g s) j = micTgtOf s j := rfl
@[simp] theorem rget_coreMod (i : Nat) (g : Core → Core) (j : Nat) : rget (coreMod i g s) j = rget s j := rfl
@[simp] theorem rfld_coreMod (i : Nat) (g : Core → Core) (j b m : Nat) : rfld (coreMod i g s) j b m = rfld s j b m := rfl
@[simp] theorem polOpen_coreMod (i : Nat) (g : Core → Core) (j : Nat) : polOpen (coreMod i g s) j = polOpen s j := rfl
@[simp] theorem isFatal_coreMod (i : Nat) (g : Core → Core) : isFatal (coreMod i g s) = isFatal s := rfl
@[simp] theorem devNs_coreMod (i : Nat) (g : Core → Core) : devNs (coreMod i g s) = devNs s := rfl
@[simp] theorem polder_pelMod (i : Nat) (g : Pel → Pel) (j : Nat) : polder (pelMod i g s) j = polder s j := rfl
@[simp] theorem func_pelMod (i : Nat) (g : Pel → Pel) (j : Nat) : func (pelMod i g s) j = func s j := rfl
@[simp] theorem port_pelMod (i : Nat) (g : Pel → Pel) (j : Nat) : port (pelMod i g s) j = port s j := rfl
@[simp] theorem sessOf_pelMod (i : Nat) (g : Pel → Pel) (j : Nat) : sessOf (pelMod i g s) j = sessOf s j := rfl
@[simp] theorem coreOf_pelMod (i : Nat) (g : Pel → Pel) (j : Nat) : coreOf (pelMod i g s) j = coreOf s j := rfl
@[simp] theorem pairOf_pelMod (i : Nat) (g : Pel → Pel) (j : Nat) : pairOf (pelMod i g s) j = pairOf s j := rfl
@[simp] theorem mcOf_pelMod (i : Nat) (g : Pel → Pel) (j : Nat) : mcOf (pelMod i g s) j = mcOf s j := rfl
@[simp] theorem gearOf_pelMod (i : Nat) (g : Pel → Pel) (j : Nat) : gearOf (pelMod i g s) j = gearOf s j := rfl
@[simp] theorem subOf_pelMod (i : Nat) (g : Pel → Pel) (j : Nat) : subOf (pelMod i g s) j = subOf s j := rfl
@[simp] theorem poolOf_pelMod (i : Nat) (g : Pel → Pel) (j : Nat) : poolOf (pelMod i g s) j = poolOf s j := rfl
@[simp] theorem bufOf_pelMod (i : Nat) (g : Pel → Pel) (j : Nat) : bufOf (pelMod i g s) j = bufOf s j := rfl
@[simp] theorem dmaOf_pelMod (i : Nat) (g : Pel → Pel) (j : Nat) : dmaOf (pelMod i g s) j = dmaOf s j := rfl
@[simp] theorem mbxOf_pelMod (i : Nat) (g : Pel → Pel) (j : Nat) : mbxOf (pelMod i g s) j = mbxOf s j := rfl
@[simp] theorem micSrcOf_pelMod (i : Nat) (g : Pel → Pel) (j : Nat) : micSrcOf (pelMod i g s) j = micSrcOf s j := rfl
@[simp] theorem micTgtOf_pelMod (i : Nat) (g : Pel → Pel) (j : Nat) : micTgtOf (pelMod i g s) j = micTgtOf s j := rfl
@[simp] theorem rget_pelMod (i : Nat) (g : Pel → Pel) (j : Nat) : rget (pelMod i g s) j = rget s j := rfl
@[simp] theorem rfld_pelMod (i : Nat) (g : Pel → Pel) (j b m : Nat) : rfld (pelMod i g s) j b m = rfld s j b m := rfl
@[simp] theorem polOpen_pelMod (i : Nat) (g : Pel → Pel) (j : Nat) : polOpen (pelMod i g s) j = polOpen s j := rfl
@[simp] theorem isFatal_pelMod (i : Nat) (g : Pel → Pel) : isFatal (pelMod i g s) = isFatal s := rfl
@[simp] theorem devNs_pelMod (i : Nat) (g : Pel → Pel) : devNs (pelMod i g s) = devNs s := rfl
@[simp] theorem polder_pairMod (i : Nat) (g : Pair → Pair) (j : Nat) : polder (pairMod i g s) j = polder s j := rfl
@[simp] theorem func_pairMod (i : Nat) (g : Pair → Pair) (j : Nat) : func (pairMod i g s) j = func s j := rfl
@[simp] theorem port_pairMod (i : Nat) (g : Pair → Pair) (j : Nat) : port (pairMod i g s) j = port s j := rfl
@[simp] theorem sessOf_pairMod (i : Nat) (g : Pair → Pair) (j : Nat) : sessOf (pairMod i g s) j = sessOf s j := rfl
@[simp] theorem coreOf_pairMod (i : Nat) (g : Pair → Pair) (j : Nat) : coreOf (pairMod i g s) j = coreOf s j := rfl
@[simp] theorem pelOf_pairMod (i : Nat) (g : Pair → Pair) (j : Nat) : pelOf (pairMod i g s) j = pelOf s j := rfl
@[simp] theorem mcOf_pairMod (i : Nat) (g : Pair → Pair) (j : Nat) : mcOf (pairMod i g s) j = mcOf s j := rfl
@[simp] theorem gearOf_pairMod (i : Nat) (g : Pair → Pair) (j : Nat) : gearOf (pairMod i g s) j = gearOf s j := rfl
@[simp] theorem subOf_pairMod (i : Nat) (g : Pair → Pair) (j : Nat) : subOf (pairMod i g s) j = subOf s j := rfl
@[simp] theorem poolOf_pairMod (i : Nat) (g : Pair → Pair) (j : Nat) : poolOf (pairMod i g s) j = poolOf s j := rfl
@[simp] theorem bufOf_pairMod (i : Nat) (g : Pair → Pair) (j : Nat) : bufOf (pairMod i g s) j = bufOf s j := rfl
@[simp] theorem dmaOf_pairMod (i : Nat) (g : Pair → Pair) (j : Nat) : dmaOf (pairMod i g s) j = dmaOf s j := rfl
@[simp] theorem mbxOf_pairMod (i : Nat) (g : Pair → Pair) (j : Nat) : mbxOf (pairMod i g s) j = mbxOf s j := rfl
@[simp] theorem micSrcOf_pairMod (i : Nat) (g : Pair → Pair) (j : Nat) : micSrcOf (pairMod i g s) j = micSrcOf s j := rfl
@[simp] theorem micTgtOf_pairMod (i : Nat) (g : Pair → Pair) (j : Nat) : micTgtOf (pairMod i g s) j = micTgtOf s j := rfl
@[simp] theorem rget_pairMod (i : Nat) (g : Pair → Pair) (j : Nat) : rget (pairMod i g s) j = rget s j := rfl
@[simp] theorem rfld_pairMod (i : Nat) (g : Pair → Pair) (j b m : Nat) : rfld (pairMod i g s) j b m = rfld s j b m := rfl
@[simp] theorem polOpen_pairMod (i : Nat) (g : Pair → Pair) (j : Nat) : polOpen (pairMod i g s) j = polOpen s j := rfl
@[simp] theorem isFatal_pairMod (i : Nat) (g : Pair → Pair) : isFatal (pairMod i g s) = isFatal s := rfl
@[simp] theorem devNs_pairMod (i : Nat) (g : Pair → Pair) : devNs (pairMod i g s) = devNs s := rfl
@[simp] theorem polder_mcMod (i : Nat) (g : Mc → Mc) (j : Nat) : polder (mcMod i g s) j = polder s j := rfl
@[simp] theorem func_mcMod (i : Nat) (g : Mc → Mc) (j : Nat) : func (mcMod i g s) j = func s j := rfl
@[simp] theorem port_mcMod (i : Nat) (g : Mc → Mc) (j : Nat) : port (mcMod i g s) j = port s j := rfl
@[simp] theorem sessOf_mcMod (i : Nat) (g : Mc → Mc) (j : Nat) : sessOf (mcMod i g s) j = sessOf s j := rfl
@[simp] theorem coreOf_mcMod (i : Nat) (g : Mc → Mc) (j : Nat) : coreOf (mcMod i g s) j = coreOf s j := rfl
@[simp] theorem pelOf_mcMod (i : Nat) (g : Mc → Mc) (j : Nat) : pelOf (mcMod i g s) j = pelOf s j := rfl
@[simp] theorem pairOf_mcMod (i : Nat) (g : Mc → Mc) (j : Nat) : pairOf (mcMod i g s) j = pairOf s j := rfl
@[simp] theorem gearOf_mcMod (i : Nat) (g : Mc → Mc) (j : Nat) : gearOf (mcMod i g s) j = gearOf s j := rfl
@[simp] theorem subOf_mcMod (i : Nat) (g : Mc → Mc) (j : Nat) : subOf (mcMod i g s) j = subOf s j := rfl
@[simp] theorem poolOf_mcMod (i : Nat) (g : Mc → Mc) (j : Nat) : poolOf (mcMod i g s) j = poolOf s j := rfl
@[simp] theorem bufOf_mcMod (i : Nat) (g : Mc → Mc) (j : Nat) : bufOf (mcMod i g s) j = bufOf s j := rfl
@[simp] theorem dmaOf_mcMod (i : Nat) (g : Mc → Mc) (j : Nat) : dmaOf (mcMod i g s) j = dmaOf s j := rfl
@[simp] theorem mbxOf_mcMod (i : Nat) (g : Mc → Mc) (j : Nat) : mbxOf (mcMod i g s) j = mbxOf s j := rfl
@[simp] theorem micSrcOf_mcMod (i : Nat) (g : Mc → Mc) (j : Nat) : micSrcOf (mcMod i g s) j = micSrcOf s j := rfl
@[simp] theorem micTgtOf_mcMod (i : Nat) (g : Mc → Mc) (j : Nat) : micTgtOf (mcMod i g s) j = micTgtOf s j := rfl
@[simp] theorem rget_mcMod (i : Nat) (g : Mc → Mc) (j : Nat) : rget (mcMod i g s) j = rget s j := rfl
@[simp] theorem rfld_mcMod (i : Nat) (g : Mc → Mc) (j b m : Nat) : rfld (mcMod i g s) j b m = rfld s j b m := rfl
@[simp] theorem polOpen_mcMod (i : Nat) (g : Mc → Mc) (j : Nat) : polOpen (mcMod i g s) j = polOpen s j := rfl
@[simp] theorem isFatal_mcMod (i : Nat) (g : Mc → Mc) : isFatal (mcMod i g s) = isFatal s := rfl
@[simp] theorem devNs_mcMod (i : Nat) (g : Mc → Mc) : devNs (mcMod i g s) = devNs s := rfl
@[simp] theorem polder_chMod (i c : Nat) (g : McCh → McCh) (j : Nat) : polder (chMod i c g s) j = polder s j := rfl
@[simp] theorem func_chMod (i c : Nat) (g : McCh → McCh) (j : Nat) : func (chMod i c g s) j = func s j := rfl
@[simp] theorem port_chMod (i c : Nat) (g : McCh → McCh) (j : Nat) : port (chMod i c g s) j = port s j := rfl
@[simp] theorem sessOf_chMod (i c : Nat) (g : McCh → McCh) (j : Nat) : sessOf (chMod i c g s) j = sessOf s j := rfl
@[simp] theorem coreOf_chMod (i c : Nat) (g : McCh → McCh) (j : Nat) : coreOf (chMod i c g s) j = coreOf s j := rfl
@[simp] theorem pelOf_chMod (i c : Nat) (g : McCh → McCh) (j : Nat) : pelOf (chMod i c g s) j = pelOf s j := rfl
@[simp] theorem pairOf_chMod (i c : Nat) (g : McCh → McCh) (j : Nat) : pairOf (chMod i c g s) j = pairOf s j := rfl
@[simp] theorem gearOf_chMod (i c : Nat) (g : McCh → McCh) (j : Nat) : gearOf (chMod i c g s) j = gearOf s j := rfl
@[simp] theorem subOf_chMod (i c : Nat) (g : McCh → McCh) (j : Nat) : subOf (chMod i c g s) j = subOf s j := rfl
@[simp] theorem poolOf_chMod (i c : Nat) (g : McCh → McCh) (j : Nat) : poolOf (chMod i c g s) j = poolOf s j := rfl
@[simp] theorem bufOf_chMod (i c : Nat) (g : McCh → McCh) (j : Nat) : bufOf (chMod i c g s) j = bufOf s j := rfl
@[simp] theorem dmaOf_chMod (i c : Nat) (g : McCh → McCh) (j : Nat) : dmaOf (chMod i c g s) j = dmaOf s j := rfl
@[simp] theorem mbxOf_chMod (i c : Nat) (g : McCh → McCh) (j : Nat) : mbxOf (chMod i c g s) j = mbxOf s j := rfl
@[simp] theorem micSrcOf_chMod (i c : Nat) (g : McCh → McCh) (j : Nat) : micSrcOf (chMod i c g s) j = micSrcOf s j := rfl
@[simp] theorem micTgtOf_chMod (i c : Nat) (g : McCh → McCh) (j : Nat) : micTgtOf (chMod i c g s) j = micTgtOf s j := rfl
@[simp] theorem rget_chMod (i c : Nat) (g : McCh → McCh) (j : Nat) : rget (chMod i c g s) j = rget s j := rfl
@[simp] theorem rfld_chMod (i c : Nat) (g : McCh → McCh) (j b m : Nat) : rfld (chMod i c g s) j b m = rfld s j b m := rfl
@[simp] theorem polOpen_chMod (i c : Nat) (g : McCh → McCh) (j : Nat) : polOpen (chMod i c g s) j = polOpen s j := rfl
@[simp] theorem isFatal_chMod (i c : Nat) (g : McCh → McCh) : isFatal (chMod i c g s) = isFatal s := rfl
@[simp] theorem devNs_chMod (i c : Nat) (g : McCh → McCh) : devNs (chMod i c g s) = devNs s := rfl
@[simp] theorem polder_gearMod (i : Nat) (g : Gear → Gear) (j : Nat) : polder (gearMod i g s) j = polder s j := rfl
@[simp] theorem func_gearMod (i : Nat) (g : Gear → Gear) (j : Nat) : func (gearMod i g s) j = func s j := rfl
@[simp] theorem port_gearMod (i : Nat) (g : Gear → Gear) (j : Nat) : port (gearMod i g s) j = port s j := rfl
@[simp] theorem sessOf_gearMod (i : Nat) (g : Gear → Gear) (j : Nat) : sessOf (gearMod i g s) j = sessOf s j := rfl
@[simp] theorem coreOf_gearMod (i : Nat) (g : Gear → Gear) (j : Nat) : coreOf (gearMod i g s) j = coreOf s j := rfl
@[simp] theorem pelOf_gearMod (i : Nat) (g : Gear → Gear) (j : Nat) : pelOf (gearMod i g s) j = pelOf s j := rfl
@[simp] theorem pairOf_gearMod (i : Nat) (g : Gear → Gear) (j : Nat) : pairOf (gearMod i g s) j = pairOf s j := rfl
@[simp] theorem mcOf_gearMod (i : Nat) (g : Gear → Gear) (j : Nat) : mcOf (gearMod i g s) j = mcOf s j := rfl
@[simp] theorem subOf_gearMod (i : Nat) (g : Gear → Gear) (j : Nat) : subOf (gearMod i g s) j = subOf s j := rfl
@[simp] theorem poolOf_gearMod (i : Nat) (g : Gear → Gear) (j : Nat) : poolOf (gearMod i g s) j = poolOf s j := rfl
@[simp] theorem bufOf_gearMod (i : Nat) (g : Gear → Gear) (j : Nat) : bufOf (gearMod i g s) j = bufOf s j := rfl
@[simp] theorem dmaOf_gearMod (i : Nat) (g : Gear → Gear) (j : Nat) : dmaOf (gearMod i g s) j = dmaOf s j := rfl
@[simp] theorem mbxOf_gearMod (i : Nat) (g : Gear → Gear) (j : Nat) : mbxOf (gearMod i g s) j = mbxOf s j := rfl
@[simp] theorem micSrcOf_gearMod (i : Nat) (g : Gear → Gear) (j : Nat) : micSrcOf (gearMod i g s) j = micSrcOf s j := rfl
@[simp] theorem micTgtOf_gearMod (i : Nat) (g : Gear → Gear) (j : Nat) : micTgtOf (gearMod i g s) j = micTgtOf s j := rfl
@[simp] theorem rget_gearMod (i : Nat) (g : Gear → Gear) (j : Nat) : rget (gearMod i g s) j = rget s j := rfl
@[simp] theorem rfld_gearMod (i : Nat) (g : Gear → Gear) (j b m : Nat) : rfld (gearMod i g s) j b m = rfld s j b m := rfl
@[simp] theorem polOpen_gearMod (i : Nat) (g : Gear → Gear) (j : Nat) : polOpen (gearMod i g s) j = polOpen s j := rfl
@[simp] theorem isFatal_gearMod (i : Nat) (g : Gear → Gear) : isFatal (gearMod i g s) = isFatal s := rfl
@[simp] theorem devNs_gearMod (i : Nat) (g : Gear → Gear) : devNs (gearMod i g s) = devNs s := rfl
@[simp] theorem polder_subMod (i : Nat) (g : Subport → Subport) (j : Nat) : polder (subMod i g s) j = polder s j := rfl
@[simp] theorem func_subMod (i : Nat) (g : Subport → Subport) (j : Nat) : func (subMod i g s) j = func s j := rfl
@[simp] theorem port_subMod (i : Nat) (g : Subport → Subport) (j : Nat) : port (subMod i g s) j = port s j := rfl
@[simp] theorem sessOf_subMod (i : Nat) (g : Subport → Subport) (j : Nat) : sessOf (subMod i g s) j = sessOf s j := rfl
@[simp] theorem coreOf_subMod (i : Nat) (g : Subport → Subport) (j : Nat) : coreOf (subMod i g s) j = coreOf s j := rfl
@[simp] theorem pelOf_subMod (i : Nat) (g : Subport → Subport) (j : Nat) : pelOf (subMod i g s) j = pelOf s j := rfl
@[simp] theorem pairOf_subMod (i : Nat) (g : Subport → Subport) (j : Nat) : pairOf (subMod i g s) j = pairOf s j := rfl
@[simp] theorem mcOf_subMod (i : Nat) (g : Subport → Subport) (j : Nat) : mcOf (subMod i g s) j = mcOf s j := rfl
@[simp] theorem gearOf_subMod (i : Nat) (g : Subport → Subport) (j : Nat) : gearOf (subMod i g s) j = gearOf s j := rfl
@[simp] theorem poolOf_subMod (i : Nat) (g : Subport → Subport) (j : Nat) : poolOf (subMod i g s) j = poolOf s j := rfl
@[simp] theorem bufOf_subMod (i : Nat) (g : Subport → Subport) (j : Nat) : bufOf (subMod i g s) j = bufOf s j := rfl
@[simp] theorem dmaOf_subMod (i : Nat) (g : Subport → Subport) (j : Nat) : dmaOf (subMod i g s) j = dmaOf s j := rfl
@[simp] theorem mbxOf_subMod (i : Nat) (g : Subport → Subport) (j : Nat) : mbxOf (subMod i g s) j = mbxOf s j := rfl
@[simp] theorem micSrcOf_subMod (i : Nat) (g : Subport → Subport) (j : Nat) : micSrcOf (subMod i g s) j = micSrcOf s j := rfl
@[simp] theorem micTgtOf_subMod (i : Nat) (g : Subport → Subport) (j : Nat) : micTgtOf (subMod i g s) j = micTgtOf s j := rfl
@[simp] theorem rget_subMod (i : Nat) (g : Subport → Subport) (j : Nat) : rget (subMod i g s) j = rget s j := rfl
@[simp] theorem rfld_subMod (i : Nat) (g : Subport → Subport) (j b m : Nat) : rfld (subMod i g s) j b m = rfld s j b m := rfl
@[simp] theorem polOpen_subMod (i : Nat) (g : Subport → Subport) (j : Nat) : polOpen (subMod i g s) j = polOpen s j := rfl
@[simp] theorem isFatal_subMod (i : Nat) (g : Subport → Subport) : isFatal (subMod i g s) = isFatal s := rfl
@[simp] theorem devNs_subMod (i : Nat) (g : Subport → Subport) : devNs (subMod i g s) = devNs s := rfl
@[simp] theorem polder_raiseRep (r : Report) (j : Nat) : polder (raiseRep r s) j = polder s j := rfl
@[simp] theorem func_raiseRep (r : Report) (j : Nat) : func (raiseRep r s) j = func s j := rfl
@[simp] theorem port_raiseRep (r : Report) (j : Nat) : port (raiseRep r s) j = port s j := rfl
@[simp] theorem sessOf_raiseRep (r : Report) (j : Nat) : sessOf (raiseRep r s) j = sessOf s j := rfl
@[simp] theorem coreOf_raiseRep (r : Report) (j : Nat) : coreOf (raiseRep r s) j = coreOf s j := rfl
@[simp] theorem pelOf_raiseRep (r : Report) (j : Nat) : pelOf (raiseRep r s) j = pelOf s j := rfl
@[simp] theorem pairOf_raiseRep (r : Report) (j : Nat) : pairOf (raiseRep r s) j = pairOf s j := rfl
@[simp] theorem mcOf_raiseRep (r : Report) (j : Nat) : mcOf (raiseRep r s) j = mcOf s j := rfl
@[simp] theorem gearOf_raiseRep (r : Report) (j : Nat) : gearOf (raiseRep r s) j = gearOf s j := rfl
@[simp] theorem subOf_raiseRep (r : Report) (j : Nat) : subOf (raiseRep r s) j = subOf s j := rfl
@[simp] theorem poolOf_raiseRep (r : Report) (j : Nat) : poolOf (raiseRep r s) j = poolOf s j := rfl
@[simp] theorem bufOf_raiseRep (r : Report) (j : Nat) : bufOf (raiseRep r s) j = bufOf s j := rfl
@[simp] theorem dmaOf_raiseRep (r : Report) (j : Nat) : dmaOf (raiseRep r s) j = dmaOf s j := rfl
@[simp] theorem mbxOf_raiseRep (r : Report) (j : Nat) : mbxOf (raiseRep r s) j = mbxOf s j := rfl
@[simp] theorem micSrcOf_raiseRep (r : Report) (j : Nat) : micSrcOf (raiseRep r s) j = micSrcOf s j := rfl
@[simp] theorem micTgtOf_raiseRep (r : Report) (j : Nat) : micTgtOf (raiseRep r s) j = micTgtOf s j := rfl
@[simp] theorem rget_raiseRep (r : Report) (j : Nat) : rget (raiseRep r s) j = rget s j := rfl
@[simp] theorem rfld_raiseRep (r : Report) (j b m : Nat) : rfld (raiseRep r s) j b m = rfld s j b m := rfl
@[simp] theorem polOpen_raiseRep (r : Report) (j : Nat) : polOpen (raiseRep r s) j = polOpen s j := rfl
@[simp] theorem isFatal_raiseRep (r : Report) : isFatal (raiseRep r s) = isFatal s := rfl
@[simp] theorem devNs_raiseRep (r : Report) : devNs (raiseRep r s) = devNs s := rfl
@[simp] theorem polder_raise (kind inst : Nat) (j : Nat) : polder (raise kind inst s) j = polder s j := rfl
@[simp] theorem func_raise (kind inst : Nat) (j : Nat) : func (raise kind inst s) j = func s j := rfl
@[simp] theorem port_raise (kind inst : Nat) (j : Nat) : port (raise kind inst s) j = port s j := rfl
@[simp] theorem sessOf_raise (kind inst : Nat) (j : Nat) : sessOf (raise kind inst s) j = sessOf s j := rfl
@[simp] theorem coreOf_raise (kind inst : Nat) (j : Nat) : coreOf (raise kind inst s) j = coreOf s j := rfl
@[simp] theorem pelOf_raise (kind inst : Nat) (j : Nat) : pelOf (raise kind inst s) j = pelOf s j := rfl
@[simp] theorem pairOf_raise (kind inst : Nat) (j : Nat) : pairOf (raise kind inst s) j = pairOf s j := rfl
@[simp] theorem mcOf_raise (kind inst : Nat) (j : Nat) : mcOf (raise kind inst s) j = mcOf s j := rfl
@[simp] theorem gearOf_raise (kind inst : Nat) (j : Nat) : gearOf (raise kind inst s) j = gearOf s j := rfl
@[simp] theorem subOf_raise (kind inst : Nat) (j : Nat) : subOf (raise kind inst s) j = subOf s j := rfl
@[simp] theorem poolOf_raise (kind inst : Nat) (j : Nat) : poolOf (raise kind inst s) j = poolOf s j := rfl
@[simp] theorem bufOf_raise (kind inst : Nat) (j : Nat) : bufOf (raise kind inst s) j = bufOf s j := rfl
@[simp] theorem dmaOf_raise (kind inst : Nat) (j : Nat) : dmaOf (raise kind inst s) j = dmaOf s j := rfl
@[simp] theorem mbxOf_raise (kind inst : Nat) (j : Nat) : mbxOf (raise kind inst s) j = mbxOf s j := rfl
@[simp] theorem micSrcOf_raise (kind inst : Nat) (j : Nat) : micSrcOf (raise kind inst s) j = micSrcOf s j := rfl
@[simp] theorem micTgtOf_raise (kind inst : Nat) (j : Nat) : micTgtOf (raise kind inst s) j = micTgtOf s j := rfl
@[simp] theorem rget_raise (kind inst : Nat) (j : Nat) : rget (raise kind inst s) j = rget s j := rfl
@[simp] theorem rfld_raise (kind inst : Nat) (j b m : Nat) : rfld (raise kind inst s) j b m = rfld s j b m := rfl
@[simp] theorem polOpen_raise (kind inst : Nat) (j : Nat) : polOpen (raise kind inst s) j = polOpen s j := rfl
@[simp] theorem isFatal_raise (kind inst : Nat) : isFatal (raise kind inst s) = isFatal s := rfl
@[simp] theorem devNs_raise (kind inst : Nat) : devNs (raise kind inst s) = devNs s := rfl
@[simp] theorem polder_poolMod (i : Nat) (g : Pool → Pool) (j : Nat) : polder (poolMod i g s) j = polder s j := rfl
@[simp] theorem func_poolMod (i : Nat) (g : Pool → Pool) (j : Nat) : func (poolMod i g s) j = func s j := rfl
@[simp] theorem port_poolMod (i : Nat) (g : Pool → Pool) (j : Nat) : port (poolMod i g s) j = port s j := rfl
@[simp] theorem sessOf_poolMod (i : Nat) (g : Pool → Pool) (j : Nat) : sessOf (poolMod i g s) j = sessOf s j := rfl
@[simp] theorem coreOf_poolMod (i : Nat) (g : Pool → Pool) (j : Nat) : coreOf (poolMod i g s) j = coreOf s j := rfl
@[simp] theorem pelOf_poolMod (i : Nat) (g : Pool → Pool) (j : Nat) : pelOf (poolMod i g s) j = pelOf s j := rfl
@[simp] theorem pairOf_poolMod (i : Nat) (g : Pool → Pool) (j : Nat) : pairOf (poolMod i g s) j = pairOf s j := rfl
@[simp] theorem mcOf_poolMod (i : Nat) (g : Pool → Pool) (j : Nat) : mcOf (poolMod i g s) j = mcOf s j := rfl
@[simp] theorem gearOf_poolMod (i : Nat) (g : Pool → Pool) (j : Nat) : gearOf (poolMod i g s) j = gearOf s j := rfl
@[simp] theorem subOf_poolMod (i : Nat) (g : Pool → Pool) (j : Nat) : subOf (poolMod i g s) j = subOf s j := rfl
@[simp] theorem bufOf_poolMod (i : Nat) (g : Pool → Pool) (j : Nat) : bufOf (poolMod i g s) j = bufOf s j := rfl
@[simp] theorem dmaOf_poolMod (i : Nat) (g : Pool → Pool) (j : Nat) : dmaOf (poolMod i g s) j = dmaOf s j := rfl
@[simp] theorem mbxOf_poolMod (i : Nat) (g : Pool → Pool) (j : Nat) : mbxOf (poolMod i g s) j = mbxOf s j := rfl
@[simp] theorem micSrcOf_poolMod (i : Nat) (g : Pool → Pool) (j : Nat) : micSrcOf (poolMod i g s) j = micSrcOf s j := rfl
@[simp] theorem micTgtOf_poolMod (i : Nat) (g : Pool → Pool) (j : Nat) : micTgtOf (poolMod i g s) j = micTgtOf s j := rfl
@[simp] theorem rget_poolMod (i : Nat) (g : Pool → Pool) (j : Nat) : rget (poolMod i g s) j = rget s j := rfl
@[simp] theorem rfld_poolMod (i : Nat) (g : Pool → Pool) (j b m : Nat) : rfld (poolMod i g s) j b m = rfld s j b m := rfl
@[simp] theorem polOpen_poolMod (i : Nat) (g : Pool → Pool) (j : Nat) : polOpen (poolMod i g s) j = polOpen s j := rfl
@[simp] theorem isFatal_poolMod (i : Nat) (g : Pool → Pool) : isFatal (poolMod i g s) = isFatal s := rfl
@[simp] theorem devNs_poolMod (i : Nat) (g : Pool → Pool) : devNs (poolMod i g s) = devNs s := rfl
@[simp] theorem polder_bufMod (i : Nat) (g : BufRec → BufRec) (j : Nat) : polder (bufMod i g s) j = polder s j := rfl
@[simp] theorem func_bufMod (i : Nat) (g : BufRec → BufRec) (j : Nat) : func (bufMod i g s) j = func s j := rfl
@[simp] theorem port_bufMod (i : Nat) (g : BufRec → BufRec) (j : Nat) : port (bufMod i g s) j = port s j := rfl
@[simp] theorem sessOf_bufMod (i : Nat) (g : BufRec → BufRec) (j : Nat) : sessOf (bufMod i g s) j = sessOf s j := rfl
@[simp] theorem coreOf_bufMod (i : Nat) (g : BufRec → BufRec) (j : Nat) : coreOf (bufMod i g s) j = coreOf s j := rfl
@[simp] theorem pelOf_bufMod (i : Nat) (g : BufRec → BufRec) (j : Nat) : pelOf (bufMod i g s) j = pelOf s j := rfl
@[simp] theorem pairOf_bufMod (i : Nat) (g : BufRec → BufRec) (j : Nat) : pairOf (bufMod i g s) j = pairOf s j := rfl
@[simp] theorem mcOf_bufMod (i : Nat) (g : BufRec → BufRec) (j : Nat) : mcOf (bufMod i g s) j = mcOf s j := rfl
@[simp] theorem gearOf_bufMod (i : Nat) (g : BufRec → BufRec) (j : Nat) : gearOf (bufMod i g s) j = gearOf s j := rfl
@[simp] theorem subOf_bufMod (i : Nat) (g : BufRec → BufRec) (j : Nat) : subOf (bufMod i g s) j = subOf s j := rfl
@[simp] theorem poolOf_bufMod (i : Nat) (g : BufRec → BufRec) (j : Nat) : poolOf (bufMod i g s) j = poolOf s j := rfl
@[simp] theorem dmaOf_bufMod (i : Nat) (g : BufRec → BufRec) (j : Nat) : dmaOf (bufMod i g s) j = dmaOf s j := rfl
@[simp] theorem mbxOf_bufMod (i : Nat) (g : BufRec → BufRec) (j : Nat) : mbxOf (bufMod i g s) j = mbxOf s j := rfl
@[simp] theorem micSrcOf_bufMod (i : Nat) (g : BufRec → BufRec) (j : Nat) : micSrcOf (bufMod i g s) j = micSrcOf s j := rfl
@[simp] theorem micTgtOf_bufMod (i : Nat) (g : BufRec → BufRec) (j : Nat) : micTgtOf (bufMod i g s) j = micTgtOf s j := rfl
@[simp] theorem rget_bufMod (i : Nat) (g : BufRec → BufRec) (j : Nat) : rget (bufMod i g s) j = rget s j := rfl
@[simp] theorem rfld_bufMod (i : Nat) (g : BufRec → BufRec) (j b m : Nat) : rfld (bufMod i g s) j b m = rfld s j b m := rfl
@[simp] theorem polOpen_bufMod (i : Nat) (g : BufRec → BufRec) (j : Nat) : polOpen (bufMod i g s) j = polOpen s j := rfl
@[simp] theorem isFatal_bufMod (i : Nat) (g : BufRec → BufRec) : isFatal (bufMod i g s) = isFatal s := rfl
@[simp] theorem devNs_bufMod (i : Nat) (g : BufRec → BufRec) : devNs (bufMod i g s) = devNs s := rfl
@[simp] theorem polder_dmaMod (i : Nat) (g : DmaCh → DmaCh) (j : Nat) : polder (dmaMod i g s) j = polder s j := rfl
@[simp] theorem func_dmaMod (i : Nat) (g : DmaCh → DmaCh) (j : Nat) : func (dmaMod i g s) j = func s j := rfl
@[simp] theorem port_dmaMod (i : Nat) (g : DmaCh → DmaCh) (j : Nat) : port (dmaMod i g s) j = port s j := rfl
@[simp] theorem sessOf_dmaMod (i : Nat) (g : DmaCh → DmaCh) (j : Nat) : sessOf (dmaMod i g s) j = sessOf s j := rfl
@[simp] theorem coreOf_dmaMod (i : Nat) (g : DmaCh → DmaCh) (j : Nat) : coreOf (dmaMod i g s) j = coreOf s j := rfl
@[simp] theorem pelOf_dmaMod (i : Nat) (g : DmaCh → DmaCh) (j : Nat) : pelOf (dmaMod i g s) j = pelOf s j := rfl
@[simp] theorem pairOf_dmaMod (i : Nat) (g : DmaCh → DmaCh) (j : Nat) : pairOf (dmaMod i g s) j = pairOf s j := rfl
@[simp] theorem mcOf_dmaMod (i : Nat) (g : DmaCh → DmaCh) (j : Nat) : mcOf (dmaMod i g s) j = mcOf s j := rfl
@[simp] theorem gearOf_dmaMod (i : Nat) (g : DmaCh → DmaCh) (j : Nat) : gearOf (dmaMod i g s) j = gearOf s j := rfl
@[simp] theorem subOf_dmaMod (i : Nat) (g : DmaCh → DmaCh) (j : Nat) : subOf (dmaMod i g s) j = subOf s j := rfl
@[simp] theorem poolOf_dmaMod (i : Nat) (g : DmaCh → DmaCh) (j : Nat) : poolOf (dmaMod i g s) j = poolOf s j := rfl
@[simp] theorem bufOf_dmaMod (i : Nat) (g : DmaCh → DmaCh) (j : Nat) : bufOf (dmaMod i g s) j = bufOf s j := rfl
@[simp] theorem mbxOf_dmaMod (i : Nat) (g : DmaCh → DmaCh) (j : Nat) : mbxOf (dmaMod i g s) j = mbxOf s j := rfl
@[simp] theorem micSrcOf_dmaMod (i : Nat) (g : DmaCh → DmaCh) (j : Nat) : micSrcOf (dmaMod i g s) j = micSrcOf s j := rfl
@[simp] theorem micTgtOf_dmaMod (i : Nat) (g : DmaCh → DmaCh) (j : Nat) : micTgtOf (dmaMod i g s) j = micTgtOf s j := rfl
@[simp] theorem rget_dmaMod (i : Nat) (g : DmaCh → DmaCh) (j : Nat) : rget (dmaMod i g s) j = rget s j := rfl
@[simp] theorem rfld_dmaMod (i : Nat) (g : DmaCh → DmaCh) (j b m : Nat) : rfld (dmaMod i g s) j b m = rfld s j b m := rfl
@[simp] theorem polOpen_dmaMod (i : Nat) (g : DmaCh → DmaCh) (j : Nat) : polOpen (dmaMod i g s) j = polOpen s j := rfl
@[simp] theorem isFatal_dmaMod (i : Nat) (g : DmaCh → DmaCh) : isFatal (dmaMod i g s) = isFatal s := rfl
@[simp] theorem devNs_dmaMod (i : Nat) (g : DmaCh → DmaCh) : devNs (dmaMod i g s) = devNs s := rfl
@[simp] theorem polder_mbxMod (i : Nat) (g : Mbx → Mbx) (j : Nat) : polder (mbxMod i g s) j = polder s j := rfl
@[simp] theorem func_mbxMod (i : Nat) (g : Mbx → Mbx) (j : Nat) : func (mbxMod i g s) j = func s j := rfl
@[simp] theorem port_mbxMod (i : Nat) (g : Mbx → Mbx) (j : Nat) : port (mbxMod i g s) j = port s j := rfl
@[simp] theorem sessOf_mbxMod (i : Nat) (g : Mbx → Mbx) (j : Nat) : sessOf (mbxMod i g s) j = sessOf s j := rfl
@[simp] theorem coreOf_mbxMod (i : Nat) (g : Mbx → Mbx) (j : Nat) : coreOf (mbxMod i g s) j = coreOf s j := rfl
@[simp] theorem pelOf_mbxMod (i : Nat) (g : Mbx → Mbx) (j : Nat) : pelOf (mbxMod i g s) j = pelOf s j := rfl
@[simp] theorem pairOf_mbxMod (i : Nat) (g : Mbx → Mbx) (j : Nat) : pairOf (mbxMod i g s) j = pairOf s j := rfl
@[simp] theorem mcOf_mbxMod (i : Nat) (g : Mbx → Mbx) (j : Nat) : mcOf (mbxMod i g s) j = mcOf s j := rfl
@[simp] theorem gearOf_mbxMod (i : Nat) (g : Mbx → Mbx) (j : Nat) : gearOf (mbxMod i g s) j = gearOf s j := rfl
@[simp] theorem subOf_mbxMod (i : Nat) (g : Mbx → Mbx) (j : Nat) : subOf (mbxMod i g s) j = subOf s j := rfl
@[simp] theorem poolOf_mbxMod (i : Nat) (g : Mbx → Mbx) (j : Nat) : poolOf (mbxMod i g s) j = poolOf s j := rfl
@[simp] theorem bufOf_mbxMod (i : Nat) (g : Mbx → Mbx) (j : Nat) : bufOf (mbxMod i g s) j = bufOf s j := rfl
@[simp] theorem dmaOf_mbxMod (i : Nat) (g : Mbx → Mbx) (j : Nat) : dmaOf (mbxMod i g s) j = dmaOf s j := rfl
@[simp] theorem micSrcOf_mbxMod (i : Nat) (g : Mbx → Mbx) (j : Nat) : micSrcOf (mbxMod i g s) j = micSrcOf s j := rfl
@[simp] theorem micTgtOf_mbxMod (i : Nat) (g : Mbx → Mbx) (j : Nat) : micTgtOf (mbxMod i g s) j = micTgtOf s j := rfl
@[simp] theorem rget_mbxMod (i : Nat) (g : Mbx → Mbx) (j : Nat) : rget (mbxMod i g s) j = rget s j := rfl
@[simp] theorem rfld_mbxMod (i : Nat) (g : Mbx → Mbx) (j b m : Nat) : rfld (mbxMod i g s) j b m = rfld s j b m := rfl
@[simp] theorem polOpen_mbxMod (i : Nat) (g : Mbx → Mbx) (j : Nat) : polOpen (mbxMod i g s) j = polOpen s j := rfl
@[simp] theorem isFatal_mbxMod (i : Nat) (g : Mbx → Mbx) : isFatal (mbxMod i g s) = isFatal s := rfl
@[simp] theorem devNs_mbxMod (i : Nat) (g : Mbx → Mbx) : devNs (mbxMod i g s) = devNs s := rfl
@[simp] theorem polder_micSrcMod (i : Nat) (g : MicSrc → MicSrc) (j : Nat) : polder (micSrcMod i g s) j = polder s j := rfl
@[simp] theorem func_micSrcMod (i : Nat) (g : MicSrc → MicSrc) (j : Nat) : func (micSrcMod i g s) j = func s j := rfl
@[simp] theorem port_micSrcMod (i : Nat) (g : MicSrc → MicSrc) (j : Nat) : port (micSrcMod i g s) j = port s j := rfl
@[simp] theorem sessOf_micSrcMod (i : Nat) (g : MicSrc → MicSrc) (j : Nat) : sessOf (micSrcMod i g s) j = sessOf s j := rfl
@[simp] theorem coreOf_micSrcMod (i : Nat) (g : MicSrc → MicSrc) (j : Nat) : coreOf (micSrcMod i g s) j = coreOf s j := rfl
@[simp] theorem pelOf_micSrcMod (i : Nat) (g : MicSrc → MicSrc) (j : Nat) : pelOf (micSrcMod i g s) j = pelOf s j := rfl
@[simp] theorem pairOf_micSrcMod (i : Nat) (g : MicSrc → MicSrc) (j : Nat) : pairOf (micSrcMod i g s) j = pairOf s j := rfl
@[simp] theorem mcOf_micSrcMod (i : Nat) (g : MicSrc → MicSrc) (j : Nat) : mcOf (micSrcMod i g s) j = mcOf s j := rfl
@[simp] theorem gearOf_micSrcMod (i : Nat) (g : MicSrc → MicSrc) (j : Nat) : gearOf (micSrcMod i g s) j = gearOf s j := rfl
@[simp] theorem subOf_micSrcMod (i : Nat) (g : MicSrc → MicSrc) (j : Nat) : subOf (micSrcMod i g s) j = subOf s j := rfl
@[simp] theorem poolOf_micSrcMod (i : Nat) (g : MicSrc → MicSrc) (j : Nat) : poolOf (micSrcMod i g s) j = poolOf s j := rfl
@[simp] theorem bufOf_micSrcMod (i : Nat) (g : MicSrc → MicSrc) (j : Nat) : bufOf (micSrcMod i g s) j = bufOf s j := rfl
@[simp] theorem dmaOf_micSrcMod (i : Nat) (g : MicSrc → MicSrc) (j : Nat) : dmaOf (micSrcMod i g s) j = dmaOf s j := rfl
@[simp] theorem mbxOf_micSrcMod (i : Nat) (g : MicSrc → MicSrc) (j : Nat) : mbxOf (micSrcMod i g s) j = mbxOf s j := rfl
@[simp] theorem micTgtOf_micSrcMod (i : Nat) (g : MicSrc → MicSrc) (j : Nat) : micTgtOf (micSrcMod i g s) j = micTgtOf s j := rfl
@[simp] theorem rget_micSrcMod (i : Nat) (g : MicSrc → MicSrc) (j : Nat) : rget (micSrcMod i g s) j = rget s j := rfl
@[simp] theorem rfld_micSrcMod (i : Nat) (g : MicSrc → MicSrc) (j b m : Nat) : rfld (micSrcMod i g s) j b m = rfld s j b m := rfl
@[simp] theorem polOpen_micSrcMod (i : Nat) (g : MicSrc → MicSrc) (j : Nat) : polOpen (micSrcMod i g s) j = polOpen s j := rfl
@[simp] theorem isFatal_micSrcMod (i : Nat) (g : MicSrc → MicSrc) : isFatal (micSrcMod i g s) = isFatal s := rfl
@[simp] theorem devNs_micSrcMod (i : Nat) (g : MicSrc → MicSrc) : devNs (micSrcMod i g s) = devNs s := rfl
@[simp] theorem polder_micTgtMod (i : Nat) (g : MicTgt → MicTgt) (j : Nat) : polder (micTgtMod i g s) j = polder s j := rfl
@[simp] theorem func_micTgtMod (i : Nat) (g : MicTgt → MicTgt) (j : Nat) : func (micTgtMod i g s) j = func s j := rfl
@[simp] theorem port_micTgtMod (i : Nat) (g : MicTgt → MicTgt) (j : Nat) : port (micTgtMod i g s) j = port s j := rfl
@[simp] theorem sessOf_micTgtMod (i : Nat) (g : MicTgt → MicTgt) (j : Nat) : sessOf (micTgtMod i g s) j = sessOf s j := rfl
@[simp] theorem coreOf_micTgtMod (i : Nat) (g : MicTgt → MicTgt) (j : Nat) : coreOf (micTgtMod i g s) j = coreOf s j := rfl
@[simp] theorem pelOf_micTgtMod (i : Nat) (g : MicTgt → MicTgt) (j : Nat) : pelOf (micTgtMod i g s) j = pelOf s j := rfl
@[simp] theorem pairOf_micTgtMod (i : Nat) (g : MicTgt → MicTgt) (j : Nat) : pairOf (micTgtMod i g s) j = pairOf s j := rfl
@[simp] theorem mcOf_micTgtMod (i : Nat) (g : MicTgt → MicTgt) (j : Nat) : mcOf (micTgtMod i g s) j = mcOf s j := rfl
@[simp] theorem gearOf_micTgtMod (i : Nat) (g : MicTgt → MicTgt) (j : Nat) : gearOf (micTgtMod i g s) j = gearOf s j := rfl
@[simp] theorem subOf_micTgtMod (i : Nat) (g : MicTgt → MicTgt) (j : Nat) : subOf (micTgtMod i g s) j = subOf s j := rfl
@[simp] theorem poolOf_micTgtMod (i : Nat) (g : MicTgt → MicTgt) (j : Nat) : poolOf (micTgtMod i g s) j = poolOf s j := rfl
@[simp] theorem bufOf_micTgtMod (i : Nat) (g : MicTgt → MicTgt) (j : Nat) : bufOf (micTgtMod i g s) j = bufOf s j := rfl
@[simp] theorem dmaOf_micTgtMod (i : Nat) (g : MicTgt → MicTgt) (j : Nat) : dmaOf (micTgtMod i g s) j = dmaOf s j := rfl
@[simp] theorem mbxOf_micTgtMod (i : Nat) (g : MicTgt → MicTgt) (j : Nat) : mbxOf (micTgtMod i g s) j = mbxOf s j := rfl
@[simp] theorem micSrcOf_micTgtMod (i : Nat) (g : MicTgt → MicTgt) (j : Nat) : micSrcOf (micTgtMod i g s) j = micSrcOf s j := rfl
@[simp] theorem rget_micTgtMod (i : Nat) (g : MicTgt → MicTgt) (j : Nat) : rget (micTgtMod i g s) j = rget s j := rfl
@[simp] theorem rfld_micTgtMod (i : Nat) (g : MicTgt → MicTgt) (j b m : Nat) : rfld (micTgtMod i g s) j b m = rfld s j b m := rfl
@[simp] theorem polOpen_micTgtMod (i : Nat) (g : MicTgt → MicTgt) (j : Nat) : polOpen (micTgtMod i g s) j = polOpen s j := rfl
@[simp] theorem isFatal_micTgtMod (i : Nat) (g : MicTgt → MicTgt) : isFatal (micTgtMod i g s) = isFatal s := rfl
@[simp] theorem devNs_micTgtMod (i : Nat) (g : MicTgt → MicTgt) : devNs (micTgtMod i g s) = devNs s := rfl

end Sys2Proof.Machine
end

