-- ==== Sys2Proof/Laws/Bits.lean ====
section
/-! SUPPORT. Laws of bit fields, register fields and saturating counters. -/

namespace Sys2Proof

theorem setBits_eq (x lo n v : Nat) :
    setBits x lo n v = (x / 2 ^ lo / 2 ^ n * 2 ^ n + v % 2 ^ n) * 2 ^ lo + x % 2 ^ lo := by
  unfold setBits bitsOf
  have h1 := Nat.div_add_mod x (2 ^ lo)
  have h2 := Nat.div_add_mod (x / 2 ^ lo) (2 ^ n)
  have h3 : x = (x / 2 ^ lo / 2 ^ n * 2 ^ n) * 2 ^ lo + x / 2 ^ lo % 2 ^ n * 2 ^ lo + x % 2 ^ lo := by
    rw [← Nat.add_mul, Nat.mul_comm (x / 2 ^ lo / 2 ^ n), h2, Nat.mul_comm (x / 2 ^ lo)]
    exact h1.symm
  rw [Nat.add_mul]
  omega

/-- The field written reads as what was written. -/
theorem bitsOf_setBits_same (x lo n v : Nat) : bitsOf (setBits x lo n v) lo n = v % 2 ^ n := by
  rw [setBits_eq]
  unfold bitsOf
  rw [Nat.add_comm, Nat.add_mul_div_right _ _ (Nat.two_pow_pos lo), Nat.div_eq_of_lt (Nat.mod_lt _ (Nat.two_pow_pos lo)),
    Nat.zero_add, Nat.mul_add_mod_self_right, Nat.mod_mod]

/-- A field above the one written is as it was. -/
theorem bitsOf_setBits_above (x lo n v lo' n' : Nat) (h : lo + n ≤ lo') : bitsOf (setBits x lo n v) lo' n' = bitsOf x lo' n' := by
  obtain ⟨k, rfl⟩ := Nat.exists_eq_add_of_le h
  rw [setBits_eq]
  unfold bitsOf
  have e : 2 ^ (lo + n + k) = 2 ^ lo * (2 ^ n * 2 ^ k) := by rw [Nat.pow_add, Nat.pow_add, Nat.mul_assoc]
  rw [e, ← Nat.div_div_eq_div_mul, ← Nat.div_div_eq_div_mul, ← Nat.div_div_eq_div_mul, ← Nat.div_div_eq_div_mul]
  congr 2
  rw [Nat.add_comm, Nat.add_mul_div_right _ _ (Nat.two_pow_pos lo), Nat.div_eq_of_lt (Nat.mod_lt _ (Nat.two_pow_pos lo)),
    Nat.zero_add, Nat.add_comm, Nat.add_mul_div_right _ _ (Nat.two_pow_pos n),
    Nat.div_eq_of_lt (Nat.mod_lt _ (Nat.two_pow_pos n)), Nat.zero_add]

/-- A field below the one written is as it was. -/
theorem bitsOf_setBits_below (x lo n v lo' n' : Nat) (h : lo' + n' ≤ lo) : bitsOf (setBits x lo n v) lo' n' = bitsOf x lo' n' := by
  obtain ⟨k, rfl⟩ := Nat.exists_eq_add_of_le h
  rw [setBits_eq]
  unfold bitsOf
  generalize x / 2 ^ (lo' + n' + k) / 2 ^ n * 2 ^ n + v % 2 ^ n = y
  have e : (2 : Nat) ^ (lo' + n' + k) = 2 ^ k * 2 ^ n' * 2 ^ lo' := by
    rw [Nat.pow_add, Nat.pow_add, Nat.mul_comm, Nat.mul_comm (2 ^ lo'), Nat.mul_assoc]
  have e2 : x % 2 ^ (lo' + n' + k) / 2 ^ lo' % 2 ^ n' = x / 2 ^ lo' % 2 ^ n' := by
    rw [show (2 : Nat) ^ (lo' + n' + k) = 2 ^ lo' * (2 ^ n' * 2 ^ k) by
      rw [Nat.pow_add, Nat.pow_add, Nat.mul_assoc],
      Nat.mod_mul_right_div_self, Nat.mod_mul_right_mod]
  rw [Nat.add_comm, show y * 2 ^ (lo' + n' + k) = (y * 2 ^ k * 2 ^ n') * 2 ^ lo' by
      rw [e, Nat.mul_assoc, Nat.mul_assoc, Nat.mul_assoc],
    Nat.add_mul_div_right _ _ (Nat.two_pow_pos lo'), Nat.add_mul_mod_self_right, e2]

theorem bitsOf_lt (x lo n : Nat) : bitsOf x lo n < 2 ^ n := Nat.mod_lt _ (Nat.two_pow_pos n)

theorem satAdd_lt (w x k : Nat) : satAdd w x k < 2 ^ w := by
  unfold satAdd; have := Nat.two_pow_pos w; omega

theorem bitAt_eq (x i : Nat) : bitAt x i = decide (bitsOf x i 1 = 1) := by
  unfold bitAt bitsOf; rw [Nat.pow_one]; cases h : decide (x / 2 ^ i % 2 = 1) <;> simp_all

end Sys2Proof

namespace Sys2Proof.Machine

variable (s : State)

/-- A field stored reads as its value. -/
theorem rfld_rfset_same (a lo n v : Nat) : rfld (rfset a lo n v s) a lo n = v % 2 ^ n := by
  unfold rfld rfset; rw [rget_rset_same, bitsOf_setBits_same]

/-- Another register is as it was. -/
theorem rget_rfset_other (a b lo n v : Nat) (h : b ≠ a) : rget (rfset a lo n v s) b = rget s b := rget_rset_other s a _ b h

theorem rget_rcnt_other (a b lo n k : Nat) (h : b ≠ a) : rget (rcnt a lo n k s) b = rget s b := rget_rset_other s a _ b h

/-- A counter counts, and stays at its last value. -/
theorem rfld_rcnt_same (a lo n k : Nat) : rfld (rcnt a lo n k s) a lo n = satAdd n (rfld s a lo n) k := by
  unfold rcnt; rw [rfld_rfset_same, Nat.mod_eq_of_lt (satAdd_lt _ _ _)]

theorem rget_pgEvt_other (p : Page) (b a : Nat) (h : a ≠ p.at 0x18) : rget (pgEvt p b s) a = rget s a :=
  rget_rset_other s _ _ a h

theorem rget_pgBlock_other (p : Page) (a : Nat) (h : a ≠ p.at 0x18) : rget (pgBlock p s) a = rget s a :=
  rget_rset_other s _ _ a h

end Sys2Proof.Machine
end

