-- ==== Sys2Proof/Laws/Coding.lean ====
section
/-! SUPPORT. What the coding of a block can change: buffer contents, the session's records and the core's. -/

namespace Sys2Proof.Machine

variable (s : State)

/-- A run of updates that each keep a property keeps it. -/
theorem forAll_keeps {α : Type} (P : State → Prop) (f : α → State → State) (h : ∀ a u, P u → P (f a u)) :
    ∀ (l : List α) (u : State), P u → P (forAll l f u)
  | [], _, hu => hu
  | a :: l, u, hu => forAll_keeps P f h l (f a u) (h a u hu)

/-- Writing bytes of a buffer changes buffer contents alone. -/
theorem storeBytes_only (handle off : Nat) (l : List Byte) : ∃ m, storeBytes handle off l s = { s with bufm := m } := by
  unfold storeBytes
  split
  · exact ⟨s.bufm, rfl⟩
  · exact ⟨_, rfl⟩

/-- Packing a unit changes buffer contents and the session's records alone. -/
theorem storeUnit_only (sid num : Nat) (u : UnitPix) : ∃ m x, storeUnit sid num u s = { s with bufm := m, sess := x } := by
  unfold storeUnit
  dsimp only
  split
  · exact ⟨s.bufm, s.sess, rfl⟩
  · split
    · exact ⟨s.bufm, s.sess, rfl⟩
    · obtain ⟨m, hm⟩ := storeBytes_only s _ _ _
      rw [hm]
      obtain ⟨m', hm'⟩ := storeBytes_only { s with bufm := m } _ _ _
      rw [hm']
      split
      · exact ⟨_, _, rfl⟩
      · obtain ⟨m'', hm''⟩ := storeBytes_only { s with bufm := m' } _ _ _
        rw [hm'']
        exact ⟨_, _, rfl⟩

/-- Writing motion field entries changes buffer contents alone. -/
theorem storeMotion_only (sid num : Nat) (ps : List Pred) : ∃ m, storeMotion sid num ps s = { s with bufm := m } := by
  unfold storeMotion
  dsimp only
  split
  · exact ⟨s.bufm, rfl⟩
  · refine forAll_keeps (fun u => ∃ m, u = { s with bufm := m }) _ ?_ _ s ⟨s.bufm, rfl⟩
    rintro c u ⟨m, rfl⟩
    split
    · exact ⟨m, rfl⟩
    · split
      · exact ⟨m, rfl⟩
      · obtain ⟨m', hm'⟩ := storeBytes_only { s with bufm := m } _ _ _
        rw [hm']
        exact ⟨m', rfl⟩

/-- What a stage leaves in a block changes the core's records alone. -/
theorem blockData_only (c : Nat) (r : CoreRow) (j st : Nat) (o : BlockOut) : ∃ k, blockData c r j st o s = { s with cores := k } := by
  unfold blockData
  dsimp only
  split
  · exact ⟨s.cores, rfl⟩
  · split
    · exact ⟨s.cores, rfl⟩
    · split
      · exact ⟨_, rfl⟩
      · split <;> first | exact ⟨_, rfl⟩ | exact ⟨s.cores, rfl⟩

end Sys2Proof.Machine
end

