-- ==== Sys2Proof/Laws/Command.lean ====
section
/-! SUPPORT. What running a queued command can do, and what a step does. -/

namespace Sys2Proof.Machine

variable {s : State} {slot opc : Nat} {c : Slot}

theorem accepts_slot (h : accepts s slot opc c = true) : tfind s.slots slot = some c := by
  simp only [accepts, served, Bool.and_eq_true, decide_eq_true_eq] at h; exact h.1.1.1.1.1.1.1.1

/-- A command that passes checks 2 and 4 of R225 and its field check runs its body. -/
theorem runCmd_body (ok : Slot → State → Bool) (body : Slot → State → State) (h : accepts s slot opc c = true)
    (hok : ok c s = true) : runCmd slot opc ok body s = body c s := by
  simp only [accepts, served, allowed, Bool.and_eq_true, decide_eq_true_eq, Bool.not_eq_true', Option.isNone_iff_eq_none] at h
  obtain ⟨⟨⟨⟨⟨⟨⟨⟨h1, h2⟩, h3⟩, h4⟩, h5⟩, h6⟩, h7⟩, h8⟩, h9⟩ := h
  unfold runCmd
  simp only [h1]
  rw [if_neg (by simp [h2, h3, h4, h5, h6, h7, h8])]
  revert h9
  cases ho : opInfo opc with
  | none => simp
  | some r =>
    obtain ⟨a, b, d, e⟩ := r
    simp only [Bool.and_eq_true, Bool.or_eq_true, Bool.not_eq_true', decide_eq_true_eq]
    rintro ⟨⟨⟨ha, hp⟩, hpol⟩, hn⟩
    rw [if_neg, if_neg, if_neg, if_neg]
    · rcases hn with hn | hn <;> simp [hn]
    · simp [hok]
    · simp [hpol]
    · rcases ha with ha | ha <;> rcases hp with hp | hp <;> simp [ha, hp]

/-- The same where the field check always passes. -/
theorem runCmd_any (body : Slot → State → State) (h : accepts s slot opc c = true) :
    runCmd slot opc anyField body s = body c s := runCmd_body anyField body h rfl

/-- A command of several operations runs the body of the one it carries. -/
theorem opCmd_body (op top : Nat) (ok : Slot → State → Bool) (body : Slot → State → State) (h : accepts s slot opc c = true)
    (ho : opOf c = op) (ht : op ≤ top) (hok : ok c s = true) : opCmd slot opc op top ok body s = body c s := by
  unfold opCmd
  simp only [accepts_slot h, ho, true_or, if_true]
  exact runCmd_body (fun c s => decide (opOf c ≤ top) && ok c s) body h (by simp [ho, ht, hok])

/-- Everything running a queued command can do: nothing, complete it with a status of R225, or its body. -/
theorem runCmd_cases (slot opc : Nat) (ok : Slot → State → Bool) (body : Slot → State → State) (s : State) :
    runCmd slot opc ok body s = s ∨ (∃ st, runCmd slot opc ok body s = finish slot st s) ∨
      ∃ c, tfind s.slots slot = some c ∧ runCmd slot opc ok body s = body c s := by
  unfold runCmd
  cases h : tfind s.slots slot with
  | none => exact .inl rfl
  | some c =>
    dsimp only
    split
    · exact .inl rfl
    · cases opInfo opc with
      | none => exact .inl rfl
      | some r =>
        obtain ⟨_, a, b, d⟩ := r
        dsimp only
        split
        · exact .inr (.inl ⟨_, rfl⟩)
        · split
          · exact .inr (.inl ⟨_, rfl⟩)
          · split
            · exact .inr (.inl ⟨_, rfl⟩)
            · split
              · exact .inr (.inl ⟨_, rfl⟩)
              · exact .inr (.inr ⟨c, rfl, rfl⟩)

theorem hold_eq (h : tfind s.slots slot = some c) :
    hold slot s = { s with slots := tput s.slots slot { c with started := true } } := by simp [hold, h]

theorem qpMod_eq {k : Nat} {q : QPair} (g : QPair → QPair) (h : tfind s.qps k = some q) :
    qpMod k g s = { s with qps := tput s.qps k (g q) } := by simp [qpMod, h]

theorem next_inj {a b : State} (h : (Host.Outcome.next a : Host.Outcome State Fault Refusal) = .next b) : a = b := by
  injection h

/-! ### Delivery -/

theorem cqRelease_nil (h : s.deferred = []) : cqRelease s = s := by simp [cqRelease, h, cqReleaseN]

@[simp] theorem slotFree_deferred (o : Option Nat) (s : State) : (slotFree o s).deferred = s.deferred := by
  unfold slotFree; split <;> rfl

@[simp] theorem cqWrite_deferred (k : Nat) (e : Entry) (s : State) : (cqWrite k e s).deferred = s.deferred := by
  unfold cqWrite; split <;> simp

/-- An entry that must come after one of another CQ waits behind those deferred (R233). -/
theorem cqForm_defers {k : Nat} {e : Entry} {q : QPair} (hq : tfind s.qps k = some q) (hd : q.deleting = none)
    (hw : cqWaits s.deferred k e s = true) : cqForm k e s = { s with deferred := s.deferred ++ [(k, e)] } := by
  simp [cqForm, hq, hd, hw]

/-- Any other entry is delivered (R238), and with it what waited for it. -/
theorem cqForm_delivers {k : Nat} {e : Entry} {q : QPair} (hq : tfind s.qps k = some q)
    (hw : q.deleting ≠ none ∨ cqWaits s.deferred k e s = false) : cqForm k e s = cqRelease (cqDeliver k e s) := by
  simp only [cqForm, hq]
  rw [if_neg]
  rintro ⟨h1, h2⟩
  rcases hw with hw | hw
  · exact hw h1
  · simp [hw] at h2

end Sys2Proof.Machine
end

