-- ==== Sys2Proof/Laws/Memory.lean ====
section
/-! SUPPORT. Laws of device DRAM: a read after a write, and that every operation keeps the one form. -/

namespace Sys2Proof.Machine

theorem Memory.find_write : ∀ (m : List Host.Cell) (a b : Nat) (v : Byte),
    Memory.find (Memory.write m a v) b = if b = a then some v else Memory.find m b
  | [], a, b, v => by
    by_cases h : b = a
    · simp [Memory.write, Memory.find, h]
    · simp [Memory.write, Memory.find, h, Ne.symm h]
  | (k, w) :: t, a, b, v => by
    unfold Memory.write
    by_cases h1 : a < k
    · rw [if_pos h1]
      by_cases h : b = a
      · simp [Memory.find, h]
      · simp [Memory.find, h, Ne.symm h]
    · rw [if_neg h1]
      by_cases h2 : a = k
      · subst h2
        rw [if_pos rfl]
        by_cases h : b = a
        · simp [Memory.find, h]
        · simp [Memory.find, h, Ne.symm h]
      · rw [if_neg h2]; simp only [Memory.find, Memory.find_write t a b v]
        by_cases h3 : k = b
        · subst h3; simp [Ne.symm h2]
        · simp [h3]

theorem Memory.find_writes : ∀ (l : List Byte) (m : List Host.Cell) (a b : Nat),
    Memory.find (Memory.writes m a l) b = if a ≤ b ∧ b < a + l.length then l[b - a]? else Memory.find m b
  | [], m, a, b => by rw [if_neg (by simp only [List.length_nil]; omega)]; rfl
  | v :: l, m, a, b => by
    unfold Memory.writes
    rw [Memory.find_writes l (Memory.write m a v) (a + 1) b]
    by_cases h1 : a + 1 ≤ b ∧ b < a + 1 + l.length
    · have h2 : a ≤ b ∧ b < a + (v :: l).length := by simp; omega
      rw [if_pos h1, if_pos h2]
      have : b - a = (b - (a + 1)) + 1 := by omega
      rw [this, List.getElem?_cons_succ]
    · rw [if_neg h1, Memory.find_write]
      by_cases h3 : b = a
      · subst h3; simp
      · have h2 : ¬ (a ≤ b ∧ b < a + (v :: l).length) := by simp; omega
        rw [if_neg h3, if_neg h2]

theorem Memory.sortedFrom_le {lo lo' : Nat} (h : lo' ≤ lo) :
    ∀ {m : List Host.Cell}, Memory.sortedFrom lo m = true → Memory.sortedFrom lo' m = true
  | [], _ => rfl
  | (k, w) :: t, h1 => by
    simp only [Memory.sortedFrom, Bool.and_eq_true, decide_eq_true_eq] at h1 ⊢
    exact ⟨by omega, h1.2⟩

theorem Memory.sortedFrom_write : ∀ (m : List Host.Cell) (lo a : Nat) (v : Byte), lo ≤ a → Memory.sortedFrom lo m = true →
    Memory.sortedFrom lo (Memory.write m a v) = true
  | [], lo, a, v, ha, _ => by simp [Memory.write, Memory.sortedFrom, ha]
  | (k, w) :: t, lo, a, v, ha, h => by
    simp only [Memory.sortedFrom, Bool.and_eq_true, decide_eq_true_eq] at h
    unfold Memory.write
    split
    · rename_i hk; simp [Memory.sortedFrom, ha, h.2]; omega
    · split
      · rename_i hk; subst hk; simp [Memory.sortedFrom, ha, h.2]
      · simp only [Memory.sortedFrom, Bool.and_eq_true, decide_eq_true_eq]
        exact ⟨h.1, Memory.sortedFrom_write t (k + 1) a v (by omega) h.2⟩

/-- A write keeps the one form of memory. -/
theorem Memory.wf_write (m : List Host.Cell) (a : Nat) (v : Byte) (h : Memory.wf m = true) : Memory.wf (Memory.write m a v) = true :=
  Memory.sortedFrom_write m 0 a v (Nat.zero_le _) h

/-- A write of bytes keeps the one form of memory. -/
theorem Memory.wf_writes : ∀ (l : List Byte) (m : List Host.Cell) (a : Nat), Memory.wf m = true →
    Memory.wf (Memory.writes m a l) = true
  | [], _, _, h => h
  | v :: l, m, a, h => Memory.wf_writes l (Memory.write m a v) (a + 1) (Memory.wf_write m a v h)

theorem Memory.sortedFrom_filter (p : Host.Cell → Bool) : ∀ (m : List Host.Cell) (lo : Nat), Memory.sortedFrom lo m = true →
    Memory.sortedFrom lo (m.filter p) = true
  | [], _, _ => rfl
  | (k, w) :: t, lo, h => by
    simp only [Memory.sortedFrom, Bool.and_eq_true, decide_eq_true_eq] at h
    have ih := Memory.sortedFrom_filter p t (k + 1) h.2
    rw [List.filter_cons]
    split
    · simp only [Memory.sortedFrom, Bool.and_eq_true, decide_eq_true_eq]; exact ⟨h.1, ih⟩
    · exact Memory.sortedFrom_le (by omega) ih

/-- Taking cells out keeps the one form of memory. -/
theorem Memory.wf_filter (p : Host.Cell → Bool) (m : List Host.Cell) (h : Memory.wf m = true) : Memory.wf (m.filter p) = true :=
  Memory.sortedFrom_filter p m 0 h

end Sys2Proof.Machine
end

