-- ==== Sys2Proof/Laws/PerInstr.lean ====
section
/-! SUPPORT. What holds of each command as syntax: a command of a queue carries an opcode of R223, and where it can arrive at all
it names one of the command slots. -/

set_option Elab.async false

namespace Sys2Proof.Laws.Shape

open Sys2Proof.Machine

/-- A queued command has an opcode of the opcode table, and a well-formed one names a slot there is. -/
def Statement (i : Instr) : Prop :=
  ∀ slot opc, queuedCmd i = some (slot, opc) → (opInfo opc).isSome = true ∧ (i.wf = true → slot < 16384)

/-- A command that is none of a queue. -/
theorem of_none {i : Instr} (h : queuedCmd i = none) : Statement i := fun j opc e => by rw [h] at e; cases e

theorem createQp (slot : Nat) : Statement (.createQp slot) := by
  intro j opc h
  cases h
  exact ⟨by decide, fun w => by simp only [Instr.wf, slotOk, decide_eq_true_eq] at w; omega⟩

theorem deleteQp (slot : Nat) : Statement (.deleteQp slot) := by
  intro j opc h
  cases h
  exact ⟨by decide, fun w => by simp only [Instr.wf, slotOk, decide_eq_true_eq] at w; omega⟩

theorem setCqModeration (slot : Nat) : Statement (.setCqModeration slot) := by
  intro j opc h
  cases h
  exact ⟨by decide, fun w => by simp only [Instr.wf, slotOk, decide_eq_true_eq] at w; omega⟩

theorem identify (slot : Nat) (ok : Bool) : Statement (.identify slot ok) := by
  intro j opc h
  cases h
  exact ⟨by decide, fun w => by simp only [Instr.wf, slotOk, decide_eq_true_eq] at w; omega⟩

theorem setVfQuota (slot : Nat) : Statement (.setVfQuota slot) := by
  intro j opc h
  cases h
  exact ⟨by decide, fun w => by simp only [Instr.wf, slotOk, decide_eq_true_eq] at w; omega⟩

theorem setVfQueues (slot : Nat) : Statement (.setVfQueues slot) := by
  intro j opc h
  cases h
  exact ⟨by decide, fun w => by simp only [Instr.wf, slotOk, decide_eq_true_eq] at w; omega⟩

theorem sessionOpen (slot : Nat) (blk : Option HostBuf) (pol : Bool) : Statement (.sessionOpen slot blk pol) := by
  intro j opc h
  cases h
  exact ⟨by decide, fun w => by simp only [Instr.wf, slotOk, Bool.and_eq_true, decide_eq_true_eq] at w; omega⟩

theorem sessionClose (slot : Nat) : Statement (.sessionClose slot) := by
  intro j opc h
  cases h
  exact ⟨by decide, fun w => by simp only [Instr.wf, slotOk, decide_eq_true_eq] at w; omega⟩

theorem sessionQuiesce (slot : Nat) : Statement (.sessionQuiesce slot) := by
  intro j opc h
  cases h
  exact ⟨by decide, fun w => by simp only [Instr.wf, slotOk, decide_eq_true_eq] at w; omega⟩

theorem sessionResume (slot : Nat) : Statement (.sessionResume slot) := by
  intro j opc h
  cases h
  exact ⟨by decide, fun w => by simp only [Instr.wf, slotOk, decide_eq_true_eq] at w; omega⟩

theorem sessionMove (slot : Nat) : Statement (.sessionMove slot) := by
  intro j opc h
  cases h
  exact ⟨by decide, fun w => by simp only [Instr.wf, slotOk, decide_eq_true_eq] at w; omega⟩

theorem sessionExport (slot : Nat) : Statement (.sessionExport slot) := by
  intro j opc h
  cases h
  exact ⟨by decide, fun w => by simp only [Instr.wf, slotOk, decide_eq_true_eq] at w; omega⟩

theorem sessionImport (slot : Nat) (img : Option SealedImage) : Statement (.sessionImport slot img) := by
  intro j opc h
  cases h
  exact ⟨by decide, fun w => by simp only [Instr.wf, slotOk, decide_eq_true_eq] at w; omega⟩

theorem sessionQuery (slot : Nat) (ok : Bool) : Statement (.sessionQuery slot ok) := by
  intro j opc h
  cases h
  exact ⟨by decide, fun w => by simp only [Instr.wf, slotOk, decide_eq_true_eq] at w; omega⟩

theorem sessionSetRc (slot : Nat) (blk : Option HostBuf) : Statement (.sessionSetRc slot blk) := by
  intro j opc h
  cases h
  exact ⟨by decide, fun w => by simp only [Instr.wf, slotOk, Bool.and_eq_true, decide_eq_true_eq] at w; omega⟩

theorem keyRequest (slot : Nat) : Statement (.keyRequest slot) := by
  intro j opc h
  cases h
  exact ⟨by decide, fun w => by simp only [Instr.wf, slotOk, decide_eq_true_eq] at w; omega⟩

theorem encodePicture (slot : Nat) : Statement (.encodePicture slot) := by
  intro j opc h
  cases h
  exact ⟨by decide, fun w => by simp only [Instr.wf, slotOk, decide_eq_true_eq] at w; omega⟩

theorem decodePicture (slot : Nat) : Statement (.decodePicture slot) := by
  intro j opc h
  cases h
  exact ⟨by decide, fun w => by simp only [Instr.wf, slotOk, decide_eq_true_eq] at w; omega⟩

theorem frameRelease (slot : Nat) : Statement (.frameRelease slot) := by
  intro j opc h
  cases h
  exact ⟨by decide, fun w => by simp only [Instr.wf, slotOk, decide_eq_true_eq] at w; omega⟩

theorem bufAlloc (slot : Nat) : Statement (.bufAlloc slot) := by
  intro j opc h
  cases h
  exact ⟨by decide, fun w => by simp only [Instr.wf, slotOk, decide_eq_true_eq] at w; omega⟩

theorem bufWrite (slot : Nat) (data : Option HostBuf) : Statement (.bufWrite slot data) := by
  intro j opc h
  cases h
  exact ⟨by decide, fun w => by simp only [Instr.wf, slotOk, Bool.and_eq_true, decide_eq_true_eq] at w; omega⟩

theorem bufRead (slot : Nat) (ok : Bool) : Statement (.bufRead slot ok) := by
  intro j opc h
  cases h
  exact ⟨by decide, fun w => by simp only [Instr.wf, slotOk, decide_eq_true_eq] at w; omega⟩

theorem bufRelease (slot : Nat) : Statement (.bufRelease slot) := by
  intro j opc h
  cases h
  exact ⟨by decide, fun w => by simp only [Instr.wf, slotOk, decide_eq_true_eq] at w; omega⟩

theorem tandemJoin (slot : Nat) : Statement (.tandemJoin slot) := by
  intro j opc h
  cases h
  exact ⟨by decide, fun w => by simp only [Instr.wf, slotOk, decide_eq_true_eq] at w; omega⟩

theorem tandemSplit (slot : Nat) : Statement (.tandemSplit slot) := by
  intro j opc h
  cases h
  exact ⟨by decide, fun w => by simp only [Instr.wf, slotOk, decide_eq_true_eq] at w; omega⟩

theorem polderAdmit (slot : Nat) : Statement (.polderAdmit slot) := by
  intro j opc h
  cases h
  exact ⟨by decide, fun w => by simp only [Instr.wf, slotOk, decide_eq_true_eq] at w; omega⟩

theorem storeSettings (slot : Nat) : Statement (.storeSettings slot) := by
  intro j opc h
  cases h
  exact ⟨by decide, fun w => by simp only [Instr.wf, slotOk, decide_eq_true_eq] at w; omega⟩

theorem keyAgreeAgree (slot : Nat) (m1 : Option KeyMsg) (ok : Bool) : Statement (.keyAgreeAgree slot m1 ok) := by
  intro j opc h
  cases h
  exact ⟨by decide, fun w => by simp only [Instr.wf, slotOk, decide_eq_true_eq] at w; omega⟩

theorem keyAgreeSet (slot : Nat) (k : Option KeySet) : Statement (.keyAgreeSet slot k) := by
  intro j opc h
  cases h
  exact ⟨by decide, fun w => by simp only [Instr.wf, slotOk, Bool.and_eq_true, decide_eq_true_eq] at w; omega⟩

theorem attest (slot : Nat) (ok : Bool) : Statement (.attest slot ok) := by
  intro j opc h
  cases h
  exact ⟨by decide, fun w => by simp only [Instr.wf, slotOk, decide_eq_true_eq] at w; omega⟩

theorem clusterEnrolRequest (slot : Nat) (ok : Bool) : Statement (.clusterEnrolRequest slot ok) := by
  intro j opc h
  cases h
  exact ⟨by decide, fun w => by simp only [Instr.wf, slotOk, decide_eq_true_eq] at w; omega⟩

theorem clusterEnrolCreate (slot : Nat) (t : Option Ticket) : Statement (.clusterEnrolCreate slot t) := by
  intro j opc h
  cases h
  exact ⟨by decide, fun w => by simp only [Instr.wf, slotOk, decide_eq_true_eq] at w; omega⟩

theorem clusterEnrolOffer (slot : Nat) (req : Option (EnrolReq × Ticket)) (ok : Bool) : Statement (.clusterEnrolOffer slot req ok) := by
  intro j opc h
  cases h
  exact ⟨by decide, fun w => by simp only [Instr.wf, slotOk, decide_eq_true_eq] at w; omega⟩

theorem clusterEnrolAccept (slot : Nat) (req : Option (Grant × Ticket)) : Statement (.clusterEnrolAccept slot req) := by
  intro j opc h
  cases h
  exact ⟨by decide, fun w => by simp only [Instr.wf, slotOk, decide_eq_true_eq] at w; omega⟩

theorem clusterEnrolLeave (slot : Nat) : Statement (.clusterEnrolLeave slot) := by
  intro j opc h
  cases h
  exact ⟨by decide, fun w => by simp only [Instr.wf, slotOk, decide_eq_true_eq] at w; omega⟩

theorem mcodeLoad (slot : Nat) (img : Option Img) : Statement (.mcodeLoad slot img) := by
  intro j opc h
  cases h
  exact ⟨by decide, fun w => by simp only [Instr.wf, slotOk, decide_eq_true_eq] at w; omega⟩

theorem debugUnlockChallenge (slot : Nat) (ok : Bool) : Statement (.debugUnlockChallenge slot ok) := by
  intro j opc h
  cases h
  exact ⟨by decide, fun w => by simp only [Instr.wf, slotOk, decide_eq_true_eq] at w; omega⟩

theorem debugUnlockResponse (slot : Nat) (resp : Option (Bool × Nat)) : Statement (.debugUnlockResponse slot resp) := by
  intro j opc h
  cases h
  exact ⟨by decide, fun w => by simp only [Instr.wf, slotOk, decide_eq_true_eq] at w; omega⟩

theorem sqTailDoorbell (fn : Fin 64) (qid : Fin 256) (at4 : Fin 4) (len : Nat) (value : W64) : Statement (.sqTailDoorbell fn qid at4 len value) :=
  of_none rfl

theorem cqHeadDoorbell (fn : Fin 64) (qid : Fin 256) (at4 : Fin 4) (len : Nat) (value : W64) : Statement (.cqHeadDoorbell fn qid at4 len value) :=
  of_none rfl

theorem sqFetch (entry : BitVec 512) : Statement (.sqFetch entry) := of_none rfl

theorem sqEntryReadError : Statement (.sqEntryReadError) := of_none rfl

theorem cqAggTimeout (fn : Fin 64) (qid : Fin 256) : Statement (.cqAggTimeout fn qid) := of_none rfl

theorem serviceTimerExpire (fn : Fin 64) (qid : Fin 256) : Statement (.serviceTimerExpire fn qid) := of_none rfl

theorem adminQueueEnable (fn : Fin 64) (cfg : W32) : Statement (.adminQueueEnable fn cfg) := of_none rfl

theorem adminQueueDisable (fn : Fin 64) : Statement (.adminQueueDisable fn) := of_none rfl

theorem aqReady (fn : Fin 64) : Statement (.aqReady fn) := of_none rfl

theorem functionPowerState (p : Fin 3) (fn : Fin 64) (d3 : Bool) (bme : Bool) (pmeEn : Bool) : Statement (.functionPowerState p fn d3 bme pmeEn) :=
  of_none rfl

theorem linkL1Entry (p : Fin 3) : Statement (.linkL1Entry p) := of_none rfl

theorem linkL1Exit (p : Fin 3) : Statement (.linkL1Exit p) := of_none rfl

theorem msixUnmask (fn : Fin 64) (vec : Fin 32) : Statement (.msixUnmask fn vec) := of_none rfl

theorem vfEnable (num : Fin 64) : Statement (.vfEnable num) := of_none rfl

theorem vfFlr (vf : Fin 64) : Statement (.vfFlr vf) := of_none rfl

theorem pfFlr : Statement (.pfFlr) := of_none rfl

theorem ingestWrite (req : Req) (ide : Option Nat) (addr : Nat) (data : List Byte) : Statement (.ingestWrite req ide addr data) :=
  of_none rfl

theorem srcDb (req : Req) (ide : Option Nat) (sid : Fin 4096) (pic : W16) (lines : W16) : Statement (.srcDb req ide sid pic lines) :=
  of_none rfl

theorem rateDemotionEnd (sid : Fin 4096) : Statement (.rateDemotionEnd sid) := of_none rfl

theorem jobPacketWrite (sid : Fin 4096) (low : Bool) (k : Nat) : Statement (.jobPacketWrite sid low k) :=
  of_none rfl

theorem rowDispatch (core : Fin 64) (ecc : Option Nat) : Statement (.rowDispatch core ecc) := of_none rfl

theorem agePromotion (p : Fin 8) : Statement (.agePromotion p) := of_none rfl

theorem blockStageDone (core : Fin 64) (st : Fin 7) (o : BlockOut) : Statement (.blockStageDone core st o) :=
  of_none rfl

theorem rowPacketise (sid : Fin 4096) : Statement (.rowPacketise sid) := of_none rfl

theorem packetSend (sub : Fin 8) : Statement (.packetSend sub) := of_none rfl

theorem ringCopyDone (sid : Fin 4096) : Statement (.ringCopyDone sid) := of_none rfl

theorem rebalanceEval : Statement (.rebalanceEval) := of_none rfl

theorem autoMove (sid : Fin 4096) : Statement (.autoMove sid) := of_none rfl

theorem sealDone (sid : Fin 4096) (ok : Bool) : Statement (.sealDone sid ok) := of_none rfl

theorem sessionCloseDrained (sid : Fin 4096) : Statement (.sessionCloseDrained sid) := of_none rfl

theorem holdoffEnd (sid : Fin 4096) : Statement (.holdoffEnd sid) := of_none rfl

theorem ccfbSilence (sid : Fin 4096) : Statement (.ccfbSilence sid) := of_none rfl

theorem rtcpSilence (sid : Fin 4096) : Statement (.rtcpSilence sid) := of_none rfl

theorem seamTrained (k : Fin 32) : Statement (.seamTrained k) := of_none rfl

theorem seamTrainTimeout (k : Fin 32) : Statement (.seamTrainTimeout k) := of_none rfl

theorem seamBoundaryRecord (k : Fin 32) (fails : Nat) : Statement (.seamBoundaryRecord k fails) := of_none rfl

theorem seamSnapshotRecord (k : Fin 32) (fails : Nat) : Statement (.seamSnapshotRecord k fails) := of_none rfl

theorem seamEntropyHandover (k : Fin 32) (fails : Nat) : Statement (.seamEntropyHandover k fails) := of_none rfl

theorem seamModelRecord (k : Fin 32) (fails : Nat) : Statement (.seamModelRecord k fails) := of_none rfl

theorem receiveFrame (sub : Fin 8) (f : RxFrame) : Statement (.receiveFrame sub f) := of_none rfl

theorem srSend (sid : Fin 4096) : Statement (.srSend sid) := of_none rfl

theorem oldKeyLapse (sid : Fin 4096) : Statement (.oldKeyLapse sid) := of_none rfl

theorem hostTxTail (v : W32) : Statement (.hostTxTail v) := of_none rfl

theorem hostTxSend (len : Nat) (code : Nat) : Statement (.hostTxSend len code) := of_none rfl

theorem ethModeWrite (p : Fin 2) (v : W32) : Statement (.ethModeWrite p v) := of_none rfl

theorem ethLinkUp (sub : Fin 8) : Statement (.ethLinkUp sub) := of_none rfl

theorem ethLinkDown (sub : Fin 8) : Statement (.ethLinkDown sub) := of_none rfl

theorem pcieLinkChange (p : Fin 3) (gen : Fin 7) (width : Nat) (flit : Bool) : Statement (.pcieLinkChange p gen width flit) :=
  of_none rfl

theorem delayReqSend (d : Fin 2) : Statement (.delayReqSend d) := of_none rfl

theorem ptpDomainLost (d : Fin 2) : Statement (.ptpDomainLost d) := of_none rfl

theorem timeManual : Statement (.timeManual) := of_none rfl

theorem timePtp : Statement (.timePtp) := of_none rfl

theorem timeSet (v : W64) : Statement (.timeSet v) := of_none rfl

theorem timeRate (v : W32) : Statement (.timeRate v) := of_none rfl

theorem getVersion (p : Fin 3) : Statement (.getVersion p) := of_none rfl

theorem getCapabilities (p : Fin 3) : Statement (.getCapabilities p) := of_none rfl

theorem negotiateAlgorithms (p : Fin 3) (ok : Bool) : Statement (.negotiateAlgorithms p ok) := of_none rfl

theorem getDigests (p : Fin 3) : Statement (.getDigests p) := of_none rfl

theorem getCertificate (p : Fin 3) (slot : Fin 8) (off : W16) (len : W16) : Statement (.getCertificate p slot off len) :=
  of_none rfl

theorem challenge (p : Fin 3) (slot : Fin 8) (nonce : Nat) : Statement (.challenge p slot nonce) := of_none rfl

theorem getMeasurements (p : Fin 3) (i : Byte) : Statement (.getMeasurements p i) := of_none rfl

theorem keyExchange (p : Fin 3) : Statement (.keyExchange p) := of_none rfl

theorem finish (p : Fin 3) (id : Nat) (ok : Bool) (peer : Option Peer) : Statement (.finish p id ok peer) :=
  of_none rfl

theorem keyUpdate (p : Fin 3) (id : Nat) : Statement (.keyUpdate p id) := of_none rfl

theorem heartbeat (p : Fin 3) (id : Nat) : Statement (.heartbeat p id) := of_none rfl

theorem endSession (p : Fin 3) (id : Nat) : Statement (.endSession p id) := of_none rfl

theorem keyProg (p : Fin 3) (id : Nat) (stream : Fin 9) (sid : Byte) (sub : Fin 6) : Statement (.keyProg p id stream sid sub) :=
  of_none rfl

theorem kSetGo (p : Fin 3) (id : Nat) (stream : Fin 9) (sub : Fin 6) : Statement (.kSetGo p id stream sub) :=
  of_none rfl

theorem ideIntegrityError (p : Fin 3) (stream : Fin 9) : Statement (.ideIntegrityError p stream) := of_none rfl

theorem lcProvision (c : Fin 4) (sig : Bool) (key : Nat) (serial : Nat) (otp : Bool) : Statement (.lcProvision c sig key serial otp) :=
  of_none rfl

theorem lcActivate (c : Fin 4) (sig : Bool) (key : Nat) (otpHash : Bool) (otpGroup : Bool) : Statement (.lcActivate c sig key otpHash otpGroup) :=
  of_none rfl

theorem lcReturn (c : Fin 4) (sig : Bool) (key : Nat) (serial : Nat) (otp : Bool) : Statement (.lcReturn c sig key serial otp) :=
  of_none rfl

theorem fwStage (c : Fin 4) (m : Img) : Statement (.fwStage c m) := of_none rfl

theorem opkeyRotate (c : Fin 4) (sig : Bool) (key : Nat) (otp : Bool) : Statement (.opkeyRotate c sig key otp) :=
  of_none rfl

theorem vendorRevoke (c : Fin 4) (slot : Fin 4) (sig : Bool) (key : Nat) (otp : Bool) : Statement (.vendorRevoke c slot sig key otp) :=
  of_none rfl

theorem bindWrite (c : Fin 4) (v0 : W64) (v1 : W64) (v2 : W64) (v3 : W64) : Statement (.bindWrite c v0 v1 v2 v3) :=
  of_none rfl

theorem drbgReseed (healthy : Bool) : Statement (.drbgReseed healthy) := of_none rfl

theorem dramRequest (port : Fin 15) (write : Bool) (addr : Fin (2 ^ 39)) (len : Nat) (data : List Byte) (cls : Fin 3) (ecc : Fin 3) : Statement (.dramRequest port write addr len data cls ecc) :=
  of_none rfl

theorem refreshInterval (mc : Fin 16) (ch : Fin 4) : Statement (.refreshInterval mc ch) := of_none rfl

theorem rtTrafficEnd (mc : Fin 16) (ch : Fin 4) : Statement (.rtTrafficEnd mc ch) := of_none rfl

theorem mr4Poll (mc : Fin 16) (m0 : Fin 3) (m1 : Fin 3) (m2 : Fin 3) (m3 : Fin 3) : Statement (.mr4Poll mc m0 m1 m2 m3) :=
  of_none rfl

theorem driftCheck (mc : Fin 16) (ch : Fin 4) (osc : W16) (steps : Int) : Statement (.driftCheck mc ch osc steps) :=
  of_none rfl

theorem selfRefreshIdle (mc : Fin 16) : Statement (.selfRefreshIdle mc) := of_none rfl

theorem srPrepDone (mc : Fin 16) : Statement (.srPrepDone mc) := of_none rfl

theorem srEntryDone (mc : Fin 16) : Statement (.srEntryDone mc) := of_none rfl

theorem srWake (mc : Fin 16) (order : Bool) : Statement (.srWake mc order) := of_none rfl

theorem srExitDone (mc : Fin 16) : Statement (.srExitDone mc) := of_none rfl

theorem mcTrnWritePattern (mc : Fin 16) (cmd : W32) : Statement (.mcTrnWritePattern mc cmd) := of_none rfl

theorem mcTrnReadCompare (mc : Fin 16) (cmd : W32) : Statement (.mcTrnReadCompare mc cmd) := of_none rfl

theorem mcTrnWriteReadCompare (mc : Fin 16) (cmd : W32) : Statement (.mcTrnWriteReadCompare mc cmd) := of_none rfl

theorem mcTrnMrWrite (mc : Fin 16) (cmd : W32) : Statement (.mcTrnMrWrite mc cmd) := of_none rfl

theorem mcTrnMrRead (mc : Fin 16) (cmd : W32) : Statement (.mcTrnMrRead mc cmd) := of_none rfl

theorem mcTrnZqCal (mc : Fin 16) (cmd : W32) : Statement (.mcTrnZqCal mc cmd) := of_none rfl

theorem mcTrnWck2ckSample (mc : Fin 16) (cmd : W32) : Statement (.mcTrnWck2ckSample mc cmd) := of_none rfl

theorem mcTrnDone (mc : Fin 16) (fail : W64) (data : Byte) : Statement (.mcTrnDone mc fail data) := of_none rfl

theorem alloc (port : Fin 15) (ty : PoolTy) (size : Nat) (cls : Fin 4) (sid : Option (Fin 4096)) (rid : Option Nat) : Statement (.alloc port ty size cls sid rid) :=
  of_none rfl

theorem ref (port : Fin 15) (who : Fin 128) (handle : W32) : Statement (.ref port who handle) := of_none rfl

theorem unref (port : Fin 15) (who : Fin 128) (handle : W32) : Statement (.unref port who handle) := of_none rfl

theorem reserve (port : Fin 15) (pool : Fin 16) (sid : Fin 4096) (n : Nat) : Statement (.reserve port pool sid n) :=
  of_none rfl

theorem unreserve (port : Fin 15) (pool : Fin 16) (sid : Fin 4096) (n : Nat) : Statement (.unreserve port pool sid n) :=
  of_none rfl

theorem allocRetry (rid : Nat) : Statement (.allocRetry rid) := of_none rfl

theorem bpmHoldExpire (pool : Fin 16) : Statement (.bpmHoldExpire pool) := of_none rfl

theorem dmaChEnable (req : Req) (c : Fin 32) : Statement (.dmaChEnable req c) := of_none rfl

theorem dmaChDisable (req : Req) (c : Fin 32) : Statement (.dmaChDisable req c) := of_none rfl

theorem dmaChResume (req : Req) (c : Fin 32) : Statement (.dmaChResume req c) := of_none rfl

theorem dmaChTail (req : Req) (c : Fin 32) (idx : Nat) : Statement (.dmaChTail req c idx) := of_none rfl

theorem dmaNop (c : Fin 32) (desc : BitVec 256) : Statement (.dmaNop c desc) := of_none rfl

theorem dmaCopy (c : Fin 32) (desc : BitVec 256) (host : List Byte) (err : Option (Nat × Fin 3)) : Statement (.dmaCopy c desc host err) :=
  of_none rfl

theorem dmaFill (c : Fin 32) (desc : BitVec 256) (err : Option (Nat × Fin 3)) : Statement (.dmaFill c desc err) :=
  of_none rfl

theorem dmaCompare (c : Fin 32) (desc : BitVec 256) (host : List Byte) (err : Option (Nat × Fin 3)) : Statement (.dmaCompare c desc host err) :=
  of_none rfl

theorem dmaGather (c : Fin 32) (desc : BitVec 256) (host : List Byte) (err : Option (Nat × Fin 3)) : Statement (.dmaGather c desc host err) :=
  of_none rfl

theorem dmaDescriptorDone (c : Fin 32) : Statement (.dmaDescriptorDone c) := of_none rfl

theorem shadowCommit (req : Req) (c : Fin 32) (weight : Fin 8) : Statement (.shadowCommit req c weight) :=
  of_none rfl

theorem mbxInData (c : Fin 8) (id : W16) (auth : Bool) (word : W32) : Statement (.mbxInData c id auth word) :=
  of_none rfl

theorem mbxOutData (c : Fin 8) : Statement (.mbxOutData c) := of_none rfl

theorem hostReset (c : Fin 8) : Statement (.hostReset c) := of_none rfl

theorem mbxPartialTimeout (c : Fin 8) : Statement (.mbxPartialTimeout c) := of_none rfl

theorem mctpMessage (i3c : Bool) (eid : Byte) (secured : Bool) (c : Fin 8) (words : List W32) (eom : Bool) : Statement (.mctpMessage i3c eid secured c words eom) :=
  of_none rfl

theorem mbxBridgePlace (c : Fin 8) : Statement (.mbxBridgePlace c) := of_none rfl

theorem mbxOutWrite (c : Fin 8) (dest : Option Byte) (word : W32) (can : Bool) : Statement (.mbxOutWrite c dest word can) :=
  of_none rfl

theorem mbxInRead (c : Fin 8) : Statement (.mbxInRead c) := of_none rfl

theorem mbxEndpointTimeout (c : Fin 8) : Statement (.mbxEndpointTimeout c) := of_none rfl

theorem micSourceRaise (src : Fin 512) (on : Bool) : Statement (.micSourceRaise src on) := of_none rfl

theorem micTgtClaim (req : Req) (t : Fin 9) : Statement (.micTgtClaim req t) := of_none rfl

theorem micTgtEoi (req : Req) (t : Fin 9) (src : Fin 512) : Statement (.micTgtEoi req t src) := of_none rfl

theorem micSwi (req : Req) (set : W32) : Statement (.micSwi req set) := of_none rfl

theorem micSrcCfg (req : Req) (src : Fin 512) (cfg : W32) : Statement (.micSrcCfg req src cfg) := of_none rfl

theorem micTargetWake (t : Fin 9) : Statement (.micTargetWake t) := of_none rfl

theorem nanowordComplete (core : Fin 64) (k : Fin 8) (flag : Bool) (key : Fin 16) (sram : Nat) (ops : Nat) (fresh : List Nat) (kind3 : Bool) : Statement (.nanowordComplete core k flag key sram ops fresh kind3) :=
  of_none rfl

theorem commitWatchdog (core : Fin 64) (k : Fin 8) : Statement (.commitWatchdog core k) := of_none rfl

theorem patchActivation (core : Fin 64) : Statement (.patchActivation core) := of_none rfl

theorem scrub (core : Fin 64) : Statement (.scrub core) := of_none rfl

theorem scrubPeriod (core : Fin 64) : Statement (.scrubPeriod core) := of_none rfl

theorem faultRaise (reps : List Report) : Statement (.faultRaise reps) := of_none rfl

theorem faultReportTimer (src : Fin 4096) : Statement (.faultReportTimer src) := of_none rfl

theorem selfTestDone (pol : Fin 95) (fail : Option (Fin 3)) (slow : Bool) (seam : List (Fin 4)) : Statement (.selfTestDone pol fail slow seam) :=
  of_none rfl

theorem quiescentBoundary (pol : Fin 95) : Statement (.quiescentBoundary pol) := of_none rfl

theorem hAutoReadmit : Statement (.hAutoReadmit) := of_none rfl

theorem injectionArm (page : Nat) (v : W32) : Statement (.injectionArm page v) := of_none rfl

theorem injectionDisarm (page : Nat) (v : W32) : Statement (.injectionDisarm page v) := of_none rfl

theorem injectionFire (page : Nat) : Statement (.injectionFire page) := of_none rfl

theorem pageLock (page : Nat) : Statement (.pageLock page) := of_none rfl

theorem derailleurEval : Statement (.derailleurEval) := of_none rfl

theorem gearUp (p : Fin 8) : Statement (.gearUp p) := of_none rfl

theorem avsUpdate (p : Fin 8) (slack : Nat) : Statement (.avsUpdate p slack) := of_none rfl

theorem droopOnset (p : Fin 8) : Statement (.droopOnset p) := of_none rfl

theorem droopEnd (p : Fin 8) : Statement (.droopEnd p) := of_none rfl

theorem capRelease (p : Fin 8) (headroom : Bool) : Statement (.capRelease p headroom) := of_none rfl

theorem thermalSample (p : Fin 8) (temps : List Nat) : Statement (.thermalSample p temps) := of_none rfl

theorem supplyExcursion (p : Fin 8) : Statement (.supplyExcursion p) := of_none rfl

theorem commitGearWrite (p : Fin 8) (code : Fin 8) : Statement (.commitGearWrite p code) := of_none rfl

theorem powerOn (part : Part) : Statement (.powerOn part) := of_none rfl

theorem perstAssert (ns : Nat) (acts : Bool) : Statement (.perstAssert ns acts) := of_none rfl

theorem startUp (straps : Byte) (train : List TrainRes) (fails : List (Fin 32)) : Statement (.startUp straps train fails) :=
  of_none rfl

theorem warmReset (req : Req) (v : W32) : Statement (.warmReset req v) := of_none rfl

theorem pcieHotReset (p : Fin 2) : Statement (.pcieHotReset p) := of_none rfl

theorem refclkLoss (ref : Bool) : Statement (.refclkLoss ref) := of_none rfl

theorem nvsCmdArm (req : Req) (op : Fin 4) : Statement (.nvsCmdArm req op) := of_none rfl

theorem nvsStoreTrainLive (req : Req) : Statement (.nvsStoreTrainLive req) := of_none rfl

theorem nvsStoreTrainStored (req : Req) : Statement (.nvsStoreTrainStored req) := of_none rfl

theorem nvsClear (req : Req) : Statement (.nvsClear req) := of_none rfl

theorem nvsCmdTimeout : Statement (.nvsCmdTimeout) := of_none rfl

theorem nvsWriteDone (readBack : Bool) : Statement (.nvsWriteDone readBack) := of_none rfl

theorem registerWrite (req : Req) (rid : W16) (auth : Bool) (addr len : Nat) (value : W64) : Statement (.registerWrite req rid auth addr len value) :=
  of_none rfl

theorem sidebandReset (i3c : Bool) : Statement (.sidebandReset i3c) := of_none rfl

theorem peerPortFlr (p : Fin 2) : Statement (.peerPortFlr p) := of_none rfl

theorem rootPllRelock : Statement (.rootPllRelock) := of_none rfl

theorem powerRemoval : Statement (.powerRemoval) := of_none rfl

theorem jtagInstruction (op : JtagOp) (pins : BitVec 66) : Statement (.jtagInstruction op pins) := of_none rfl

theorem registerRead (req : Req) (bar2 : Bool) (addr len : Nat) : Statement (.registerRead req bar2 addr len) :=
  of_none rfl

end Sys2Proof.Laws.Shape
end

