-- ==== Sys2Proof/Machine/Package.lean ====
section
/-! DEFINITION. The ball map of the package (R529 to R536) and the levels of pins that follow from the state (R540, R544, R545). -/

namespace Sys2Proof.Machine

/-- A signal of a memory channel (R531). -/
inductive MemSig where
  | dq (n : Nat) | dmi (n : Nat) | rdqs (n : Nat) (neg : Bool) | wck (n : Nat) (neg : Bool) | ca (n : Nat) | ck (neg : Bool) | cs
  deriving DecidableEq, Repr

/-- A lane port: the three PCIe ports and the two Ethernet ports. -/
inductive LanePort where
  | pcieH | pcieP0 | pcieP1 | eth0 | eth1
  deriving DecidableEq, Repr

/-- A control signal of R534. -/
inductive CtlSig where
  | qspiClk | qspiCs | qspiIo (n : Nat) | qspiRst | i3cScl | i3cSda | smbScl | smbSda | smbAlert | tck | tms | tdi | tdo | trst
  | pelSense | socSense | vssSense | strap (n : Nat) | refclk (neg : Bool) | perst | fatal | rsvd (n : Nat)
  deriving DecidableEq, Repr

/-- What a ball carries (R530). -/
inductive Ball where
  | vss | vddPel | vddSoc | vddMemio | vddIo | vddAon
  | mem (mc ch : Nat) (s : MemSig)
  | memReset (mc : Nat) | memZq (mc : Nat)
  | lane (port : LanePort) (rx neg : Bool) (n : Nat)
  | ctl (s : CtlSig)
  deriving DecidableEq, Repr

/-- Local rows 1 to 9 of a memory channel, at local channel columns 1 to 5 (R531). -/
def channelBall (mc ch i q : Nat) : Ball :=
  let m := fun s => Ball.mem mc ch s
  let row : List Ball := match i with
    | 1 => [m (.dq 0), m (.dq 1), m (.dq 2), m (.dq 3), .vss]
    | 2 => [m (.dq 4), m (.dq 5), m (.dq 6), m (.dq 7), m (.dmi 0)]
    | 3 => [m (.rdqs 0 false), m (.rdqs 0 true), m (.wck 0 false), m (.wck 0 true), .vddMemio]
    | 4 => [m (.ca 0), m (.ca 1), m (.ca 2), m (.ca 3), .vss]
    | 5 => [m (.ck false), m (.ck true), m .cs, .vss, .vddMemio]
    | 6 => [m (.ca 4), m (.ca 5), m (.ca 6), .vss, .vddMemio]
    | 7 => [m (.rdqs 1 false), m (.rdqs 1 true), m (.wck 1 false), m (.wck 1 true), .vss]
    | 8 => [m (.dq 8), m (.dq 9), m (.dq 10), m (.dq 11), m (.dmi 1)]
    | _ => [m (.dq 12), m (.dq 13), m (.dq 14), m (.dq 15), .vddMemio]
  row.getD (q - 1) .vss

/-- A memory block's ball at local row `i` and local column `j` from the package edge (R531). -/
def memBall (mc i j : Nat) : Ball :=
  if j ≤ 20 then channelBall mc ((j - 1) / 5) i ((j - 1) % 5 + 1)
  else if i = 1 then (if j = 21 then .memReset mc else .memZq mc)
  else if i ≤ 3 ∨ j = 21 then .vddMemio else .vss

/-- A ball of a lane row: positions 0 to 7 at columns 25 + 3m and 26 + 3m (R532). -/
def laneBall (col : Nat) (f : Nat → Bool → Ball) : Ball :=
  if col < 25 ∨ col > 48 ∨ (col - 25) % 3 = 2 then .vss else f ((col - 25) / 3) ((col - 25) % 3 == 1)

/-- The lane rows of a PCIe port: TX and RX of lanes 0 to 7, then of lanes 8 to 15 (R532). -/
def pcieRow (p : LanePort) (tx0 rx0 tx8 rx8 row col : Nat) : Ball :=
  if row = tx0 then laneBall col (fun m n => .lane p false n m)
  else if row = rx0 then laneBall col (fun m n => .lane p true n m)
  else if row = tx8 then laneBall col (fun m n => .lane p false n (m + 8))
  else if row = rx8 then laneBall col (fun m n => .lane p true n (m + 8)) else .vss

/-- Rows 55 and 56 (R534). -/
def ctlBall (row col : Nat) : Ball :=
  if row = 55 then
    match col with
    | 24 => .ctl .qspiClk | 25 => .ctl .qspiCs | 26 => .ctl (.qspiIo 0) | 27 => .ctl (.qspiIo 1) | 28 => .ctl (.qspiIo 2)
    | 29 => .ctl (.qspiIo 3) | 30 => .ctl .qspiRst | 32 => .ctl .i3cScl | 33 => .ctl .i3cSda | 34 => .ctl .smbScl
    | 35 => .ctl .smbSda | 36 => .ctl .smbAlert | 38 => .ctl .tck | 39 => .ctl .tms | 40 => .ctl .tdi | 41 => .ctl .tdo
    | 42 => .ctl .trst | _ => .vss
  else
    match col with
    | 24 => .ctl .pelSense | 25 => .ctl .vssSense | 26 => .ctl .socSense | 37 => .ctl (.refclk false) | 38 => .ctl (.refclk true)
    | 40 => .ctl .perst | 41 => .ctl .fatal
    | c => if 28 ≤ c ∧ c ≤ 35 then .ctl (.strap (c - 28)) else if 43 ≤ c ∧ c ≤ 48 then .ctl (.rsvd (c - 43)) else .vss

/-- The core supply field, rows 7 to 54 and columns 23 to 50 (R535). -/
def supplyBall (row col : Nat) : Ball :=
  let soc := if col % 2 = 1 then Ball.vddSoc else .vss
  if row ≤ 12 ∨ row ≥ 49 then soc
  else if 27 ≤ col ∧ col ≤ 46 then (if (row + col) % 3 = 0 then .vss else .vddPel)
  else if row = 13 then .vddAon else if row ≤ 15 then .vddIo else soc

/-- What ball row.column carries, rows and columns 1 to 72 (R529). -/
def ball (row col : Nat) : Ball :=
  let k := (row - 1) / 9
  if col ≤ 22 then memBall k (row - 9 * k) col
  else if col ≥ 51 then memBall (k + 8) (row - 9 * k) (73 - col)
  else if row ≤ 6 then pcieRow .pcieH 1 3 4 6 row col
  else if row ≤ 54 then supplyBall row col
  else if row ≤ 56 then ctlBall row col
  else if row = 58 then laneBall col (fun m n => .lane (if m < 4 then .eth0 else .eth1) true n (m % 4))
  else if row = 60 then laneBall col (fun m n => .lane (if m < 4 then .eth0 else .eth1) false n (m % 4))
  else if row ≤ 60 then .vss
  else if row ≤ 66 then pcieRow .pcieP1 66 64 63 61 row col
  else pcieRow .pcieP0 72 70 69 67 row col

/-- The group of R530 a net counts in: VSS 0, VDD_PEL 1, VDD_MEMIO 2, VDD_SOC 3, VDD_IO 4, VDD_AON 5, LPDDR5X 6, PCIe lanes 7,
Ethernet lanes 8, control, sense and reserved 9. -/
def Ball.group : Ball → Nat
  | .vss => 0 | .vddPel => 1 | .vddMemio => 2 | .vddSoc => 3 | .vddIo => 4 | .vddAon => 5
  | .mem _ _ _ | .memReset _ | .memZq _ => 6
  | .lane .eth0 _ _ _ | .lane .eth1 _ _ _ => 8
  | .lane _ _ _ _ => 7
  | .ctl _ => 9

/-- Balls of a group in a row, and in the package. -/
def ballRowCount (g row : Nat) : Nat := ((List.range 72).filter (fun c => (ball row (c + 1)).group == g)).length
def ballCount (g : Nat) : Nat := ((List.range 72).map (fun r => ballRowCount g (r + 1))).sum

/-! ### Levels that follow from the state -/

/-- Is MCn_RESET_N driven low (R545)? From power-on until training begins, and again in OUT. An absent DRAM leaves it so
(R536). -/
def memResetLow (s : State) (n : Nat) : Bool :=
  match (mcOf s n).st with
  | .off | .out => true
  | _ => false

/-- Are the QSPI pins driven (R540, R545)? From step 1 on; QSPI_RST_N is low until then. -/
def qspiDriven (s : State) : Bool := !s.boot.perst
def qspiResetLow (s : State) : Bool := s.boot.perst

/-- Is FATAL_N driven low (R544)? -/
def fatalLow (s : State) : Bool := isFatal s

end Sys2Proof.Machine
end

