-- ==== Sys2Proof/Tests/Slice0.lean ====
section
/-! SUPPORT. Tests: commands that cannot arrive are refused by well-formedness, values the manual prints, and for every
statement with hypotheses a small state that meets them. -/

set_option Elab.async false

namespace Sys2Proof.Tests

open Sys2Proof Sys2Proof.Machine

/-- A field of a command: `v` at bit `lo` of byte `off`. -/
def at' (off lo v : Nat) : Nat := v * 2 ^ (8 * off + lo)
/-- A command with CID 7: opcode, SID, the rest. -/
def ent (opc sid rest : Nat) : BitVec 512 := BitVec.ofNat 512 (opc + 7 * 2 ^ 16 + sid * 2 ^ 32 + rest)

/-- The block after a start-up: port H and P0 in L0, the PF's admin pair ready and one I/O pair, one second of device time. -/
def up : State :=
  { State.reset with
    boot := { perst := false, rails := true, refclk := true, rootLock := true, everLocked := true, ready := true, step := 8 }
    board := { known := true, serial := 5 }
    ports := [(0, { link := .l0, gen := 6, width := 16 }), (1, { link := .l0, gen := 5, width := 4 })]
    funs := [(0, { enabled := true, bme := true, aqReady := true })]
    qps := [(0, { sqLog := 4, cqLog := 4, cqBase := 0x10000, sqBase := 0x20000 }),
            (1, { sqLog := 4, cqLog := 4, cqBase := 0x30000, sqBase := 0x40000 })]
    regs := [(0x10090, 0x80000044)]
    clk := 1000000000 * 2 ^ 32, now := 1000000000000 }

/-- That block with a command of the PF's admin queue in slot 0. -/
def cmdA (opc sid rest : Nat) : State := { up with slots := [(0, { entry := ent opc sid rest })] }
/-- That block with a command of the PF's I/O queue in slot 0. -/
def cmdQ (opc sid rest : Nat) : State := { up with slots := [(0, { qid := 1, entry := ent opc sid rest })] }
/-- The command in slot 0. -/
def slot0 (s : State) : Slot := (tfind s.slots 0).getD {}
/-- The pair of a key. -/
def pair (s : State) (k : Nat) : QPair := (tfind s.qps k).getD {}

/-! ### The machine, queues and delivery -/

/-- The block with a latched fatal state and a command waiting. -/
def sFatal : State := { up with flt := { fatal := some (2, 9) }, pending := [.mbxInRead 5] }
theorem wit_StepRunsFrontCommand : up.pending = [] ∧ sFatal.pending = [.mbxInRead 5] := by decide +kernel
theorem wit_IdleStepIsOneClockCycle : up.pending = [] ∧ up.boot.rootLock = true ∧ State.reset.pending = [] ∧
    State.reset.boot.rootLock = false ∧ isFatal up = false ∧
    headerSrcs (rset 0x4018 8 (rset 0x401C 8 (rset 0x4010 1 up))) = [217] := by decide +kernel
theorem wit_EveryStepKeepsInvariant : Inv up = true ∧ step sFatal = exec (.mbxInRead 5) { sFatal with pending := [] } ∧
    exec (.mbxInRead 5) { sFatal with pending := [] } = .next { sFatal with pending := [] } := ⟨by decide +kernel, rfl, rfl⟩
theorem wit_FatalStateLasts : sFatal.flt.fatal = some (2, 9) ∧ step sFatal = .next { sFatal with pending := [] } ∧
    (∀ l, sFatal.pending ≠ .powerRemoval :: l) ∧ (∀ p l, sFatal.pending ≠ .powerOn p :: l) :=
  ⟨rfl, rfl, fun _ h => (nomatch h), fun _ _ h => (nomatch h)⟩
theorem wit_LifecycleIsOneWay : up.board.known = true ∧ exec (.mbxInRead 5) { sFatal with pending := [] } =
    .next { sFatal with pending := [] } := ⟨rfl, rfl⟩

/-- A picture completion of a session, and the state in which one of session 4 is staged in the PF's admin CQ. -/
def picOf (sid : Nat) : Entry := { opcode := 0x20, sid := some sid, pic := true }
def sBehind (s : State) : State := { s with qps := tput s.qps 0 { pair s 0 with st := .stagedL1, staged := [picOf 4] } }
theorem wit_DirectCompletion : let s := cmdQ 0x28 0 0
    tfind s.slots 0 = some (slot0 s) ∧ (slot0 s).formed = false ∧ (slot0 s).picture = none ∧
      tfind s.qps (qkey (slot0 s).fn (slot0 s).qid) = some (pair s 1) ∧ (pair s 1).deleting = none ∧ (pair s 1).st = .direct ∧
      cqReach s (qkey (slot0 s).fn (slot0 s).qid) = true ∧ (pair s 1).full = false ∧ (port s 0).link = .l0 ∧ isFatal s = false ∧
      s.boot.warm = false ∧ (slot0 s).qid < 256 ∧ (pair s 1).ien = false ∧ s.deferred = [] ∧ cqWaits [] 1 (picOf 4) s = false ∧
      cqWaits [] 1 (picOf 4) (sBehind s) = true := by decide +kernel
/-- R233: a picture completion of session 4 waits while an older one of the session waits in the admin CQ, and one of session
5 does not; both are written once the older one is. -/
theorem test_pictures_in_order : let s := cqForm 1 (picOf 4) (sBehind up)
    s.deferred = [(1, picOf 4)] ∧ (pair s 1).cqTail = 0 ∧ (cqForm 1 (picOf 5) s).deferred = [(1, picOf 4)] ∧
    (pair (cqForm 1 (picOf 5) s) 1).cqTail = 1 ∧ (cqStartFlush 0 s).deferred = [] ∧ (pair (cqStartFlush 0 s) 1).cqTail = 1 ∧
    (pair (cqStartFlush 0 s) 0).cqTail = 1 := by decide +kernel

/-- An admin command on an I/O queue, and a queued command while the management polder is sealed. -/
def sWrongQueue : State := cmdQ 0x05 0 (at' 24 0 1)
def sMgmtSealed : State := { cmdA 0x01 0 (at' 24 0 3) with flt := { polders := [(94, { st := .sealed })] } }
theorem wit_CommandChecks : served sWrongQueue 0 0x05 (slot0 sWrongQueue) = true ∧ opInfo 0x05 = some (0x05, true, true, false) ∧
    polOpen sWrongQueue 93 = true ∧ sWrongQueue.nvs.write = none ∧ (slot0 sWrongQueue).qid = 1 ∧
    served sMgmtSealed 0 0x01 (slot0 sMgmtSealed) = true ∧ opInfo 0x01 = some (0x01, true, false, false) ∧
    (slot0 sMgmtSealed).qid = 0 ∧ polOpen sMgmtSealed 94 = false ∧ polOpen sMgmtSealed 93 = true ∧
    tfind sMgmtSealed.slots 0 = some (slot0 sMgmtSealed) ∧ (slot0 sMgmtSealed).opcode ≠ 0x05 ∧ tfind up.slots 0 = none := by
  decide +kernel

/-- The queue commands: QID 3, 16 entries each, vector 2, service bound 1 ms (the lowest R224 allows). -/
def sCreate : State := cmdA 0x01 0 (at' 24 0 3 + at' 24 8 4 + at' 24 12 4 + at' 24 16 2 + at' 32 0 1)
def sDelete : State := { cmdA 0x02 0 (at' 24 0 1) with sess := [(0, { st := .bound, notifyQid := 1 })] }
def sModerate : State := cmdA 0x03 0 (at' 24 0 1 + at' 24 21 1 + at' 32 0 10000)
def sIdentify : State := cmdA 0x04 0 (at' 8 0 0x5000)
def sQuota : State := cmdA 0x05 0 (at' 24 0 63 + at' 28 0 4096 + at' 32 0 128000)
def sLimits : State := cmdA 0x06 0 (at' 24 0 1 + at' 28 0 256 + at' 32 0 16)
theorem wit_QueueCommands : accepts sCreate 0 0x01 (slot0 sCreate) = true ∧ createQpOk (slot0 sCreate) sCreate = true ∧
    tfind sCreate.qps (qkey 0 3) = none ∧ (slot0 sCreate).arg 24 0 8 = 3 ∧ (slot0 sCreate).fn = 0 ∧ ioPairs sCreate < 960 ∧
    accepts sDelete 0 0x02 (slot0 sDelete) = true ∧ (slot0 sDelete).arg 24 0 8 = 1 ∧
    tfind sDelete.qps 1 = some (pair sDelete 1) ∧ (pair sDelete 1).deleting = none ∧ (pair sDelete 1).staged = [] ∧
    (pair sDelete 1).held = [] ∧ sDelete.deferred = [] ∧
    accepts sModerate 0 0x03 (slot0 sModerate) = true ∧ (slot0 sModerate).arg 32 0 14 = 10000 ∧
    (slot0 sModerate).arg 24 0 8 = 1 ∧ (pair sModerate 1).st = .direct ∧ (pair sModerate 1).unsig = 0 ∧
    accepts sIdentify 0 0x04 (slot0 sIdentify) = true := by decide +kernel
theorem wit_QueueLimits : accepts sQuota 0 0x05 (slot0 sQuota) = true ∧ (slot0 sQuota).arg 24 0 6 = 63 ∧
    (slot0 sQuota).arg 28 0 13 = 4096 ∧ (slot0 sQuota).arg 32 0 17 = 128000 ∧
    accepts sLimits 0 0x06 (slot0 sLimits) = true ∧ (slot0 sLimits).arg 24 0 6 = 1 ∧ (slot0 sLimits).arg 28 0 9 = 256 ∧
    (slot0 sLimits).arg 32 0 13 = 16 := by decide +kernel

/-- A CQ whose tail has moved by 3, and one that is full. -/
def sHead : State := { up with qps := tput up.qps 1 { pair up 1 with cqTail := 3 } }
def sFull : State := { up with qps := tput up.qps 1 { pair up 1 with cqTail := 15, st := .stagedFull, staged := [{ cid := 9 }], svcSince := some 0 } }
theorem wit_Doorbells : hostReach up 0 = true ∧ tfind up.qps (qkey 0 1) = some (pair up 1) ∧ (pair up 1).deleting = none ∧
    (15 < 2 ^ (pair up 1).sqLog ∧ 15 ≠ (pair up 1).sqTail) ∧ (pair up 1).sqTail = 0 ∧ 2 ^ (pair up 1).sqLog = 16 ∧
    (let q := pair sHead 1; q.cqHead = 0 ∧ q.cqTail = 3 ∧ q.st = .direct ∧ (3 + 16 - 0) % 16 ≤ (q.cqTail + 16 - q.cqHead) % 16 ∧
      ¬ ((4 + 16 - 0) % 16 ≤ (q.cqTail + 16 - q.cqHead) % 16)) ∧
    (pair sFull 1).st = .stagedFull ∧ hostReach sFull 0 = true ∧ tfind up.qps (qkey 0 2) = none := by decide +kernel

/-- Two entries wait in the I/O pair's SQ. -/
def sFetch : State := { up with qps := tput up.qps 1 { pair up 1 with sqTail := 2 } }
theorem wit_Fetch : fetchNext sFetch = some (2, 1, 1) ∧ tfind sFetch.qps 1 = some (pair sFetch 1) := by decide +kernel

/-- One unsignalled entry with interrupts enabled and vector 1 open; the entry of a full CQ stalled for its whole bound. -/
def sIrq : State := { up with
  qps := tput up.qps 1 { pair up 1 with ien := true, vector := 1, unsig := 1 }
  funs := [(0, { enabled := true, bme := true, aqReady := true, mask := 0xFFFFFFFD#32 })] }
def sDrop : State := { sFull with qps := tput sFull.qps 1 { pair sFull 1 with policyDrop := true } }
/-- The admin pair of VF 1 before it is enabled, and after. -/
def sAqOff : State := { up with funs := tput up.funs 1 { enabled := true, bme := true, pend := 2#32 }, qps := tput up.qps 256 {} }
def sAqOn : State := { sAqOff with regs := tput up.regs (hqBase 1 + 0x90) (2 ^ 31 + 0x44) }
theorem wit_QueueEvents : tfind sIrq.qps (qkey 0 1) = some (pair sIrq 1) ∧ (pair sIrq 1).st = .direct ∧
    (pair sIrq 1).irq sIrq.now = true ∧ (func sIrq 0).mask.getLsbD (pair sIrq 1).vector = false ∧
    tfind sFull.qps (qkey 0 1) = some (pair sFull 1) ∧ (pair sFull 1).st = .stagedFull ∧ (pair sFull 1).stalled = false ∧
    (pair sFull 1).svcSince = some 0 ∧ svcRuns sFull 0 = true ∧ psMs (pair sFull 1).svcBound ≤ sFull.now ∧
    (pair sFull 1).policyDrop = false ∧ (pair sDrop 1).policyDrop = true ∧
    hostReach sAqOff 1 = true ∧ bitAt (rget sAqOff (hqBase 1 + 0x90)) 31 = false ∧ tfind sAqOff.qps (qkey 1 0) = some {} ∧
    bitsOf 0x2044 0 4 = 4 ∧ bitsOf 0x2044 4 4 = 4 ∧ bitsOf 0xFFFF 0 4 = 15 ∧
    sAqOn.boot.ready = true ∧ bitAt (rget sAqOn (hqBase 1 + 0x90)) 31 = true ∧ isFatal sAqOn = false ∧
    (func sAqOn 1).aqReady = false ∧ tfind sAqOn.qps (qkey 1 0) = some {} ∧ (func sAqOff 1).enabled = true := by decide +kernel

/-- Port H and P0 in L1; VF 1 enabled with its admin pair on. -/
def sL1 : State := { up with ports := [(0, { link := .l1 }), (1, { link := .l1 })] }
/-- The PF with no pair at all. -/
def sNoPair : State := { up with qps := [] }
theorem wit_LinkAndFunctions : (port up 0).link = .l0 ∧ (port up 1).link = .l0 ∧ (port sL1 0).link = .l1 ∧ (port sL1 1).link = .l1 ∧
    (func sNoPair 0).enabled = true ∧ keysOf sNoPair 0 = [] ∧ (port up 0).numVfs = 0 ∧ hostReach up 0 = true ∧
    (func sAqOn 1).enabled = true ∧ isFatal sAqOn = false ∧ sAqOn.boot.warm = false ∧ hostReach sAqOn 1 = true ∧
    bitAt (rget sAqOn (hqBase 1 + 0x90)) 31 = true := by decide +kernel

/-! ### Buffers, sessions and tandems -/

/-- Pools on controller 0: packet, bitstream and frame buffers; buffer 0 of the bitstream pool is held by the PF. -/
def pools : State := { up with
  mcs := [(0, { st := .active, populated := true, density := 1, inService := true })]
  bpm := { pools := [(0, { ty := .packet, size := 4096, count := 16 }), (1, { ty := .bitstream, size := 2 ^ 22, count := 16 }),
                     (2, { ty := .frame, size := 2 ^ 24, count := 32 })]
           bufs := [(2 ^ 20, { alloc := true, gen := 1, refcnt := 1, hostHeld := true })]
           mcs := [0] } }
/-- The handle of that buffer, and one of another generation. -/
def hBuf : Nat := 0x10000001
/-- A state with a command of the I/O queue in slot 0. -/
def withCmd (s : State) (opc sid rest : Nat) : State := { s with slots := [(0, { qid := 1, entry := ent opc sid rest })] }

def sAlloc : State := withCmd pools 0x28 0 (at' 24 0 4096)
def sAllocNone : State := { sAlloc with bpm := { sAlloc.bpm with rsv := [(4096, 20)] } }
def reqB : AllocReq := { ty := .bitstream, size := 4096, cls := 2, owner := 0, hostHeld := true, port := 12 }
/-- A write and a read of the buffer's last 8 bytes. -/
def sBufWr : State := withCmd pools 0x29 0 (at' 24 0 hBuf + at' 28 0 (2 ^ 22 - 8) + at' 32 0 8)
def sBufRd : State := withCmd pools 0x2A 0 (at' 24 0 hBuf + at' 28 0 (2 ^ 22 - 8) + at' 32 0 8)
/-- The buffer belongs to a protected session. -/
def sBufProt : State := { sBufRd with
  bpm := { sBufRd.bpm with bufs := [(2 ^ 20, { alloc := true, gen := 1, refcnt := 1, hostHeld := true, sid := some 3 })] }
  sess := [(3, { st := .bound, protected' := true })] }
def sBufBadW : State := withCmd pools 0x29 0 (at' 24 0 (hBuf + 1))
def sBufBadR : State := withCmd pools 0x2A 0 (at' 24 0 (hBuf + 1))
def sBufRel : State := withCmd pools 0x2B 0 (at' 24 0 hBuf)
def sBufRelBad : State := withCmd pools 0x2B 0 (at' 24 0 (hBuf + 1))
def buf0 : BufRec := bufOf pools (2 ^ 20)
theorem wit_BufferCommands : accepts sAlloc 0 0x28 (slot0 sAlloc) = true ∧ (slot0 sAlloc).arg 24 0 32 = 4096 ∧
    (bpmAlloc reqB sAlloc).1 = .ok 0x10000101 ∧ accepts sAllocNone 0 0x28 (slot0 sAllocNone) = true ∧
    (bpmAlloc reqB sAllocNone).1 = .empty ∧
    accepts sBufWr 0 0x29 (slot0 sBufWr) = true ∧ bufLive sBufWr hBuf = some buf0 ∧ buf0.owner = 0 ∧ buf0.sid = none ∧
    (slot0 sBufWr).arg 24 0 32 = hBuf ∧ rangeOk sBufWr (slot0 sBufWr) = true ∧ mcUsable sBufWr (bufMc sBufWr (hKey hBuf)) = true ∧
    accepts sBufRd 0 0x2A (slot0 sBufRd) = true ∧ rangeOk sBufRd (slot0 sBufRd) = true ∧ (slot0 sBufRd).arg 24 0 32 = hBuf := by
  decide +kernel
theorem wit_BufferRefusals : accepts sBufProt 0 0x2A (slot0 sBufProt) = true ∧ rangeOk sBufProt (slot0 sBufProt) = true ∧
    bufLive sBufProt hBuf = some { buf0 with sid := some 3 } ∧ (sessOf sBufProt 3).protected' = true ∧
    bufLive sBufBadW (hBuf + 1) = none ∧ accepts sBufBadW 0 0x29 (slot0 sBufBadW) = true ∧
    accepts sBufBadR 0 0x2A (slot0 sBufBadR) = true ∧
    accepts sBufRel 0 0x2B (slot0 sBufRel) = true ∧ polOpen sBufRel 93 = true ∧ refCheck sBufRel 12 0 hBuf false true = none ∧
    accepts sBufRelBad 0 0x2B (slot0 sBufRelBad) = true ∧ refCheck sBufRelBad 12 0 (hBuf + 1) false true = some 1 := by
  decide +kernel

/-- The parameter block of a 1080p60 HEVC session of class LC2 to 10.0.0.2. -/
def blk : HostBuf := { len := 2048, words := [(0, 0x8000), (3, 1920 + 1080 * 65536), (4, 60), (5, 1), (64, 0xFFFF0801),
  (65, 0xFFFFFF00), (129, 20000000), (192, 0x0400FF00), (196, 0x0100000A), (200, 0x0200000A), (204, 5004 + 5006 * 65536),
  (205, 40000000), (208, 0x03FFFFFF), (256, 0x1000), (257, 0), (258, 2)] }
def sOpen : State := withCmd pools 0x10 0 (at' 24 0 2048)
def openX : Session := (parseOpen sOpen blk 0 1 0).getD {}
/-- Every context taken; a VF without quota; a width below 128; every core sealed; no controller; no egress left. -/
def sNoCtx : State := { pools with sess := (List.range 4096).map (fun i => (i, { st := .bound })) }
def sNoCore : State := { pools with flt := { polders := (List.range 64).map (fun i => (i, { st := .sealed })) } }
theorem wit_Admission : 4096 ≤ lowFree sNoCtx.sess 0 ∧ lowFree pools.sess 0 = 0 ∧ quotaOk pools 1 openX.load = false ∧
    quotaOk pools 0 openX.load = true ∧ formatOk { openX with width := 126 } = none ∧ (formatOk openX).isSome = true ∧
    place sNoCore openX.kind openX.load openX.lc = none ∧ place pools openX.kind openX.load openX.lc = some 0 ∧
    dramLimit up = 0 ∧ place up openX.kind openX.load openX.lc = some 0 ∧
    dramDemand pools + demandOf openX.kind 1920 1080 60 1 false ≤ dramLimit pools ∧ openX.kind ≠ .decode ∧
    egressOk pools 0 1 openX.nw.wirePeak = false ∧ egressOk pools 0 0 openX.nw.wirePeak = true := by decide +kernel

def sImport : State := { withCmd pools 0x16 0 0 with sec := { pools.sec with cluster := some (9, 2, 5, 1, 1) } }
def image : SealedImage := { cluster := 9, generation := 2, ctx := { openX with notifyQid := 1, nextPic := 4 } }
theorem wit_OpenAndImport : accepts sOpen 0 0x10 (slot0 sOpen) = true ∧ (slot0 sOpen).arg 24 0 32 = 2048 ∧
    bitAt (blk.fld 0 0 32) 22 = false ∧ (parseOpen sOpen blk 0 1 0).isSome = true ∧
    (admission openX false true sOpen).isRight = true ∧
    accepts sImport 0 0x16 (slot0 sImport) = true ∧ image.magicOk = true ∧ image.lengthOk = true ∧ image.tagOk = true ∧
    clusterId sImport = some (image.cluster, image.generation) ∧
    (tfind sImport.qps (qkey 0 (importContext image.ctx 0).notifyQid)).isSome = true ∧ image.ctx.protected' = false ∧
    (match admission (importContext image.ctx 0) true true sImport with
      | .inl _ => false | .inr (sid, t) => (importSlots sid [] t).isSome) = true ∧
    clusterId sImport ≠ some (8, 2) := by decide +kernel

/-- A session of the PF on core 0, without pictures, in a state; SID 0. -/
def nw0 : NetSet := { localIp := 0x0A000001, remoteIp := 0x0A000002, localPort := 5004, remotePort := 5006, wirePeak := 40000000 }
def sess0 : Session :=
  { st := .bound, lc := 2, load := 125, width := 1920, height := 1080, rateNum := 60, nw := nw0, notifyQid := 1
    rc := { rcTarget := 20000000, rcPeak := 20000000, rcFloor := 2500000 }, rcNow := { rcTarget := 20000000 }
    slots := List.replicate 8 {}, bm := openX.bm, loop := { rnet := 20000000 }
    ing := { winBase := 4, winLen := 5, srcBuf0 := 0x20000001, srcBuf1 := 0x20000101 } }
def withSess (s : State) (x : Session) : State := { s with sess := tset {} s.sess 0 x }
/-- A command in slot 0 for session 0 in the given state. -/
def sCmd (opc rest : Nat) (x : Session) : State := withSess (withCmd pools opc 0 rest) x
theorem wit_SessionStates : let q := { sess0 with st := .quiesced }
    (let s := sCmd 0x11 0 sess0; accepts s 0 0x11 (slot0 s) = true ∧ (sessOf s 0).st ≠ .closing) ∧
    (let s := sCmd 0x12 0 sess0; accepts s 0 0x12 (slot0 s) = true ∧ (sessOf s 0).ctxLost = false ∧ (sessOf s 0).st = .bound) ∧
    (let s := sCmd 0x13 0 q; accepts s 0 0x13 (slot0 s) = true ∧ (sessOf s 0).st = .quiesced) ∧
    (let s := sCmd 0x14 (at' 24 4 7 + at' 24 10 1) sess0; accepts s 0 0x14 (slot0 s) = true ∧ moveFieldOk (slot0 s) s = true ∧
      (sessOf s 0).st = .bound) ∧
    (let s := sCmd 0x14 (at' 24 4 7 + at' 24 10 1) q; accepts s 0 0x14 (slot0 s) = true ∧ moveFieldOk (slot0 s) s = true ∧
      (sessOf s 0).st = .quiesced) ∧
    (let s := sCmd 0x15 (at' 24 0 4096) sess0; accepts s 0 0x15 (slot0 s) = true ∧ (sessOf s 0).protected' = false) ∧
    (let s := sCmd 0x15 (at' 24 0 4096) q; accepts s 0 0x15 (slot0 s) = true ∧ (sessOf s 0).protected' = false) ∧
    (let s := sCmd 0x12 0 { sess0 with st := .closing }; accepts s 0 0x12 (slot0 s) = true ∧
      (sessOf s 0).st ∉ [.bound, .active, .quiesced, .stranded]) := by decide +kernel
theorem wit_SessionBadState : let x := { sess0 with st := .moving }
    (let s := sCmd 0x13 0 x; accepts s 0 0x13 (slot0 s) = true) ∧
    (let s := sCmd 0x14 0 x; accepts s 0 0x14 (slot0 s) = true ∧ moveFieldOk (slot0 s) s = true) ∧
    (let s := sCmd 0x15 0 x; accepts s 0 0x15 (slot0 s) = true ∧ (sessOf s 0).st ∉ [.bound, .active, .quiesced, .stranded]) := by
  decide +kernel

def quiescing : Session := { sess0 with st := .quiescing, pend := .quiesce, pendSlot := some 0 }
theorem wit_Quiescence : let e := { quiescing with pend := .exporting }
    quiescing.st = .quiescing ∧ quiescing.pics.any (·.began) = false ∧ quiescing.pics.any (fun p => p.st == .ended) = false ∧
    imageLen { e with expLen := 2 ^ 31 } ≤ 2 ^ 31 ∧ 0 < imageLen e ∧ e.expLen = 0 ∧
    ({ quiescing with pics := [{ st := .started }] } : Session).pics.any (·.began) = true := by decide +kernel

/-- A rate block that changes the quality limits alone, and one for a decode session. -/
def rcBlk : HostBuf := { len := 256, words := [(5, 12 + 40 * 65536)] }
def dec0 : Session := { sess0 with kind := .decode, outs := [(0x20000201, true)] }
theorem wit_SessionSettings :
    (let s := sCmd 0x17 (at' 24 0 8192) sess0; accepts s 0 0x17 (slot0 s) = true ∧ 8192 ≤ (slot0 s).arg 24 0 32) ∧
    (let s := sCmd 0x17 (at' 24 0 8191) sess0; accepts s 0 0x17 (slot0 s) = true ∧ (slot0 s).arg 24 0 32 < 8192) ∧
    (let s := sCmd 0x18 (at' 24 0 256) sess0; let x := sessOf s 0; let rc := readRc rcBlk 0 x.rc
      accepts s 0 0x18 (slot0 s) = true ∧ (slot0 s).arg 24 0 32 = 256 ∧ x.st = .bound ∧ x.kind ≠ .decode ∧
      rcOk x.fmt.std x.rateNum x.rateDen rc = true ∧ rcFlagsOk rcBlk 0 = true ∧ rc.model.rD = x.bm.rD ∧
      rc.model.size x.rateNum x.rateDen = x.bm.size x.rateNum x.rateDen) ∧
    (let s := sCmd 0x18 (at' 24 0 256) dec0; accepts s 0 0x18 (slot0 s) = true ∧ (sessOf s 0).kind = .decode) ∧
    (let s := sCmd 0x19 (at' 24 0 1) sess0; accepts s 0 0x19 (slot0 s) = true) ∧
    (let s := sCmd 0x19 0 dec0; accepts s 0 0x19 (slot0 s) = true) ∧
    (let s := sCmd 0x22 (at' 24 0 0x20000201) dec0; accepts s 0 0x22 (slot0 s) = true ∧
      (sessOf s 0).outs.any (fun o => o.1 == (slot0 s).arg 24 0 32 && o.2) = true) ∧
    (let s := sCmd 0x22 (at' 24 0 5) dec0; accepts s 0 0x22 (slot0 s) = true ∧
      (sessOf s 0).outs.any (fun o => o.1 == (slot0 s).arg 24 0 32 && o.2) = false) := by decide +kernel

theorem wit_Pictures :
    (let s := sCmd 0x20 (at' 24 0 1) sess0; accepts s 0 0x20 (slot0 s) = true ∧ (sessOf s 0).takesPics = true ∧
      (sessOf s 0).fmt.rowStream = false ∧ (slot0 s).arg 28 0 1 = 0 ∧ (sessOf s 0).ing.half0Busy = false) ∧
    (let s := sCmd 0x20 (at' 24 0 1 + at' 28 0 1 + at' 32 0 5) sess0; accepts s 0 0x20 (slot0 s) = true ∧
      (slot0 s).arg 28 0 1 = 1 ∧ (sessOf s 0).ing.half1Busy = false) ∧
    (let s := sCmd 0x20 (at' 24 0 1) { sess0 with ing := { sess0.ing with half0Busy := true } };
      accepts s 0 0x20 (slot0 s) = true ∧ (sessOf s 0).ing.half0Busy = true) ∧
    (let s := sCmd 0x20 0 dec0; accepts s 0 0x20 (slot0 s) = true ∧ (sessOf s 0).kind = .decode) ∧
    (let s := sCmd 0x21 (at' 24 0 hBuf + at' 28 0 (2 ^ 22 - 100) + at' 32 0 100) dec0;
      accepts s 0 0x21 (slot0 s) = true ∧ (sessOf s 0).takesPics = true ∧ bufLive s ((slot0 s).arg 24 0 32) = some buf0 ∧
      (slot0 s).arg 28 0 32 + (slot0 s).arg 32 0 32 ≤ bufSize s ((slot0 s).arg 24 0 32)) ∧
    (let s := sCmd 0x21 0 dec0; accepts s 0 0x21 (slot0 s) = true ∧ bufLive s ((slot0 s).arg 24 0 32) = none) ∧
    (let s := sCmd 0x21 0 sess0; accepts s 0 0x21 (slot0 s) = true ∧ (sessOf s 0).kind ≠ .decode) := by decide +kernel

/-- The highest pair, and the commands on its even core. -/
def sJoin : State := { cmdA 0x30 0 (at' 24 0 62) with mcs := pools.mcs }
def sSplit : State := { cmdA 0x31 0 (at' 24 0 62) with pairs := [(31, { st := .joined, trained := true, enabled := true })] }
def sJoining : State := { cmdA 0x30 0 (at' 24 0 62) with
  slots := [(0, { slot0 (cmdA 0x30 0 (at' 24 0 62)) with started := true })]
  pairs := [(31, { st := .joining, joinSlot := some 0, since := up.now - 20000000 })] }
theorem wit_Tandems : accepts sJoin 0 0x30 (slot0 sJoin) = true ∧ (slot0 sJoin).arg 24 0 6 = 62 ∧ (pairOf sJoin 31).st = .single ∧
    pairHeld sJoin 31 = false ∧ coreUp sJoin 62 = true ∧ coreUp sJoin 63 = true ∧
    accepts sSplit 0 0x31 (slot0 sSplit) = true ∧ (slot0 sSplit).arg 24 0 6 = 62 ∧ (pairOf sSplit 31).st = .joined ∧
    pairHeld sSplit 31 = false ∧
    (let s := { sJoin with pairs := sSplit.pairs }; accepts s 0 0x30 (slot0 s) = true ∧ (pairOf s 31).st ≠ .single) ∧
    (let s := { sSplit with pairs := [] }; accepts s 0 0x31 (slot0 s) = true ∧ (pairOf s 31).st ≠ .joined) ∧
    (pairOf sJoining 31).st = .joining ∧ (pairOf sJoining 31).joinSlot = some 0 ∧
    coreUp sJoining 62 = true ∧ coreUp sJoining 63 = true ∧ (pairOf sJoining 31).since + 20000000 ≤ sJoining.now := by
  decide +kernel
/-! ### Session engine, ingest, row work, seam, packets, network and time -/

def demoted0 : Session := { sess0 with demoted := true }
def timed : Session := { sess0 with
  loop := { sess0.loop with holdEnd := some 1000000000 }, fb := [{ kind := .fir 5 1, hold := true }]
  tr := { sess0.tr with firstRtp := some 0, oldKeyUntil := some (some 1000000000) }, keys := { oldRecv := some 4 } }
/-- Each timer at the very moment it ends. -/
theorem wit_SessionTimers : (let s := withSess up demoted0; (sessOf s 0).demoted = true ∧
      windowPixels (sessOf s 0) s.now * (sessOf s 0).rateDen ≤ (sessOf s 0).width * (sessOf s 0).height * (sessOf s 0).rateNum) ∧
    (let s := withSess up timed; devNs s = 1000000000 ∧ (sessOf s 0).loop.holdEnd = some 1000000000 ∧
      (sessOf s 0).fb.any (·.hold) = true ∧ (sessOf s 0).tr.firstRtp = some 0 ∧
      max 0 ((sessOf s 0).loop.lastCcfb.getD 0) + 500000000 ≤ devNs s ∧ (sessOf s 0).loop.rtcpSilent = false ∧
      max 0 ((sessOf s 0).loop.lastRtcp.getD 0) + 1000000000 ≤ devNs s ∧
      (sessOf s 0).tr.oldKeyUntil = some (some 1000000000)) := by decide +kernel

def moving0 : Session := { sess0 with moveTo := some 8 }
def sealing0 : Session := { sess0 with st := .sealing, pendSlot := some 0, pend := .exporting, keys := { recv := 3 } }
def closing0 : Session := { sess0 with st := .closing, closeSlot := some 0 }
def copying0 : Session := { sess0 with ing := { sess0.ing with copying := some 3, waiting := [(0, 0, [1#8])] } }
theorem wit_EngineEvents : up.rebalanceAt ≤ up.now ∧ up.boot.ready = true ∧ isFatal up = false ∧
    (let s := withSess up moving0; 2 ≤ (sessOf s 0).lc ∧ atBoundary s 0 = true ∧ (sessOf s 0).moveTo = some 8 ∧
      autoFits s (sessOf s 0).kind (sessOf s 0).load (sessOf s 0).lc 8 = true) ∧
    (let s := withSess { up with flt := { polders := [(8, { st := .sealed })] } } moving0; atBoundary s 0 = true ∧
      isFatal s = false ∧ autoFits s (sessOf s 0).kind (sessOf s 0).load (sessOf s 0).lc 8 = false) ∧
    (let s := sCmd 0x15 0 sealing0; (sessOf s 0).st = .sealing ∧ (sessOf s 0).pendSlot = some 0 ∧ (sessOf s 0).pics = []) ∧
    (let s := sCmd 0x11 0 closing0; (sessOf s 0).st = .closing ∧ rowsIn s 0 = false ∧ (sessOf s 0).closeSlot = some 0) ∧
    (let s := withSess pools copying0; (sessOf s 0).ing.copying = some 3 ∧ (sessOf s 0).st ≠ .moving) := by decide +kernel

/-- The window begins at 8 MiB; a session that takes no writes over port H. -/
def winB : Nat := 4 * 2 ^ 21
def protected0 : Session := { sess0 with protected' := true }
def busy0 : Session := { sess0 with ing := { sess0.ing with half0Busy := true } }
theorem wit_Ingest : reqPort (.fn 0) = some 0 ∧ polOpen pools 88 = true ∧ pools.boot.ready = true ∧
    windowOf (withSess pools sess0) (winB - 1) = none ∧
    windowOf (withSess pools protected0) winB = some (0, protected0) ∧ windowTakes (withSess pools protected0) protected0 0 none = false ∧
    (let s := withSess pools sess0; windowOf s winB = some (0, sess0) ∧ windowTakes s sess0 0 none = true ∧
      sess0.st ≠ .exported ∧ sess0.st ≠ .closing ∧ sessOf s 0 = sess0 ∧ sess0.ing.copying = none ∧ sess0.fmt.rowStream = false ∧
      0 < sess0.ctlOff ∧ sess0.ing.half0Busy = false ∧ sess0.ing.srcBuf0 ≠ 0 ∧ mcUsable s (bufMc s (hKey sess0.ing.srcBuf0)) = true) ∧
    (let s := withSess pools busy0; windowOf s winB = some (0, busy0) ∧ windowTakes s busy0 0 none = true ∧ busy0.ing.half0Busy = true) ∧
    (let s := withSess pools sess0; sess0.ing.winLen ≠ 0 ∧ windowOf s (winB + sess0.ctlOff) = some (0, sess0) ∧
      sess0.ctlOff % 8 = 0) := by decide +kernel

/-- A row-stream session whose write picture 0x10001 has 8 lines announced. -/
def rows0 : Session := { sess0 with
  fmt := { sess0.fmt with rowStream := true }, ing := { sess0.ing with writePic := 0x10001, dbAny := true, dbLines := 8 } }
theorem wit_Doorbell : rows0.fmt.rowStream = true ∧ polOpen up 94 = true ∧ rows0.ing.writePic % 2 ^ 16 = 1 ∧
    (0 < rows0.ing.dbLines ∧ rows0.height < 1081 ∧ 12 % 8 ≠ 0 ∧ 12 ≠ rows0.height) ∧
    ({ rows0.ing with dbEvt := some 0x10001 } : Ingest).dbEvt = some rows0.ing.writePic ∧ rows0.ing.dbEvt ≠ some rows0.ing.writePic ∧
    (rows0.ing.dbLines ≤ 8 ∧ 8 ≤ rows0.height ∧ 8 % 8 = 0) ∧ (rows0.ing.dbLines ≤ 1080 ∧ 1080 = rows0.height) := by decide +kernel

/-- A picture whose first row's packet is complete in the queue of peloton 0, and one whose second row's packet is not. -/
def coding0 : Session := { sess0 with st := .active, pics := [{ num := 1, st := .started, rowsWritten := 1, cmd := some 0 }] }
def pkt0 : Pkt := { pic := 1, lc := 2, words := [1, 2], written := 2, order := 0, time := 0 }
def sQueue (k : Pkt) : State := { withSess up coding0 with pels := [(0, { queue := [k], nextOrder := 1 })] }
/-- That row in core 0, with one block in the first stage. -/
def sCore : State := { withSess up coding0 with cores := [(0, { rows := [{ pic := 1, lc := 2, slot := some 0, blocks := 30, entered := 1 }], nextOrder := 1 })] }
theorem wit_RowWork : engineUp (sQueue { pkt0 with written := 1 }) = true ∧
    packetOpen (sQueue { pkt0 with written := 1 }) 0 false = true ∧ packetOpen (sQueue pkt0) 0 false = false ∧
    coreTakes (sQueue pkt0) 0 = true ∧ isFatal (sQueue pkt0) = false ∧
    (pickPacket (candidates (promoteAged 0 (sQueue pkt0)) 0)).isSome = true ∧
    (let t := promoteAged 0 (sQueue { pkt0 with written := 1 }); pickPacket (candidates t 0) = none ∧
      (coreOf t 0).underrun = false ∧ (coreOf t 0).rows.any (·.slot.isSome) = false ∧
      (pelOf t 0).queue.any (fun q => decide (q.core = 0) && decide (q.written < q.words.length)) = true) ∧
    polOpen sCore 0 = true ∧ polOpen sCore 64 = true ∧ ((coreOf sCore 0).front 1).isSome = true ∧
    (coreOf sCore 0).roomAfter 1 false false = true ∧
    stageWaits sCore (coreOf sCore 0) { pic := 1, lc := 2, slot := some 0, blocks := 30, entered := 1 } 0 1 = false ∧
    (tget {} (coreOf sCore 0).ctx 1).stalled = false ∧ (coreOf sCore 0).fenced.contains (0, 1) = false ∧
    contentOk sCore { pic := 1, lc := 2, slot := some 0, blocks := 30, entered := 1 } 0 1 {} = true := by decide +kernel
/-- The layout of R162's worked example, emulation prevention, the bytes R112 holds back, and levels of R109. -/
theorem test_slotLayout : slotMotion 510 = 4096 ∧ slotData .hevc 510 = 526336 ∧ slotDec .hevc 10 510 = 4443136 ∧
    slotBufSize .hevc 10 1920 1080 true = 5111808 := by decide +kernel
theorem test_coderBytes : emulate [] [0, 0, 1, 0, 0, 0, 9] = ([0, 0, 3, 1, 0, 0, 3, 0, 9], [0, 9]) ∧
    holdBack [7, 8, 0xFF, 0xFF] = ([7], [8, 0xFF, 0xFF]) ∧ addCarry [8, 0xFF, 0xFF] = [9, 0, 0] := by decide +kernel
theorem test_levels : quantise true (-43691) = -1 ∧ quantise true 43690 = 0 ∧ quantise false 54614 = 1 ∧
    quantise false 54613 = 0 ∧ tuLevels false { coefs := [65536, 0, -65536], zeroed := true } = [0, 0, 0] := by decide +kernel
/-- Codes of R166. -/
theorem test_packRice : (riceBits 8 2 5, riceBits 8 0 40) =
    ([true, false, true, false], List.replicate 16 true ++ lowBits 8 40) ∧ packMap 8 0 1 = 1 ∧ packMap 8 2 1 = 2 := by decide +kernel

def sSeam (k : Nat) : State := { up with pairs := [(31, { st := .joined, trained := true, enabled := true, sent := [{ kind := k, pic := 2 }] })] }
theorem wit_Seam : (pairOf (sSeam 0) 31).st = .joined ∧ seamFirst (pairOf (sSeam 0) 31) 0 = some { kind := 0, pic := 2 } ∧
    seamFirst (pairOf (sSeam 1) 31) 1 = some { kind := 1, pic := 2 } ∧ seamFirst (pairOf (sSeam 2) 31) 2 = some { kind := 2, pic := 2 } ∧
    seamFirst (pairOf (sSeam 3) 31) 3 = some { kind := 3, pic := 2 } := by decide +kernel

/-- Two packets due on subport 0, and its link. -/
def tx1 : TxPkt := { lc := 2, len := 1200, due := 5, pic := 1, key := 7, payload := 1100 }
def sTx : State := { withSess up coding0 with net := { tx := [{ tx1 with lc := 3 }, tx1], subs := [(0, { up := true })] } }
theorem wit_SubportOrder : nextTx sTx 0 = some tx1 := by decide +kernel
/-- A notice of 1,000 bytes for the picture in hand, and a sender report due now. -/
def note0 : RowNotice := { bytes := 1000, pieces := [{ len := 1000, starts := true, ends := true }] }
def pic1 : Pic := { num := 1, st := .started, rowsWritten := 1, cmd := some 0, notices := [note0] }
def sPack : State := withSess up { coding0 with pics := [pic1] }
def sSr : State := { withSess sTx { coding0 with tr := { srNext := some 1000000000, firstRtp := some 0 } } with free := 3 }
theorem wit_Packets : isFatal sPack = false ∧ sPack.boot.warm = false ∧ (sessOf sPack 0).kind ≠ .decode ∧
    polOpen sPack (ethPolderOf (sessOf sPack 0).egress) = true ∧ keptOf sPack (laneOf (sessOf sPack 0)) < 1024 ∧
    (sessOf sPack 0).packing = some pic1 ∧ (sessOf sPack 0).nextNotice pic1 = some note0 ∧
    (subOf sTx 0).busyUntil ≤ sTx.now ∧ polOpen sTx 91 = true ∧ (subOf sTx 0).up = true ∧ tx1.dead = false ∧
    (let s := { sTx with net := { sTx.net with subs := [] } }; nextTx s 0 = some tx1 ∧ (subOf s 0).up = false) ∧
    (sessOf sSr 0).tr.srNext = some 1000000000 ∧ 1000000000 ≤ devNs sSr ∧ (sessOf sSr 0).st.reports = true := by decide +kernel

/-- Frames at the bounds of R268, and a datagram for the session. -/
def frm (b : RxBody) : RxFrame := { len := 64, dst := 2 ^ 40, body := b, bytes := [] }
def goodFrame (s : State) (f : RxFrame) : Bool :=
  f.fcs && decide (64 ≤ f.len) && decide (f.len ≤ 9216) && !f.macCtl && (decide (f.dst = rget s 0x20088 % 2 ^ 48) || bitAt f.dst 40)
def dgram : RxBody := .udp 4 9 9 nw0.localIp nw0.localPort true true 192 {}
theorem wit_Receive : (subOf up 0).up = false ∧ (subOf sTx 0).up = true ∧ isFatal sTx = false ∧ sTx.boot.warm = false ∧
    goodFrame sTx { frm (.other 0) with len := 63 } = false ∧ goodFrame sTx { frm (.other 0) with len := 9217 } = false ∧
    goodFrame sTx (frm (.other 0)) = true ∧ goodFrame sTx { frm (.other 0) with len := 9216 } = true ∧
    goodFrame sTx (frm (.ptp 0 0 .other)) = true ∧ goodFrame sTx (frm dgram) = true ∧
    sessionAt sTx 0 4 nw0.localIp nw0.localPort = some 0 ∧ sessionAt sTx 0 4 1 1 = none := by decide +kernel

theorem wit_Replay : replayIn [0, 127] 200 199 = some ([0, 127, 1], 200) ∧ (∀ w ∈ [0, 127], w < 128) ∧ (0 ∈ [0, 127]) ∧
    73 ≤ 200 ∧ (200 - 73) ∈ [0, 127] ∧ 128 ≤ 200 - 72 ∧ (replayIn [] 0 0).isSome = true := by decide +kernel

/-- The transmit ring of 16 slots, with one frame in it; subport 0 up. -/
def sHtq : State := { sTx with sess := [], regs := tput (tput up.regs 0x22090 0x24) 0x22098 1 }
theorem wit_HostTransmit : polOpen sHtq 91 = true ∧ isFatal sHtq = false ∧ sHtq.boot.warm = false ∧
    2 ^ rfld sHtq 0x22090 0 4 = 16 ∧ bitAt (rget sHtq 0x22090) 5 = true ∧ sHtq.net.htqHead ≠ rfld sHtq 0x22098 0 12 ∧
    (port sHtq 0).link = .l0 ∧ (func sHtq 0).bme = true ∧ ringSlot (rget sHtq 0x22090) - 32 = 2016 ∧ subRate sHtq 0 ≠ 0 ∧
    subRate sHtq 7 = 0 ∧ (subOf sHtq 0).up = true ∧ (subOf sHtq 0).busyUntil ≤ sHtq.now ∧
    (subOf sHtq 0).bucket - (sHtq.now - (subOf sHtq 0).bucketAt) + 8 * (2016 + 4) * 1000 ≤ 131072000 ∧
    (∀ i < 4, subNamed sHtq (4 * 0 + i) = false) ∧ bitsOf 0x31 0 2 ≠ 3 ∧ (subOf up 0).up = false ∧ subRate up 0 ≠ 0 ∧
    up.boot.perst = false := by decide +kernel

/-- Port P1, down; port P0 in L0 with a Secure stream. -/
def sIde : State := { up with ports := tput up.ports 1 { port up 1 with ide := [(1, { secure := true, live := [0, 1, 2, 3, 4, 5] })] } }
theorem wit_Ports : up.boot.perst = false ∧ polOpen up 90 = true ∧ [1, 2, 4, 8, 16].contains 16 = true ∧
    6 ≤ bitsOf (rget up 0x92088) 0 4 ∧ 16 ≤ bitsOf (rget up 0x92088) 4 5 ∧ (port up 2).link = .down ∧
    (port sIde 1).link ≠ .down ∧ bitsOf (rget { up with regs := tput up.regs 0x91088 0x45 } 0x91088) 0 4 = 5 ∧
    bitsOf (rget { up with regs := tput up.regs 0x91088 0x45 } 0x91088) 4 5 = 4 := by decide +kernel

def sManual : State := { up with time := { st := .manual } }
theorem wit_ManualTime : isFatal up = false ∧ up.time.st ≠ .manual ∧ sManual.time.st = .manual ∧ isFatal sManual = false := by
  decide +kernel

/-- Domain 1 enabled on subport 0 with a master, silent for long. -/
def sPtp : State := { sTx with
  regs := tput up.regs 0x23098 (2 ^ 12), time := { st := .acquire, active := 1, doms := [(1, { master := some 9, delay := some 100 })] } }
theorem wit_Ptp : (ptp sPtp 1).delay = some 100 ∧ domOn sPtp 1 = true ∧ (ptp sPtp 1).master = some 9 ∧
    (subOf sPtp (rfld sPtp (aDom 1) 8 3)).up = true ∧ isFatal sPtp = false ∧ sPtp.boot.warm = false ∧
    (let s := { sPtp with now := 4000000000000 }; (ptp s 1).lastSync + max (psLog 4 (ptp s 1).syncLog) 100000000000 ≤ s.now ∧
      s.time.active = 1 ∧ s.time.st = .acquire) ∧
    ({ sPtp with time := { sPtp.time with active := 0 } } : State).time.active ≠ 1 := by decide +kernel
/-! ### Security and memory -/

/-- SEC and management firmware accepted, a vendor key 11 in slot 0 and 12 in slot 1, an operator key 21; lifecycle PROVISIONED. -/
def fw : Img := { good := true, ver := 3, svn := 1, keyHash := 11 }
def secBase : Sec := { seed := true, vendorHash := [(0, 11), (1, 12)], images := [(0, fw), (1, { fw with ty := 1 })], chainLen := 100, lcBurnt := 1, lc := 1 }
def sSec (f : Sec → Sec) : State := { up with sec := f secBase }
/-- Port P0 with a negotiated connection, and a secured session 1 that has keyed stream 1. -/
def spdmPort (n : Nat) (l : List SpdmSession) : State := { sSec id with
  ports := tput up.ports 1 { port up 1 with spdm := n, sessions := l, nextSess := 9, ide := [(1, { keyedBy := some 1, staged := [5], live := [0, 1, 2, 3, 4] })] } }
def est : SpdmSession := { sessId := 1, established := true, cert := 6 }
theorem wit_Spdm : doeUp (spdmPort 0 []) 1 = true ∧ (port (spdmPort 1 []) 1).spdm = 1 ∧ (port (spdmPort 2 []) 1).spdm = 2 ∧
    (port (spdmPort 3 []) 1).spdm = 3 ∧ 99 < (spdmPort 3 []).sec.chainLen ∧
    (port (spdmPort 3 [{}, {}, {}, {}]) 1).sessions.length = 4 ∧ (port (spdmPort 3 [{}, {}, {}]) 1).sessions.length < 4 ∧
    (∃ x ∈ (port (spdmPort 3 [{ sessId := 2 }]) 1).sessions, x.established = false ∧ x.sessId = 2) ∧
    (port (spdmPort 3 [est]) 1).sessions.find? (fun y => y.established && y.sessId == 1) = some est := by decide +kernel
theorem wit_Ide : let s := spdmPort 3 [est]
    doeUp s 1 = true ∧ (port s 1).sessions.find? (fun y => y.established && y.sessId == 1) = some est ∧
    (ideOf s 1 1).keyedBy = some 1 ∧ 5 ∈ (ideOf s 1 1).staged ∧ (ideOf s 1 2).keyedBy ≠ some 1 ∧
    (port s 1).sessions.find? (fun y => y.established && y.sessId == 2) = none ∧ (ideOf sIde 1 1).secure = true ∧
    (ideOf sIde 1 2).secure = false := by decide +kernel

/-- A request on channel 3 in each lifecycle state. -/
def sReq (f : Sec → Sec) : State := sSec (fun x => f { x with reqs := [3] })
def sMfg : State := sReq (fun x => { x with lcBurnt := 0, lc := 0 })
def sProv : State := sReq id
def sOper : State := sReq (fun x => { x with lcBurnt := 3, lc := 2, opHash := [(0, 21)], svn := [], cluster := some (9, 1, 5, 1, 1) })
theorem wit_SecureRequests : sMfg.sec.reqs.contains 3 = true ∧ lcIn sMfg [0] = true ∧ sMfg.sec.seed = true ∧ sMfg.board.serial = 5 ∧
    tget 0 sMfg.sec.vendorHash 0 ≠ 0 ∧ vendorKey sMfg 11 = true ∧ lcIn sProv [1] = true ∧ tget 0 sProv.sec.opHash 0 = 0 ∧
    lcIn sOper [1, 2] = true ∧ sOper.nvs.write = none ∧ vendorKey sOper 11 = true ∧
    imgOk sOper fw = true ∧ imgOk sOper { fw with ty := 3 } = true ∧ imgOk sOper { fw with ty := 4 } = true ∧ patchFree sOper = some 0 ∧
    imgOk sOper { fw with svn := 65 } = false ∧ lcIn sOper [2] = true ∧ tget 0 sOper.sec.opHash 1 = 0 ∧
    revoked sOper.sec.opRevoke 0 = false ∧ tget 0 sOper.sec.vendorHash 1 = 12 ∧ revoked sOper.sec.vendorRevoke 1 = false ∧
    lcIn sOper [0] = false := by decide +kernel

/-- KEY_AGREE, ATTEST and the enrolment commands; the longest M2 that fits exactly. -/
def sKey (op : Nat) (x : Session) (f : Sec → Sec) : State :=
  { sCmd 0x40 (at' 28 0 924 + at' 32 0 op) x with sec := f secBase }
def sAdm (opc rest : Nat) (f : Sec → Sec) : State := { cmdA opc 0 rest with sec := f secBase }
def operIn (x : Sec) : Sec := { x with lcBurnt := 3, lc := 2, opHash := [(0, 21)], enrol := some (4, 44) }
def member (x : Sec) : Sec := { operIn x with cluster := some (9, 1, 5, 1, 1), loaded := true }
def ticket : Ticket := { good := true, op := 0, cluster := 9, gen := 1, cdid := 5, serial := 5, reqHash := 44, keyHash := 21, wrk := some 8 }
def joiner : EnrolReq := { good := true, hash := 77, serial := 6, lc := 2, svns := [1, 1, 1, 1] }
def join : Ticket := { ticket with op := 1, serial := 6, reqHash := 77, wrk := none }
def grant : Grant := { good := true, reqHash := 44, cluster := 9, gen := 1, lc := 2, repCluster := 9, repGen := 1, keys := some (3, 8) }
theorem wit_KeyAgree : (let s := sKey 0 sess0 id; accepts s 0 0x40 (slot0 s) = true ∧ opOf (slot0 s) = 0 ∧
      keyStates.contains (sessOf s 0).st = true ∧ (sessOf s 0).protected' = false ∧ 824 + s.sec.chainLen = (slot0 s).arg 28 0 32) ∧
    (let s := sKey 1 sess0 id; accepts s 0 0x40 (slot0 s) = true ∧ opOf (slot0 s) = 1) ∧
    (let s := sKey 1 { sess0 with protected' := true } id; accepts s 0 0x40 (slot0 s) = true ∧ (sessOf s 0).protected' = true) ∧
    (let s := sAdm 0x41 (at' 24 0 707 + at' 28 13 1) id; accepts s 0 0x41 (slot0 s) = true ∧ (slot0 s).arg 28 12 1 = 0 ∧
      (slot0 s).arg 24 0 32 < 608 + s.sec.chainLen) ∧
    (let s := sAdm 0x41 (at' 24 0 608) id; accepts s 0 0x41 (slot0 s) = true ∧ 608 ≤ (slot0 s).arg 24 0 32) := by decide +kernel
theorem wit_Enrol : (let s := sAdm 0x42 (at' 28 0 852) operIn; accepts s 0 0x42 (slot0 s) = true ∧ s.nvs.write = none ∧
      opOf (slot0 s) = 0 ∧ s.sec.lc = 2 ∧ 752 + s.sec.chainLen = (slot0 s).arg 28 0 32) ∧
    (let s := sAdm 0x42 (at' 32 0 1) operIn; opOf (slot0 s) = 1 ∧ s.sec.cluster = none ∧ ticketOk s ticket 0 = true) ∧
    (let s := sAdm 0x42 (at' 28 0 972 + at' 32 0 2) member; opOf (slot0 s) = 2 ∧ s.sec.loaded = true ∧ offerOk s joiner join = true ∧
      872 + s.sec.chainLen ≤ (slot0 s).arg 28 0 32) ∧
    (let s := sAdm 0x42 (at' 32 0 3) operIn; opOf (slot0 s) = 3 ∧ ticketOk s { ticket with op := 1 } 1 = true ∧
      grant.reqHash = ticket.reqHash) ∧
    (let s := sAdm 0x42 (at' 32 0 4) member; opOf (slot0 s) = 4 ∧ s.sec.cluster.isSome = true) ∧
    (let s := sAdm 0x42 (at' 32 0 4) id; opOf (slot0 s) = 4 ∧ s.sec.lc ≠ 2) ∧
    (let s := sAdm 0x42 0 id; opOf (slot0 s) = 0 ∧ s.sec.lc ≠ 2) := by decide +kernel

/-- Polder 94 and the polder of controller 0 sealed without a pending source; a store that runs; stores whose 32 vectors jump. -/
def sAdmit (n : Nat) (p : Polder) : State := { cmdA 0x38 0 (at' 24 0 n) with flt := { polders := [(n, p)] } }
def sStore : State := cmdA 0x39 0 0
def sStoreBusy : State := { sStore with nvs := { write := some {} } }
def runStore : Store := { base := 1, micro := (List.range 32).map (fun i => (i, 2 * 2 ^ 10 + (32 + i) * 2 ^ 19)) }
def patch1 : Img := { fw with ty := 4, body := { base := 1, level := 1, prev := 0, micro := [(40, 2 * 2 ^ 10)] } }
def sMcode (rest : Nat) : State := { sAdm 0x43 rest id with mcode := { run := runStore } }
theorem wit_Admin : (let s := sAdmit 94 { st := .sealed }; accepts s 0 0x38 (slot0 s) = false) ∧
    (let s := sAdmit 72 { st := .sealed }; accepts s 0 0x38 (slot0 s) = true ∧ (slot0 s).arg 24 0 7 = 72 ∧ (polder s 72).st = .sealed ∧
      (polder s 72).pending = false) ∧
    (let s := sAdmit 0 { st := .sealed, pending := true }; accepts s 0 0x38 (slot0 s) = true ∧ (polder s 0).pending = true) ∧
    accepts sStore 0 0x39 (slot0 sStore) = true ∧ sStore.nvs.write = none ∧ accepts sStoreBusy 0 0x39 (slot0 sStoreBusy) = true ∧
    sStoreBusy.nvs.write.isSome = true ∧
    (let s := sMcode (at' 28 1 1); accepts s 0 0x43 (slot0 s) = true ∧ s.mcode.next = none ∧ (slot0 s).arg 24 0 32 = 0 ∧
      (slot0 s).arg 28 1 1 = 1) ∧
    (let s := sMcode (at' 24 0 100); accepts s 0 0x43 (slot0 s) = true ∧ (slot0 s).arg 24 0 32 ≠ 0 ∧ (slot0 s).arg 28 0 2 = 0 ∧
      imgOk s patch1 = true ∧ patchFits s.mcode.run patch1.body = true ∧ patchSound s.mcode.run patch1 = true ∧ coreUp s 63 = true) ∧
    (let s := sAdm 0x44 (at' 28 0 48 + at' 32 4 2) id; accepts s 0 0x44 (slot0 s) = true ∧ levelOk (slot0 s) s = true ∧
      opOf (slot0 s) = 0 ∧ 48 ≤ (slot0 s).arg 28 0 32) ∧
    (let s := sAdm 0x44 (at' 32 0 1 + at' 32 4 2) (fun x => { x with dbgChal := some (7, 2) }); accepts s 0 0x44 (slot0 s) = true ∧
      opOf (slot0 s) = 1 ∧ s.sec.dbgChal = some (7, levelOf (slot0 s)) ∧ vendorKey s 11 = true ∧ vendorKey s 13 = false) := by
  decide +kernel

/-- Controller 0 in service with 4 GiB, in a state; the last usable bytes of its region. -/
def sMc (st : McSt) (f : Mc → Mc) : State := { up with mcs := [(0, f { st := st, populated := true, density := 1, inService := true })] }
theorem wit_Dram : let s := sMc .active id
    polOpen s (72 + devMc 64) = true ∧ isFatal s = false ∧ devMc 64 = 0 ∧ devMc (2 ^ 35) ≠ 0 ∧ (mcOf s (devMc 64)).inService = true ∧
    (mcOf s 0).st = .active ∧ (mcOf (sMc .srPrep id) 0).st = .srPrep ∧ devOff 64 + 64 - 1 < usableCap (mcOf s 0).density ∧
    polOpen { s with flt := { polders := [(72, { st := .sealed })] } } (72 + devMc 64) = false ∧
    (mcOf (sMc .selfRefresh id) 0).st = .selfRefresh ∧ (mcOf (sMc .srEntry id) 0).st = .srEntry ∧ (mcOf (sMc .srExit id) 0).st = .srExit ∧
    ((mcOf (sMc .selfRefresh id) 0).chan (devChan (devOff 64))).reads.length < 32 := by decide +kernel

/-- A read that waits, and real-time traffic on channel 0. -/
def oneRead (m : Mc) : Mc := { m with ch := [(0, { reads := [{ addr := 64, len := 64 }] })] }
def rtNow (o : Nat) (m : Mc) : Mc := { m with ch := [(0, { owed := o, lastRt := some up.now })] }
theorem wit_SelfRefresh : mcLive (sMc .active id) 0 = true ∧ mcRt (sMc .active (rtNow 0)) 0 = true ∧ mcRt (sMc .active id) 0 = false ∧
    mcEmpty (sMc .active id) 0 = true ∧ (mcOf (sMc .active (fun m => { m with ordered := true })) 0).ordered = true ∧
    mcLive (sMc .srPrep id) 0 = true ∧ mcLive (sMc .srEntry id) 0 = true ∧ mcEmpty (sMc .srEntry oneRead) 0 = false ∧
    mcLive (sMc .selfRefresh id) 0 = true ∧ mcLive (sMc .srExit oneRead) 0 = true ∧ devMc 64 = 0 ∧
    (∀ c < 4, ∀ r ∈ ((mcOf (sMc .srExit oneRead) 0).chan c).reads ++ ((mcOf (sMc .srExit oneRead) 0).chan c).writes, devMc r.addr = 0) := by
  decide +kernel
/-- OWED at 6 and 7 before the interval; a drift of 3 and of 1000 steps; training at rest and in progress. -/
def sTrn : State := { sMc .training id with regs := tput up.regs (aMc 0 0xC0) (2 ^ 31 + 5) }
theorem wit_Refresh : rtActive (sMc .active id) 0 0 = false ∧ rtActive (sMc .active (rtNow 6)) 0 0 = true ∧ min 8 (6 + 1) < 8 ∧
    min 8 (7 + 1) = 8 ∧ ((mcOf (sMc .active (rtNow 7)) 0).chan 0).owed = 7 ∧
    (let s := { sMc .active (rtNow 6) with now := 2 * up.now }; rtActive s 0 0 = false ∧ ((mcOf s 0).chan 0).lastRt ≠ none) ∧
    ((mcOf (sMc .active (rtNow 6)) 0).chan 0).deferred = false ∧
    Int.natAbs 1 < bitsOf (rget (sMc .active id) (aMc 0 0x90)) 10 6 ∧ bitsOf (rget (sMc .active id) (aMc 0 0x90)) 10 6 = 2 ∧
    bitAt (rget (sMc .active id) (aMc 0 0x90)) 24 = false ∧ (mcOf (sMc .active id) 0).st ≠ .training ∧
    (mcOf (sMc .training id) 0).st = .training ∧ bitAt (rget (sMc .training id) (aMc 0 0xC0)) 31 = false ∧ bitsOf 0x1400 8 8 = 20 ∧
    bitAt (rget sTrn (aMc 0 0xC0)) 31 = true ∧ bitsOf (rget sTrn (aMc 0 0xC0)) 0 3 = 5 := by decide +kernel

/-- A request of the packet pool; a pool with every buffer reserved; a live handle with 1, 2 and 65,534 counts. -/
def reqP : AllocReq := { ty := .packet, size := 4096, cls := 0, owner := 0x7F, port := 9 }
def sRef (n : Nat) : State := { pools with bpm := { pools.bpm with bufs := [(2 ^ 20, { alloc := true, gen := 1, refcnt := n })] } }
def sTicket (n : Nat) : State := { pools with bpm := { pools.bpm with
  retries := [(4, { ty := .packet, next := up.now + n, size := 4096, cls := 0, port := 9, ticket := 1 })]
  pools := tput pools.bpm.pools 0 { poolOf pools 0 with held := some (0, 4, up.now + n) } } }
theorem wit_BufferPool : polOpen sMgmtSealed 93 = true ∧
    polOpen { pools with flt := { polders := [(93, { st := .sealed })] } } 93 = false ∧ fitPools pools .packet 8192 = [] ∧
    (fitPools pools .packet 4096).find? (fun p => poolAdmits pools p reqP) = some 0 ∧ takeIdx pools 0 reqP = some 0 ∧
    (let s := { pools with bpm := { pools.bpm with rsv := [(0, 20)] } }; fitPools s .packet 4096 ≠ [] ∧
      (fitPools s .packet 4096).find? (fun p => poolAdmits s p reqP) = none) ∧
    (bufOf (sRef 65534) (hKey hBuf)).alloc = true ∧ (bufOf (sRef 1) (hKey hBuf)).gen = hGen hBuf ∧
    (bufOf (sRef 65534) (hKey hBuf)).refcnt < 65535 ∧ 1 < (bufOf (sRef 2) (hKey hBuf)).refcnt ∧
    (bufOf (sRef 1) (hKey hBuf)).refcnt ≤ 1 ∧ (bufOf pools (hKey 0x10000101)).alloc = false ∧
    poolQ pools 0 + 16 = freeFor pools 0 none ∧ tfind (sTicket 1).bpm.retries 4 ≠ none ∧
    (sTicket 1).now < up.now + 1 ∧ (bpmAlloc { reqP with rid := some 4 } (sTicket 0)).1 = .ok 0x00000001 ∧
    (poolOf (sTicket 0) 0).held = some (0, 4, up.now) ∧ (poolOf (sTicket 1) 0).held = some (0, 4, up.now + 1) := by decide +kernel

/-! ### Units and the chip -/

/-- A descriptor: opcode, spaces, bytes, source, destination. -/
def dsc (op src dst len a b : Nat) : BitVec 256 :=
  BitVec.ofNat 256 (op + src * 2 ^ 4 + dst * 2 ^ 6 + len * 2 ^ 32 + a * 2 ^ 64 + b * 2 ^ 128)
/-- Channel 16 with a ring of 16 descriptors, in a state, with one descriptor to run. -/
def sDma (st : DmaSt) (f : DmaCh → DmaCh) : State := { pools with
  dma := [(16, f { st := st })]
  regs := tput (tput (tput up.regs (aDma 16 0x08) 4) (aDma 16 0x1C) 1) (aDma 16 0x28) 12 }
def bufAt (o : Nat) : Nat := hBuf * 2 ^ 32 + o
def fill8 : BitVec 256 := dsc 2 0 1 8 0x1122334455667788 (bufAt (2 ^ 22 - 8))
def copyIn : BitVec 256 := dsc 1 2 1 4 0x9000 (bufAt 0)
def gather1 : BitVec 256 := dsc 4 1 1 1 (bufAt 0) (bufAt 64) ||| BitVec.ofNat 256 (bufAt 128 * 2 ^ 192)
def compare8 : BitVec 256 := dsc 3 1 1 8 (bufAt 0) (bufAt 8)
theorem wit_Dma : dmaFrom (sDma .off id) (.fn 0) 16 = true ∧ (dmaOf (sDma .off id) 16).st = .off ∧ dmaLog (sDma .off id) 16 = 4 ∧
    (dmaOf { pools with dma := [] } 17).st = .off ∧ dmaLog pools 17 < 4 ∧ dmaFrom pools (.fn 0) 17 = true ∧
    (dmaOf (sDma .run id) 16).cur = none ∧ (dmaOf (sDma .run (fun d => { d with cur := some { status := 16 } })) 16).cur = some { status := 16 } ∧
    (dmaOf (sDma .halted id) 16).st = .halted ∧ 15 < 2 ^ dmaLog (sDma .run id) 16 ∧ rfld (sDma .run id) (aDma 16 0x28) 0 4 = 12 ∧
    dmaTakes (sDma .run id) 16 0#256 = true ∧ dOp 0#256 = 0 ∧ dmaTakes (sDma .run id) 16 fill8 = true ∧ dOp fill8 = 2 ∧
    dDstSp fill8 = 1 ∧ dmaTakes (sDma .run id) 16 copyIn = true ∧ dOp copyIn = 1 ∧ dSrcSp copyIn ≠ 1 ∧ 3 < dLen copyIn := by
  decide +kernel
def sIndex : State := { sDma .run id with bufm := (List.range 4).map (fun i => (2 ^ 50 + i, 0#8)) }
theorem wit_DmaReads : dmaTakes sIndex 16 gather1 = true ∧ dOp gather1 = 4 ∧ dSrcSp gather1 = 1 ∧ dDstSp gather1 = 1 ∧
    gBad sIndex gather1 [] = none ∧ dmaTakes sIndex 16 compare8 = true ∧ dOp compare8 = 3 ∧
    (let s := sDma .run (fun d => { d with cur := some { status := 0x13 } })
     polOpen s 93 = true ∧ dmaLog s 16 = 4 ∧ 16 ≤ (0x13 : Nat) ∧ (dmaOf s 16).shadowPend = false) := by decide +kernel

/-- Channel 4 with messages of two words. -/
def sMbx (f : Mbx → Mbx) : State := { up with regs := tput up.regs (aMbx 4 0) 0x0202, mbx := [(4, f {})] }
def msg2 : InMsg := { sender := 7, words := [1, 2] }
def full8 : List InMsg := (List.range 8).map (fun _ => msg2)
theorem wit_Mailbox : mbxUp (sMbx id) = true ∧ lenIn (sMbx id) 4 = 2 ∧ lenOut (sMbx id) 4 = 2 ∧
    (mbxOf (sMbx (fun m => { m with inMsgs := full8 })) 4).inFree = 0 ∧ (mbxOf (sMbx id) 4).inFree = 16 ∧
    (mbxOf (sMbx id) 4).inPart.length + 1 < 2 ∧ 2 ≤ (mbxOf (sMbx (fun m => { m with inPart := [1] })) 4).inPart.length + 1 ∧
    (mbxOf (sMbx id) 4).outMsgs = [] ∧ (mbxOf (sMbx (fun m => { m with outMsgs := [{ words := [1, 2] }] })) 4).outTaken + 1 < 2 ∧
    (let m := mbxOf (sMbx (fun m => { m with inPart := [1], inPartTime := 0 })) 4; m.inPart ≠ [] ∧ m.inPartTime + psMs 1 ≤ up.now) ∧
    up.now < (mbxOf (sMbx (fun m => { m with inPart := [1], inPartTime := up.now })) 4).inPartTime + psMs 1 ∧
    up.boot.perst = false ∧ (mbxOf (sMbx id) 4).frag = none ∧ (mbxOf (sMbx id) 4).bridge = none ∧
    (mbxOf (sMbx (fun m => { m with bridge := some msg2 })) 4).bridge = some msg2 ∧
    (mbxOf (sMbx (fun m => { m with inMsgs := [msg2] })) 4).inMsgs = [msg2] ∧
    (mbxOf { up with mbx := [(0, { inMsgs := [msg2] })] } 0).inMsgs = [msg2] ∧ (mbxOf (sMbx id) 4).outWords < 16 ∧
    (mbxOf (sMbx id) 4).outPart.words = [] ∧ lenOut { up with regs := tput up.regs (aMbx 4 0) 0x0101 } 4 ≤ 1 ∧
    (mbxOf (sMbx (fun m => { m with endSince := some 0 })) 4).endSince = some 0 ∧ 0 + psMs 100 ≤ up.now := by decide +kernel
/-- SEC accepts on channel 0 what the binding names, and in OPERATIONAL what is authenticated. -/
theorem wit_SecureMailbox : (let s := { sOper with regs := tput up.regs 0x60C0 (7 + 2 ^ 16) }
      (mbxAuth s = true ∧ ({ msg2 with auth := true }).auth = true) ∧ bound s 0 msg2 = true ∧ bound s 0 { msg2 with sender := 8 } = false) ∧
    mbxAuth sMfg = false := by decide +kernel

/-- Source 10 enabled at target 2 with priority 3 as an edge, source 11 as a level; threshold 0. -/
def sMic (l : List (Nat × MicSrc)) : State := { up with
  regs := tput (tput up.regs (0x8800 + 40) (3 + 2 * 16 + 0x300)) (0x8800 + 44) (5 + 2 * 16 + 0x200), micSrc := l }
theorem wit_Mic : micReal 1 = true ∧ micReal 255 = true ∧ micReal 0 = false ∧ micReal 256 = false ∧
    micEdgeSense (sMic []) 10 = true ∧ micEdgeSense (sMic []) 11 = false ∧ (micSrcOf (sMic []) 11).activeAt = none ∧
    micNext (sMic []) 2 = 0 ∧ micNext (sMic [(10, { pend := true }), (11, { pend := true, input := true })]) 2 = 11 ∧
    polOpen (sMic []) 94 = true ∧ micFrom (sMic []) (.fn 0) = false ∧ micFrom (sMic []) (.mgc 3) = true ∧
    (micSrcOf (sMic [(11, { input := true, activeAt := some 2 })]) 11).activeAt = some 2 ∧ rfld (sMic []) 0x8184 13 1 = 0 := by
  decide +kernel

/-- Core 3 with a store whose words at 40 are: a plain nanoword, a commit point, a CALL, a RET, and a long nanoword. -/
def loaded : Store := { base := 1, micro := [(40, 0), (41, 1), (42, 4 * 2 ^ 10 + 100 * 2 ^ 19), (43, 5 * 2 ^ 10), (44, 2)],
                        nano := [(0, 3 * 2 ^ 232), (1, 2 ^ 243), (2, 2047 * 2 ^ 232)] }
def sCtx (ua : Nat) (f : Ctx → Ctx) (g : Core → Core) : State := { up with
  cores := [(3, g { store := loaded, ctx := [(2, f { ua := ua, restart := 40 })] })] }
def ctxAt (s : State) : Ctx := (coreOf s 3).context 2
theorem wit_Contexts : (let s := sCtx 40 id id; ctxRuns s 3 (ctxAt s) = true ∧ (ctxAt s).dist + nwCycles ((coreOf s 3).nano (ctxAt s)) = 4 ∧
      nwCp ((coreOf s 3).nano (ctxAt s)) = false ∧ nextUa (ctxAt s) ((coreOf s 3).micro (ctxAt s)) true 0 = some (41, []) ∧
      4096 < (ctxAt s).sram + 4097) ∧
    (let s := sCtx 41 id id; nwCp ((coreOf s 3).nano (ctxAt s)) = true ∧ (coreOf s 3).requests 2 = [] ∧ (ctxAt s).records = [] ∧
      mwNext ((coreOf s 3).micro (ctxAt s)) ≠ 7) ∧
    (let s := sCtx 41 id (fun c => { c with fences := [5], rows := [{ sid := 5, left := [2, 1, 0, 0, 0, 0, 0], entered := 2 }] })
     ((coreOf s 3).requests 2).head? = some 1 ∧ ctxRuns s 3 (ctxAt s) = true) ∧
    (let s := sCtx 43 id id; nextUa (ctxAt s) ((coreOf s 3).micro (ctxAt s)) true 0 = none) ∧
    (let s := sCtx 42 (fun x => { x with stack := [1, 2, 3, 4, 5, 6, 7, 8] }) id
     nextUa (ctxAt s) ((coreOf s 3).micro (ctxAt s)) true 0 = none) ∧
    (let s := sCtx 42 (fun x => { x with stack := [1, 2, 3, 4, 5, 6, 7] }) id; (ctxAt s).stack.length < 8) ∧
    (let s := sCtx 44 id id; ctxRuns s 3 (ctxAt s) = true ∧ 2048 ≤ (ctxAt s).dist + nwCycles ((coreOf s 3).nano (ctxAt s))) := by
  decide +kernel
/-- Core 3 parked in an activation; a scrub in progress, and one due. -/
def sPatch : State := { up with
  mcode := { next := some { loaded with patch := 1 }, left := [3] }
  cores := [(3, { store := loaded, activating := true, ctx := (List.range 8).map (fun k => (k, { parked := true })) })] }
def sScrub : State := { up with regs := tput up.regs (aCore 3 0x9C) 0x6400, cores := [(3, { scrubUntil := up.now + 1 })] }
theorem wit_Activation : sPatch.mcode.next = some { loaded with patch := 1 } ∧ sPatch.mcode.left.contains 3 = true ∧
    (actGroup sPatch 3).all (fun j => (coreOf sPatch j).allParked) = true ∧ polOpen up 3 = true ∧
    (coreOf up 3).scrubUntil ≤ up.now ∧ sScrub.now < (coreOf sScrub 3).scrubUntil ∧
    rfld { sScrub with now := psMs 1000 } (aCore 3 0x9C) 8 8 = 100 ∧
    (coreOf sScrub 3).lastScrub + psMs (10 * 100) ≤ psMs 1000 := by decide +kernel

/-- Reports of sources 0 (CORRECTED), 0x40 + 5 (CONTAINED) and 0x3F·64 + 2 (FATAL), each in a block with its polder open. -/
def sRep (l : List Nat) : State := { up with flt := { reports := l.map (fun x => { src := x }) } }
theorem wit_Faults : srcReal 0 = true ∧ suppressed (sRep [0]) {} = false ∧ srcClass up 0 = 0 ∧ polOpen up (srcPolder 0) = true ∧
    srcReal 0x45 = true ∧ suppressed up { src := 0x45 } = false ∧ srcClass up 0x45 = 1 ∧ srcPolder 0x45 = 5 ∧ polOpen up 5 = true ∧
    srcReal 0xFC2 = true ∧ srcClass up 0xFC2 = 2 ∧ polOpen up (srcPolder 0xFC2) = true ∧
    polOpen { up with flt := { polders := [(0, { st := .sealed })] } } (srcPolder 0) = false ∧
    srcReal 0x46 = true ∧ srcPolder 0x46 = 6 ∧ srcPolder 0x46 ≠ srcPolder 0x45 ∧ polOpen up 6 = true ∧ srcClass up 0x46 = 1 ∧
    suppressed up { src := 0x46 } = false ∧
    (let s := { up with flt := { unrep := [(9, 2)], lastRep := [(9, 1)] } }
     tget 0 s.flt.unrep 9 ≠ 0 ∧ tget 0 s.flt.lastRep 9 ≠ 0 ∧ tget 0 s.flt.lastRep 9 - 1 + psMs (rfld s 0x4080 8 10) ≤ s.now ∧
     (let u := { s with now := 5 }; rfld u 0x4080 8 10 ≠ 0 ∧ u.now < tget 0 u.flt.lastRep 9 - 1 + psMs (rfld u 0x4080 8 10))) := by
  decide +kernel

def sPol (i : Nat) (st : PolSt) : State := { up with flt := { polders := [(i, { st := st })] } }
def sArmed : State := { up with regs := tput up.regs ((⟨.core, 5⟩ : Page).at 0x20) 0x1045 }
theorem wit_Readmission : (polder (sPol 5 .testing) 5).st = .testing ∧ (polder (sPol 72 .testing) 72).st = .testing ∧
    (polder (sPol 5 .quiescing) 5).st = .quiescing ∧ (polder up 5).st ≠ .testing ∧ (polder up 5).st ≠ .quiescing ∧
    (let s := { sPol 88 .sealed with regs := tput up.regs 0x4080 2 }
     (polder s 88).st = .sealed ∧ rfld s 0x4080 1 1 = 1 ∧ (polder s 88).sealedAt + psMs 10 ≤ s.now) ∧
    pageNum 0x55 = some ⟨.core, 5⟩ ∧ pageTakes up ⟨.core, 5⟩ = true ∧ srcReal 0x45 = true ∧ srcPage 0x45 = ⟨.core, 5⟩ ∧
    bitAt 0x45 12 = false ∧ pageTakes (sPol 5 .sealed) ⟨.core, 5⟩ = false ∧ rfld sArmed ((⟨.core, 5⟩ : Page).at 0x20) 12 1 = 1 ∧
    rfld up ((⟨.core, 5⟩ : Page).at 0x20) 12 1 = 0 ∧ pageNum 0x10001 = some ⟨.hq, 1⟩ := by decide +kernel

def sGear (g : Gear) : State := { up with gears := [(0, g)] }
theorem wit_Power : (gearOf (sGear { run := 5, pendingUp := some 2, vCode := 24, slack := 2 }) 0).pendingUp = some 2 ∧ entryCode 2 = 24 ∧
    entryCode 0 = 44 ∧ (gearOf (sGear { pendingUp := some 2, vCode := 23, slack := 2 }) 0).vCode < entryCode 2 ∧
    bitAt (rget up (aPelCtrl 0)) 7 = false ∧ bitAt (rget up (aPelCtrl 0)) 3 = false ∧
    bitAt (rget { up with regs := tput up.regs (aPelCtrl 0) 0x2085 } (aPelCtrl 0)) 7 = true ∧
    (let g := gearOf (sGear { run := 5, vCode := 60 }) 0; g.pendingUp = none ∧ entryCode g.run ≤ g.vCode ∧ g.vCode ≤ 60) ∧
    (gearOf up 0).stretchFrom = none ∧ (gearOf (sGear { stretchFrom := some 3 }) 0).stretchFrom = some 3 ∧
    (let s := sGear { droop := some 3, headroom := some 4 }; (gearOf s 0).droop ≠ none ∧ (gearOf s 0).drLast + psMs 1 ≤ s.now ∧
      (gearOf s 0).headroom ≠ none ∧ (gearOf s 0).hrLast + psMs 1 ≤ s.now) ∧
    up.now < (gearOf (sGear { droop := some 3, drLast := up.now }) 0).drLast + psMs 1 ∧ rfld up 0x2080 0 8 ≤ [100, 110].foldl max 0 ∧
    (gearOf up 0).thermal = none ∧ 115 ≤ [115].foldl max 0 ∧ isFatal up = false ∧ gearOffered up 0 = true ∧ gearOffered up 1 = false ∧
    coversAt up 0 0 = true := by decide +kernel

def sOff : State := { up with boot := { up.boot with rails := false } }
def sPerst : State := { up with boot := { up.boot with perst := true, ready := false } }
theorem wit_Resets : State.reset.boot.rails = false ∧ sOff.boot.rails = false ∧ up.boot.perst = false ∧ up.boot.rails = true ∧
    sPerst.boot.perst = true ∧ sPerst.boot.rails = true ∧ sPerst.boot.rootLock = true ∧
    (0x1C3#32).toNat % 2 ^ 9 = 0x1C3 ∧ up.boot.warm = false ∧ isFatal up = false ∧
    (0x1C2#32).toNat % 2 ^ 9 ≠ 0x1C3 ∧ (let s := { sPerst with boot := { sPerst.boot with rootLock := false } }
      s.boot.rootLock = false ∧ s.boot.perst = true ∧ s.boot.everLocked = true) ∧ up.boot.aon = true ∧
    (sSec id).sec.lc ≠ 0 ∧ (sSec id).sec.dbgLevel ≠ 2 := by decide +kernel

def sSeq (op x : Nat) : State := { up with nvs := { seq := some (op, x) } }
theorem wit_Settings : nvsFrom up (.fn 0) = true ∧ up.nvs.seq = none ∧ nvsFrom up .sec = false ∧ nvsFrom up (.fn 1) = false ∧
    (sSeq 1 up.now).nvs.seq = some (1, up.now) ∧ (sSeq 2 up.now).nvs.write = none ∧ (sSeq 3 (up.now - psMs 1)).nvs.seq = some (3, up.now - psMs 1) ∧
    up.now ≤ up.now - psMs 1 + psMs 1 ∧
    ({ sSeq 1 up.now with nvs := { seq := some (1, up.now), write := some {} } }).nvs.write.isSome = true ∧
    0 + psMs 1 ≤ (sSeq 1 0).now ∧ (sSeq 1 up.now).now < up.now + psMs 1 ∧
    ({ up with nvs := { write := some { toB := true } } }).nvs.write = some { toB := true } := by decide +kernel

theorem wit_Registers : reqLive up (.fn 0) = true ∧ isFatal up = false ∧ sized 0x2080 2 = false ∧ sized 0x2084 8 = false ∧
    (pfTarget true 0x2080 = .page ⟨.pwr, 0⟩ 0x80) ∧ sized 0x10 4 = true ∧ pfTarget true 0xFF000 = .none ∧ sized 0xFF000 4 = true ∧
    polOpen (sPol 5 .sealed) (⟨.core, 5⟩ : Page).polder = false ∧ pfTarget true 0x5508C = .page ⟨.core, 5⟩ 0x8C ∧
    (PageTy.core.reg 0x8C).map (fun e => (e.1.off, e.1.wide)) = some (0x8C, false) ∧ reqLive (sPol 5 .sealed) (.fn 0) = true ∧
    polOpen up 94 = true ∧ bitsOf 85 0 8 = 85 ∧ bitsOf 110 0 8 = 110 ∧ bitsOf 111 0 8 = 111 ∧
    reqLive up (.peer 0) = true ∧ State.reset.boot.perst = true := by decide +kernel

/-! ### Values the spec prints in its worked examples -/

/-- Chapter 3, "Saltmarsh": strides, aligned height, hint plane, and the windows of both modes in 2 MiB units. -/
theorem test_saltmarsh_window : strideY 1 1920 = 3840 ∧ alignH 1080 = 1088 ∧ planesEnd 1 1920 1080 = 6266880 ∧
    hintOff 1 1920 1080 = 6266880 ∧ hintStride 1920 = 1024 ∧ windowUnits 1 1920 1080 false = 9 ∧ windowUnits 1 1920 1080 true = 5 := by
  decide +kernel
/-- Chapter 5: the slot buffer of a 1920×1080 HEVC Main 10 encode session. -/
theorem test_slot_buffer : slotBufSize .hevc 10 1920 1080 true = 5111808 := by decide +kernel
/-- Chapter 2, Harbourlight, Pebblecourt and the decode session; chapter 16, Reedbank. -/
theorem test_loads : loadOf .encode 2560 1440 90 1 = 332 ∧ loadOf .encode 1280 720 60 1 = 56 ∧ loadOf .decode 1920 1080 60 1 = 63 ∧
    loadOf .encode 1920 1080 120 1 = 249 ∧ gearCap 1 = 857 := by decide +kernel
/-- Chapter 8, "Mossgate": payload limit, wire bits of a full packet and of the last, the schedule of the second and third. -/
theorem test_mossgate_pacing : let x : Session := { nw := { nw0 with vlan := 2 ^ 15, wirePeak := 50000000 } }
    x.payloadLimit = 1212 ∧ 8 * x.wireSize 1212 = 10576 ∧ 8 * x.wireSize 485 = 4760 ∧ spanAt x.nw 25912 10576 = 16326 ∧
    1058 + spanAt x.nw 25912 21152 = 33710 ∧ overBurst x.nw 25912 = false := by decide +kernel
/-- Chapter 9, "Lanternfell": payload, bit index, key bit, target. -/
theorem test_lanternfell : wmPayload 0x2B4 0x015 0x003E417C05 = 0x2B4015003E417C05 ∧ wmIndex 0x9C2D4A17 = 23 ∧
    wmKeyBit 0x9C2D4A17 = true ∧ wmTarget 0x2B4015003E417C05 0x9C2D4A17 = true := by decide +kernel
def lanternLevels : List WmLevel := [⟨3, 340⟩, ⟨-1, 92⟩, ⟨1, 121⟩, ⟨2, 155⟩, ⟨-1, 110⟩]
/-- Chapter 9, "Lanternfell": the level 2 becomes 1, and the area votes 0 for bit 23. -/
theorem test_lanternfell_steer : wmSteer 100 true lanternLevels = [⟨3, 340⟩, ⟨-1, 92⟩, ⟨1, 121⟩, ⟨1, 155⟩, ⟨-1, 110⟩] ∧
    wmVote 0x9C2D4A17 (wmSteer 100 true lanternLevels) = some (23, false) := by decide +kernel
theorem wit_WatermarkVotes : 3 ≤ (lanternLevels.filter (fun l => l.level != 0)).length ∧
    ¬(decide ((lanternLevels.map (fun l => l.level.natAbs)).sum % 2 = 1) = wmTarget 0x2B4015003E417C05 0x9C2D4A17) := by decide +kernel
def greyUnit : UnitPix := { unit := 3, luma := List.replicate 4096 700, cb := List.replicate 1024 512, cr := List.replicate 1024 1023 }
/-- Hypotheses of the packing statement. -/
theorem wit_PackedUnits : greyUnit.whole = true ∧ ∀ v ∈ greyUnit.luma ++ greyUnit.cb ++ greyUnit.cr, v < 2 ^ 10 := by
  refine ⟨by decide +kernel, fun v hv => ?_⟩
  simp only [greyUnit, List.mem_append, List.mem_replicate] at hv
  omega
theorem test_packFlat : let u : UnitPix := { luma := [700, 700], cb := [512], cr := [1023] }
    (packUnit 10 u).1 = 1 + 2 ^ 14 ∧ (packUnit 10 u).2.take 6 = [0xBC, 2, 0, 2, 0xFF, 3] := by decide +kernel
/-- Chapter 10, "Ashcombe": Q is 2 with MIN 2, USE 1, RSV 4 and HOLD 3. -/
theorem test_ashcombe_reserve : poolQ { up with
    regs := tput up.regs (aBpm 0x138) 2
    bpm := { rsv := [(7 * 4096 + 5, 4)], bufs := [(7 * 2 ^ 20, { alloc := true, cls := 0, sid := some 5 }),
      (7 * 2 ^ 20 + 1, { alloc := true, cls := 1, sid := some 5 }), (7 * 2 ^ 20 + 2, { alloc := true, cls := 1, sid := some 5 })] } } 7 = 2 := by
  decide +kernel
/-- Chapter 15: the low half of a counter that reads and clears; the high half is kept for the next read. -/
theorem test_counter_read : regRead (.fn 0) 0x21100 4 { up with regs := tput up.regs 0x21100 0x1FFFFFFFE } =
    (0xFFFFFFFE, { up with halves := [((Req.fn 0).code, { lastRead := some 0x21100, latch := 1 })] }) := by decide +kernel
/-- Chapter 0: a written 1 clears PG_EVT bit 3. -/
theorem test_event_clear : (match exec (.registerWrite (.fn 0) 0 false 0x9018 4 8) { up with regs := tput up.regs 0x9018 12 } with
    | .next t => rget t 0x9018
    | _ => 99) = 4 := by decide +kernel

/-! ### Commands that cannot arrive -/

theorem wf_slot : Instr.wf (.createQp 16384) = false ∧ Instr.wf (.createQp 16383) = true := by decide
theorem wf_hostBuffer : Instr.wf (.sessionOpen 0 (some { len := 4, words := [(1, 0)] }) true) = false ∧
    Instr.wf (.sessionOpen 0 (some { len := 8, words := [(1, 0), (0, 0)] }) true) = false ∧ Instr.wf (.sessionOpen 0 (some blk) true) = true := by
  decide +kernel
theorem wf_keySet : Instr.wf (.keyAgreeSet 0 (some { send := 0, recv := 1 })) = false ∧
    Instr.wf (.keyAgreeSet 0 (some { send := 1, recv := 0 })) = false := by decide
theorem wf_accessLength : Instr.wf (.sqTailDoorbell 0 1 0 0 5) = false ∧ Instr.wf (.registerRead (.fn 0) false 0 9) = false := by decide
theorem wf_addresses : Instr.wf (.registerWrite (.fn 0) 0 false (2 ^ 29) 4 0) = false ∧
    Instr.wf (.registerRead (.fn 0) true (2 ^ 36) 4) = false ∧ Instr.wf (.ingestWrite (.fn 0) none (2 ^ 36) [1#8]) = false ∧
    Instr.wf (.ingestWrite (.fn 0) none 0 []) = false ∧ Instr.wf (.ingestWrite (.fn 0) none 0 (List.replicate 4097 0#8)) = false := by decide +kernel
theorem wf_jobPacket : Instr.wf (.jobPacketWrite 0 false 0) = false := by decide
theorem wf_seamFails : Instr.wf (.seamBoundaryRecord 0 6) = false ∧ Instr.wf (.seamBoundaryRecord 0 5) = true := by decide
theorem wf_frame : Instr.wf (.receiveFrame 0 { len := 3, dst := 0, body := .other 0, bytes := [] }) = false ∧
    Instr.wf (.receiveFrame 0 { len := 64, dst := 0, body := .other 0, bytes := [] }) = false := by decide
theorem wf_hostTransmit : Instr.wf (.hostTxSend 100 8) = false := by decide
theorem wf_link : Instr.wf (.pcieLinkChange 0 0 4 true) = false ∧ Instr.wf (.pcieLinkChange 0 6 3 true) = false := by decide
theorem wf_dram : Instr.wf (.dramRequest 0 false 0 0 [] 0 0) = false ∧ Instr.wf (.dramRequest 0 false 60 8 [] 0 0) = false ∧
    Instr.wf (.dramRequest 0 true 0 2 [1#8] 0 0) = false ∧ Instr.wf (.dramRequest 0 true 0 1 [1#8] 0 0) = true := by decide +kernel
theorem wf_alloc : Instr.wf (.alloc 0 .disabled 1 0 none none) = false := by decide
theorem wf_dmaBeat : Instr.wf (.dmaFill 0 0 (some (2 ^ 32, 0))) = false := by decide +kernel
theorem wf_mctp : Instr.wf (.mctpMessage true 0 false 0 (List.replicate 1025 0#32) true) = false := by decide +kernel
theorem wf_source : Instr.wf (.faultRaise [{ src := 4096 }]) = false := by decide
theorem wf_page : Instr.wf (.pageLock 4096) = false ∧ Instr.wf (.pageLock 65600) = false ∧ Instr.wf (.pageLock 65599) = true := by decide
theorem wf_temperature : Instr.wf (.thermalSample 0 [1, 2, 3]) = false ∧ Instr.wf (.thermalSample 0 [1, 2, 3, 4, 5, 6, 7, 126]) = false := by
  decide
theorem wf_part : Instr.wf (.powerOn { lcBurnt := 8 }) = false ∧
    Instr.wf (.startUp 0 (List.replicate 17 {}) []) = false := by decide +kernel
/-- Nothing is decoded from table bits: the table gives none. -/
theorem test_decode_none : decodeTableWord 32 0 = none ∧ up.withFetchWord 32 0 = up := by decide +kernel
/-- R530's counts, out of the ball map of R531 to R535. -/
theorem test_ballCounts : (List.range 10).map ballCount = [1366, 480, 416, 300, 16, 8, 2336, 192, 32, 38] := by decide +kernel

end Sys2Proof.Tests
end

section
/-! The order of the admission checks (R42). The checks on the context, the quotas and the format, the placement, the DRAM and
egress budgets come first, each with its status; what follows them is reservation (R43) and content protection (R298). -/

namespace Sys2Proof.Machine

/-- The session as admission goes on with it once its level and reference slots are chosen (R74). -/
def withLevel (x0 : Session) (lvl slots : Nat) : Session :=
  { x0 with fmt := { x0.fmt with level := lvl, refSlots := slots, longMax := min x0.fmt.longMax (slots - 1) } }

/-- What admission adds to the device's DRAM demand for the session on the core (R43). -/
def placedDemand (s : State) (x : Session) (c : Nat) : Nat :=
  demandOf x.kind x.width x.height x.rateNum x.rateDen (x.fmt.rowStream && ringFits s x c)

/-- The end of an admission, `s2` being the state with everything reserved: a protected session passes the checks of R298. -/
def admitProtected (x : Session) (imp pol : Bool) (sid : Nat) (s s2 : State) : Nat ⊕ (Nat × State) :=
  if !x.protected' then .inr (sid, s2)
  else if !protectUp s then .inl stNotPermitted
  else if !imp && !pol then .inl stAuthFail
  else if !svnOk s x.pol then .inl stAuthFail
  else
    match ingestStream s x.hs with
    | none => if imp then .inr (sid, s2) else .inl stAuthFail
    | some cert => .inr (sid, sessMod sid (fun x => { x with keys := { x.keys with certHash := cert } }) s2)

/-- Admission of a session with its level chosen, on the core it is placed on: the checks of R42 from the DRAM budget on. -/
def admitPlaced (x : Session) (imp pol : Bool) (c : Nat) (s : State) : Nat ⊕ (Nat × State) :=
  let sid := lowFree s.sess 0
  if dramDemand s + placedDemand s x c > dramLimit s then .inl stDramBudget
  else if x.kind ≠ .decode ∧ !egressOk s sid x.egress x.nw.wirePeak then .inl stEgressBudget
  else
    match reserveAll sid c (bindTo sid c .bound (sessMod sid (fun _ => { x with gid := cdidOf s * 4096 + sid }) s)) with
    | none => .inl stNoMemory
    | some s2 => admitProtected x imp pol sid s s2

section
variable {x0 x : Session} {imp pol : Bool} {s : State} {lvl slots c : Nat}

/-! ### The first three checks and the placement -/

theorem admission_of_noContext (hsid : 4096 ≤ lowFree s.sess 0) : admission x0 imp pol s = .inl stNoContext := by
  simp [admission, hsid]

theorem admission_of_overQuota (hsid : lowFree s.sess 0 < 4096) (hq : quotaOk s x0.owner x0.load = false) :
    admission x0 imp pol s = .inl stVfQuota := by
  simp [admission, Nat.not_le.mpr hsid, hq]

theorem admission_of_badFormat (hsid : lowFree s.sess 0 < 4096) (hq : quotaOk s x0.owner x0.load = true)
    (hf : formatOk x0 = none) : admission x0 imp pol s = .inl stFormatLimit := by
  simp [admission, Nat.not_le.mpr hsid, hq, hf]

theorem admission_of_unplaced (hsid : lowFree s.sess 0 < 4096) (hq : quotaOk s x0.owner x0.load = true)
    (hf : formatOk x0 = some (lvl, slots)) (hp : place s x0.kind x0.load x0.lc = none) :
    admission x0 imp pol s = .inl stNoCapacity := by
  simp [admission, Nat.not_le.mpr hsid, hq, hf, hp]

theorem admission_of_placed (hsid : lowFree s.sess 0 < 4096) (hq : quotaOk s x0.owner x0.load = true)
    (hf : formatOk x0 = some (lvl, slots)) (hp : place s x0.kind x0.load x0.lc = some c) :
    admission x0 imp pol s = admitPlaced (withLevel x0 lvl slots) imp pol c s := by
  simp only [admission, ge_iff_le, Nat.not_le.mpr hsid, hq, hf, hp, if_false, Bool.not_true, Bool.false_eq_true]
  rfl

/-! ### The checks once a core is found -/

theorem admitPlaced_of_overDram (h : dramLimit s < dramDemand s + placedDemand s x c) :
    admitPlaced x imp pol c s = .inl stDramBudget :=
  if_pos h

theorem admitPlaced_of_overEgress (hd : dramDemand s + placedDemand s x c ≤ dramLimit s) (hk : x.kind ≠ .decode)
    (he : egressOk s (lowFree s.sess 0) x.egress x.nw.wirePeak = false) :
    admitPlaced x imp pol c s = .inl stEgressBudget :=
  (if_neg (Nat.not_lt.mpr hd)).trans (if_pos ⟨hk, by rw [he]; rfl⟩)

/-- A protected session passes only where content protection is usable and the running SVNs meet its policy. -/
theorem admitProtected_success {sid r : Nat} {s2 t : State} (h : admitProtected x imp pol sid s s2 = .inr (r, t)) :
    r = sid ∧ (x.protected' = true → protectUp s = true ∧ svnOk s x.pol = true) := by
  cases hprot : x.protected' with
  | false =>
    simp only [admitProtected, hprot, Bool.not_false, if_true, Sum.inr.injEq, Prod.mk.injEq] at h
    exact ⟨h.1.symm, fun hne => nomatch hne⟩
  | true =>
    simp only [admitProtected, hprot, Bool.not_true, Bool.false_eq_true, if_false] at h
    split at h
    case isTrue => cases h
    case isFalse hup =>
      split at h
      case isTrue => cases h
      case isFalse =>
        split at h
        case isTrue => cases h
        case isFalse hsvn =>
          rw [Bool.not_eq_true', Bool.not_eq_false] at hup hsvn
          refine ⟨?_, fun _ => ⟨hup, hsvn⟩⟩
          split at h
          case h_1 =>
            split at h
            case isTrue => cases h; rfl
            case isFalse => cases h
          case h_2 => cases h; rfl

/-- A session is admitted only at the lowest free SID, within both budgets and past the checks of R298. -/
theorem admitPlaced_success {r : Nat} {t : State} (h : admitPlaced x imp pol c s = .inr (r, t)) :
    r = lowFree s.sess 0 ∧ dramDemand s + placedDemand s x c ≤ dramLimit s ∧
      (x.kind = .decode ∨ egressOk s (lowFree s.sess 0) x.egress x.nw.wirePeak = true) ∧
      (x.protected' = true → protectUp s = true ∧ svnOk s x.pol = true) := by
  simp only [admitPlaced] at h
  split at h
  case isTrue => cases h
  case isFalse hd =>
    split at h
    case isTrue => cases h
    case isFalse he =>
      split at h
      case h_1 => cases h
      case h_2 =>
        obtain ⟨hr, hprot⟩ := admitProtected_success h
        have hegress : x.kind = .decode ∨ egressOk s (lowFree s.sess 0) x.egress x.nw.wirePeak = true := by
          simpa only [ne_eq, Bool.not_eq_true', Decidable.not_and_iff_not_or_not, Decidable.not_not, Bool.not_eq_false] using he
        exact ⟨hr, Nat.not_lt.mp hd, hegress, hprot⟩

end

/-- Settles O20: the first four checks answer in `admission` itself, the budgets and what follows in `admitPlaced`. -/
theorem admissionChecksInOrder : Obligations.AdmissionChecksInOrder := by
  intro x0 imp pol s
  refine ⟨admission_of_noContext, admission_of_overQuota, admission_of_badFormat, fun lvl slots hsid hq hf =>
    ⟨admission_of_unplaced hsid hq hf, fun c hp => ?_⟩⟩
  rw [admission_of_placed hsid hq hf hp]
  refine ⟨?_, ?_, fun r t h => ?_⟩
  · exact admitPlaced_of_overDram (x := withLevel x0 lvl slots)
  · exact admitPlaced_of_overEgress (x := withLevel x0 lvl slots)
  · have hadmitted := admitPlaced_success h
    exact hadmitted

end Sys2Proof.Machine
end

section
/-! Session work: the step that runs the queue's front command, the end of quiescence (R36, R66), the import whose notify pair
is being deleted (R69), the session timers, and row work on its way through a core (R50 to R59, R88 to R91). -/

namespace Sys2Proof.Machine

section
variable {s : State}

/-! ### The front of the queue -/

theorem step_of_pending {c : Instr} {l : List Instr} (h : s.pending = c :: l) : step s = exec c { s with pending := l } := by
  unfold step
  rw [h]

/-! ### Quiescence (R36, R66) -/

variable {sid slot : Nat}

/-- A started picture keeps a QUIESCING session as it is. -/
theorem settle_of_began (hst : (sessOf s sid).st = .quiescing) (hb : (sessOf s sid).pics.any (·.began) = true) :
    settle sid s = s := by
  simp only [settle, hst, hb, true_or, if_true]

/-- With no picture started or waiting for its completion, a QUIESCING session acts on its pending command. -/
theorem settle_of_quiet (hst : (sessOf s sid).st = .quiescing) (hb : (sessOf s sid).pics.any (·.began) = false)
    (he : (sessOf s sid).pics.any (fun p => p.st == .ended) = false) :
    ((sessOf s sid).pend = .quiesce → ∀ slot, (sessOf s sid).pendSlot = some slot →
      settle sid s = complete slot stOk { sid := some sid }
        (sessMod sid (fun x => { x with st := .quiesced, pend := .none, pendSlot := none }) s)) ∧
    ((sessOf s sid).pend = .exporting → settle sid s = startSeal sid s) := by
  refine ⟨fun hp slot hslot => ?_, fun hp => ?_⟩
  · simp only [settle, hst, hb, he, hp, hslot, Bool.false_eq_true, or_self, if_false]
  · simp only [settle, hst, hb, he, hp, Bool.false_eq_true, or_self, if_false]

theorem startSeal_of_fits (hlen : imageLen (sessOf s sid) ≤ (sessOf s sid).expLen) :
    startSeal sid s = sessMod sid (fun x => { x with st := .sealing }) s :=
  if_pos hlen

theorem startSeal_of_short (hlen : (sessOf s sid).expLen < imageLen (sessOf s sid))
    (hslot : (sessOf s sid).pendSlot = some slot) :
    startSeal sid s = complete slot stBufferShort { r0 := imageLen (sessOf s sid), sid := some sid }
      (sessMod sid (fun x => { x with st := .quiesced, pend := .none, pendSlot := none }) s) := by
  simp only [startSeal, ge_iff_le, Nat.not_le.mpr hlen, if_false, hslot]

end

/-- Settles O1. -/
theorem stepRunsFrontCommand : Obligations.StepRunsFrontCommand :=
  fun _ _ _ => step_of_pending

/-- Settles O23: a started picture holds the session; without one the pending command decides, an export by the length of its
host buffer. -/
theorem quiescenceEndsTheWait : Obligations.QuiescenceEndsTheWait := by
  intro sid s hst
  refine ⟨settle_of_began hst, fun hb he slot hslot => ?_⟩
  obtain ⟨hquiesce, hexport⟩ := settle_of_quiet hst hb he
  exact ⟨fun hp => hquiesce hp slot hslot, fun hp hlen => (hexport hp).trans (startSeal_of_fits hlen),
    fun hp hlen => (hexport hp).trans (startSeal_of_short hlen hslot)⟩

/-! ### SESSION_IMPORT into a pair that is being deleted -/

theorem holdsPair_of_deleting {s : State} {fn qid d : Nat} {q : QPair} (hq : tfind s.qps (qkey fn qid) = some q)
    (hd : q.deleting = some d) : holdsPair s fn qid = false := by
  simp [holdsPair, hq, hd]

/-- A good image whose notify pair is being deleted completes with ST_INVALID_FIELD: the pair is no longer held. -/
theorem sessionImport_of_pairDeleting {s : State} {slot d : Nat} {c : Slot} {m : SealedImage} {q : QPair}
    (h : accepts s slot 0x16 c = true) (hmagic : m.magicOk = true) (hlen : m.lengthOk = true) (htag : m.tagOk = true)
    (hcl : clusterId s = some (m.cluster, m.generation))
    (hq : tfind s.qps (qkey c.fn (importContext m.ctx c.fn).notifyQid) = some q) (hd : q.deleting = some d) :
    exec (.sessionImport slot (some m)) s = .next (finish slot stInvalidField s) := by
  change execSessionImport slot (some m) s = _
  rw [execSessionImport, runCmd_any _ h]
  simp [hmagic, hlen, htag, hcl, holdsPair_of_deleting hq hd]

/-- The PF's import of an image in slot 0, fetched from its I/O pair 1, while its I/O pair 2 is being deleted. -/
def importWhileDeleting : State :=
  { slots := [(0, { qid := 1, entry := 0x16#512 })]
    qps := [(1, {}), (2, { deleting := some 3 })]
    mcs := [(0, { st := .active, populated := true, density := 1, inService := true })]
    bpm := { pools := [(2, { ty := .frame, size := 2 ^ 24, count := 32 })], mcs := [0] }
    sec := { cluster := some (9, 2, 5, 1, 1) } }

/-- An image of a 640×360 decode session, sealed by that device's cluster, whose notify pair is the pair being deleted. -/
def imageOfDeletedPair : SealedImage :=
  { cluster := 9, generation := 2
    ctx := { kind := .decode, width := 640, height := 360, rateNum := 30, rateDen := 1, lc := 2, load := 4, notifyQid := 2 } }

/-- What the import admits: the session of the image, for the PF. -/
def importOfDeletedPair : Nat ⊕ (Nat × State) :=
  admission (importContext imageOfDeletedPair.ctx 0) true true importWhileDeleting

theorem importOfDeletedPair_isRight : importOfDeletedPair.isRight = true := by decide +kernel

/-- The SID and the state with the session bound. -/
def deletedPairBound : Nat × State := importOfDeletedPair.getRight importOfDeletedPair_isRight

theorem deletedPairSlots_isSome :
    (importSlots deletedPairBound.1 imageOfDeletedPair.recs deletedPairBound.2).isSome = true := by decide +kernel

/-- That state with the slots of the image drawn. -/
def deletedPairImported : State := Option.get _ deletedPairSlots_isSome

/-- Completed as an import that opened the session, the state would hold a session; refused, it holds none. -/
theorem deletedPair_refused_ne_imported :
    (finish 0 stInvalidField importWhileDeleting).sess ≠
      (complete 0 stOk (openRes deletedPairBound.1 (secAdmit deletedPairBound.1 deletedPairImported))
        (secAdmit deletedPairBound.1 deletedPairImported)).sess := by decide +kernel

/-- Refutes O21: the clause on SESSION_IMPORT asks only that the notify pair exists, and an import of a good image whose pair a
DELETE_QP is deleting completes with ST_INVALID_FIELD and binds no session. -/
theorem not_sessionsOpenAndImport : ¬ Obligations.SessionsOpenAndImport := by
  rintro ⟨-, -, himport, -⟩
  have haccepts : accepts importWhileDeleting 0 0x16 { qid := 1, entry := 0x16#512 } = true := by decide +kernel
  have hrefused : exec (.sessionImport 0 (some imageOfDeletedPair)) importWhileDeleting =
      .next (finish 0 stInvalidField importWhileDeleting) :=
    sessionImport_of_pairDeleting haccepts rfl rfl rfl rfl (q := { deleting := some 3 }) rfl rfl
  have himported := himport 0 imageOfDeletedPair importWhileDeleting _ _ _ _ haccepts rfl rfl rfl rfl rfl rfl
    (Sum.inr_getRight _ importOfDeletedPair_isRight).symm (Option.some_get deletedPairSlots_isSome).symm
  exact deletedPair_refused_ne_imported (congrArg State.sess (next_inj (hrefused.symm.trans himported)))

/-! ### Session timers -/

section
variable {s : State} {sid : Fin 4096} {t : Nat}

theorem exec_rateDemotionEnd (hd : (sessOf s sid).demoted = true)
    (hrate : windowPixels (sessOf s sid) s.now * (sessOf s sid).rateDen ≤
      (sessOf s sid).width * (sessOf s sid).height * (sessOf s sid).rateNum) :
    exec (.rateDemotionEnd sid) s = .next (sessMod sid (fun x => { x with
      demoted := false, measRate := ceilDiv (windowPixels (sessOf s sid) s.now) 1000000 }) s) := by
  change execRateDemotionEnd sid s = _
  simp only [execRateDemotionEnd, hd, hrate, decide_true, Bool.and_self, if_true]

theorem exec_holdoffEnd (hend : (sessOf s sid).loop.holdEnd = some t) (ht : t ≤ devNs s) :
    exec (.holdoffEnd sid) s = .next (sessMod sid (fun x => { x with
      fb := x.fb.map (fun f => { f with hold := f.hold && !f.kind.isFir }) }) s) := by
  change execHoldoffEnd sid s = _
  simp only [execHoldoffEnd, hend, Nat.not_lt.mpr ht, if_false]

/-- Silence counts from the later of the first packet on the wire and the last report. -/
theorem silenceFrom_of_firstRtp {x : Session} (last : Option Nat) (h : x.tr.firstRtp = some t) :
    silenceFrom x last = some (max t (last.getD 0)) := by
  rw [silenceFrom, h, Option.map_some]

theorem exec_ccfbSilence (hrtp : (sessOf s sid).tr.firstRtp = some t)
    (ht : max t ((sessOf s sid).loop.lastCcfb.getD 0) + 500000000 ≤ devNs s) :
    exec (.ccfbSilence sid) s = .next (sessMod sid (fun x => { x with loop := { x.loop with ccfbSilent := true } }) s) := by
  change execCcfbSilence sid s = _
  simp only [execCcfbSilence, silenceFrom_of_firstRtp _ hrtp, Nat.not_lt.mpr ht, if_false]

/-- The first silence of RTCP halves the rate and reports the loss of feedback. -/
theorem exec_rtcpSilence_first (hrtp : (sessOf s sid).tr.firstRtp = some t) (hfirst : (sessOf s sid).loop.rtcpSilent = false)
    (ht : max t ((sessOf s sid).loop.lastRtcp.getD 0) + 1000000000 ≤ devNs s) :
    exec (.rtcpSilence sid) s = .next (evtSess sid 0x0015 3 0 0 0 0 0 (sessMod sid (fun x => { x with
      loop := { x.loop with
        rtcpSilent := true, lastHalve := some (max t ((sessOf s sid).loop.lastRtcp.getD 0) + 1000000000)
        lastDec := some (devNs s)
        rnet := if x.rcNow.narHold then x.loop.rnet else max x.rcNow.rcFloor ((x.loop.rnet + 1) / 2) } }) s)) := by
  change execRtcpSilence sid s = _
  simp only [execRtcpSilence, silenceFrom_of_firstRtp _ hrtp, hfirst, Bool.false_eq_true, Nat.not_lt.mpr ht, if_false]

theorem exec_oldKeyLapse (hkey : (sessOf s sid).tr.oldKeyUntil = some (some t)) (ht : t ≤ devNs s) :
    exec (.oldKeyLapse sid) s = .next (sessMod sid (fun x => { x with
      tr := { x.tr with oldKeyUntil := none }, keys := { x.keys with oldRecv := none } }) s) := by
  change execOldKeyLapse sid s = _
  simp only [execOldKeyLapse, hkey, Nat.not_lt.mpr ht, if_false]

end

/-- Settles O27: each timer that has run out changes the session's record alone. -/
theorem sessionTimersAct : Obligations.SessionTimersAct :=
  ⟨fun _ _ => exec_rateDemotionEnd, fun _ _ _ => exec_holdoffEnd, fun _ _ _ => exec_ccfbSilence,
    fun _ _ _ => exec_rtcpSilence_first, fun _ _ _ => exec_oldKeyLapse⟩

/-! ### Row work -/

section
variable {s : State}

theorem exec_jobPacketWrite_open {sid : Fin 4096} {low : Bool} {k : Nat} (hup : engineUp s = true) (hk : k ≠ 0)
    (ho : packetOpen s sid low = true) :
    exec (.jobPacketWrite sid low k) s = .next (packetGo sid (sessOf s sid).peloton k low s) := by
  change execJobPacketWrite sid low k s = _
  simp only [execJobPacketWrite, hup, hk, ho, Bool.not_true, Bool.false_eq_true, or_self, if_false, if_true]

theorem exec_jobPacketWrite_begins {sid : Fin 4096} {low : Bool} {k : Nat} (hup : engineUp s = true) (hk : k ≠ 0)
    (ho : packetOpen s sid low = false) :
    exec (.jobPacketWrite sid low k) s = .next (packetBegin sid k low s) := by
  change execJobPacketWrite sid low k s = _
  simp only [execJobPacketWrite, hup, hk, ho, Bool.not_true, Bool.false_eq_true, or_self, if_false]

section
variable {c : Fin 64} (hc : coreTakes s c = true) (hf : isFatal s = false)
include hc hf

/-- A dispatch that picks a packet: the row goes to the core, also where a corrected error is counted; an uncorrectable one
sends the packet and those discarded with it to the tail of the queue (R59). -/
theorem exec_rowDispatch_picked {k : Pkt} {i : Nat}
    (hp : pickPacket (candidates (promoteAged (c.val / 8) s) c) = some (k, i)) :
    exec (.rowDispatch c none) s = .next (giveRow c k i (promoteAged (c.val / 8) s)) ∧
    exec (.rowDispatch c (some 0)) s = .next (raise 0x10 (c.val / 8)
      (rcnt (aPel (c.val / 8) 0xA4) 0 32 1 (giveRow c k i (promoteAged (c.val / 8) s)))) ∧
    ∀ n, exec (.rowDispatch c (some (n + 1))) s = .next (raise 0x11 (c.val / 8) (rcnt (aPel (c.val / 8) 0xA8) 0 32 1
      (pelMod (c.val / 8) (fun e => e.rewrite (e.lost k n)) (promoteAged (c.val / 8) s)))) := by
  have hrow (ecc : Option Nat) : exec (.rowDispatch c ecc) s = execRowDispatch c ecc s := rfl
  refine ⟨?_, ?_, fun n => ?_⟩ <;>
    simp only [hrow, execRowDispatch, hc, hf, hp, Bool.not_true, Bool.false_eq_true, or_self, if_false]

/-- A core without work that waits for a packet begun for it counts an underrun (R57). -/
theorem exec_rowDispatch_underrun {ecc : Option Nat} (hp : pickPacket (candidates (promoteAged (c.val / 8) s) c) = none)
    (hu : (coreOf (promoteAged (c.val / 8) s) c).underrun = false)
    (hr : (coreOf (promoteAged (c.val / 8) s) c).rows.any (·.slot.isSome) = false)
    (hq : (pelOf (promoteAged (c.val / 8) s) (c.val / 8)).queue.any
      (fun q => decide (q.core = c.val) && decide (q.written < q.words.length)) = true) :
    exec (.rowDispatch c ecc) s = .next (rcnt (aPel (c.val / 8) 0x9C) 0 32 1
      (coreMod c (fun r => { r with underrun := true }) (promoteAged (c.val / 8) s))) := by
  change execRowDispatch c ecc s = _
  simp only [execRowDispatch, hc, hf, Bool.not_true, Bool.false_eq_true, or_self, if_false, hp, hu, hr, hq]

end

theorem exec_agePromotion (p : Fin 8) (s : State) : exec (.agePromotion p) s = .next (promoteAged p s) := rfl

theorem exec_blockStageDone_leaves {c : Fin 64} {st : Fin 7} {o : BlockOut} {r : CoreRow} {j : Nat}
    (hcore : polOpen s c = true) (hpel : polOpen s (64 + c.val / 8) = true) (hf : isFatal s = false)
    (hfront : (coreOf s c).front (st.val + 1) = some (r, j))
    (hroom : (coreOf s c).roomAfter (st.val + 1) (decide (c.val % 2 = 1) && decide ((pairOf s (c.val / 2)).st = .joined))
      (decide (j + 1 = r.blocks)) = true)
    (hwait : stageWaits s (coreOf s c) r j (st.val + 1) = false) (hstall : (tget {} (coreOf s c).ctx (st.val + 1)).stalled = false)
    (hfence : (coreOf s c).fenced.contains (r.sid, st.val + 1) = false) (hcontent : contentOk s r j (st.val + 1) o = true) :
    exec (.blockStageDone c st o) s =
      .next (passBlock c r j (st.val + 1) (blockData c r j (st.val + 1) o (blockEffect r j (st.val + 1) o s))) := by
  change execBlockStageDone c st o s = _
  simp only [execBlockStageDone, hcore, hpel, hf, hfront, hroom, hwait, hstall, hfence, hcontent, Bool.not_true,
    Bool.false_eq_true, or_self, if_false]

end

/-- Settles O32: each of the four commands by its equation; a dispatch by whether a packet is picked and by the error of its
read. -/
theorem rowWorkMovesThroughTheCore : Obligations.RowWorkMovesThroughTheCore :=
  ⟨fun _ _ _ _ hup hk => ⟨exec_jobPacketWrite_open hup hk, exec_jobPacketWrite_begins hup hk⟩,
    fun _ _ hc hf => ⟨fun _ _ => exec_rowDispatch_picked hc hf, fun _ => exec_rowDispatch_underrun hc hf⟩,
    exec_agePromotion, fun _ _ _ _ _ _ => exec_blockStageDone_leaves⟩

end Sys2Proof.Machine
end

section
/-! The ingest window: the row doorbell (R80, R85), and where a BAR2 write goes (R78, R79, R82, R214, R318). -/

namespace Sys2Proof.Machine

/-! ### The row doorbell (R80, R85) -/

section
variable {sid port pic lines : Nat} {s : State}

/-- R85: what makes a doorbell one that is ignored. -/
def breaksDoorbellRule (x : Session) (pic lines : Nat) : Prop :=
  pic ≠ x.ing.writePic % 2 ^ 16 ∨ (x.ing.dbAny = true ∧ lines < x.ing.dbLines) ∨ x.height < lines ∨
    (lines % 8 ≠ 0 ∧ lines ≠ x.height)

/-- The ingest side after an ignored doorbell. -/
def Ingest.doorbellRefused (g : Ingest) : Ingest := { g with dbErr := true, dbEvt := some g.writePic }

/-- The ingest side after an accepted doorbell of a picture of `height` lines: the final one moves the write picture on. -/
def Ingest.doorbellTaken (g : Ingest) (port height lines : Nat) : Ingest :=
  (if lines = height then { g with
      writePic := g.writePic + 1, dbLines := 0, dbAny := false, accLines := 0, wrote := []
      mixed := g.mixed ++ g.announce port lines }
    else { g with
      dbLines := lines, dbAny := true, mixed := g.mixed ++ g.announce port lines
      wrote := g.wrote.filter (fun w => decide (8 * w.1 ≥ lines)) } : Ingest).advance

theorem not_breaksDoorbellRule {x : Session} (hpic : pic = x.ing.writePic % 2 ^ 16) (hback : x.ing.dbLines ≤ lines)
    (hpast : lines ≤ x.height) (hgroup : lines % 8 = 0 ∨ lines = x.height) : ¬ breaksDoorbellRule x pic lines := by
  rintro (h | ⟨-, h⟩ | h | ⟨hmod, hend⟩)
  · exact h hpic
  · exact absurd h (Nat.not_lt.mpr hback)
  · exact absurd h (Nat.not_lt.mpr hpast)
  · exact hgroup.elim hmod hend

theorem dbReject_of_reported (h : (sessOf s sid).ing.dbEvt = some (sessOf s sid).ing.writePic) :
    dbReject sid lines s = sessMod sid (fun x => { x with ing := x.ing.doorbellRefused }) s :=
  if_pos h

theorem dbReject_of_unreported (h : (sessOf s sid).ing.dbEvt ≠ some (sessOf s sid).ing.writePic) :
    dbReject sid lines s = evtSess sid 0x0014 2 ((sessOf s sid).ing.writePic % 2 ^ 32 + lines % 2 ^ 16 * 2 ^ 32) 0 0 0 0
      (sessMod sid (fun x => { x with ing := x.ing.doorbellRefused }) s) :=
  if_neg h

section
variable (hrow : (sessOf s sid).fmt.rowStream = true) (hopen : polOpen s 94 = true)
include hrow hopen

theorem srcDoorbell_of_breach (hbad : breaksDoorbellRule (sessOf s sid) pic lines) :
    srcDoorbell sid port pic lines s = dbReject sid lines s := by
  simp only [srcDoorbell, hrow, hopen, Bool.not_true, Bool.false_eq_true, or_self, if_false]
  exact if_pos hbad

/-- An accepted doorbell of a picture already started submits no picture: it changes the ingest side alone. -/
theorem srcDoorbell_of_started (hok : ¬ breaksDoorbellRule (sessOf s sid) pic lines)
    (hany : (sessOf s sid).ing.dbAny = true) :
    srcDoorbell sid port pic lines s =
      noteReady sid (sessMod sid (fun x => { x with ing := x.ing.doorbellTaken port x.height lines }) s) := by
  simp only [srcDoorbell, hrow, hopen, Bool.not_true, Bool.false_eq_true, or_self, if_false]
  refine (if_neg hok).trans ?_
  simp only [hany, if_true]
  rfl

end
end

/-- Settles O30: a doorbell that breaks R85 goes to `dbReject`, whose event depends on the picture last reported; any other one
of a started picture changes the ingest side alone. -/
theorem rowDoorbellRule : Obligations.RowDoorbellRule := by
  intro sid port pic lines s x g hrow hopen
  refine ⟨fun hbad => ?_, fun hpic hany hback hpast hgroup => ?_⟩
  · have hreject : srcDoorbell sid port pic lines s = dbReject sid lines s := srcDoorbell_of_breach hrow hopen hbad
    exact ⟨fun h => hreject.trans (dbReject_of_reported h), fun h => hreject.trans (dbReject_of_unreported h)⟩
  · exact srcDoorbell_of_started hrow hopen (not_breaksDoorbellRule hpic hback hpast hgroup) hany

/-! ### Where a BAR2 write goes (R214, R318) -/

section
variable {req : Req} {p addr : Nat} {ide : Option Nat} {data : List Byte} {s : State}
  (hreq : reqPort req = some p) (hport : polOpen s (88 + p) = true) (hfatal : isFatal s = false) (hready : s.boot.ready = true)
include hreq hport hfatal hready

theorem bar2Write_outside (hwin : windowOf s addr = none) : bar2Write req ide addr data s = rcnt 0x100A0 0 32 1 s := by
  simp only [bar2Write, hreq, hport, hfatal, hready, hwin, Bool.not_true, Bool.false_eq_true, or_self, if_false]

variable {sid : Nat} {x : Session} (hwin : windowOf s addr = some (sid, x))
include hwin

theorem bar2Write_untaken (htakes : windowTakes s x p ide = false) :
    bar2Write req ide addr data s = pgBlock ⟨.sec, 0⟩ (rcnt 0x6098 0 32 1 s) := by
  simp only [bar2Write, hreq, hport, hfatal, hready, hwin, htakes, Bool.not_true, Bool.not_false, Bool.false_eq_true, or_self,
    if_false, if_true]

/-- A write that the window takes counts its bytes on the port and goes on into the window. -/
theorem bar2Write_taken (htakes : windowTakes s x p ide = true) (hexp : x.st ≠ .exported) (hclose : x.st ≠ .closing) :
    bar2Write req ide addr data s =
      windowWrite sid p (addr - x.ing.winBase * 2 ^ 21) data (rcnt (0x900A0 + 0x1000 * p) 0 64 data.length s) := by
  simp only [bar2Write, hreq, hport, hfatal, hready, hwin, htakes, hexp, hclose, Bool.not_true, Bool.false_eq_true, or_self,
    if_false]

end

/-! ### Inside a window (R78, R79, R82) -/

section
variable {sid port off : Nat} {data : List Byte} {s : State}

/-- A frame-mode write below the control page goes to a half. -/
theorem windowWrite_frame (hcopy : (sessOf s sid).ing.copying = none) (hoff : off < (sessOf s sid).ctlOff)
    (hframe : (sessOf s sid).fmt.rowStream = false) : windowWrite sid port off data s = halfWrite sid off data s := by
  simp only [windowWrite, hcopy, hframe, ge_iff_le, Nat.not_le.mpr hoff, Option.isSome_none, Bool.false_eq_true, if_false]

theorem windowWrite_control (hcopy : (sessOf s sid).ing.copying = none) (hoff : (sessOf s sid).ctlOff ≤ off)
    (halign : off % 4 = 0) (hlen : data.length = 4) :
    windowWrite sid port off data s = ctlWrites sid port (off - (sessOf s sid).ctlOff) (wordsOf data) s := by
  simp only [windowWrite, hcopy, ge_iff_le, hoff, halign, hlen, true_or, and_self, Option.isSome_none, Bool.false_eq_true,
    if_false, if_true]

/-- A half that a submitted picture holds takes no byte. -/
theorem halfWrite_held (hhalf : off / max 1 (sessOf s sid).picBytes = 0) (hheld : (sessOf s sid).ing.half0Busy = true) :
    halfWrite sid off data s = sessMod sid (fun x => { x with ing := { x.ing with wrBusy := true } }) s := by
  simp only [halfWrite, hhalf, hheld, if_true]

theorem halfWrite_stores (hhalf : off / max 1 (sessOf s sid).picBytes = 0) (hfree : (sessOf s sid).ing.half0Busy = false)
    (hbuf : (sessOf s sid).ing.srcBuf0 ≠ 0) (huse : mcUsable s (bufMc s (hKey (sessOf s sid).ing.srcBuf0)) = true) :
    halfWrite sid off data s =
      bufWrite (hKey (sessOf s sid).ing.srcBuf0) (off % max 1 (sessOf s sid).picBytes) data s := by
  simp only [halfWrite, hhalf, hfree, hbuf, huse, Bool.not_true, Bool.false_eq_true, or_self, if_false, if_true]

end

/-! ### The doorbell register (R79) -/

@[simp] theorem length_leBytes (v : Nat) : (leBytes v).length = 4 := rfl

theorem wordsOf_leBytes {v : Nat} (hv : v < 2 ^ 32) : wordsOf (leBytes v) = [v] := by
  have hbytes : leBytes v = [BitVec.ofNat 8 (bitsOf v 0 8), BitVec.ofNat 8 (bitsOf v 8 8), BitVec.ofNat 8 (bitsOf v 16 8),
    BitVec.ofNat 8 (bitsOf v 24 8)] := rfl
  simp only [hbytes, wordsOf, bitsOf, BitVec.toNat_ofNat, List.cons.injEq, and_true]
  omega

/-- A word written at the start of the control page is a row doorbell: picture above, lines below. -/
theorem ctlWrites_doorbell (sid port : Nat) (pic lines : W16) (s : State) :
    ctlWrites sid port 0 (wordsOf (leBytes (pic.toNat * 2 ^ 16 + lines.toNat))) s =
      srcDoorbell sid port pic.toNat lines.toNat s := by
  have hpic := pic.isLt
  have hlines := lines.isLt
  have hhigh : bitsOf (pic.toNat * 2 ^ 16 + lines.toNat) 16 16 = pic.toNat := by unfold bitsOf; omega
  have hlow : bitsOf (pic.toNat * 2 ^ 16 + lines.toNat) 0 16 = lines.toNat := by unfold bitsOf; omega
  rw [wordsOf_leBytes (by omega)]
  simp only [ctlWrites, ctlWrite, hhigh, hlow, if_true]

theorem windowWrite_doorbell {sid : Nat} {s : State} (port : Nat) (pic lines : W16)
    (hcopy : (sessOf s sid).ing.copying = none) (halign : (sessOf s sid).ctlOff % 8 = 0) :
    windowWrite sid port (sessOf s sid).ctlOff (leBytes (pic.toNat * 2 ^ 16 + lines.toNat)) s =
      srcDoorbell sid port pic.toNat lines.toNat s := by
  rw [windowWrite_control hcopy (Nat.le_refl _) (by omega) (length_leBytes _), Nat.sub_self, ctlWrites_doorbell]

/-- Settles O29: a write is outside every window, not taken, or goes to a half; a doorbell write goes to the control page. -/
theorem ingestWritesReachTheirWindow : Obligations.IngestWritesReachTheirWindow := by
  refine ⟨fun req p ide addr data s hreq hport hfatal hready => ⟨fun hwin => ?_, fun sid x hwin htakes => ?_, ?_⟩, ?_⟩
  · exact congrArg _ (bar2Write_outside hreq hport hfatal hready hwin)
  · exact congrArg _ (bar2Write_untaken hreq hport hfatal hready hwin htakes)
  · intro sid x hwin htakes hexp hclose hx hcopy hframe off b t hoff
    subst hx
    have hwrite : exec (.ingestWrite req ide addr data) s = .next (halfWrite sid off data t) := congrArg _ <|
      (bar2Write_taken hreq hport hfatal hready hwin htakes hexp hclose).trans (windowWrite_frame hcopy hoff hframe)
    refine ⟨fun hhalf hfree hbuf huse => ?_, fun hhalf hheld => ?_⟩
    · exact hwrite.trans (congrArg _ (halfWrite_stores hhalf hfree hbuf huse))
    · exact hwrite.trans (congrArg _ (halfWrite_held hhalf hheld))
  · intro req p ide sid pic lines s hreq hport hfatal hready x hlen hwin htakes hfree hexp hclose hcopy halign
    have hexec : exec (.srcDb req ide sid pic lines) s = .next (bar2Write req ide (x.ing.winBase * 2 ^ 21 + x.ctlOff)
        (leBytes (pic.toNat * 2 ^ 16 + lines.toNat)) s) := congrArg _ (if_neg (not_or.mpr ⟨hfree, hlen⟩))
    rw [hexec, bar2Write_taken hreq hport hfatal hready hwin htakes hexp hclose, Nat.add_sub_cancel_left]
    exact congrArg _ (windowWrite_doorbell p pic lines hcopy halign)

end Sys2Proof.Machine
end

section
/-! The packed reference format read back (R162, R165, R166). Each reader undoes its writer whatever bits follow: a field, a
code, a block, a run of blocks. A unit in any of its three forms is one of these, cut into whole sectors. -/

namespace Sys2Proof.Machine

/-! ### Bits and bytes (R166) -/

@[simp] theorem length_lowBits (n v : Nat) : (lowBits n v).length = n := by
  induction n generalizing v with
  | zero => rfl
  | succ n ih => simp only [lowBits, List.length_cons, ih]

theorem length_flatten_lowBits (n : Nat) (vs : List Nat) : ((vs.map (lowBits n)).flatten).length = vs.length * n := by
  induction vs with
  | nil => rw [List.map_nil, List.flatten_nil, List.length_nil, List.length_nil, Nat.zero_mul]
  | cons v vs ih =>
    rw [List.map_cons, List.flatten_cons, List.length_append, length_lowBits, ih, List.length_cons, Nat.succ_mul, Nat.add_comm]

theorem bitsNat_lowBits (n v : Nat) : bitsNat (lowBits n v) = v % 2 ^ n := by
  induction n generalizing v with
  | zero => simp only [lowBits, bitsNat, Nat.pow_zero, Nat.mod_one]
  | succ n ih =>
    have hlow : b2n (v % 2 == 1) = v % 2 := by
      rcases Nat.mod_two_eq_zero_or_one v with h | h <;> rw [h] <;> rfl
    rw [lowBits, bitsNat, ih, hlow, Nat.pow_succ', Nat.mod_mul]

/-- The bits of a list's number are the list. -/
theorem lowBits_bitsNat (l : List Bool) : lowBits l.length (bitsNat l) = l := by
  induction l with
  | nil => rfl
  | cons b l ih =>
    have hhalf : (b2n b + 2 * bitsNat l) / 2 = bitsNat l := by
      have hb : b2n b < 2 := by cases b <;> decide
      omega
    have hbit : ((b2n b + 2 * bitsNat l) % 2 == 1) = b := by cases b <;> simp only [b2n, Nat.add_mul_mod_self_left] <;> rfl
    rw [List.length_cons, lowBits, bitsNat, hhalf, hbit, ih]

theorem bitsNat_lt (l : List Bool) : bitsNat l < 2 ^ l.length := by
  induction l with
  | nil => exact Nat.one_pos
  | cons b l ih =>
    rw [bitsNat, List.length_cons, Nat.pow_succ']
    have hb : b2n b ≤ 1 := by cases b <;> decide
    omega

theorem takeBits'_lowBits (n v : Nat) (r : List Bool) : takeBits' n (lowBits n v ++ r) = (v % 2 ^ n, r) := by
  rw [takeBits', List.take_left' (length_lowBits n v), List.drop_left' (length_lowBits n v), bitsNat_lowBits]

theorem bitBytes_succ (f : Nat) {l : List Bool} (hl : l ≠ []) :
    bitBytes (f + 1) l = BitVec.ofNat 8 (bitsNat (l.take 8)) :: bitBytes f (l.drop 8) := by
  cases l with
  | nil => exact absurd rfl hl
  | cons b l => rfl

section
variable {f : Nat} {l : List Bool}

/-- Bits that fill `f` bytes take `f` bytes. -/
theorem length_bitBytes (hl : l.length = 8 * f) : (bitBytes f l).length = f := by
  induction f generalizing l with
  | zero => rfl
  | succ f ih =>
    rw [bitBytes_succ f (List.ne_nil_of_length_pos (by omega)), List.length_cons, ih (by rw [List.length_drop]; omega)]

/-- Bits that fill `f` bytes are read back from them. -/
theorem byteBits_bitBytes (hl : l.length = 8 * f) : byteBits (bitBytes f l) = l := by
  induction f generalizing l with
  | zero => exact (List.eq_nil_of_length_eq_zero hl).symm
  | succ f ih =>
    have hlen : (l.take 8).length = 8 := by rw [List.length_take]; omega
    have hbyte : lowBits 8 (BitVec.ofNat 8 (bitsNat (l.take 8))).toNat = l.take 8 := by
      have hlt := bitsNat_lt (l.take 8)
      have hback := lowBits_bitsNat (l.take 8)
      rw [hlen] at hlt hback
      rw [BitVec.toNat_ofNat, Nat.mod_eq_of_lt hlt, hback]
    have hrest : byteBits (bitBytes f (l.drop 8)) = l.drop 8 := ih (by rw [List.length_drop]; omega)
    rw [bitBytes_succ f (List.ne_nil_of_length_pos (by omega)), byteBits, List.flatMap_cons, hbyte, ← byteBits, hrest,
      List.take_append_drop]

end

/-! ### The residual and its code (R166) -/

section
variable {depth m x p i : Nat} {xs : List Nat} {r : List Bool}

theorem two_pow_depth (hd : 0 < depth) : 2 ^ depth = 2 * 2 ^ (depth - 1) := by
  rw [← Nat.pow_succ', Nat.succ_eq_add_one, Nat.sub_add_cancel hd]

/-- A mapped residual has `depth` bits. -/
theorem packMap_lt (hd : 0 < depth) (x p : Nat) : packMap depth x p < 2 ^ depth := by
  have hpos := Nat.two_pow_pos (depth - 1)
  have he := Nat.mod_lt (x + 2 ^ depth - p) (Nat.two_pow_pos depth)
  have h2 := two_pow_depth hd
  unfold packMap
  dsimp only
  split <;> omega

/-- Adding the wrapped residual to the prediction gives the sample. -/
theorem pred_add_residual {M : Nat} (hx : x < M) (hp : p ≤ M) : (p + (x + M - p) % M) % M = x := by
  rw [Nat.add_mod_mod, show p + (x + M - p) = x + M by omega, Nat.add_mod_right, Nat.mod_eq_of_lt hx]

/-- The residual's map is undone at the same prediction. -/
theorem packUnmap_packMap (hx : x < 2 ^ depth) (hp : p ≤ 2 ^ depth) :
    packUnmap depth (packMap depth x p) p = x := by
  have hsum := pred_add_residual hx hp
  have he := Nat.mod_lt (x + 2 ^ depth - p) (Nat.two_pow_pos depth)
  unfold packMap packUnmap
  dsimp only
  generalize (x + 2 ^ depth - p) % 2 ^ depth = e at hsum he ⊢
  split
  · rw [if_pos (Nat.mul_mod_right 2 e), Nat.mul_div_cancel_left e Nat.two_pos, hsum]
  · rw [if_neg (by omega), show p + 2 ^ depth - (2 * (2 ^ depth - e) - 1 + 1) / 2 = p + e by omega, hsum]

theorem takeOnes_replicate {q f : Nat} (hq : q < f) (r : List Bool) :
    takeOnes f (List.replicate q true ++ false :: r) = (q, r) := by
  induction q generalizing f with
  | zero => obtain ⟨f, rfl⟩ := Nat.exists_eq_add_one.mpr hq; rfl
  | succ q ih =>
    obtain ⟨f, rfl⟩ := Nat.exists_eq_add_one.mpr (Nat.zero_lt_of_lt hq)
    simp only [List.replicate_succ, List.cons_append, takeOnes, ih (Nat.lt_of_succ_lt_succ hq), if_true]

theorem takeOnes_replicate_full (f : Nat) (r : List Bool) : takeOnes f (List.replicate f true ++ r) = (f, r) := by
  induction f with
  | zero => rfl
  | succ f ih => simp only [List.replicate_succ, List.cons_append, takeOnes, ih, if_true]

/-- A code is read back: by its quotient and low bits, or in full after 16 ones. -/
theorem riceRead_riceBits (k : Nat) (hm : m < 2 ^ depth) (r : List Bool) :
    riceRead depth k (riceBits depth k m ++ r) = (m, r) := by
  unfold riceRead riceBits
  dsimp only
  split
  next hq =>
    rw [List.append_assoc, List.cons_append, takeOnes_replicate hq]
    dsimp only
    rw [if_neg (Nat.ne_of_lt hq), takeBits'_lowBits, Nat.div_add_mod']
  next hq =>
    rw [List.append_assoc, takeOnes_replicate_full]
    dsimp only
    rw [if_pos rfl, takeBits'_lowBits, Nat.mod_eq_of_lt hm]

/-! ### A block (R166) -/

theorem getD_of_lt (h : i < xs.length) : xs.getD i 0 = xs[i] := by
  rw [List.getD_eq_getElem?_getD, List.getElem?_eq_getElem h, Option.getD_some]

theorem getD_lt {M : Nat} (hM : 0 < M) (hxs : ∀ v ∈ xs, v < M) (i : Nat) : xs.getD i 0 < M := by
  rw [List.getD_eq_getElem?_getD]
  cases h : xs[i]? with
  | none => exact hM
  | some v => exact hxs v (List.mem_of_getElem? h)

theorem packPred_le (hd : 0 < depth) (hxs : ∀ v ∈ xs, v < 2 ^ depth) (i : Nat) : packPred depth xs i ≤ 2 ^ depth := by
  have hM := Nat.two_pow_pos depth
  have h2 := two_pow_depth hd
  have ha := getD_lt hM hxs (i - 1)
  have hb := getD_lt hM hxs (i - 16)
  unfold packPred
  dsimp only
  split
  · omega
  split
  · exact Nat.le_of_lt ha
  split
  · exact Nat.le_of_lt hb
  split
  · omega
  split <;> omega

/-- The prediction of a sample looks at earlier samples alone. -/
theorem packPred_take (depth : Nat) (xs : List Nat) (i : Nat) : packPred depth (xs.take i) i = packPred depth xs i := by
  have hbefore : ∀ j, j < i → (xs.take i).getD j 0 = xs.getD j 0 := fun j hj => by
    rw [List.getD_eq_getElem?_getD, List.getElem?_take_of_lt hj, ← List.getD_eq_getElem?_getD]
  by_cases hi : i = 0
  · unfold packPred
    simp only [if_pos hi]
  · unfold packPred
    rw [hbefore (i - 1) (by omega), hbefore (i - 16) (by omega), hbefore (i - 17) (by omega)]

/-- The mapped residual of sample `i` of a block. -/
def sampleRes (depth : Nat) (xs : List Nat) (i : Nat) : Nat := packMap depth (xs.getD i 0) (packPred depth xs i)

theorem sampleRes_lt (hd : 0 < depth) (xs : List Nat) (i : Nat) : sampleRes depth xs i < 2 ^ depth := packMap_lt hd _ _

/-- With the samples before `i` read, the codes from sample `i` on give the rest. -/
theorem unpackGo_codes (hd : 0 < depth) (hxs : ∀ v ∈ xs, v < 2 ^ depth) (k : Nat) (r : List Bool) (n i : Nat)
    (hn : i + n = xs.length) :
    unpackGo depth k n (xs.take i) (((List.range' i n).map (fun j => riceBits depth k (sampleRes depth xs j))).flatten ++ r) =
      (xs, r) := by
  induction n generalizing i with
  | zero => rw [unpackGo, List.take_of_length_le (show xs.length ≤ i by omega), List.range'_zero,
      List.map_nil, List.flatten_nil, List.nil_append]
  | succ n ih =>
    have hi : i < xs.length := by omega
    have hlen : (xs.take i).length = i := List.length_take_of_le (Nat.le_of_lt hi)
    have hback : packUnmap depth (sampleRes depth xs i) (packPred depth (xs.take i) i) = xs[i] := by
      rw [packPred_take, sampleRes, packUnmap_packMap (getD_lt (Nat.two_pow_pos depth) hxs i) (packPred_le hd hxs i),
        getD_of_lt hi]
    rw [List.range'_succ, List.map_cons, List.flatten_cons, List.append_assoc, unpackGo,
      riceRead_riceBits k (sampleRes_lt hd xs i)]
    dsimp only
    rw [hlen, hback, List.take_append_getElem hi]
    exact ih (i + 1) (by omega)

theorem unpackRaw_lowBits (hxs : ∀ v ∈ xs, v < 2 ^ depth) (r : List Bool) :
    unpackRaw depth xs.length ((xs.map (lowBits depth)).flatten ++ r) = (xs, r) := by
  induction xs with
  | nil => rfl
  | cons v xs ih =>
    rw [List.forall_mem_cons] at hxs
    rw [List.map_cons, List.flatten_cons, List.append_assoc, List.length_cons, unpackRaw, takeBits'_lowBits]
    dsimp only
    rw [ih hxs.2, Nat.mod_eq_of_lt hxs.1]

theorem riceBest_lt (depth : Nat) (ms : List Nat) : riceBest depth ms < 12 := by
  refine List.foldlRecOn (motive := (· < 12)) (List.range 12) _ (by decide) (fun b hb k hk => ?_)
  split
  · exact List.mem_range.mp hk
  · exact hb

theorem packBlock_ne_nil (depth : Nat) (xs : List Nat) : packBlock depth xs ≠ [] := by
  unfold packBlock
  dsimp only
  split <;> exact List.append_ne_nil_of_left_ne_nil (List.cons_ne_nil _ _) _

/-- A block is read back, coded or raw. -/
theorem unpackBlock_packBlock (hd : 0 < depth) (hlen : xs.length = 256) (hxs : ∀ v ∈ xs, v < 2 ^ depth) (r : List Bool) :
    unpackBlock depth (packBlock depth xs ++ r) = (xs, r) := by
  have hk := riceBest_lt depth (packRes depth xs)
  unfold packBlock unpackBlock
  dsimp only
  split
  next _ =>
    have hsamples : (List.range 256).map (fun i => lowBits depth (xs.getD i 0)) = xs.map (lowBits depth) := by
      refine List.ext_getElem (by rw [List.length_map, List.length_range, List.length_map, hlen]) (fun i h1 h2 => ?_)
      rw [List.length_map] at h2
      rw [List.getElem_map, List.getElem_range, List.getElem_map, getD_of_lt h2]
    rw [hsamples, List.append_assoc, takeBits'_lowBits]
    dsimp only
    rw [if_pos (by decide), ← hlen, unpackRaw_lowBits hxs]
  next _ =>
    rw [List.append_assoc, takeBits'_lowBits]
    dsimp only
    rw [Nat.mod_eq_of_lt (by omega), if_neg (by omega), packRes, List.map_map, List.range_eq_range']
    exact unpackGo_codes hd hxs _ r 256 0 (by omega)

/-- Blocks that follow one another are read back. -/
theorem unpackBlocks_packBlock (hd : 0 < depth) {bs : List (List Nat)}
    (hbs : ∀ b ∈ bs, b.length = 256 ∧ ∀ v ∈ b, v < 2 ^ depth)
    (r : List Bool) : unpackBlocks depth bs.length ((bs.map (packBlock depth)).flatten ++ r) = bs := by
  induction bs with
  | nil => rfl
  | cons b bs ih =>
    obtain ⟨⟨hlen, hv⟩, hrest⟩ := List.forall_mem_cons.mp hbs
    rw [List.map_cons, List.flatten_cons, List.append_assoc, List.length_cons, unpackBlocks,
      unpackBlock_packBlock hd hlen hv]
    dsimp only
    rw [ih hrest]

end

/-! ### The planes of a unit (R165, R166) -/

section
variable {c : Nat} {l : List Nat}

/-- The 16×16 blocks of a plane `c` blocks wide and high, in raster order. -/
def planeBlocks (c : Nat) (l : List Nat) : List (List Nat) :=
  (List.range (c * c)).map (fun b => planeBlock (16 * c) (b % c) (b / c) l)

@[simp] theorem length_planeBlocks (c : Nat) (l : List Nat) : (planeBlocks c l).length = c * c := by
  rw [planeBlocks, List.length_map, List.length_range]

theorem unitBlocks_eq (u : UnitPix) : unitBlocks u = planeBlocks 4 u.luma ++ planeBlocks 2 u.cb ++ planeBlocks 2 u.cr := rfl

theorem length_unitBlocks (u : UnitPix) : (unitBlocks u).length = 24 := by
  simp only [unitBlocks_eq, List.length_append, length_planeBlocks]

theorem planeBlock_getD (w bx by' : Nat) (l : List Nat) {i : Nat} (hi : i < 256) :
    (planeBlock w bx by' l).getD i 0 = l.getD ((by' * 16 + i / 16) * w + bx * 16 + i % 16) 0 := by
  rw [planeBlock, List.getD_eq_getElem?_getD, List.getElem?_map, List.getElem?_range hi]
  rfl

theorem planeBlocks_getD (l : List Nat) {b : Nat} (hb : b < c * c) :
    (planeBlocks c l).getD b [] = planeBlock (16 * c) (b % c) (b / c) l := by
  rw [planeBlocks, List.getD_eq_getElem?_getD, List.getElem?_map, List.getElem?_range hb]
  rfl

theorem planeBlocks_samples {M : Nat} (hM : 0 < M) (hl : ∀ v ∈ l, v < M) :
    ∀ b ∈ planeBlocks c l, b.length = 256 ∧ ∀ v ∈ b, v < M := by
  intro b hb
  obtain ⟨i, -, rfl⟩ := List.mem_map.mp hb
  refine ⟨by rw [planeBlock, List.length_map, List.length_range], fun v hv => ?_⟩
  obtain ⟨j, -, rfl⟩ := List.mem_map.mp hv
  exact getD_lt hM hl _

/-- Sample (x, y) of a plane lies in the block at (x / 16, y / 16), at (x % 16, y % 16). -/
theorem planeBlocks_sample {x y : Nat} (hx : x < 16 * c) (hy : y < 16 * c) (l : List Nat) :
    ((planeBlocks c l).getD (y / 16 * c + x / 16) []).getD (y % 16 * 16 + x % 16) 0 = l.getD (y * (16 * c) + x) 0 := by
  have hbx : x / 16 < c := by omega
  have hby : y / 16 + 1 ≤ c := by omega
  have hb : y / 16 * c + x / 16 < c * c := by
    calc y / 16 * c + x / 16 < y / 16 * c + c := Nat.add_lt_add_left hbx _
      _ = (y / 16 + 1) * c := (Nat.succ_mul _ _).symm
      _ ≤ c * c := Nat.mul_le_mul_right c hby
  have hcol : (y / 16 * c + x / 16) % c = x / 16 := by
    rw [Nat.mul_comm, Nat.mul_add_mod, Nat.mod_eq_of_lt hbx]
  have hrow : (y / 16 * c + x / 16) / c = y / 16 := by
    rw [Nat.add_comm, Nat.add_mul_div_right _ _ (by omega), Nat.div_eq_of_lt hbx, Nat.zero_add]
  rw [planeBlocks_getD l hb, planeBlock_getD _ _ _ _ (by omega), hcol, hrow,
    show (y % 16 * 16 + x % 16) / 16 = y % 16 by omega, show (y % 16 * 16 + x % 16) % 16 = x % 16 by omega,
    Nat.div_add_mod' y 16, Nat.add_assoc, Nat.div_add_mod' x 16]

/-- A plane is put together again from its blocks. -/
theorem blocksPlane_planeBlocks (hl : l.length = 16 * c * (16 * c)) : blocksPlane (16 * c) (planeBlocks c l) = l := by
  refine List.ext_getElem (by rw [blocksPlane, List.length_map, List.length_range, hl]) (fun i h1 h2 => ?_)
  have hi : i < 16 * c * (16 * c) := hl ▸ h2
  have hw : 0 < 16 * c := Nat.pos_of_mul_pos_left (Nat.zero_lt_of_lt hi)
  have hblocks : 16 * c / 16 = c := Nat.mul_div_cancel_left c (by decide)
  rw [← getD_of_lt h2]
  simp only [blocksPlane, List.getElem_map, List.getElem_range, hblocks]
  rw [planeBlocks_sample (Nat.mod_lt i hw) (Nat.div_lt_of_lt_mul hi), Nat.div_add_mod']

theorem eq_replicate_of_flatPlane (h : flatPlane l = true) : l = List.replicate l.length (l.headD 0) := by
  refine List.eq_replicate_iff.mpr ⟨rfl, fun v hv => ?_⟩
  exact eq_of_beq (List.all_eq_true.mp h v hv)

end

/-! ### The three forms of a unit (R162, R165) -/

section
variable {depth : Nat} {u : UnitPix}

/-- Are all samples of each plane of the unit equal (R165)? -/
def UnitPix.flat (u : UnitPix) : Bool := flatPlane u.luma && flatPlane u.cb && flatPlane u.cr

/-- The bits of a FLAT unit. -/
def flatBits (u : UnitPix) : List Bool :=
  lowBits 16 (u.luma.headD 0) ++ lowBits 16 (u.cb.headD 0) ++ lowBits 16 (u.cr.headD 0) ++ List.replicate 208 false

/-- The bits of a coded unit before they are padded. -/
def codedBits (depth : Nat) (u : UnitPix) : List Bool := ((unitBlocks u).map (packBlock depth)).flatten

/-- The sectors the coded form takes. -/
def codedSectors (depth : Nat) (u : UnitPix) : Nat := ceilDiv (codedBits depth u).length 256

/-- The bits of a coded unit, padded to whole sectors. -/
def codedFill (depth : Nat) (u : UnitPix) : List Bool :=
  codedBits depth u ++ List.replicate (256 * codedSectors depth u - (codedBits depth u).length) false

/-- The bits of a RAW unit. -/
def rawBits (depth : Nat) (u : UnitPix) : List Bool := ((u.luma ++ u.cb ++ u.cr).map (lowBits depth)).flatten

theorem packUnit_of_flat (h : u.flat = true) : packUnit depth u = (1 + 2 ^ 14, bitBytes 32 (flatBits u)) := if_pos h

theorem packUnit_of_raw (h : ¬ u.flat = true) (hs : unitRaw depth ≤ 32 * codedSectors depth u) :
    packUnit depth u = (unitRaw depth / 32 + 2 ^ 15, bitBytes (unitRaw depth) (rawBits depth u)) :=
  (if_neg h).trans (if_pos hs)

theorem packUnit_of_coded (h : ¬ u.flat = true) (hs : 32 * codedSectors depth u < unitRaw depth) :
    packUnit depth u = (codedSectors depth u, bitBytes (32 * codedSectors depth u) (codedFill depth u)) :=
  (if_neg h).trans (if_neg (Nat.not_le.mpr hs))

/-- A unit of whole planes whose samples have `depth` bits. -/
structure UnitPix.Fits (depth : Nat) (u : UnitPix) : Prop where
  luma_len : u.luma.length = 4096
  cb_len : u.cb.length = 1024
  cr_len : u.cr.length = 1024
  luma_lt : ∀ v ∈ u.luma, v < 2 ^ depth
  cb_lt : ∀ v ∈ u.cb, v < 2 ^ depth
  cr_lt : ∀ v ∈ u.cr, v < 2 ^ depth

theorem UnitPix.fits_of_whole (hu : u.whole = true) (hv : ∀ v ∈ u.luma ++ u.cb ++ u.cr, v < 2 ^ depth) : u.Fits depth := by
  simp only [UnitPix.whole, Bool.and_eq_true, decide_eq_true_eq] at hu
  simp only [List.forall_mem_append] at hv
  obtain ⟨⟨hluma, hcb⟩, hcr⟩ := hu
  obtain ⟨⟨vluma, vcb⟩, vcr⟩ := hv
  exact ⟨hluma, hcb, hcr, vluma, vcb, vcr⟩

theorem flatBits_fields (u : UnitPix) : (flatBits u).take 16 = lowBits 16 (u.luma.headD 0) ∧
    ((flatBits u).drop 16).take 16 = lowBits 16 (u.cb.headD 0) ∧
    ((flatBits u).drop 32).take 16 = lowBits 16 (u.cr.headD 0) := by
  have hlen (v : Nat) : (lowBits 16 v).length = 16 := length_lowBits 16 v
  refine ⟨?_, ?_, ?_⟩
  · rw [flatBits, List.append_assoc, List.append_assoc, List.take_left' (hlen _)]
  · rw [flatBits, List.append_assoc, List.append_assoc, List.drop_left' (hlen _), List.take_left' (hlen _)]
  · rw [flatBits, List.append_assoc, List.drop_left' (by rw [List.length_append, hlen, hlen]), List.take_left' (hlen _)]

/-! ### The reader on each form that a length entry names (R165) -/

section
variable {e : Nat} {b : List Byte}

/-- A FLAT unit's value of a plane is read back over the whole plane. -/
theorem replicate_headD_mod {l : List Nat} {n : Nat} (hflat : flatPlane l = true) (hlen : l.length = n) (hd : depth ≤ 16)
    (hl : ∀ v ∈ l, v < 2 ^ depth) : List.replicate n (l.headD 0 % 2 ^ 16) = l := by
  have hlt : l.headD 0 < 2 ^ 16 := by
    refine Nat.lt_of_lt_of_le ?_ (Nat.pow_le_pow_right Nat.two_pos hd)
    cases l with
    | nil => exact Nat.two_pow_pos depth
    | cons v l => exact hl v List.mem_cons_self
  rw [Nat.mod_eq_of_lt hlt, ← hlen]
  exact (eq_replicate_of_flatPlane hflat).symm

theorem unpackUnit_of_flat (he : bitAt e 14 = true) (hb : byteBits b = flatBits u) (hd : depth ≤ 16) (h : u.Fits depth)
    (hflat : u.flat = true) : unpackUnit depth e b = { u with unit := 0 } := by
  simp only [UnitPix.flat, Bool.and_eq_true] at hflat
  obtain ⟨⟨hluma, hcb⟩, hcr⟩ := hflat
  obtain ⟨hluma16, hcb16, hcr16⟩ := flatBits_fields u
  rw [unpackUnit, if_pos he, hb, hluma16, hcb16, hcr16, bitsNat_lowBits, bitsNat_lowBits, bitsNat_lowBits,
    replicate_headD_mod hluma h.luma_len hd h.luma_lt, replicate_headD_mod hcb h.cb_len hd h.cb_lt,
    replicate_headD_mod hcr h.cr_len hd h.cr_lt]

theorem unpackUnit_of_raw (h14 : bitAt e 14 = false) (h15 : bitAt e 15 = true) (hb : byteBits b = rawBits depth u)
    (h : u.Fits depth) : unpackUnit depth e b = { u with unit := 0 } := by
  have hlen : (u.luma ++ u.cb ++ u.cr).length = 6144 := by
    rw [List.length_append, List.length_append, h.luma_len, h.cb_len, h.cr_len]
  have hread : (unpackRaw depth 6144 (rawBits depth u)).1 = u.luma ++ (u.cb ++ u.cr) := by
    have hraw := unpackRaw_lowBits (depth := depth) (xs := u.luma ++ u.cb ++ u.cr)
      (List.forall_mem_append.mpr ⟨List.forall_mem_append.mpr ⟨h.luma_lt, h.cb_lt⟩, h.cr_lt⟩) []
    rw [hlen, List.append_nil] at hraw
    rw [rawBits, hraw, List.append_assoc]
  have hcr : (u.luma ++ (u.cb ++ u.cr)).drop 5120 = u.cr := by
    rw [← List.append_assoc, List.drop_left' (by rw [List.length_append, h.luma_len, h.cb_len])]
  simp only [unpackUnit, h14, h15, Bool.false_eq_true, if_false, if_true, hb, hread, List.take_left' h.luma_len,
    List.drop_left' h.luma_len, List.take_left' h.cb_len, hcr]

theorem unpackUnit_of_coded {r : List Bool} (h14 : bitAt e 14 = false) (h15 : bitAt e 15 = false) (hd : 0 < depth)
    (hb : byteBits b = codedBits depth u ++ r) (h : u.Fits depth) : unpackUnit depth e b = { u with unit := 0 } := by
  have hM := Nat.two_pow_pos depth
  have hread : unpackBlocks depth 24 (codedBits depth u ++ r) =
      planeBlocks 4 u.luma ++ (planeBlocks 2 u.cb ++ planeBlocks 2 u.cr) := by
    have hblocks := unpackBlocks_packBlock hd (bs := unitBlocks u) (List.forall_mem_append.mpr ⟨List.forall_mem_append.mpr
      ⟨planeBlocks_samples (c := 4) hM h.luma_lt, planeBlocks_samples (c := 2) hM h.cb_lt⟩,
        planeBlocks_samples (c := 2) hM h.cr_lt⟩) r
    rw [length_unitBlocks] at hblocks
    rw [codedBits, hblocks, unitBlocks_eq, List.append_assoc]
  have hcr : (planeBlocks 4 u.luma ++ (planeBlocks 2 u.cb ++ planeBlocks 2 u.cr)).drop 20 = planeBlocks 2 u.cr := by
    rw [← List.append_assoc, List.drop_left' (by rw [List.length_append, length_planeBlocks, length_planeBlocks])]
  simp only [unpackUnit, h14, h15, Bool.false_eq_true, if_false, hb, hread, List.take_left' (length_planeBlocks 4 u.luma),
    List.drop_left' (length_planeBlocks 4 u.luma), List.take_left' (length_planeBlocks 2 u.cb), hcr,
    blocksPlane_planeBlocks (c := 4) h.luma_len, blocksPlane_planeBlocks (c := 2) h.cb_len,
    blocksPlane_planeBlocks (c := 2) h.cr_len]

end

/-! ### Each form fills the sectors that its entry names and is read back (R162, R165) -/

/-- What R165 asks of a unit's length entry and bytes: the sectors named are filled, and the samples are read back. -/
def Unpacks (depth : Nat) (u : UnitPix) (p : Nat × List Byte) : Prop :=
  1 ≤ entrySectors p.1 ∧ 32 * entrySectors p.1 ≤ unitRaw depth ∧ p.2.length = 32 * entrySectors p.1 ∧
    { unpackUnit depth p.1 p.2 with unit := u.unit } = u

theorem unpacks_of_eq {e n : Nat} {b : List Byte} (hn : entrySectors e = n) (hpos : 1 ≤ n) (hraw : 32 * n ≤ unitRaw depth)
    (hlen : b.length = 32 * n) (hread : unpackUnit depth e b = { u with unit := 0 }) : Unpacks depth u (e, b) := by
  subst hn
  exact ⟨hpos, hraw, hlen, by rw [hread]⟩

theorem length_codedFill (depth : Nat) (u : UnitPix) : (codedFill depth u).length = 8 * (32 * codedSectors depth u) := by
  have hfit : (codedBits depth u).length ≤ 256 * codedSectors depth u := by unfold codedSectors ceilDiv; omega
  rw [codedFill, List.length_append, List.length_replicate]
  omega

theorem one_le_codedSectors (depth : Nat) (u : UnitPix) : 1 ≤ codedSectors depth u := by
  have hbits : 0 < (codedBits depth u).length := List.length_pos_iff.mpr (by
    obtain ⟨b, hb⟩ := List.exists_mem_of_length_pos (l := unitBlocks u) (by rw [length_unitBlocks]; decide)
    exact fun hnil => packBlock_ne_nil depth b (List.flatten_eq_nil_iff.mp hnil _ (List.mem_map_of_mem hb)))
  unfold codedSectors ceilDiv
  omega

section
variable (hdepth : depth = 8 ∨ depth = 10)
include hdepth

theorem unitRaw_bounds : 32 * (unitRaw depth / 32) = unitRaw depth ∧ 32 ≤ unitRaw depth ∧ unitRaw depth ≤ 7680 ∧
    8 * unitRaw depth = 6144 * depth := by
  rcases hdepth with rfl | rfl <;> decide

variable (h : u.Fits depth)
include h

theorem unpacks_flat (hflat : u.flat = true) : Unpacks depth u (1 + 2 ^ 14, bitBytes 32 (flatBits u)) := by
  have hl : (flatBits u).length = 8 * 32 := by
    simp only [flatBits, List.length_append, length_lowBits, List.length_replicate]
  obtain ⟨-, hraw, -⟩ := unitRaw_bounds hdepth
  exact unpacks_of_eq (n := 1) rfl (Nat.le_refl 1) hraw (length_bitBytes hl)
    (unpackUnit_of_flat (by decide) (byteBits_bitBytes hl) (by omega) h hflat)

theorem length_rawBits : (rawBits depth u).length = 8 * unitRaw depth := by
  obtain ⟨-, -, -, hbits⟩ := unitRaw_bounds hdepth
  rw [rawBits, length_flatten_lowBits, List.length_append, List.length_append, h.luma_len, h.cb_len, h.cr_len, hbits]

theorem unpacks_raw : Unpacks depth u (unitRaw depth / 32 + 2 ^ 15, bitBytes (unitRaw depth) (rawBits depth u)) := by
  have hl := length_rawBits hdepth h
  obtain ⟨hwhole, hmin, hmax, -⟩ := unitRaw_bounds hdepth
  have h14 : bitAt (unitRaw depth / 32 + 2 ^ 15) 14 = false := by rcases hdepth with rfl | rfl <;> decide
  have h15 : bitAt (unitRaw depth / 32 + 2 ^ 15) 15 = true := by rcases hdepth with rfl | rfl <;> decide
  exact unpacks_of_eq (n := unitRaw depth / 32) (by unfold entrySectors; omega) (by omega) (Nat.le_of_eq hwhole)
    ((length_bitBytes hl).trans hwhole.symm) (unpackUnit_of_raw h14 h15 (byteBits_bitBytes hl) h)

theorem unpacks_coded (hs : 32 * codedSectors depth u < unitRaw depth) :
    Unpacks depth u (codedSectors depth u, bitBytes (32 * codedSectors depth u) (codedFill depth u)) := by
  have hl := length_codedFill depth u
  obtain ⟨-, -, hmax, -⟩ := unitRaw_bounds hdepth
  have hbit : ∀ i, 14 ≤ i → bitAt (codedSectors depth u) i = false := fun i hi => by
    have hlt : codedSectors depth u < 2 ^ i := Nat.lt_of_lt_of_le (by omega) (Nat.pow_le_pow_right Nat.two_pos hi)
    rw [bitAt, Nat.div_eq_of_lt hlt]
    rfl
  exact unpacks_of_eq (n := codedSectors depth u) (Nat.mod_eq_of_lt (by omega)) (one_le_codedSectors depth u)
    (Nat.le_of_lt hs) (length_bitBytes hl)
    (unpackUnit_of_coded (hbit 14 (by decide)) (hbit 15 (by decide)) (by omega) (byteBits_bitBytes hl) h)

/-- Whichever form the packer takes, the unit unpacks. -/
theorem unpacks_packUnit : Unpacks depth u (packUnit depth u) := by
  by_cases hflat : u.flat = true
  · rw [packUnit_of_flat hflat]
    exact unpacks_flat hdepth h hflat
  · rcases Nat.lt_or_ge (32 * codedSectors depth u) (unitRaw depth) with hs | hs
    · rw [packUnit_of_coded hflat hs]
      exact unpacks_coded hdepth h hs
    · rw [packUnit_of_raw hflat hs]
      exact unpacks_raw hdepth h

end

end

/-- Settles O35: a unit goes out FLAT, coded or RAW, and the reader undoes each of the three. -/
theorem packedUnitsUnpack : Obligations.PackedUnitsUnpack :=
  fun _ _ hdepth hwhole hsamples => unpacks_packUnit hdepth (UnitPix.fits_of_whole hwhole hsamples)

end Sys2Proof.Machine
end

section
/-! Tandems: the join and the split of a core pair, the training of its seam link (R192, R193), and the records that arrive over
the link (R201 to R203). -/

namespace Sys2Proof.Machine

section
variable {s : State} {slot : Nat} {c : Slot}

/-! ### TANDEM_JOIN and TANDEM_SPLIT (R193) -/

section
variable (heven : c.arg 24 0 6 % 2 = 0)
include heven

theorem exec_tandemJoin_begins (h : accepts s slot 0x30 c = true) (hst : (pairOf s (c.arg 24 0 6 / 2)).st = .single)
    (hheld : pairHeld s (c.arg 24 0 6 / 2) = false) (hupper : coreUp s (2 * (c.arg 24 0 6 / 2)) = true)
    (hlower : coreUp s (2 * (c.arg 24 0 6 / 2) + 1) = true) :
    exec (.tandemJoin slot) s = .next (pairMod (c.arg 24 0 6 / 2)
      (fun _ => { st := .joining, joinSlot := some slot, since := s.now })
      { s with slots := tput s.slots slot { c with started := true } }) := by
  change execTandemJoin slot s = _
  rw [execTandemJoin, runCmd_body _ _ h (decide_eq_true heven)]
  simp only [hst, hheld, hupper, hlower, hold_eq (accepts_slot h), ne_eq, not_true_eq_false, Bool.not_true,
    Bool.false_eq_true, or_self, if_false]

theorem exec_tandemJoin_badState (h : accepts s slot 0x30 c = true)
    (hbad : (pairOf s (c.arg 24 0 6 / 2)).st ≠ .single ∨ pairHeld s (c.arg 24 0 6 / 2) = true) :
    exec (.tandemJoin slot) s = .next (finish slot stBadState s) := by
  change execTandemJoin slot s = _
  rw [execTandemJoin, runCmd_body _ _ h (decide_eq_true heven)]
  exact congrArg _ (if_pos hbad)

theorem exec_tandemSplit_ends (h : accepts s slot 0x31 c = true) (hst : (pairOf s (c.arg 24 0 6 / 2)).st = .joined)
    (hheld : pairHeld s (c.arg 24 0 6 / 2) = false) :
    exec (.tandemSplit slot) s = .next (finish slot stOk (pairMod (c.arg 24 0 6 / 2) (fun _ => {}) s)) := by
  change execTandemSplit slot s = _
  rw [execTandemSplit, runCmd_body _ _ h (decide_eq_true heven)]
  simp only [hst, hheld, ne_eq, not_true_eq_false, Bool.false_eq_true, or_self, if_false]

theorem exec_tandemSplit_badState (h : accepts s slot 0x31 c = true)
    (hbad : (pairOf s (c.arg 24 0 6 / 2)).st ≠ .joined ∨ pairHeld s (c.arg 24 0 6 / 2) = true) :
    exec (.tandemSplit slot) s = .next (finish slot stBadState s) := by
  change execTandemSplit slot s = _
  rw [execTandemSplit, runCmd_body _ _ h (decide_eq_true heven)]
  exact congrArg _ (if_pos hbad)

end

/-! ### The training of the seam link (R192) -/

section
variable {k : Fin 32} (hst : (pairOf s k).st = .joining) (hslot : (pairOf s k).joinSlot = some slot)
include hst hslot

theorem exec_seamTrained_joins (hupper : coreUp s (2 * k) = true) (hlower : coreUp s (2 * k + 1) = true) :
    exec (.seamTrained k) s =
      .next (finish slot stOk (pairMod k (fun _ => { st := .joined, trained := true, enabled := true }) s)) := by
  change execSeamTrained k s = _
  simp only [execSeamTrained, hst, hslot, hupper, hlower, ne_eq, not_true_eq_false, Bool.not_true, Bool.false_eq_true,
    or_self, if_false]

theorem exec_seamTrainTimeout_ends (hlate : (pairOf s k).since + psUs 20 ≤ s.now) :
    exec (.seamTrainTimeout k) s = .next (finish slot stSeamTrain (pairMod k (fun _ => {}) s)) := by
  change execSeamTrainTimeout k s = _
  simp only [execSeamTrainTimeout, hst, hslot, Nat.not_lt.mpr hlate, ne_eq, not_true_eq_false, or_self, if_false]

end

end

/-! ### Records over the link (R201 to R203) -/

/-- The core that receives records of the kind: the model record goes up the link, every other kind down (R202). -/
def seamReceiver (k kind : Nat) : Nat := 2 * k + (if kind = 3 then 0 else 1)

/-- The replays of a flit that failed its check: at most four, each counted and raised at the receiving core (R203). -/
def seamReplays (rx fails : Nat) (s : State) : State :=
  forAll (List.range (min fails 4)) (fun _ s => raise 0x07 rx s) (rcnt (aCore rx 0xD4) 0 32 (min fails 4) s)

/-- The pair once the receiving core holds the record `r`; records of its session two or more pictures older are dropped. -/
def Pair.received (p : Pair) (r : SeamRec) : Pair :=
  { p with
    sent := dropFirst (fun q => q == r) p.sent
    recs := r :: p.recs.filter (fun q => q.sid != r.sid || decide (q.pic + 2 > r.pic)) }

section
variable {s : State} {k kind fails : Nat} {r : SeamRec} (hst : (pairOf s k).st = .joined)
  (hfirst : seamFirst (pairOf s k) kind = some r) (hkind : r.kind = kind)
include hst hfirst hkind

/-- A record whose flit passes a check after at most four replays is received. -/
theorem seamArrive_of_replayed (hfails : fails < 5) :
    seamArrive k kind fails s = pairMod k (·.received r) (seamReplays (seamReceiver k kind) fails s) := by
  simp only [seamArrive, hst, hfirst, hkind, ne_eq, not_true_eq_false, if_false, ge_iff_le, Nat.not_le.mpr hfails]
  rfl

/-- Five failures of one flit are the failure of the link, and no record is taken. -/
theorem seamArrive_of_linkFailed (hfails : 5 ≤ fails) :
    seamArrive k kind fails s = raise 0x08 (seamReceiver k kind)
      (pairMod k (fun p => { p with fails := p.fails + 1 }) (seamReplays (seamReceiver k kind) fails s)) := by
  simp only [seamArrive, hst, hfirst, hkind, ne_eq, not_true_eq_false, if_false, ge_iff_le, hfails, if_true]
  rfl

theorem seamArrive_eq : seamArrive k kind fails s =
    if 5 ≤ fails then raise 0x08 (seamReceiver k kind)
      (pairMod k (fun p => { p with fails := p.fails + 1 }) (seamReplays (seamReceiver k kind) fails s))
    else pairMod k (·.received r) (seamReplays (seamReceiver k kind) fails s) := by
  split
  case isTrue hfails => exact seamArrive_of_linkFailed hst hfirst hkind hfails
  case isFalse hfails => exact seamArrive_of_replayed hst hfirst hkind (Nat.not_le.mp hfails)

end

/-- Settles O26: each command by its equation, the four kinds of record by the one arrival they share. -/
theorem tandemPairsAndSeam : Obligations.TandemPairsAndSeam := by
  refine ⟨fun slot s c h heven => ?join, fun slot s c h heven => ?split, fun k s slot hst hslot => ?training,
    fun k fails s r hst => ?records⟩
  case join => exact ⟨exec_tandemJoin_begins heven h, exec_tandemJoin_badState heven h⟩
  case split => exact ⟨exec_tandemSplit_ends heven h, exec_tandemSplit_badState heven h⟩
  case training => exact ⟨exec_seamTrained_joins hst hslot, exec_seamTrainTimeout_ends hst hslot⟩
  case records =>
    have harrive (kind : Nat) (hfirst : seamFirst (pairOf s k) kind = some r) (hkind : r.kind = kind) :=
      congrArg (Host.Outcome.next (φ := Fault) (ρ := Refusal)) (seamArrive_eq (fails := fails) hst hfirst hkind)
    exact ⟨harrive 0, harrive 1, harrive 2, harrive 3⟩

end Sys2Proof.Machine
end

section
/-! What the operations on a queue pair and its CQ do, each said once: the key of a pair, the write of an entry (R227), the
interrupt message (R237), the delivery in DIRECT (R238). -/

namespace Sys2Proof.Machine

/-! ### The key of a pair (R216) -/

theorem qkey_div {fn qid : Nat} (h : qid < 256) : qkey fn qid / 256 = fn := by unfold qkey; omega

theorem qkey_mod {fn qid : Nat} (h : qid < 256) : qkey fn qid % 256 = qid := by unfold qkey; omega

/-! ### The change of a pair (R216) -/

section
variable (k : Nat) (g : QPair → QPair) (s : State)

@[simp] theorem qpMod_sess : (qpMod k g s).sess = s.sess := by unfold qpMod; split <;> rfl

@[simp] theorem qpMod_slots : (qpMod k g s).slots = s.slots := by unfold qpMod; split <;> rfl

@[simp] theorem func_qpMod (i : Nat) : func (qpMod k g s) i = func s i := by unfold qpMod; split <;> rfl

@[simp] theorem rget_qpMod (a : Nat) : rget (qpMod k g s) a = rget s a := by unfold qpMod; split <;> rfl

end

theorem tfind_qpMod_same {k : Nat} {s : State} {q : QPair} (g : QPair → QPair) (hq : tfind s.qps k = some q) :
    tfind (qpMod k g s).qps k = some (g q) := by
  rw [qpMod_eq g hq, tfind_tput_same]

/-! ### The write of an entry (R227) -/

@[simp] theorem slotFree_qps (o : Option Nat) (s : State) : (slotFree o s).qps = s.qps := by
  unfold slotFree; split <;> rfl

@[simp] theorem slotFree_out (o : Option Nat) (s : State) : (slotFree o s).out = s.out := by
  unfold slotFree; split <;> rfl

/-- The pair once an entry has been written at its tail. -/
def QPair.wrote (q : QPair) (e : Entry) : QPair :=
  { q with
    cqTail := (q.cqTail + 1) % 2 ^ q.cqLog
    seq := (q.seq + 1) % 2 ^ 32
    phase := if (q.cqTail + 1) % 2 ^ q.cqLog = 0 then !q.phase else q.phase
    unsig := q.unsig + 1
    firstUnsig := if q.unsig = 0 then e.formed else q.firstUnsig
    urgUnsig := q.urgUnsig || e.urgent }

/-- The write as it leaves the block: the entry at the CQ's tail. -/
def QPair.cqeOut (k : Nat) (q : QPair) (e : Entry) : Out :=
  .cqe (k / 256) (k % 256) (q.cqBase + 64 * q.cqTail) (e.bits (k % 256) q.sqHead q.seq q.phase)

section
variable {k : Nat} {s : State} {q : QPair} (e : Entry) (hq : tfind s.qps k = some q)
include hq

theorem cqWrite_eq : cqWrite k e s = slotFree e.slot { s with
    qps := tput s.qps k (q.wrote e), out := q.cqeOut k e :: (e.pre.reverse ++ s.out) } := by
  simp only [cqWrite, hq]
  rfl

theorem cqWrite_qps : (cqWrite k e s).qps = tput s.qps k (q.wrote e) := by
  rw [cqWrite_eq e hq, slotFree_qps]

theorem cqWrite_out : (cqWrite k e s).out = q.cqeOut k e :: (e.pre.reverse ++ s.out) := by
  rw [cqWrite_eq e hq, slotFree_out]

theorem cqWrite_slots : (cqWrite k e s).slots = (slotFree e.slot s).slots := by
  rw [cqWrite_eq e hq]
  cases e.slot <;> rfl

end

/-! ### Moderation and delivery (R237, R238) -/

section
variable {k : Nat} {e : Entry} {q : QPair} {s : State}

theorem msixSend_of_unmasked {fn vec : Nat} (h : (func s fn).mask.getLsbD vec = false) : msixSend fn vec s = emit (.msix fn vec) s := by
  simp only [msixSend, h, Bool.false_eq_true, if_false]

theorem cqModerate_of_quiet (hq : tfind s.qps k = some q) (h : q.irq s.now = false) : cqModerate k s = s := by
  simp only [cqModerate, hq, h, Bool.false_eq_true, if_false]

theorem cqModerate_of_irq (hq : tfind s.qps k = some q) (h : q.irq s.now = true) :
    cqModerate k s = msixSend (k / 256) q.vector { s with qps := tput s.qps k { q with unsig := 0, urgUnsig := false } } := by
  simp only [cqModerate, hq, h, if_true, qpMod_eq _ hq]

theorem irq_of_disabled (now : Nat) (h : q.ien = false) : q.irq now = false := by
  simp only [QPair.irq, h, Bool.false_and]

theorem cqDeliver_of_direct (hq : tfind s.qps k = some q) (hdel : q.deleting = none) (hst : q.st = .direct)
    (hreach : cqReach s k = true) (hfull : q.full = false) (hlink : (port s 0).link = .l0) :
    cqDeliver k e s = cqModerate k (cqWrite k e s) := by
  simp only [cqDeliver, hq, hdel, hst, hreach, hfull, hlink, Option.isSome_none, Bool.not_true, Bool.false_eq_true, ne_eq,
    not_true_eq_false, if_false, if_true]

end

end Sys2Proof.Machine
end

section
/-! A completion-queue entry as it is written: its 64 bytes are eight words, each field a run of bits of its word (R227). -/

namespace Sys2Proof.Machine

/-! ### A number made of 64-bit words -/

theorem b2n_le_one (b : Bool) : b2n b ≤ 1 := by cases b <;> decide

theorem bitsOf_mod_self (x n : Nat) : bitsOf (x % 2 ^ n) 0 n = x % 2 ^ n := by
  rw [bitsOf, Nat.pow_zero, Nat.div_one, Nat.mod_mod]

/-- Words above the one that holds a field do not change it. -/
theorem bitsOf_add_mul_low (w x : Nat) {lo n : Nat} (h : lo + n ≤ 64) : bitsOf (w + x * 2 ^ 64) lo n = bitsOf w lo n := by
  obtain ⟨k, hk⟩ := Nat.exists_eq_add_of_le h
  have hpow : x * 2 ^ 64 = 2 ^ lo * (2 ^ n * (2 ^ k * x)) := by
    rw [hk, Nat.pow_add, Nat.pow_add, Nat.mul_comm x, Nat.mul_assoc, Nat.mul_assoc]
  rw [bitsOf, bitsOf, hpow, Nat.add_mul_div_left _ _ (Nat.two_pow_pos lo), Nat.add_mul_mod_self_left]

/-- A field above the lowest word does not depend on it. -/
theorem bitsOf_add_mul_high {w : Nat} (hw : w < 2 ^ 64) (x lo n : Nat) :
    bitsOf (w + x * 2 ^ 64) (64 + lo) n = bitsOf x lo n := by
  rw [bitsOf, bitsOf, Nat.pow_add, ← Nat.div_div_eq_div_mul, Nat.add_mul_div_right _ _ (Nat.two_pow_pos 64),
    Nat.div_eq_of_lt hw, Nat.zero_add]

/-- The number made of 64-bit words, the least significant first. -/
def ofWords : List Nat → Nat
  | [] => 0
  | w :: ws => w + ofWords ws * 2 ^ 64

/-- A field within one word is read from that word alone. -/
theorem bitsOf_ofWords {ws : List Nat} (hws : ∀ w ∈ ws, w < 2 ^ 64) (i : Nat) {lo n : Nat} (h : lo + n ≤ 64) :
    bitsOf (ofWords ws) (64 * i + lo) n = bitsOf (ws.getD i 0) lo n := by
  induction ws generalizing i with
  | nil => simp only [ofWords, bitsOf, Nat.zero_div, List.getD_nil]
  | cons w ws ih =>
    obtain ⟨hw, hrest⟩ := List.forall_mem_cons.mp hws
    cases i with
    | zero => rw [ofWords, Nat.mul_zero, Nat.zero_add, List.getD_cons_zero, bitsOf_add_mul_low _ _ h]
    | succ i =>
      have hpos : 64 * (i + 1) + lo = 64 + (64 * i + lo) := by omega
      rw [ofWords, hpos, bitsOf_add_mul_high hw, List.getD_cons_succ, ih hrest]

theorem ofWords_lt {ws : List Nat} (hws : ∀ w ∈ ws, w < 2 ^ 64) : ofWords ws < 2 ^ (64 * ws.length) := by
  induction ws with
  | nil => exact Nat.one_pos
  | cons w ws ih =>
    obtain ⟨hw, hrest⟩ := List.forall_mem_cons.mp hws
    have hlt := ih hrest
    have hpow : 2 ^ (64 * (ws.length + 1)) = 2 ^ (64 * ws.length) * 2 ^ 64 := Nat.pow_add 2 (64 * ws.length) 64
    rw [ofWords, List.length_cons, hpow]
    omega

theorem ofWords_eight (w0 w1 w2 w3 w4 w5 w6 w7 : Nat) : ofWords [w0, w1, w2, w3, w4, w5, w6, w7] =
    w0 + w1 * 2 ^ 64 + w2 * 2 ^ 128 + w3 * 2 ^ 192 + w4 * 2 ^ 256 + w5 * 2 ^ 320 + w6 * 2 ^ 384 + w7 * 2 ^ 448 := by
  simp only [-Nat.reducePow, ofWords, Nat.add_mul, Nat.mul_assoc, ← Nat.pow_add, Nat.reduceAdd, Nat.zero_mul, Nat.add_zero,
    Nat.add_assoc]

theorem toNat_ofNat_ofWords {ws : List Nat} {m : Nat} (hws : ∀ w ∈ ws, w < 2 ^ 64) (hm : 64 * ws.length = m) :
    (BitVec.ofNat m (ofWords ws)).toNat = ofWords ws := by
  rw [BitVec.toNat_ofNat, Nat.mod_eq_of_lt (hm ▸ ofWords_lt hws)]

/-! ### The words of an entry (R227) -/

/-- Bytes 32 to 39: CID, OPCODE, STATUS, SQ_HEAD, QID and KIND. -/
def Entry.commandWord (e : Entry) (qid head : Nat) : Nat :=
  e.cid % 2 ^ 16 + e.opcode % 2 ^ 8 * 2 ^ 16 + e.status % 2 ^ 8 * 2 ^ 24 + head % 2 ^ 16 * 2 ^ 32 + qid % 2 ^ 8 * 2 ^ 48 +
    e.kind % 4 * 2 ^ 56

/-- Bytes 40 to 47: SID, SID_VALID, NOTES and EXT. -/
def Entry.sessionWord (e : Entry) : Nat :=
  e.sid.getD 0 % 2 ^ 12 + b2n e.sid.isSome * 2 ^ 12 + e.notes % 2 ^ 16 * 2 ^ 16 + e.ext % 2 ^ 32 * 2 ^ 32

/-- Bytes 56 to 63: SEQ and P. -/
def phaseWord (seq : Nat) (p : Bool) : Nat := seq % 2 ^ 32 + b2n p * 2 ^ 63

/-- The eight words of an entry, the least significant first. -/
def Entry.words (e : Entry) (qid head seq : Nat) (p : Bool) : List Nat :=
  [e.r0 % 2 ^ 64, e.r1 % 2 ^ 64, e.r2 % 2 ^ 64, e.r3 % 2 ^ 64, e.commandWord qid head, e.sessionWord, e.time % 2 ^ 64,
    phaseWord seq p]

section
variable (e : Entry) (qid head seq : Nat) (p : Bool)

theorem commandWord_lt : e.commandWord qid head < 2 ^ 64 := by unfold Entry.commandWord; omega

theorem sessionWord_lt : e.sessionWord < 2 ^ 64 := by
  have hvalid := b2n_le_one e.sid.isSome
  unfold Entry.sessionWord
  omega

theorem phaseWord_lt : phaseWord seq p < 2 ^ 64 := by
  have hp := b2n_le_one p
  unfold phaseWord
  omega

theorem words_lt : ∀ w ∈ e.words qid head seq p, w < 2 ^ 64 := by
  have hmod (x : Nat) : x % 2 ^ 64 < 2 ^ 64 := Nat.mod_lt x (Nat.two_pow_pos 64)
  simp only [Entry.words, List.forall_mem_cons, hmod, commandWord_lt, sessionWord_lt, phaseWord_lt, true_and, List.not_mem_nil,
    false_imp_iff, implies_true]

/-- The 512 bits of an entry are its eight words. -/
theorem entryBits_eq : e.bits qid head seq p = BitVec.ofNat 512 (ofWords (e.words qid head seq p)) := by
  rw [Entry.words, ofWords_eight]
  rfl

theorem toNat_entryBits : (e.bits qid head seq p).toNat = ofWords (e.words qid head seq p) := by
  rw [entryBits_eq]
  exact toNat_ofNat_ofWords (words_lt e qid head seq p) rfl

theorem words_getD :
    (e.words qid head seq p).getD 0 0 = e.r0 % 2 ^ 64 ∧ (e.words qid head seq p).getD 1 0 = e.r1 % 2 ^ 64 ∧
    (e.words qid head seq p).getD 2 0 = e.r2 % 2 ^ 64 ∧ (e.words qid head seq p).getD 3 0 = e.r3 % 2 ^ 64 ∧
    (e.words qid head seq p).getD 4 0 = e.commandWord qid head ∧ (e.words qid head seq p).getD 5 0 = e.sessionWord ∧
    (e.words qid head seq p).getD 6 0 = e.time % 2 ^ 64 ∧ (e.words qid head seq p).getD 7 0 = phaseWord seq p := by
  simp only [Entry.words, List.getD_cons_succ, List.getD_cons_zero, and_self]

/-- A field of an entry is read from its word. -/
theorem entryBits_field {e : Entry} {qid head seq : Nat} {p : Bool} {i w lo n v : Nat}
    (hw : (e.words qid head seq p).getD i 0 = w) (hv : bitsOf w lo n = v) (h : lo + n ≤ 64 := by decide) :
    bitsOf (e.bits qid head seq p).toNat (64 * i + lo) n = v := by
  rw [toNat_entryBits, bitsOf_ofWords (words_lt e qid head seq p) i h, hw, hv]

theorem bitsOf_commandWord :
    bitsOf (e.commandWord qid head) 0 16 = e.cid % 2 ^ 16 ∧ bitsOf (e.commandWord qid head) 16 8 = e.opcode % 2 ^ 8 ∧
    bitsOf (e.commandWord qid head) 24 8 = e.status % 2 ^ 8 ∧ bitsOf (e.commandWord qid head) 32 16 = head % 2 ^ 16 ∧
    bitsOf (e.commandWord qid head) 48 8 = qid % 2 ^ 8 ∧ bitsOf (e.commandWord qid head) 56 2 = e.kind % 4 ∧
    bitsOf (e.commandWord qid head) 58 6 = 0 := by
  unfold Entry.commandWord bitsOf
  omega

theorem bitsOf_sessionWord :
    bitsOf e.sessionWord 0 12 = e.sid.getD 0 % 2 ^ 12 ∧ bitsOf e.sessionWord 12 1 = b2n e.sid.isSome ∧
    bitsOf e.sessionWord 13 3 = 0 ∧ bitsOf e.sessionWord 16 16 = e.notes % 2 ^ 16 ∧
    bitsOf e.sessionWord 32 32 = e.ext % 2 ^ 32 := by
  have hvalid := b2n_le_one e.sid.isSome
  unfold Entry.sessionWord bitsOf
  omega

theorem bitsOf_phaseWord :
    bitsOf (phaseWord seq p) 0 32 = seq % 2 ^ 32 ∧ bitsOf (phaseWord seq p) 32 31 = 0 ∧ bitsOf (phaseWord seq p) 63 1 = b2n p := by
  have hp := b2n_le_one p
  unfold phaseWord bitsOf
  omega

end

/-- Settles O9: a field is read from its word; the write is that of `cqWrite_eq`. -/
theorem completionEntryLayout : Obligations.CompletionEntryLayout := by
  refine ⟨fun e qid head seq p => ?_, fun k e s q hq => ?_, rfl, rfl⟩
  · obtain ⟨hr0, hr1, hr2, hr3, hcommand, hsession, htime, hphase⟩ := words_getD e qid head seq p
    obtain ⟨hcid, hopcode, hstatus, hhead, hqid, hkind, hpad4⟩ := bitsOf_commandWord e qid head
    obtain ⟨hsid, hvalid, hpad5, hnotes, hext⟩ := bitsOf_sessionWord e
    obtain ⟨hseq, hpad7, hp⟩ := bitsOf_phaseWord seq p
    have hwhole {x : Nat} := bitsOf_mod_self x 64
    exact ⟨entryBits_field hr0 hwhole, entryBits_field hr1 hwhole, entryBits_field hr2 hwhole, entryBits_field hr3 hwhole,
      entryBits_field hcommand hcid, entryBits_field hcommand hopcode, entryBits_field hcommand hstatus,
      entryBits_field hcommand hhead, entryBits_field hcommand hqid, entryBits_field hcommand hkind,
      entryBits_field hcommand hpad4, entryBits_field hsession hsid, entryBits_field hsession hvalid,
      entryBits_field hsession hpad5, entryBits_field hsession hnotes, entryBits_field hsession hext,
      entryBits_field htime hwhole, entryBits_field hphase hseq, entryBits_field hphase hpad7, entryBits_field hphase hp⟩
  · rw [cqWrite_qps e hq, cqWrite_out e hq]
    exact ⟨q.wrote e, tfind_tput_same _ _ _, rfl, fun hbase => by omega, rfl, rfl, rfl⟩

end Sys2Proof.Machine
end

section
/-! The frame of delivery: forming a completion or an event, with all that may follow, changes the delivery side of the block
alone (R226, R237 to R239, R553). -/

namespace Sys2Proof.Machine

/-- The state `t` differs from `s` on the delivery side at most. -/
def DeliveryOnly (s t : State) : Prop := t = s.withHost t

namespace DeliveryOnly

variable {s t u : State}

theorem refl (s : State) : DeliveryOnly s s := rfl

theorem trans (hst : DeliveryOnly s t) (htu : DeliveryOnly t u) : DeliveryOnly s u := by
  unfold DeliveryOnly at *
  rw [htu, hst]
  rfl

/-! ### The updates that delivery is made of -/

section
variable (h : DeliveryOnly s t)
include h

theorem after_qps (x : Tab QPair) : DeliveryOnly s { t with qps := x } := h.trans rfl

theorem after_slots (x : Tab Slot) : DeliveryOnly s { t with slots := x } := h.trans rfl

theorem after_deferred (x : List (Nat × Entry)) : DeliveryOnly s { t with deferred := x } := h.trans rfl

theorem after_out (x : List Out) : DeliveryOnly s { t with out := x } := h.trans rfl

theorem after_write (x : Tab QPair) (y : List Out) : DeliveryOnly s { t with qps := x, out := y } := h.trans rfl

theorem after_emit (o : Out) : DeliveryOnly s (emit o t) := h.trans rfl

theorem after_funcMod (i : Nat) (g : Func → Func) : DeliveryOnly s (funcMod i g t) := h.trans rfl

theorem after_portMod (i : Nat) (g : Port → Port) : DeliveryOnly s (portMod i g t) := h.trans rfl

theorem after_slotFree (o : Option Nat) : DeliveryOnly s (slotFree o t) := by
  cases o with
  | none => exact h
  | some i => exact h.after_slots _

theorem after_qpMod (k : Nat) (g : QPair → QPair) : DeliveryOnly s (qpMod k g t) := by
  unfold qpMod
  split
  · exact h
  · exact h.after_qps _

theorem after_forAll {α : Type} (l : List α) {f : α → State → State} (hf : ∀ a u, DeliveryOnly s u → DeliveryOnly s (f a u)) :
    DeliveryOnly s (forAll l f t) :=
  forAll_keeps (DeliveryOnly s) f hf l t h

/-! ### Writing, staging and counting an entry -/

variable (k : Nat) (e : Entry)

theorem after_cqWrite : DeliveryOnly s (cqWrite k e t) := by
  cases hq : tfind t.qps k with
  | none =>
    simp only [cqWrite, hq]
    exact h.after_slotFree _
  | some q =>
    rw [cqWrite_eq e hq]
    exact (h.after_write _ _).after_slotFree _

theorem after_msixSend (fn vec : Nat) : DeliveryOnly s (msixSend fn vec t) := by
  unfold msixSend
  dsimp only
  split
  · exact h.after_funcMod _ _
  · exact h.after_emit _

theorem after_cqModerate : DeliveryOnly s (cqModerate k t) := by
  unfold cqModerate
  split
  · exact h
  · split
    · exact (h.after_qpMod _ _).after_msixSend _ _
    · exact h

theorem after_l1Exit : DeliveryOnly s (l1Exit t) := by
  unfold l1Exit
  split
  · exact (h.after_portMod _ _).after_emit _
  · exact h

theorem after_cqStall : DeliveryOnly s (cqStall k t) := h.after_qpMod _ _

theorem after_cqDrop : DeliveryOnly s (cqDrop k e t) := ((h.after_out _).after_qpMod _ _).after_slotFree _

theorem after_cqStage : DeliveryOnly s (cqStage k e t) := by
  unfold cqStage
  split
  · exact h.after_slotFree _
  · split
    · exact h.after_cqDrop k e
    · split
      · exact h.after_qpMod _ _
      · split
        · exact h.after_cqDrop k e
        · exact h.after_qpMod _ _

theorem after_pmeSend (fn : Nat) : DeliveryOnly s (pmeSend fn t) := by
  unfold pmeSend
  dsimp only
  split
  · exact (h.after_funcMod _ _).after_emit _
  · exact h

end

/-! ### The flush and the state machine of R238 -/

section
variable (k : Nat) (e : Entry)

/-- The one recursion of delivery: each round writes one entry. -/
theorem after_cqFlush (n : Nat) (h : DeliveryOnly s t) : DeliveryOnly s (cqFlush n k t) := by
  induction n generalizing t with
  | zero => exact h
  | succ n ih =>
    unfold cqFlush
    split
    case h_1 => exact h
    case h_2 q _ =>
      split
      case isTrue => exact h.after_qpMod _ _
      case isFalse =>
        split
        case isTrue => exact (h.after_qpMod _ _).after_l1Exit
        case isFalse =>
          split
          case isTrue => exact (h.after_qpMod _ _).after_cqModerate k
          case isFalse =>
            split
            case isTrue => exact h.after_cqStall k
            case isFalse =>
              split
              case h_1 => exact ih ((h.after_qpMod _ _).after_cqWrite k _)
              case h_2 => exact ih ((h.after_qpMod _ _).after_cqWrite k _)
              case h_3 => exact ih ((h.after_qpMod _ _).after_cqWrite k _)
              case h_4 => exact h

variable (h : DeliveryOnly s t)
include h

theorem after_cqPour : DeliveryOnly s (cqPour k t) := by
  unfold cqPour
  split
  · exact h
  · exact (h.after_qpMod _ _).after_cqFlush k _

theorem after_cqL1Check : DeliveryOnly s (cqL1Check k t) := by
  unfold cqL1Check
  split
  · exact h
  · split
    · exact h.after_cqPour k
    · exact h

theorem after_cqDeliver : DeliveryOnly s (cqDeliver k e t) := by
  unfold cqDeliver
  split
  · exact h.after_slotFree _
  · split
    · exact h.after_cqDrop _ e
    · split
      · split
        · exact ((h.after_qpMod _ _).after_cqStage k e).after_pmeSend _
        · split
          · exact (h.after_cqStall k).after_cqStage k e
          · split
            · exact ((h.after_qpMod _ _).after_cqStage k e).after_cqL1Check k
            · exact (h.after_cqWrite k e).after_cqModerate k
      · exact (h.after_cqStage k e).after_cqL1Check k

end

/-! ### Entries that waited (R233), and the completion of a command (R225 to R234) -/

theorem after_cqReleaseN (n : Nat) (h : DeliveryOnly s t) : DeliveryOnly s (cqReleaseN n t) := by
  induction n generalizing t with
  | zero => exact h
  | succ n ih =>
    unfold cqReleaseN
    split
    · exact h
    · exact ih ((h.after_deferred _).after_cqDeliver _ _)

section
variable (h : DeliveryOnly s t)
include h

theorem after_cqForm (k : Nat) (e : Entry) : DeliveryOnly s (cqForm k e t) := by
  unfold cqForm
  split
  · exact h.after_slotFree _
  · split
    · exact h.after_deferred _
    · exact (h.after_cqDeliver k e).after_cqReleaseN _

theorem after_event (k code idx : Nat) (sid : Option Nat) (r0 r1 r2 r3 ext : Nat) :
    DeliveryOnly s (event k code idx sid r0 r1 r2 r3 ext t) := by
  unfold event
  split
  · exact h
  · exact h.after_cqForm k _

variable (slot st : Nat) (r : Res)

theorem after_completeOne : DeliveryOnly s (completeOne slot st r t) := by
  unfold completeOne
  split
  · exact h
  · split
    · exact h
    · dsimp only
      split
      · exact h
      · exact (h.after_slots _).after_cqForm _ _

theorem after_settleDeletes : DeliveryOnly s (settleDeletes t) := by
  refine h.after_forAll _ fun p u hu => ?_
  split
  · exact hu
  · split
    · exact (hu.after_qps _).after_completeOne _ _ _
    · exact hu

theorem after_settleBad : DeliveryOnly s (settleBad t) := by
  refine h.after_forAll _ fun p u hu => ?_
  split
  · exact hu
  · split
    · exact hu.after_completeOne _ _ _
    · exact hu

theorem after_complete : DeliveryOnly s (complete slot st r t) :=
  (h.after_completeOne slot st r).after_settleBad.after_settleDeletes

end

end DeliveryOnly

/-- Settles O10: every update that delivery is made of keeps the frame, and a flush by induction on its rounds. -/
theorem deliveryTouchesQueuesOnly : Obligations.DeliveryTouchesQueuesOnly :=
  ⟨fun slot st r s => (DeliveryOnly.refl s).after_complete slot st r,
    fun k code idx sid r0 r1 r2 r3 ext s => (DeliveryOnly.refl s).after_event k code idx sid r0 r1 r2 r3 ext⟩

end Sys2Proof.Machine
end

section
/-! Completions and fetch (R220, R225 to R233, R552): a completion on an open CQ, the doorbells of a pair (R218, R219), and the
entry that fetch takes. -/

namespace Sys2Proof.Machine

/-! ### The completion of a command (R226, R227, R233) -/

/-- The entry that completes a fetched command with a status and results. -/
def completionEntry (slot st : Nat) (r : Res) (c : Slot) (s : State) : Entry := {
  r0 := r.r0, r1 := r.r1, r2 := r.r2, r3 := r.r3, cid := c.cid, opcode := c.opcode, status := st, kind := 0, sid := entrySid s c r
  notes := r.notes, time := devTime s, formed := s.now, urgent := r.urgent, slot := some slot, pre := r.pre }

section
variable {slot st : Nat} {r : Res} {s : State} {c : Slot} {q : QPair}

theorem completeOne_of_command (hc : tfind s.slots slot = some c) (hformed : c.formed = false) (hpic : c.picture = none)
    (hfatal : isFatal s = false) (hwarm : s.boot.warm = false) :
    completeOne slot st r s = cqForm (qkey c.fn c.qid) (completionEntry slot st r c s)
      { s with slots := tput s.slots slot { c with formed := true } } := by
  simp only [completeOne, hc, hformed, hpic, hfatal, hwarm, Option.isSome_none, Bool.false_and, Bool.or_self, Bool.false_eq_true,
    if_false]
  rfl

/-- On a CQ in DIRECT that can be written and asks for no interrupt, an entry that need not wait is written, no more. -/
theorem cqForm_writes {k : Nat} {e : Entry} (hq : tfind s.qps k = some q) (hdel : q.deleting = none) (hst : q.st = .direct)
    (hreach : cqReach s k = true) (hfull : q.full = false) (hlink : (port s 0).link = .l0) (hien : q.ien = false)
    (hdef : s.deferred = []) (hwaits : cqWaits [] k e s = false) : cqForm k e s = cqWrite k e s := by
  have hwrote : tfind (cqWrite k e s).qps k = some (q.wrote e) := by rw [cqWrite_qps e hq, tfind_tput_same]
  rw [cqForm_delivers hq (.inr (by rw [hdef, hwaits])), cqDeliver_of_direct hq hdel hst hreach hfull hlink,
    cqModerate_of_quiet hwrote (irq_of_disabled _ hien), cqRelease_nil (by rw [cqWrite_deferred, hdef])]

end

/-- Settles O11: the completion is formed as one entry, which R233 either defers or lets be written. -/
theorem directCompletionFreesItsSlot : Obligations.DirectCompletionFreesItsSlot := by
  intro slot st r s c q hc hformed hpic hq hdel hst hreach hfull hlink hfatal hwarm hqid hien e t
  have ht : t = cqForm (qkey c.fn c.qid) e { s with slots := tput s.slots slot { c with formed := true } } :=
    completeOne_of_command hc hformed hpic hfatal hwarm
  refine ⟨fun hwaits => ht.trans (cqForm_defers hq hdel hwaits), fun hdef hwaits => ?_⟩
  have hwrite : t = cqWrite (qkey c.fn c.qid) e { s with slots := tput s.slots slot { c with formed := true } } :=
    ht.trans (cqForm_writes hq hdel hst hreach hfull hlink hien hdef hwaits)
  have hout : t.out = q.cqeOut (qkey c.fn c.qid) e :: (e.pre.reverse ++ s.out) :=
    (congrArg State.out hwrite).trans (cqWrite_out e hq)
  have hslots : t.slots = terase (tput s.slots slot { c with formed := true }) slot :=
    (congrArg State.slots hwrite).trans (cqWrite_slots e hq)
  refine ⟨?_, ?_, fun i hi => ?_⟩
  · rw [hout, QPair.cqeOut, qkey_div hqid, qkey_mod hqid]
  · rw [hslots, tfind_terase, if_pos rfl]
  · rw [hslots, tfind_terase, if_neg hi, tfind_tput_other _ _ _ _ hi]

/-! ### The doorbells of a pair (R218, R219) -/

section
variable {fn : Fin 64} {qid : Fin 256} {v : W64} {s : State} (hreach : hostReach s fn = true)
include hreach

theorem sqTailWrite_of_missized {b : Fin 4} {len : Nat} (h : b.val ≠ 0 ∨ len ≠ 4) :
    sqTailWrite fn qid b len v s = dbError fn qid true 0xFFFF s := by
  simp only [sqTailWrite, hreach, h, Bool.not_true, Bool.false_eq_true, if_false, if_true]

theorem cqHeadWrite_of_missized {b : Fin 4} {len : Nat} (h : b.val ≠ 0 ∨ len ≠ 4) :
    cqHeadWrite fn qid b len v s = dbError fn qid false 0xFFFF s := by
  simp only [cqHeadWrite, hreach, h, Bool.not_true, Bool.false_eq_true, if_false, if_true]

theorem sqTailWrite_of_noPair (hq : tfind s.qps (qkey fn qid) = none) :
    sqTailWrite fn qid 0 4 v s = dbError fn qid true (v.toNat % 2 ^ 16) s := by
  simp only [sqTailWrite, hreach, hq, Bool.not_true, Bool.false_eq_true, Fin.val_zero, ne_eq, not_true_eq_false, or_self, if_false]

theorem cqHeadWrite_of_noPair (hq : tfind s.qps (qkey fn qid) = none) :
    cqHeadWrite fn qid 0 4 v s = dbError fn qid false (v.toNat % 2 ^ 16) s := by
  simp only [cqHeadWrite, hreach, hq, Bool.not_true, Bool.false_eq_true, Fin.val_zero, ne_eq, not_true_eq_false, or_self, if_false]

variable {q : QPair} (hq : tfind s.qps (qkey fn qid) = some q) (hdel : q.deleting = none)
include hq hdel

/-- What a whole write does to the SQ tail of a pair: the one case split of R219 for the SQ. -/
theorem sqTailWrite_of_pair : sqTailWrite fn qid 0 4 v s =
    if 2 ^ q.sqLog ≤ v.toNat % 2 ^ 16 then dbError fn qid true (v.toNat % 2 ^ 16) s
    else if v.toNat % 2 ^ 16 = q.sqTail then s
    else { s with
      qps := tput s.qps (qkey fn qid) { q with sqTail := v.toNat % 2 ^ 16 }
      doorbells := tset 0 s.doorbells (2 * qkey fn qid) (v.toNat % 2 ^ 16) } := by
  simp only [sqTailWrite, hreach, hq, hdel, qpMod_eq _ hq, Bool.not_true, Bool.false_eq_true, Fin.val_zero, ne_eq,
    not_true_eq_false, Option.isSome_none, false_or, or_self, ge_iff_le, if_false]

end

/-- The head `n` lies on the path from the CQ's head to the device's tail, both included (R219). -/
def QPair.headValid (q : QPair) (n : Nat) : Prop :=
  n < 2 ^ q.cqLog ∧ (n + 2 ^ q.cqLog - q.cqHead) % 2 ^ q.cqLog ≤ (q.cqTail + 2 ^ q.cqLog - q.cqHead) % 2 ^ q.cqLog

section
variable {fn : Fin 64} {qid : Fin 256} {v : W64} {s : State} {q : QPair} (hreach : hostReach s fn = true)
  (hq : tfind s.qps (qkey fn qid) = some q) (hdel : q.deleting = none)
include hreach hq hdel

theorem cqHeadWrite_of_invalid (h : ¬ q.headValid (v.toNat % 2 ^ 16)) :
    cqHeadWrite fn qid 0 4 v s = dbError fn qid false (v.toNat % 2 ^ 16) s := by
  have hbad := Decidable.not_and_iff_not_or_not.mp h
  rw [Nat.not_lt, Nat.not_le] at hbad
  simp only [cqHeadWrite, hreach, hq, hdel, hbad, Bool.not_true, Bool.false_eq_true, Fin.val_zero, ne_eq,
    not_true_eq_false, Option.isSome_none, false_or, or_self, ge_iff_le, gt_iff_lt, if_false, if_true]

/-- What a valid write does to the CQ head of a pair. -/
theorem cqHeadWrite_of_valid (h : q.headValid (v.toNat % 2 ^ 16)) : cqHeadWrite fn qid 0 4 v s =
    let t := { s with
      qps := tput s.qps (qkey fn qid) { q with cqHead := v.toNat % 2 ^ 16 }
      doorbells := tset 0 s.doorbells (2 * qkey fn qid + 1) (v.toNat % 2 ^ 16) }
    if v.toNat % 2 ^ 16 = q.cqHead then s
    else if q.st = .stagedFull then cqStartFlush (qkey fn qid) t else t := by
  obtain ⟨hrange, hpath⟩ := h
  simp only [cqHeadWrite, hreach, hq, hdel, qpMod_eq _ hq, Nat.not_le.mpr hrange, Nat.not_lt.mpr hpath, Bool.not_true,
    Bool.false_eq_true, Fin.val_zero, ne_eq, not_true_eq_false, Option.isSome_none, or_self, if_false]

end

/-- Settles O14: a write that is not whole or names no pair is recorded; any other one goes by the range of its value. -/
theorem doorbellsMoveIndices : Obligations.DoorbellsMoveIndices := by
  intro fn qid v s hreach k n a s1 bad
  have hsq {b : Fin 4} {len : Nat} {t : State} (h : sqTailWrite fn qid b len v s = t) :
      exec (.sqTailDoorbell fn qid b len v) s = .next t := congrArg _ h
  have hcq {b : Fin 4} {len : Nat} {t : State} (h : cqHeadWrite fn qid b len v s = t) :
      exec (.cqHeadDoorbell fn qid b len v) s = .next t := congrArg _ h
  refine ⟨fun q hq hdel => ⟨fun hlt hne => hsq ?_, fun hlt heq => hsq ?_, fun hle => hsq ?_, fun hlt hpath => ?_,
    fun hbad => hcq (cqHeadWrite_of_invalid hreach hq hdel hbad)⟩, fun hq => ?_, fun b len h => ?_⟩
  · rw [sqTailWrite_of_pair hreach hq hdel, if_neg (Nat.not_le.mpr hlt), if_neg hne]
  · rw [sqTailWrite_of_pair hreach hq hdel, if_neg (Nat.not_le.mpr hlt), if_pos heq]
  · exact (sqTailWrite_of_pair hreach hq hdel).trans (if_pos hle)
  · have hvalid := cqHeadWrite_of_valid hreach hq hdel (v := v) ⟨hlt, hpath⟩
    refine ⟨fun hne hst => hcq ?_, fun hne hst => hcq ?_, fun heq => hcq ?_⟩
    · exact hvalid.trans ((if_neg hne).trans (if_neg hst))
    · exact hvalid.trans ((if_neg hne).trans (if_pos hst))
    · exact hvalid.trans (if_pos heq)
  · exact ⟨hsq (sqTailWrite_of_noPair hreach hq), hcq (cqHeadWrite_of_noPair hreach hq)⟩
  · exact ⟨hsq (sqTailWrite_of_missized hreach h), hcq (cqHeadWrite_of_missized hreach h)⟩

/-! ### Fetch (R220, R552) -/

section
variable {s : State} {cl k n : Nat} {q : QPair} (entry : BitVec 512)

theorem takeEntry_eq (hq : tfind s.qps k = some q) :
    takeEntry cl k n entry s = (lowFree s.slots 0, { s with
      slots := tput s.slots (lowFree s.slots 0) { fn := k / 256, qid := k % 256, entry := entry, order := s.fetchOrder }
      qps := tput s.qps k { q with sqHead := (q.sqHead + 1) % 2 ^ q.sqLog }
      fetchOrder := s.fetchOrder + 1, fetchPos := tset (0, 0) s.fetchPos cl (k + 1, n) }) :=
  congrArg (Prod.mk _) (qpMod_eq _ hq)

variable (h : fetchNext s = some (cl, k, n))
include h

theorem exec_sqFetch_takes : exec (.sqFetch entry) s = .next (settleBad (takeEntry cl k n entry s).2) := by
  change execSqFetch entry s = _
  simp only [execSqFetch, h]

theorem exec_sqEntryReadError_completes :
    exec .sqEntryReadError s = .next (finish (takeEntry cl k n (BitVec.ofNat 512 (0xFFFF * 2 ^ 16)) s).1 stDmaError
      (rcnt 0x90094 0 32 1 (takeEntry cl k n (BitVec.ofNat 512 (0xFFFF * 2 ^ 16)) s).2)) := by
  change execSqEntryReadError s = _
  simp only [execSqEntryReadError, h]
  rfl

/-- Fetch serves a class only where no class before it is due, and only over a link in L0. -/
theorem fetchNext_first : (cl = 0 ∨ fetchInClass s 0 = none) ∧ (cl ≤ 1 ∨ fetchInClass s 1 = none) ∧ (port s 0).link = .l0 := by
  unfold fetchNext at h
  split at h
  case isTrue => cases h
  case isFalse hup =>
    have hlink : (port s 0).link = .l0 := by
      simp only [not_or, ne_eq, Decidable.not_not] at hup
      exact hup.2.2.2.2
    split at h
    case h_1 => cases h; exact ⟨.inl rfl, .inl (by decide), hlink⟩
    case h_2 h0 h1 => cases h; exact ⟨.inr h0, .inl (by decide), hlink⟩
    case h_3 h0 h1 _ => cases h; exact ⟨.inr h0, .inr h1, hlink⟩
    case h_4 => cases h

end

/-- Settles O15: both commands take the entry as `takeEntry_eq` says. -/
theorem fetchTakesHeadIntoSlot : Obligations.FetchTakesHeadIntoSlot := by
  refine ⟨fun entry s cl k n q h hq => ?_, fun s cl k n q h hq => ?_, fun _ _ _ _ h => fetchNext_first h⟩
  · rw [exec_sqFetch_takes entry h, takeEntry_eq entry hq]
  · rw [exec_sqEntryReadError_completes h, takeEntry_eq _ hq]

end Sys2Proof.Machine
end

section
/-! The events of a queue pair: the end of AGG_TIME, the service timer, the enabling of an admin pair and its readiness, and the
unmasking of an interrupt vector (R234, R237, R238, R240, R242). -/

namespace Sys2Proof.Machine

section
variable {fn : Fin 64} {qid : Fin 256} {s : State} {q : QPair}

/-! ### The end of AGG_TIME (R237) -/

theorem exec_cqAggTimeout_signals (hq : tfind s.qps (qkey fn qid) = some q) (hst : q.st = .direct) (hirq : q.irq s.now = true)
    (hmask : (func s fn).mask.getLsbD q.vector = false) :
    exec (.cqAggTimeout fn qid) s = .next { s with
      qps := tput s.qps (qkey fn qid) { q with unsig := 0, urgUnsig := false }, out := .msix fn q.vector :: s.out } := by
  change execCqAggTimeout fn qid s = _
  simp only [execCqAggTimeout, hq, hst, if_true, cqModerate_of_irq hq hirq, qkey_div qid.isLt]
  exact congrArg _ (msixSend_of_unmasked hmask)

/-! ### The service timer (R238, R240) -/

/-- The pair with the time that its running service timer has reached. -/
def QPair.ranTo (q : QPair) (run now : Nat) : QPair := { q with svcRun := run, svcSince := some now }

theorem svcSync_of_running {k t0 : Nat} (hq : tfind s.qps k = some q) (hst : q.st = .stagedFull) (hsince : q.svcSince = some t0)
    (hruns : svcRuns s (k / 256) = true) :
    svcSync k s = { s with qps := tput s.qps k (q.ranTo (q.svcRun + (s.now - t0)) s.now) } := by
  rw [svcSync, qpMod_eq _ hq]
  simp only [hst, hsince, hruns, if_true, QPair.ranTo]

/-- Marking a pair just put in place gives the pair with the mark. -/
theorem qpMod_tput {k : Nat} {q : QPair} (g : QPair → QPair) :
    qpMod k g { s with qps := tput s.qps k q } = { s with qps := tput s.qps k (g q) } := by
  rw [qpMod_eq g (q := q) (tfind_tput_same _ _ _)]
  simp only [tput_tput]

section
variable {t0 : Nat} (hq : tfind s.qps (qkey fn qid) = some q) (hst : q.st = .stagedFull) (hstalled : q.stalled = false)
  (hsince : q.svcSince = some t0) (hruns : svcRuns s fn = true) (hbound : psMs q.svcBound ≤ q.svcRun + (s.now - t0))
include hq hst hstalled hsince hruns hbound

/-- A stall that has reached SVC_BOUND is marked, then the CQ's policy decides. -/
theorem exec_serviceTimerExpire_reached : exec (.serviceTimerExpire fn qid) s = .next (
    let s1 := { s with
      qps := tput s.qps (qkey fn qid) { q.ranTo (q.svcRun + (s.now - t0)) s.now with stalled := true } }
    if q.policyDrop then
      settleDeletes (cqRelease (forAll (q.staged ++ q.held) (fun e s => cqDrop (qkey fn qid) e s)
        (qpMod (qkey fn qid) (fun q => { q with staged := [], held := [] }) s1)))
    else if qkey fn qid = 0 then raise 0x2B 0 s1
    else evtPf 0x0027 9 (fn + qid * 2 ^ 8 + q.cqHead * 2 ^ 32) 0 s1) := by
  have hsync := svcSync_of_running hq hst hsince ((qkey_div (fn := fn) qid.isLt).symm ▸ hruns)
  have hreached : ¬ (q.st ≠ .stagedFull ∨ q.stalled ∨ q.svcRun + (s.now - t0) < psMs q.svcBound) := by
    simp only [hst, hstalled, Nat.not_lt.mpr hbound, ne_eq, not_true_eq_false, Bool.false_eq_true, or_self, not_false_iff]
  change execServiceTimerExpire fn qid s = _
  simp only [execServiceTimerExpire, hsync, tfind_tput_same, qpMod_tput]
  exact congrArg _ (if_neg hreached)

end

/-! ### The admin pair (R234, R242) -/

/-- The admin pair as a write of HQ_AQ_CFG with value `v` enables it, at the bases written before. -/
def QPair.enabled (q : QPair) (sqBase cqBase v : Nat) : QPair :=
  { q with
    sqBase := sqBase, cqBase := cqBase, sqLog := bitsOf v 0 4, cqLog := bitsOf v 4 4, sqHead := 0, sqTail := 0
    cqHead := 0, cqTail := 0, seq := 0, phase := true, vector := bitsOf v 8 5, ien := decide (bitsOf v 13 1 = 1)
    aggCount := 0, aggTime := 0, urgentBypass := false, policyDrop := false, svcBound := 100 }

/-- The sizes of both queues that the write names are within the bounds of R217. -/
def aqSizesOk (v : Nat) : Prop := 4 ≤ bitsOf v 0 4 ∧ bitsOf v 0 4 ≤ 12 ∧ 4 ≤ bitsOf v 4 4 ∧ bitsOf v 4 4 ≤ 14

section
variable {cfg : W32} (hreach : hostReach s fn = true) (hoff : bitAt (rget s (hqBase fn + 0x90)) 31 = false)
include hreach hoff

theorem exec_adminQueueEnable_inRange (h : aqSizesOk cfg.toNat) : exec (.adminQueueEnable fn cfg) s =
    .next (qpMod (qkey fn 0) (·.enabled (rget s (hqBase fn + 0x80)) (rget s (hqBase fn + 0x88)) cfg.toNat)
      (funcMod fn (fun f => { f with aqReady := false }) (rset (hqBase fn + 0x90) (cfg.toNat % 2 ^ 14 + 2 ^ 31) s))) := by
  obtain ⟨hs4, hs12, hc4, hc14⟩ := h
  change Host.Outcome.next (aqEnable fn cfg s) = _
  simp only [-Nat.reducePow, aqEnable, hreach, hoff, hs4, hs12, hc4, hc14, Bool.not_true, Bool.false_eq_true, or_self, decide_true,
    Bool.and_self, b2n, Nat.one_mul, if_false, if_true]
  rfl

theorem exec_adminQueueEnable_outOfRange (h : ¬ aqSizesOk cfg.toNat) :
    exec (.adminQueueEnable fn cfg) s = .next (rset (hqBase fn + 0x90) (cfg.toNat % 2 ^ 14) s) := by
  have hrange : (decide (4 ≤ bitsOf cfg.toNat 0 4) && decide (bitsOf cfg.toNat 0 4 ≤ 12) && decide (4 ≤ bitsOf cfg.toNat 4 4) &&
      decide (bitsOf cfg.toNat 4 4 ≤ 14)) = false := by
    simpa only [aqSizesOk, Bool.eq_false_iff, ne_eq, Bool.and_eq_true, decide_eq_true_eq, and_assoc] using h
  change Host.Outcome.next (aqEnable fn cfg s) = _
  simp only [aqEnable, hreach, hoff, hrange, Bool.not_true, Bool.not_false, Bool.false_eq_true, or_self, b2n, Nat.zero_mul,
    Nat.add_zero, if_false, if_true]

end

/-- EN stands at bit 31, above what the write leaves of the configuration. -/
theorem bitAt_enable (v : Nat) : bitAt (v % 2 ^ 14 + 2 ^ 31) 31 = true := by
  simp only [bitAt, beq_iff_eq]
  omega

theorem exec_aqReady_accepts (hready : s.boot.ready = true) (hen : bitAt (rget s (hqBase fn + 0x90)) 31 = true)
    (hfatal : isFatal s = false) (hnot : (func s fn).aqReady = false) (hq : tfind s.qps (qkey fn 0) = some q)
    (hst : q.st = .direct) : exec (.aqReady fn) s = .next (funcMod fn (fun f => { f with aqReady := true }) s) := by
  change execAqReady fn s = _
  simp only [execAqReady, hready, hen, hfatal, hnot, hq, hst, funcMod_qps, Bool.not_true, Bool.false_eq_true, or_self, reduceCtorEq,
    false_and, if_false]

/-! ### Unmasking a vector (R237) -/

/-- The function with mask and pending bit of a vector cleared. -/
def Func.unmasked (f : Func) (vec : Nat) : Func :=
  { f with mask := f.mask &&& ~~~(BitVec.ofNat 32 (2 ^ vec)), pend := f.pend &&& ~~~(BitVec.ofNat 32 (2 ^ vec)) }

theorem getLsbD_and_not_twoPow (b : W32) (vec i : Fin 32) :
    (b &&& ~~~(BitVec.ofNat 32 (2 ^ vec.val))).getLsbD i = (b.getLsbD i && decide (i ≠ vec)) := by
  simp only [BitVec.getLsbD_and, BitVec.getLsbD_not, BitVec.getLsbD_ofNat, Nat.testBit_two_pow, i.isLt, decide_true, Bool.true_and,
    ne_eq, decide_not, Fin.ext_iff, eq_comm]

theorem exec_msixUnmask_clears {vec : Fin 32} (hen : (func s fn).enabled = true) :
    exec (.msixUnmask fn vec) s = .next { funcMod fn (·.unmasked vec) s with
      out := if (func s fn).pend.getLsbD vec then .msix fn vec :: s.out else s.out } := by
  change execMsixUnmask fn vec s = _
  simp only [execMsixUnmask, hen, Bool.not_true, Bool.false_eq_true, if_false]
  split <;> rfl

end

/-- Settles O16: each of the five commands by its equation; the service timer by the CQ's policy. -/
theorem queueEventsActOnTheirPair : Obligations.QueueEventsActOnTheirPair := by
  refine ⟨fun _ _ _ _ => exec_cqAggTimeout_signals, fun fn qid s q t0 hq hst hstalled hsince hruns hbound => ?timer,
    fun fn cfg s q hreach hoff hq => ?enable, fun _ _ _ => exec_aqReady_accepts, fun fn vec s hen => ?unmask⟩
  case timer =>
    have hexpire := exec_serviceTimerExpire_reached hq hst hstalled hsince hruns hbound
    refine ⟨fun hpolicy hkey => ?_, fun hpolicy => ?_⟩
    · exact hexpire.trans (congrArg _ ((if_neg (Bool.eq_false_iff.mp hpolicy)).trans (if_neg hkey)))
    · exact hexpire.trans (congrArg _ (if_pos hpolicy))
  case enable =>
    refine ⟨fun hs4 hs12 hc4 hc14 => ⟨_, exec_adminQueueEnable_inRange hreach hoff ⟨hs4, hs12, hc4, hc14⟩, ?_, ?_, ?_, ?_, ?_⟩,
      exec_adminQueueEnable_outOfRange hreach hoff⟩
    · exact tfind_qpMod_same _ (by rw [funcMod_qps, rset_qps, hq])
    · rw [rget_qpMod, rget_funcMod, rget_rset_same, bitAt_enable]
    · rw [func_qpMod, func_funcMod_same]
    · rw [qpMod_sess, funcMod_sess, rset_sess]
    · rw [qpMod_slots, funcMod_slots, rset_slots]
  case unmask =>
    have hfunc : func (funcMod fn (·.unmasked vec) s) fn = (func s fn).unmasked vec := func_funcMod_same s fn _
    have hmask (i : Fin 32) := congrArg (fun f => f.mask.getLsbD i) hfunc
    have hpend := congrArg (fun f => f.pend.getLsbD vec) hfunc
    refine ⟨_, exec_msixUnmask_clears hen, (hmask vec).trans ?_, hpend.trans ?_, fun i hi => (hmask i).trans ?_, rfl, rfl⟩
    · simp only [Func.unmasked, getLsbD_and_not_twoPow, ne_eq, not_true_eq_false, decide_false, Bool.and_false]
    · simp only [Func.unmasked, getLsbD_and_not_twoPow, ne_eq, not_true_eq_false, decide_false, Bool.and_false]
    · simp only [Func.unmasked, getLsbD_and_not_twoPow, hi, ne_eq, not_false_eq_true, decide_true, Bool.and_true]

end Sys2Proof.Machine
end

section
/-! The network: the replay window of SRTCP (R258), the order of a subport's packets (R260), the packets and reports that leave
(R254, R260, R263), and where a received frame goes (R264, R268). -/

namespace Sys2Proof.Machine

/-! ### The replay window (R258) -/

section
variable {win : List Nat} {hi i : Nat}

/-- The first index opens the window. -/
theorem replayIn_of_empty : replayIn [] hi i = some ([0], i) := rfl

/-- An index above the highest moves the window up. -/
theorem replayIn_of_above (hw : win ≠ []) (h : hi < i) :
    replayIn win hi i = some (0 :: (win.map (· + (i - hi))).filter (· < 128), i) :=
  (if_neg hw).trans (if_pos h)

/-- An index not above the highest is refused where it is too old or was taken. -/
theorem replayIn_of_refused (hw : win ≠ []) (h : i ≤ hi) (hbad : 128 ≤ hi - i ∨ hi - i ∈ win) : replayIn win hi i = none := by
  rw [replayIn, if_neg hw, if_neg (Nat.not_lt.mpr h), if_pos (by simpa only [List.contains_iff_mem] using hbad)]

theorem replayIn_of_within (hw : win ≠ []) (h : i ≤ hi) (hnew : hi - i < 128) (hfree : hi - i ∉ win) :
    replayIn win hi i = some (win ++ [hi - i], hi) := by
  rw [replayIn, if_neg hw, if_neg (Nat.not_lt.mpr h), if_neg (by simpa only [List.contains_iff_mem, not_or, Nat.not_le] using ⟨hnew, hfree⟩)]

/-- What a window makes of the indices it takes: `w` and `h` are its offsets and its highest index once it has taken `i`. -/
structure TookIndex (i : Nat) (w : List Nat) (h : Nat) : Prop where
  below : ∀ x ∈ w, x < 128
  zero : 0 ∈ w
  le : i ≤ h
  mem : h - i ∈ w

theorem TookIndex.refuses {w : List Nat} {h : Nat} (ht : TookIndex i w h) : replayIn w h i = none :=
  replayIn_of_refused (List.ne_nil_of_mem ht.zero) ht.le (.inr ht.mem)

theorem replayIn_took (hwin : ∀ x ∈ win, x < 128) (hzero : win ≠ [] → 0 ∈ win) {w : List Nat} {h : Nat}
    (ht : replayIn win hi i = some (w, h)) : TookIndex i w h ∧ (win ≠ [] → h = max hi i) := by
  by_cases hw : win = []
  · subst hw
    cases ht
    refine ⟨⟨?_, List.mem_singleton_self 0, Nat.le_refl i, ?_⟩, fun hne => absurd rfl hne⟩
    · intro x hx; rw [List.mem_singleton.mp hx]; decide
    · rw [Nat.sub_self]; exact List.mem_singleton_self 0
  rcases Nat.lt_or_ge hi i with habove | hle
  · rw [replayIn_of_above hw habove] at ht
    cases ht
    refine ⟨⟨?_, List.mem_cons_self, Nat.le_refl i, ?_⟩, fun _ => (Nat.max_eq_right (Nat.le_of_lt habove)).symm⟩
    · refine List.forall_mem_cons.mpr ⟨by decide, fun x hx => ?_⟩
      exact of_decide_eq_true (List.mem_filter.mp hx).2
    · rw [Nat.sub_self]; exact List.mem_cons_self
  by_cases hbad : 128 ≤ hi - i ∨ hi - i ∈ win
  · rw [replayIn_of_refused hw hle hbad] at ht
    cases ht
  · obtain ⟨hnew, hfree⟩ := not_or.mp hbad
    rw [replayIn_of_within hw hle (Nat.not_le.mp hnew) hfree] at ht
    cases ht
    refine ⟨⟨?_, List.mem_append_left _ (hzero hw), hle, List.mem_append_right _ (List.mem_singleton_self _)⟩,
      fun _ => (Nat.max_eq_left hle).symm⟩
    refine List.forall_mem_append.mpr ⟨hwin, fun x hx => ?_⟩
    rw [List.mem_singleton.mp hx]
    exact Nat.not_le.mp hnew

end

/-- Settles O38: an index taken opens the window, moves it up or joins it; in each of the three it is an offset of the window
from then on, and so refused. -/
theorem replayWindowTakesEachIndexOnce : Obligations.ReplayWindowTakesEachIndexOnce := by
  refine fun win hi i hwin hzero => ⟨fun w h ht => ?_, replayIn_of_refused⟩
  obtain ⟨htook, hmax⟩ := replayIn_took hwin hzero ht
  exact ⟨htook.below, htook.zero, hmax, htook.le, htook.mem, htook.refuses⟩

/-! ### The order of a subport's packets (R260) -/

section
variable {t u v : TxPkt}

/-- Packet `t` goes no later than packet `u`. -/
def TxPkt.NotAfter (t u : TxPkt) : Prop :=
  t.lc < u.lc ∨ (t.lc = u.lc ∧ (t.due < u.due ∨ (t.due = u.due ∧ (t.sid < u.sid ∨ (t.sid = u.sid ∧ t.order ≤ u.order)))))

theorem TxPkt.notAfter_refl (t : TxPkt) : t.NotAfter t := .inr ⟨rfl, .inr ⟨rfl, .inr ⟨rfl, Nat.le_refl _⟩⟩⟩

theorem TxPkt.NotAfter.trans (h : t.NotAfter u) (h' : u.NotAfter v) : t.NotAfter v := by
  unfold NotAfter at *
  omega

/-- The test of R260 is the strict form of the order. -/
theorem TxPkt.before_iff : t.before u = true ↔ ¬ u.NotAfter t := by
  unfold before NotAfter
  split
  · rw [decide_eq_true_eq]; omega
  · split
    · rw [decide_eq_true_eq]; omega
    · split <;> rw [decide_eq_true_eq] <;> omega

theorem TxPkt.notAfter_of_before (h : t.before u = true) : t.NotAfter u := by
  rw [before_iff] at h
  unfold NotAfter at *
  omega

/-- Of two packets the one that goes first, the one seen earlier of equals. -/
def earlier (r : Option TxPkt) (t : TxPkt) : Option TxPkt :=
  match r with
  | none => some t
  | some u => if t.before u then some t else some u

theorem nextTx_eq (s : State) (sub : Nat) : nextTx s sub =
    (s.net.tx.filter (fun t => decide (t.due ≤ devNs s) && decide ((sessOf s t.sid).egress = sub))).foldl earlier none := rfl

/-- The earlier of two packets is one of them, and goes no later than either. -/
theorem earlier_some (t u : TxPkt) : ∃ w, earlier (some t) u = some w ∧ (w = t ∨ w = u) ∧ w.NotAfter t ∧ w.NotAfter u := by
  cases hb : u.before t with
  | true => exact ⟨u, if_pos hb, .inr rfl, TxPkt.notAfter_of_before hb, u.notAfter_refl⟩
  | false =>
    refine ⟨t, if_neg (by rw [hb]; decide), .inl rfl, t.notAfter_refl, ?_⟩
    exact Classical.not_not.mp (fun h => absurd (TxPkt.before_iff.mpr h) (by rw [hb]; decide))

theorem foldl_earlier_some (l : List TxPkt) (t : TxPkt) :
    ∃ w, l.foldl earlier (some t) = some w ∧ w ∈ t :: l ∧ ∀ u ∈ t :: l, w.NotAfter u := by
  induction l generalizing t with
  | nil => exact ⟨t, rfl, List.mem_singleton_self t, fun u hu => List.mem_singleton.mp hu ▸ t.notAfter_refl⟩
  | cons u l ih =>
    obtain ⟨w, hw, hmem, hwt, hwu⟩ := earlier_some t u
    obtain ⟨x, hx, hxmem, hxfirst⟩ := ih w
    have hxw : x.NotAfter w := hxfirst w List.mem_cons_self
    refine ⟨x, by rw [List.foldl_cons, hw, hx], ?_, ?_⟩
    · rcases List.mem_cons.mp hxmem with rfl | hxl
      · rcases hmem with rfl | rfl
        · exact List.mem_cons_self
        · exact List.mem_cons_of_mem _ List.mem_cons_self
      · exact List.mem_cons_of_mem _ (List.mem_cons_of_mem _ hxl)
    · exact List.forall_mem_cons.mpr ⟨hxw.trans hwt,
        List.forall_mem_cons.mpr ⟨hxw.trans hwu, fun y hy => hxfirst y (List.mem_cons_of_mem _ hy)⟩⟩

theorem foldl_earlier_none {l : List TxPkt} (h : l.foldl earlier none = some t) : t ∈ l ∧ ∀ u ∈ l, t.NotAfter u := by
  cases l with
  | nil => cases h
  | cons v l =>
    obtain ⟨w, hw, hmem, hfirst⟩ := foldl_earlier_some l v
    cases hw.symm.trans h
    exact ⟨hmem, hfirst⟩

end

/-- Settles O33: the fold over the due packets of the subport keeps the one that goes first. -/
theorem subportSendsInOrder : Obligations.SubportSendsInOrder := by
  intro s sub t h
  obtain ⟨hmem, hfirst⟩ := foldl_earlier_none ((nextTx_eq s sub).symm.trans h)
  simp only [List.mem_filter, Bool.and_eq_true, decide_eq_true_eq] at hmem hfirst
  obtain ⟨htx, hdue, hsub⟩ := hmem
  exact ⟨htx, hdue, hsub, fun u hu hudue husub => hfirst u ⟨hu, hudue, husub⟩⟩

/-! ### Packets and reports that leave (R254, R260, R263) -/

section
variable {s : State}

theorem exec_rowPacketise_packs {sid : Fin 4096} {p : Pic} {n : RowNotice} (hf : isFatal s = false) (hw : s.boot.warm = false)
    (hkind : (sessOf s sid).kind ≠ .decode) (hpol : polOpen s (ethPolderOf (sessOf s sid).egress) = true)
    (hkept : keptOf s (laneOf (sessOf s sid)) < 1024) (hp : (sessOf s sid).packing = some p)
    (hn : (sessOf s sid).nextNotice p = some n) :
    exec (.rowPacketise sid) s = .next (packRow sid p.num n (firstRow sid p s)) := by
  change execRowPacketise sid s = _
  simp only [execRowPacketise, hf, hw, hkind, hpol, Nat.not_le.mpr hkept, hp, hn, Bool.not_true, Bool.false_eq_true,
    or_self, if_false]

/-- The state with the packet out of the schedule. -/
def State.untx (s : State) (t : TxPkt) : State := { s with net := { s.net with tx := dropFirst (fun u => u == t) s.net.tx } }

/-- Its picture counts one packet less, and may be done. -/
def TxPkt.counted (t : TxPkt) (s : State) : State :=
  pictureSent t.sid t.pic (picMod t.sid t.pic (fun p => { p with pktsOut := p.pktsOut - 1 }) s)

/-- The packet due leaves the schedule: discarded where it is dead or the link is down, else on the wire. -/
theorem exec_packetSend_takes {sub : Fin 8} {t : TxPkt} (hf : isFatal s = false) (hw : s.boot.warm = false)
    (hbusy : (subOf s sub).busyUntil ≤ s.now) (hpol : polOpen s (ethPolderOf sub) = true) (ht : nextTx s sub = some t) :
    exec (.packetSend sub) s = .next (t.counted
      (if t.dead = true ∨ (subOf s sub).up = false then pktCnt 4 1 (s.untx t) else sendPkt sub t (s.untx t))) := by
  change execPacketSend sub s = _
  simp only [execPacketSend, hf, hw, hpol, Nat.not_lt.mpr hbusy, ht, Bool.not_true, Bool.false_eq_true, or_self, if_false,
    Bool.not_eq_true']
  rfl

theorem exec_srSend_sends {sid : Fin 4096} {t : Nat} (hnext : (sessOf s sid).tr.srNext = some t) (ht : t ≤ devNs s)
    (hf : isFatal s = false) (hw : s.boot.warm = false) (hkind : (sessOf s sid).kind ≠ .decode)
    (hst : (sessOf s sid).st.reports = true) (hpol : polOpen s (ethPolderOf (sessOf s sid).egress) = true) :
    let iv := (sessOf s sid).nw.srInterval * 1000000
    let draw := drawIn (iv * 3 / 4) (iv * 5 / 4) s
    exec (.srSend sid) s = .next (sendSr sid false
      (sessMod sid (fun x => { x with tr := { x.tr with srNext := some (devNs s + draw.1) } }) draw.2)) := by
  change execSrSend sid s = _
  simp only [execSrSend, hnext, hf, hw, hkind, hst, hpol, Nat.not_lt.mpr ht, Bool.not_true, Bool.false_eq_true, or_self, if_false]

end

/-- Settles O34: each of the three commands by its equation; a packet by whether it can go out. -/
theorem packetsFormAndLeave : Obligations.PacketsFormAndLeave := by
  refine ⟨fun _ _ _ _ => exec_rowPacketise_packs, fun sub s t hf hw hbusy hpol ht => ?_,
    fun _ _ _ hnext ht hf hw hkind hst => exec_srSend_sends hnext ht hf hw hkind hst⟩
  have htakes := exec_packetSend_takes hf hw hbusy hpol ht
  refine ⟨fun hgone => htakes.trans (by rw [if_pos hgone]; rfl), fun hlive hup => htakes.trans ?_⟩
  rw [if_neg (by rw [hlive, hup]; decide)]
  rfl

/-! ### Received frames (R258, R264, R268, R279) -/

section
variable {s : State} {sub : Fin 8} {f : RxFrame}

/-- The MAC address of a subport. -/
def macOf (s : State) (sub : Fin 8) : Nat := rget s (0x20088 + 0x1000 * (sub.val / 4) + 8 * (sub.val % 4)) % 2 ^ 48

/-- A frame that is not discarded (R245): whole, of a length in range, no MAC control, for this address or a group. -/
def RxFrame.good (f : RxFrame) (mac : Nat) : Prop :=
  f.fcs = true ∧ 64 ≤ f.len ∧ f.len ≤ 9216 ∧ f.macCtl = false ∧ (f.dst = mac ∨ bitAt f.dst 40 = true)

/-- The discard test of R245 is met by the frames that are not good. -/
theorem discarded_iff_not_good {mac : Nat} :
    (!f.fcs ∨ f.len < 64 ∨ f.len > 9216 ∨ f.macCtl ∨ (f.dst ≠ mac ∧ !bitAt f.dst 40)) ↔ ¬ f.good mac := by
  simp only [RxFrame.good, Decidable.not_and_iff_not_or_not, not_or, Nat.not_le, gt_iff_lt, Bool.not_eq_true', Bool.not_eq_true,
    Bool.not_eq_false, ne_eq]

/-- Where the body of a good frame goes, `s` being the state as the frame came and `t` with the frame counted. -/
def deliverBody (sub : Fin 8) (f : RxFrame) (s t : State) : State :=
  match f.body with
  | .ptp dom tr m => ptpFrame sub dom tr m t
  | .other r => exception sub r f t
  | .udp ver src sport dst dport uni csum pt k =>
    match sessionAt s sub ver dst dport with
    | none => exception sub 0 f t
    | some sid => if uni ∧ csum ∧ 192 ≤ pt ∧ pt ≤ 223 then sessionRtcp sid src sport k t else exception sub 5 f t

theorem exec_receiveFrame_down (hup : (subOf s sub).up = false) : exec (.receiveFrame sub f) s = .next s := by
  change execReceiveFrame sub f s = _
  simp only [execReceiveFrame, hup, Bool.not_false, true_or, if_true]

section
variable (hf : isFatal s = false) (hw : s.boot.warm = false) (hup : (subOf s sub).up = true)
include hf hw hup

theorem exec_receiveFrame_up : exec (.receiveFrame sub f) s = .next
    (if !f.fcs ∨ f.len < 64 ∨ f.len > 9216 ∨ f.macCtl ∨ (f.dst ≠ macOf s sub ∧ !bitAt f.dst 40) then rcnt (aEthCnt sub 2) 0 64 1 s
      else deliverBody sub f s (rcnt (aEthCnt sub 1) 0 64 1 s)) := by
  change execReceiveFrame sub f s = _
  simp only [execReceiveFrame, hf, hw, hup, Bool.not_true, Bool.false_eq_true, or_self, if_false]
  rfl

theorem exec_receiveFrame_bad (h : ¬ f.good (macOf s sub)) :
    exec (.receiveFrame sub f) s = .next (rcnt (aEthCnt sub 2) 0 64 1 s) := by
  rw [exec_receiveFrame_up hf hw hup, if_pos (discarded_iff_not_good.mpr h)]

theorem exec_receiveFrame_good (h : f.good (macOf s sub)) :
    exec (.receiveFrame sub f) s = .next (deliverBody sub f s (rcnt (aEthCnt sub 1) 0 64 1 s)) := by
  rw [exec_receiveFrame_up hf hw hup, if_neg (fun hbad => discarded_iff_not_good.mp hbad h)]

end

/-! ### Where the body of a good frame goes -/

variable {t : State}

theorem deliverBody_of_noSession {ver src sport dst dport : Nat} {uni csum : Bool} {pt : Nat} {k : RtcpIn}
    (hbody : f.body = .udp ver src sport dst dport uni csum pt k) (hat : sessionAt s sub ver dst dport = none) :
    deliverBody sub f s t = exception sub 0 f t := by
  simp only [deliverBody, hbody, hat]

/-- An SRTCP compound: a unicast datagram with a good checksum and a packet type from 192 to 223 (R264). -/
theorem deliverBody_of_rtcp {ver src sport dst dport sid : Nat} {uni csum : Bool} {pt : Nat} {k : RtcpIn}
    (hbody : f.body = .udp ver src sport dst dport uni csum pt k) (hat : sessionAt s sub ver dst dport = some sid)
    (huni : uni = true) (hcsum : csum = true) (hmin : 192 ≤ pt) (hmax : pt ≤ 223) :
    deliverBody sub f s t = sessionRtcp sid src sport k t := by
  simp only [deliverBody, hbody, hat, huni, hcsum, hmin, hmax, and_self, if_true]

end

/-- Settles O37: a frame on a link that is up is discarded or delivered, and delivery goes by the body. -/
theorem receivedFramesGoOneWay : Obligations.ReceivedFramesGoOneWay := by
  intro sub f s hf hw mac good
  refine ⟨exec_receiveFrame_down, exec_receiveFrame_bad hf hw, fun hup hgood => ?_⟩
  have hexec := exec_receiveFrame_good hf hw hup hgood
  refine ⟨fun dom tr m hbody => hexec.trans ?_, fun r hbody => hexec.trans ?_, fun ver src sport dst dport uni csum pt k hbody =>
    ⟨fun hat => hexec.trans (congrArg _ (deliverBody_of_noSession hbody hat)), fun sid hat huni hcsum hmin hmax =>
      hexec.trans (congrArg _ (deliverBody_of_rtcp hbody hat huni hcsum hmin hmax))⟩⟩ <;>
    rw [deliverBody, hbody]

end Sys2Proof.Machine
end

section
/-! An idle step (R272, R453, R501). -/

namespace Sys2Proof.Machine

/-! ### The idle step -/

/-- A state whose interrupt controller lists level source 1 twice: pending in front, driven by a header behind. -/
def sourceListedTwice : State := { micSrc := [(1, { pend := true }), (1, { hdr := true })] }

/-- The entry behind makes the source one to drop, though the entry that reads as its record has no header level. -/
theorem micSrcOf_tick_sourceListedTwice : micSrcOf (tick sourceListedTwice) 1 = {} := by decide +kernel

/-- Refutes O2: the statement is about every state, and the sample takes the sources to drop from the entries of the table. Where
a source is listed twice, which no table in canonical form does, an idle step clears the pending bit of a source whose header
level stays low. -/
theorem not_idleStepIsOneClockCycle : ¬ Obligations.IdleStepIsOneClockCycle := by
  intro h
  obtain ⟨t, hstep, -, -, -, -, hsame, -⟩ := h sourceListedTwice rfl
  obtain rfl : tick sourceListedTwice = t := next_inj hstep
  have hkept := hsame 1 (by rw [micSrcOf_tick_sourceListedTwice]; rfl)
  rw [micSrcOf_tick_sourceListedTwice] at hkept
  cases hkept

end Sys2Proof.Machine
end

section
/-! The frame of every command (R272, R453; that a command takes no model time and leaves the queue when it is taken is log 1's
choice). What drives the block is the commands that wait and model time; each operation of the model keeps it, and has one
equation that says so. A command is a composition of operations, so only one that branches on a state it has changed, or gives a
body to a shared form of commands, is split by hand. -/

namespace Sys2Proof.Machine

/-- What drives the block: the commands that wait and model time. -/
def State.drive (s : State) : List Instr × Nat := (s.pending, s.now)

/-- The outcome of a command leaves what drives the block as in `s`. -/
def Keeps (s : State) (o : Host.Outcome State Fault Refusal) : Prop := ∀ t, o = .next t → t.drive = s.drive

section
variable (s : State)

@[simp] theorem State.drive_eta : (s.pending, s.now) = s.drive := (rfl)

/-- An update of the other fields keeps it. -/
@[simp] theorem State.drive_mk {pending board boot now clk adj regs halves funs ports qps slots fetchOrder fetchPos
    deferred doorbells sess pels cores pairs mcs bpm dram bufm dma mbx micSrc micTgt flt gears nvs net time sec mcode
    jtagIr rebalanceAt free out} :
    (State.mk pending board boot now clk adj regs halves funs ports qps slots fetchOrder fetchPos deferred doorbells
      sess pels cores pairs mcs bpm dram bufm dma mbx micSrc micTgt flt gears nvs net time sec mcode jtagIr rebalanceAt
      free out).drive = (pending, now) :=
  (rfl)

@[simp] theorem ite_drive (p : Prop) [Decidable p] (s t : State) :
    (if p then s else t).drive = if p then s.drive else t.drive :=
  apply_ite State.drive p s t

/-- The state of a pair that a function answers. -/
theorem drive_of_eq {α : Type} {x : α × State} {a : α} {s t : State} (h : x = (a, t)) (hx : x.2.drive = s.drive) :
    t.drive = s.drive := by
  rw [h] at hx
  exact hx

theorem DeliveryOnly.drive {s t : State} (h : DeliveryOnly s t) : t.drive = s.drive := by
  rw [h]
  rfl

@[simp] theorem keeps_next {s t : State} : Keeps s (.next t) ↔ t.drive = s.drive :=
  ⟨fun h => h t rfl, fun h _ ht => next_inj ht ▸ h⟩

@[simp] theorem keeps_fault {f : Fault} : Keeps s (.fault f) := fun _ h => nomatch h

/-! ### Registers and records -/

@[simp] theorem rset_drive (a v : Nat) : (rset a v s).drive = s.drive := (rfl)
@[simp] theorem rfset_drive (a lo n v : Nat) : (rfset a lo n v s).drive = s.drive := (rfl)
@[simp] theorem rcnt_drive (a lo n k : Nat) : (rcnt a lo n k s).drive = s.drive := (rfl)
@[simp] theorem emit_drive (o : Out) : (emit o s).drive = s.drive := (rfl)
@[simp] theorem takeFree_drive : (takeFree s).2.drive = s.drive := (rfl)
@[simp] theorem pgEvt_drive (p : Page) (b : Nat) : (pgEvt p b s).drive = s.drive := (rfl)
@[simp] theorem pgBlock_drive (p : Page) : (pgBlock p s).drive = s.drive := (rfl)
@[simp] theorem polMod_drive (i : Nat) (f : Polder → Polder) : (polMod i f s).drive = s.drive := (rfl)
@[simp] theorem funcMod_drive (f : Nat) (g : Func → Func) : (funcMod f g s).drive = s.drive := (rfl)
@[simp] theorem portMod_drive (i : Nat) (g : Port → Port) : (portMod i g s).drive = s.drive := (rfl)
@[simp] theorem sessMod_drive (i : Nat) (g : Session → Session) : (sessMod i g s).drive = s.drive := (rfl)
@[simp] theorem coreMod_drive (i : Nat) (g : Core → Core) : (coreMod i g s).drive = s.drive := (rfl)
@[simp] theorem pelMod_drive (i : Nat) (g : Pel → Pel) : (pelMod i g s).drive = s.drive := (rfl)
@[simp] theorem pairMod_drive (i : Nat) (g : Pair → Pair) : (pairMod i g s).drive = s.drive := (rfl)
@[simp] theorem mcMod_drive (i : Nat) (g : Mc → Mc) : (mcMod i g s).drive = s.drive := (rfl)
@[simp] theorem chMod_drive (n c : Nat) (g : McCh → McCh) : (chMod n c g s).drive = s.drive := (rfl)
@[simp] theorem gearMod_drive (i : Nat) (g : Gear → Gear) : (gearMod i g s).drive = s.drive := (rfl)
@[simp] theorem subMod_drive (i : Nat) (g : Subport → Subport) : (subMod i g s).drive = s.drive := (rfl)
@[simp] theorem raiseRep_drive (r : Report) : (raiseRep r s).drive = s.drive := (rfl)
@[simp] theorem raise_drive (kind inst : Nat) : (raise kind inst s).drive = s.drive := (rfl)

@[simp] theorem raiseAt_drive (kind inst addr addrKind requester access : Nat) :
    (raiseAt kind inst addr addrKind requester access s).drive = s.drive :=
  (rfl)

@[simp] theorem forAll_drive {α : Type} (l : List α) {f : α → State → State} (hf : ∀ a u, (f a u).drive = u.drive) :
    (forAll l f s).drive = s.drive :=
  forAll_keeps (fun u => u.drive = s.drive) f (fun a u hu => (hf a u).trans hu) l s rfl

/-! ### Buffers -/

@[simp] theorem poolMod_drive (p : Nat) (g : Pool → Pool) : (poolMod p g s).drive = s.drive := (rfl)
@[simp] theorem bufMod_drive (k : Nat) (g : BufRec → BufRec) : (bufMod k g s).drive = s.drive := (rfl)
@[simp] theorem bufErase_drive (k : Nat) : (bufErase k s).drive = s.drive := (rfl)

@[simp] theorem ticketsClear_drive (rid : Option Nat) : (ticketsClear rid s).drive = s.drive := by
  cases rid with
  | none => rfl
  | some w => simp [ticketsClear]

theorem takeBuf_drive {p : Nat} {r : AllocReq} {s t : State} {h : Nat} (ht : takeBuf p r s = some (h, t)) :
    t.drive = s.drive := by
  unfold takeBuf at ht
  split at ht
  · cases ht
  · cases ht
    simp

@[simp] theorem refuse_drive (r : AllocReq) : (refuse r s).drive = s.drive := by
  unfold refuse
  cases r.rid with
  | none => simp
  | some w => simp

@[simp] theorem bpmAlloc_drive (r : AllocReq) : (bpmAlloc r s).2.drive = s.drive := by
  unfold bpmAlloc
  split
  · rfl
  split
  · rfl
  split
  · simp
  split
  · simp
  next ht =>
    split
    · exact takeBuf_drive ht
    · simp [takeBuf_drive ht]

@[simp] theorem bpmReject_drive (port kind h : Nat) :
    (bpmReject port kind h s).drive = s.drive := by
  simp [bpmReject]

@[simp] theorem bpmRef_drive (port who h : Nat) : (bpmRef port who h s).2.drive = s.drive := by
  unfold bpmRef
  split
  · rfl
  split <;> simp

@[simp] theorem bufReturn_drive (k : Nat) : (bufReturn k s).drive = s.drive := by simp [bufReturn]

@[simp] theorem bpmUnref_drive (port who h : Nat) (host : Bool) :
    (bpmUnref port who h host s).2.drive = s.drive := by
  unfold bpmUnref
  split
  · rfl
  split
  · simp
  · simp [apply_ite Prod.snd]

@[simp] theorem bpmReserve_drive (p sid n : Nat) : (bpmReserve p sid n s).2.drive = s.drive := by
  simp [bpmReserve, apply_ite Prod.snd]

@[simp] theorem bpmUnreserve_drive (p sid n : Nat) : (bpmUnreserve p sid n s).drive = s.drive := (rfl)

@[simp] theorem dropRef_drive (port h : Nat) : (dropRef port h s).drive = s.drive := by
  unfold dropRef
  (repeat' split) <;> simp

@[simp] theorem addRef_drive (port h : Nat) : (addRef port h s).drive = s.drive := by
  unfold addRef
  (repeat' split) <;> simp

@[simp] theorem reissue_drive : (reissue s).drive = s.drive := by simp [reissue]
@[simp] theorem bufWrite_drive (k off : Nat) (l : List Byte) :
    (bufWrite k off l s).drive = s.drive := by
  simp [bufWrite]

/-! ### Completions and queued commands -/

@[simp] theorem qpMod_drive (k : Nat) (g : QPair → QPair) : (qpMod k g s).drive = s.drive :=
  ((DeliveryOnly.refl s).after_qpMod k g).drive

@[simp] theorem slotFree_drive (o : Option Nat) : (slotFree o s).drive = s.drive :=
  ((DeliveryOnly.refl s).after_slotFree o).drive

@[simp] theorem cqWrite_drive (k : Nat) (e : Entry) : (cqWrite k e s).drive = s.drive :=
  ((DeliveryOnly.refl s).after_cqWrite k e).drive

@[simp] theorem msixSend_drive (fn vec : Nat) : (msixSend fn vec s).drive = s.drive :=
  ((DeliveryOnly.refl s).after_msixSend fn vec).drive

@[simp] theorem cqModerate_drive (k : Nat) : (cqModerate k s).drive = s.drive :=
  ((DeliveryOnly.refl s).after_cqModerate k).drive

@[simp] theorem svcSync_drive (k : Nat) : (svcSync k s).drive = s.drive := by simp [svcSync]

@[simp] theorem cqDrop_drive (k : Nat) (e : Entry) : (cqDrop k e s).drive = s.drive :=
  ((DeliveryOnly.refl s).after_cqDrop k e).drive

@[simp] theorem cqPour_drive (k : Nat) : (cqPour k s).drive = s.drive :=
  ((DeliveryOnly.refl s).after_cqPour k).drive

@[simp] theorem cqL1Check_drive (k : Nat) : (cqL1Check k s).drive = s.drive :=
  ((DeliveryOnly.refl s).after_cqL1Check k).drive

@[simp] theorem cqReleaseN_drive (n : Nat) : (cqReleaseN n s).drive = s.drive :=
  ((DeliveryOnly.refl s).after_cqReleaseN n).drive

@[simp] theorem cqRelease_drive : (cqRelease s).drive = s.drive := cqReleaseN_drive s _

@[simp] theorem cqStartFlush_drive (k : Nat) : (cqStartFlush k s).drive = s.drive := by simp [cqStartFlush]

@[simp] theorem event_drive (k code idx : Nat) (sid : Option Nat) (r0 r1 r2 r3 ext : Nat) :
    (event k code idx sid r0 r1 r2 r3 ext s).drive = s.drive :=
  ((DeliveryOnly.refl s).after_event k code idx sid r0 r1 r2 r3 ext).drive

@[simp] theorem evtPf_drive (code idx r0 r1 : Nat) : (evtPf code idx r0 r1 s).drive = s.drive := by simp [evtPf]

@[simp] theorem evtSess_drive (sid code idx r0 r1 r2 r3 ext : Nat) :
    (evtSess sid code idx r0 r1 r2 r3 ext s).drive = s.drive := by simp [evtSess]

@[simp] theorem settleDeletes_drive : (settleDeletes s).drive = s.drive :=
  (DeliveryOnly.refl s).after_settleDeletes.drive

@[simp] theorem settleBad_drive : (settleBad s).drive = s.drive :=
  (DeliveryOnly.refl s).after_settleBad.drive

@[simp] theorem complete_drive (slot st : Nat) (r : Res) : (complete slot st r s).drive = s.drive :=
  ((DeliveryOnly.refl s).after_complete slot st r).drive

@[simp] theorem finish_drive (slot st : Nat) : (finish slot st s).drive = s.drive := by simp [finish]

@[simp] theorem hold_drive (slot : Nat) : (hold slot s).drive = s.drive := by
  unfold hold
  split <;> simp

@[simp] theorem runCmd_drive (slot opc : Nat) (ok : Slot → State → Bool) {body : Slot → State → State}
    (hbody : ∀ c u, (body c u).drive = u.drive) : (runCmd slot opc ok body s).drive = s.drive := by
  rcases runCmd_cases slot opc ok body s with h | ⟨st, h⟩ | ⟨c, -, h⟩
  · rw [h]
  · rw [h, finish_drive]
  · rw [h, hbody]

/-! ### Queue pairs, fetch and functions -/

@[simp] theorem execDeleteQp_keeps (slot : Nat) : Keeps s (execDeleteQp slot s) := by
  refine keeps_next.mpr (runCmd_drive s _ _ _ (fun c u => ?_))
  dsimp only
  (repeat' split) <;> simp

@[simp] theorem execSetCqModeration_keeps (slot : Nat) : Keeps s (execSetCqModeration slot s) := by
  refine keeps_next.mpr (runCmd_drive s _ _ _ (fun c u => ?_))
  dsimp only
  (repeat' split) <;> simp

@[simp] theorem dbError_drive (fn qid : Nat) (sq : Bool) (value : Nat) :
    (dbError fn qid sq value s).drive = s.drive := by
  simp [dbError]

@[simp] theorem sqTailWrite_drive (fn : Fin 64) (qid : Fin 256) (at4 : Fin 4) (len : Nat) (value : W64) :
    (sqTailWrite fn qid at4 len value s).drive = s.drive := by
  unfold sqTailWrite
  dsimp only
  (repeat' split) <;> simp

@[simp] theorem cqHeadWrite_drive (fn : Fin 64) (qid : Fin 256) (at4 : Fin 4) (len : Nat) (value : W64) :
    (cqHeadWrite fn qid at4 len value s).drive = s.drive := by
  unfold cqHeadWrite
  dsimp only
  (repeat' split) <;> simp

@[simp] theorem takeEntry_drive (cl k n : Nat) (entry : BitVec 512) :
    (takeEntry cl k n entry s).2.drive = s.drive := by
  simp [takeEntry]

@[simp] theorem execSqFetch_keeps (entry : BitVec 512) : Keeps s (execSqFetch entry s) := by
  unfold execSqFetch
  split <;> simp

@[simp] theorem execSqEntryReadError_keeps : Keeps s (execSqEntryReadError s) := by
  unfold execSqEntryReadError
  split <;> simp

@[simp] theorem execCqAggTimeout_keeps (fn : Fin 64) (qid : Fin 256) : Keeps s (execCqAggTimeout fn qid s) := by
  unfold execCqAggTimeout
  dsimp only
  split <;> simp

@[simp] theorem execServiceTimerExpire_keeps (fn : Fin 64) (qid : Fin 256) :
    Keeps s (execServiceTimerExpire fn qid s) := by
  unfold execServiceTimerExpire
  dsimp only
  split <;> simp

@[simp] theorem aqEnable_drive (fn : Fin 64) (cfg : W32) : (aqEnable fn cfg s).drive = s.drive := by simp [aqEnable]

@[simp] theorem execAqReady_keeps (fn : Fin 64) : Keeps s (execAqReady fn s) := by
  unfold execAqReady
  dsimp only
  (repeat' split) <;> simp

@[simp] theorem flushIn_drive (l : List Nat) (want : CqSt → Bool) : (flushIn l want s).drive = s.drive := by
  refine forAll_drive s l (fun k u => ?_)
  split <;> simp

@[simp] theorem srOrders_drive : (srOrders s).drive = s.drive := by simp [srOrders]

@[simp] theorem execBufAlloc_keeps (slot : Nat) : Keeps s (execBufAlloc slot s) := by
  refine keeps_next.mpr (runCmd_drive s _ _ _ (fun c u => ?_))
  split
  all_goals
    next h => simp [drive_of_eq h (bpmAlloc_drive u _)]

@[simp] theorem execBufWrite_keeps (slot : Nat) (data : Option HostBuf) : Keeps s (execBufWrite slot data s) := by
  refine keeps_next.mpr (runCmd_drive s _ _ _ (fun c u => ?_))
  dsimp only
  (repeat' split) <;> simp

@[simp] theorem execBufRead_keeps (slot : Nat) (ok : Bool) : Keeps s (execBufRead slot ok s) := by
  refine keeps_next.mpr (runCmd_drive s _ _ _ (fun c u => ?_))
  dsimp only
  (repeat' split) <;> simp

@[simp] theorem execBufRelease_keeps (slot : Nat) : Keeps s (execBufRelease slot s) := by
  rw [execBufRelease, keeps_next]
  split
  · rfl
  refine runCmd_drive s _ _ _ (fun c u => ?_)
  split
  all_goals
    next h => simp [drive_of_eq h (bpmUnref_drive u _ _ _ _)]

@[simp] theorem ethTx_drive (sub : Nat) (kind : PktKind) (sid seq len : Nat) :
    (ethTx sub kind sid seq len s).drive = s.drive := by simp [ethTx]

/-! ### The interrupt controller -/

@[simp] theorem micSrcMod_drive (n : Nat) (f : MicSrc → MicSrc) : (micSrcMod n f s).drive = s.drive := (rfl)
@[simp] theorem micTgtMod_drive (t : Nat) (f : MicTgt → MicTgt) : (micTgtMod t f s).drive = s.drive := (rfl)
@[simp] theorem micSettle_drive : (micSettle s).drive = s.drive := by simp [micSettle]
@[simp] theorem micSignal_drive (n : Nat) (on : Bool) : (micSignal n on s).drive = s.drive := by simp [micSignal]
@[simp] theorem micPulse_drive (n : Nat) : (micPulse n s).drive = s.drive := by simp [micPulse]

@[simp] theorem micClaim_drive (req : Req) (t : Fin 9) : (micClaim req t s).2.drive = s.drive := by
  simp [micClaim, apply_ite Prod.snd]

@[simp] theorem micUnmatched_drive (t n : Nat) : (micUnmatched t n s).drive = s.drive := by simp [micUnmatched]
@[simp] theorem micEoi_drive (req : Req) (t : Fin 9) (src : Fin 512) :
    (micEoi req t src s).drive = s.drive := by
  simp [micEoi]
@[simp] theorem micSwi_drive (req : Req) (set : W32) : (micSwi req set s).drive = s.drive := by simp [micSwi]

@[simp] theorem micCfgWrite_drive (req : Req) (src : Fin 512) (cfg : W32) :
    (micCfgWrite req src cfg s).drive = s.drive := by
  unfold micCfgWrite
  dsimp only
  (repeat' split) <;> simp only [micSettle_drive, micSrcMod_drive, rset_drive]

/-! ### The DMA engine -/

@[simp] theorem dmaMod_drive (c : Nat) (f : DmaCh → DmaCh) : (dmaMod c f s).drive = s.drive := (rfl)
@[simp] theorem dmaGo_drive (c : Nat) : (dmaGo c s).drive = s.drive := by simp [dmaGo]
@[simp] theorem dmaShadow_drive (c : Nat) : (dmaShadow c s).drive = s.drive := by simp [dmaShadow]
@[simp] theorem dmaEnable_drive (req : Req) (c : Fin 32) :
    (dmaEnable req c s).drive = s.drive := by
  simp [dmaEnable]

@[simp] theorem spaceWrite_drive (sp addr : Nat) (l : List Byte) : (spaceWrite sp addr l s).drive = s.drive := by
  simp [spaceWrite]

@[simp] theorem dRefs_drive (c : Nat) (l got : List Nat) : (dRefs c l got s).2.drive = s.drive := by
  induction l generalizing got s with
  | nil => rfl
  | cons h l ih =>
    unfold dRefs
    split
    · simp
    · simp [ih]

@[simp] theorem dmaRun_drive (c : Nat) (d : BitVec 256) (host : List Byte) (err : Option (Nat × Fin 3)) :
    (dmaRun c d host err s).drive = s.drive := by
  unfold dmaRun
  extract_lets +onlyGivenNames done
  have hdone (e : DmaEnd) (u : State) : (done e u).drive = u.drive := dmaMod_drive u c _
  clear_value done
  split
  · rfl
  split
  · simp [hdone]
  split
  · simp [hdone]
  split
  next h => simp [hdone, drive_of_eq h (dRefs_drive s _ _ _)]
  next h =>
    have hrefs := drive_of_eq h (dRefs_drive s _ _ _)
    split
    · simp [hdone, hrefs]
    extract_lets +onlyGivenNames n fencedAt data
    clear_value fencedAt
    cases fencedAt with
    | none =>
      dsimp only
      (repeat' split) <;> simp [hdone, hrefs]
    | some o => simp [hdone, hrefs]

@[simp] theorem dmaOp_drive (op : Nat) (c : Nat) (d : BitVec 256) (host : List Byte) (err : Option (Nat × Fin 3)) :
    (dmaOp op c d host err s).drive = s.drive := by simp [dmaOp]

@[simp] theorem execDmaDescriptorDone_keeps (c : Fin 32) : Keeps s (execDmaDescriptorDone c s) := by
  unfold execDmaDescriptorDone
  dsimp only
  split <;> simp

@[simp] theorem dmaDisable_drive (req : Req) (c : Fin 32) : (dmaDisable req c s).drive = s.drive := by
  unfold dmaDisable
  (repeat' split) <;> simp

@[simp] theorem dmaResume_drive (req : Req) (c : Fin 32) :
    (dmaResume req c s).drive = s.drive := by
  simp [dmaResume]

@[simp] theorem dmaTailWrite_drive (req : Req) (c : Fin 32) (idx : Nat) :
    (dmaTailWrite req c idx s).drive = s.drive := by
  simp [dmaTailWrite]

@[simp] theorem dmaCommit_drive (req : Req) (c : Fin 32) (weight : Fin 8) :
    (dmaCommit req c weight s).drive = s.drive := by
  simp [dmaCommit]

/-! ### What sessions share -/

@[simp] theorem slotEmpty_drive (sid i : Nat) : (slotEmpty sid i s).drive = s.drive := by simp [slotEmpty]
@[simp] theorem picMod_drive (sid num : Nat) (f : Pic → Pic) : (picMod sid num f s).drive = s.drive := (rfl)

@[simp] theorem flushPics_drive (n sid : Nat) : (flushPics n sid s).drive = s.drive := by
  induction n generalizing s with
  | zero => rfl
  | succ n ih =>
    unfold flushPics
    dsimp only
    (repeat' split) <;> simp [ih]

@[simp] theorem flushAll_drive (sid : Nat) : (flushAll sid s).drive = s.drive := by simp [flushAll]

@[simp] theorem dropCaptured_drive (sid num : Nat) : (dropCaptured sid num s).drive = s.drive := by
  unfold dropCaptured
  split <;> simp

@[simp] theorem sourceFree_drive (sid num : Nat) : (sourceFree sid num s).drive = s.drive := by
  unfold sourceFree
  dsimp only
  split <;> simp

@[simp] theorem bktMod_drive (sid num : Nat) (f : Bkt → Bkt) : (bktMod sid num f s).drive = s.drive := (rfl)

@[simp] theorem endPic_drive (sid num st : Nat) : (endPic sid num st s).drive = s.drive := by
  unfold endPic
  dsimp only
  split <;> simp

@[simp] theorem dropPkts_drive (sid : Nat) : (dropPkts sid s).drive = s.drive := (rfl)
@[simp] theorem askFence_drive (sid : Nat) : (askFence sid s).drive = s.drive := (rfl)
@[simp] theorem abandon_drive (sid : Nat) : (abandon sid s).drive = s.drive := by simp [abandon]
@[simp] theorem placeRing_drive (sid core : Nat) : (placeRing sid core s).drive = s.drive := by simp [placeRing]
@[simp] theorem evtMoved_drive (sid old new cause : Nat) :
    (evtMoved sid old new cause s).drive = s.drive := by
  simp [evtMoved]
@[simp] theorem wmClear_drive (sid : Nat) : (wmClear sid s).drive = s.drive := (rfl)
@[simp] theorem wmLoad_drive (sid : Nat) : (wmLoad sid s).drive = s.drive := by simp [wmLoad]

@[simp] theorem bindTo_drive (sid core : Nat) (st : SState) : (bindTo sid core st s).drive = s.drive := by
  simp [bindTo]

@[simp] theorem evtSplit_drive (k cause : Nat) : (evtSplit k cause s).drive = s.drive := by simp [evtSplit]
@[simp] theorem pairSettle_drive (k : Nat) : (pairSettle k s).drive = s.drive := by simp [pairSettle]

@[simp] theorem moveEnd_drive (sid cause : Nat) : (moveEnd sid cause s).drive = s.drive := by
  unfold moveEnd
  dsimp only
  split <;> simp

@[simp] theorem rebind_drive (sid core cause : Nat) (lost : Bool) :
    (rebind sid core cause lost s).drive = s.drive := by
  simp [rebind]

@[simp] theorem doMove_drive (sid : Nat) : (doMove sid s).drive = s.drive := by
  unfold doMove
  dsimp only
  (repeat' split) <;> simp

@[simp] theorem startSeal_drive (sid : Nat) : (startSeal sid s).drive = s.drive := by
  unfold startSeal
  dsimp only
  (repeat' split) <;> simp

@[simp] theorem settle_drive (sid : Nat) : (settle sid s).drive = s.drive := by
  unfold settle
  dsimp only
  (repeat' split) <;> simp

@[simp] theorem afterEnd_drive (sid : Nat) : (afterEnd sid s).drive = s.drive := by simp [afterEnd]

@[simp] theorem endPend_drive (sid st : Nat) : (endPend sid st s).drive = s.drive := by
  unfold endPend
  split <;> simp

@[simp] theorem dropRetries_drive (sid : Nat) : (dropRetries sid s).drive = s.drive := by
  refine forAll_drive s _ (fun a u => ?_)
  dsimp only
  (repeat' split) <;> simp

@[simp] theorem releaseSession_drive (sid : Nat) :
    (releaseSession sid s).drive = s.drive := by
  simp [releaseSession]
@[simp] theorem pktCnt_drive (i n : Nat) : (pktCnt i n s).drive = s.drive := (rfl)
@[simp] theorem sendSr_drive (sid : Nat) (bye : Bool) : (sendSr sid bye s).drive = s.drive := by simp [sendSr]

@[simp] theorem closeSession_drive (sid : Nat) (slot : Option Nat) : (closeSession sid slot s).drive = s.drive := by
  simp [closeSession]

/-! ### Reference slots in memory -/

@[simp] theorem storeBytes_drive (handle off : Nat) (l : List Byte) :
    (storeBytes handle off l s).drive = s.drive := by
  obtain ⟨m, h⟩ := storeBytes_only s handle off l
  rw [h]
  rfl

@[simp] theorem storeUnits_drive (std : Std) (depth handle total : Nat) (enc : Bool) (lens : List Byte) (n u : Nat)
    (l : List Byte) :
    (storeUnits std depth handle total enc lens n u l s).drive = s.drive := by
  induction n generalizing u l s with
  | zero => rfl
  | succ n ih => simp [storeUnits, ih]

@[simp] theorem storeRecord_drive (std : Std) (handle : Nat) (enc : Bool) (l : List Byte) :
    (storeRecord std handle enc l s).drive = s.drive := by simp [storeRecord]

/-! ### Admission, opening and import -/

theorem reserveFrames_drive {sid size n : Nat} {s t : State} (h : reserveFrames sid size n s = some t) :
    t.drive = s.drive := by
  unfold reserveFrames at h
  split at h
  · cases h
  next p _ _ =>
    have hres := bpmReserve_drive s p sid n
    split at h
    next hp =>
      rw [hp] at hres
      cases h
      simpa using hres
    · cases h

theorem drawFrame_drive {sid size h : Nat} {s t : State} (ht : drawFrame sid size s = some (h, t)) :
    t.drive = s.drive := by
  unfold drawFrame at ht
  dsimp only at ht
  split at ht
  next hp =>
    cases ht
    exact drive_of_eq hp (bpmAlloc_drive s _)
  · cases ht

theorem reserveAll_drive {sid core : Nat} {s t : State} (h : reserveAll sid core s = some t) :
    t.drive = s.drive := by
  unfold reserveAll at h
  dsimp only at h
  split at h
  · obtain ⟨u, hu, ht⟩ := Option.bind_eq_some_iff.mp h
    exact (reserveFrames_drive ht).trans (reserveFrames_drive hu)
  split at h
  · cases h
  split at h
  · cases h
  split at h
  · obtain ⟨v, hv, ht⟩ := Option.bind_eq_some_iff.mp h
    obtain ⟨u, hu, rfl⟩ := Option.map_eq_some_iff.mp hv
    split at ht
    · cases ht
    · cases ht
      simp [reserveFrames_drive hu]
  · obtain ⟨v, hv, h⟩ := Option.bind_eq_some_iff.mp h
    obtain ⟨u, hu, rfl⟩ := Option.map_eq_some_iff.mp hv
    obtain ⟨w, hw, h⟩ := Option.bind_eq_some_iff.mp h
    obtain ⟨⟨h0, y⟩, hy, h⟩ := Option.bind_eq_some_iff.mp h
    obtain ⟨⟨h1, z⟩, hz, rfl⟩ := Option.map_eq_some_iff.mp h
    simp [drawFrame_drive hz, drawFrame_drive hy, reserveFrames_drive hw, reserveFrames_drive hu]

theorem admitProtected_drive {x : Session} {imp pol : Bool} {sid r : Nat} {s s2 t : State}
    (h : admitProtected x imp pol sid s s2 = .inr (r, t)) : t.drive = s2.drive := by
  unfold admitProtected at h
  (repeat' split at h) <;> cases h <;> rfl

theorem admitPlaced_drive {x : Session} {imp pol : Bool} {c r : Nat} {s t : State} (h : admitPlaced x imp pol c s = .inr (r, t)) :
    t.drive = s.drive := by
  unfold admitPlaced at h
  dsimp only at h
  split at h
  · cases h
  split at h
  · cases h
  split at h
  · cases h
  next hres => exact (admitProtected_drive h).trans ((reserveAll_drive hres).trans (by simp))

theorem admission_drive {x0 : Session} {imp pol : Bool} {s t : State} {sid : Nat} (h : admission x0 imp pol s = .inr (sid, t)) :
    t.drive = s.drive := by
  rcases Nat.lt_or_ge (lowFree s.sess 0) 4096 with hsid | hsid
  · cases hq : quotaOk s x0.owner x0.load with
    | false => rw [admission_of_overQuota hsid hq] at h; cases h
    | true =>
      cases hf : formatOk x0 with
      | none => rw [admission_of_badFormat hsid hq hf] at h; cases h
      | some f =>
        cases hp : place s x0.kind x0.load x0.lc with
        | none => rw [admission_of_unplaced hsid hq hf hp] at h; cases h
        | some c => rw [admission_of_placed hsid hq hf hp] at h; exact admitPlaced_drive h
  · rw [admission_of_noContext hsid] at h; cases h

@[simp] theorem secAdmit_drive (sid : Nat) : (secAdmit sid s).drive = s.drive := by simp [secAdmit]
@[simp] theorem openRefused_drive (st : Nat) (pol : Bool) :
    (openRefused st pol s).drive = s.drive := by
  simp [openRefused]

@[simp] theorem execSessionOpen_keeps (slot : Nat) (blk : Option HostBuf) (pol : Bool) :
    Keeps s (execSessionOpen slot blk pol s) := by
  refine keeps_next.mpr (runCmd_drive s _ _ _ (fun c u => ?_))
  cases blk with
  | none => simp
  | some b =>
    dsimp only
    split
    · simp
    split
    · simp
    split
    · simp
    next h => simp [admission_drive h]

theorem importSlots_drive {sid : Nat} {recs : List (Nat × List Byte)} {s t : State} (h : importSlots sid recs s = some t) :
    t.drive = s.drive := by
  unfold importSlots at h
  refine List.foldlRecOn (motive := fun r => ∀ u, r = some u → u.drive = s.drive) (List.range 8) _
    (fun u hu => Option.some.inj hu ▸ rfl) (fun r hr i _ u hu => ?_) t h
  obtain ⟨v, hv, hu⟩ := Option.bind_eq_some_iff.mp hu
  split at hu
  · obtain ⟨⟨a, w⟩, hw, rfl⟩ := Option.map_eq_some_iff.mp hu
    have hdraw := (drawFrame_drive hw).trans (hr v hv)
    dsimp only
    split <;> simp [hdraw]
  · cases hu
    simp [hr v hv]

@[simp] theorem execSessionImport_keeps (slot : Nat) (img : Option SealedImage) :
    Keeps s (execSessionImport slot img s) := by
  refine keeps_next.mpr (runCmd_drive s _ _ _ (fun c u => ?_))
  cases img with
  | none => simp
  | some m =>
    dsimp only
    iterate 4
      split
      · simp
    split
    · simp
    next h =>
      split
      · simp
      next h' => simp [importSlots_drive h', admission_drive h]

/-! ### Session commands -/

@[simp] theorem sessCmd_drive (slot opc : Nat) (ok : Slot → State → Bool) (sts : List SState)
    {body : Slot → Nat → Session → State → State} (hbody : ∀ c sid x u, (body c sid x u).drive = u.drive) :
    (sessCmd slot opc ok sts body s).drive = s.drive := by
  refine runCmd_drive s _ _ _ (fun c u => ?_)
  dsimp only
  split
  · exact finish_drive u _ _
  · exact hbody _ _ _ u

@[simp] theorem execSealDone_keeps (sid : Fin 4096) (ok : Bool) : Keeps s (execSealDone sid ok s) := by
  unfold execSealDone
  dsimp only
  (repeat' split) <;> simp

@[simp] theorem execSessionSetRc_keeps (slot : Nat) (blk : Option HostBuf) :
    Keeps s (execSessionSetRc slot blk s) := by
  unfold execSessionSetRc
  split <;> simp

@[simp] theorem submitRate_drive (sid : Nat) : (submitRate sid s).drive = s.drive := by simp [submitRate]

@[simp] theorem noteReady_drive (sid : Nat) : (noteReady sid s).drive = s.drive := by
  unfold noteReady
  dsimp only
  (repeat' split) <;> simp

@[simp] theorem execEncodePicture_keeps (slot : Nat) : Keeps s (execEncodePicture slot s) := by
  refine keeps_next.mpr (runCmd_drive s _ _ _ (fun c u => ?_))
  dsimp only
  (repeat' split) <;> simp

@[simp] theorem execDecodePicture_keeps (slot : Nat) : Keeps s (execDecodePicture slot s) := by
  refine keeps_next.mpr (runCmd_drive s _ _ _ (fun c u => ?_))
  dsimp only
  (repeat' split) <;> simp

@[simp] theorem execSeamTrained_keeps (k : Fin 32) : Keeps s (execSeamTrained k s) := by
  unfold execSeamTrained
  dsimp only
  (repeat' split) <;> simp

@[simp] theorem execSeamTrainTimeout_keeps (k : Fin 32) : Keeps s (execSeamTrainTimeout k s) := by
  unfold execSeamTrainTimeout
  dsimp only
  (repeat' split) <;> simp

@[simp] theorem execRebalanceEval_keeps : Keeps s (execRebalanceEval s) := by
  unfold execRebalanceEval
  dsimp only
  (repeat' split) <;> simp

@[simp] theorem execAutoMove_keeps (sid : Fin 4096) : Keeps s (execAutoMove sid s) := by
  unfold execAutoMove
  dsimp only
  (repeat' split) <;> simp

@[simp] theorem freeSession_drive (sid : Nat) : (freeSession sid s).drive = s.drive := by simp [freeSession]

@[simp] theorem execSessionCloseDrained_keeps (sid : Fin 4096) : Keeps s (execSessionCloseDrained sid s) := by
  unfold execSessionCloseDrained
  dsimp only
  (repeat' split) <;> simp

@[simp] theorem execHoldoffEnd_keeps (sid : Fin 4096) : Keeps s (execHoldoffEnd sid s) := by
  unfold execHoldoffEnd
  split <;> simp

@[simp] theorem execCcfbSilence_keeps (sid : Fin 4096) : Keeps s (execCcfbSilence sid s) := by
  unfold execCcfbSilence
  dsimp only
  split <;> simp

@[simp] theorem execRtcpSilence_keeps (sid : Fin 4096) : Keeps s (execRtcpSilence sid s) := by
  unfold execRtcpSilence
  dsimp only
  split <;> simp

@[simp] theorem execOldKeyLapse_keeps (sid : Fin 4096) : Keeps s (execOldKeyLapse sid s) := by
  unfold execOldKeyLapse
  split <;> simp

/-! ### Ingest windows -/

@[simp] theorem ringWrite_drive (sid port off : Nat) (data : List Byte) :
    (ringWrite sid port off data s).drive = s.drive := by
  simp [ringWrite]

@[simp] theorem halfWrite_drive (sid off : Nat) (data : List Byte) :
    (halfWrite sid off data s).drive = s.drive := by
  simp [halfWrite]

@[simp] theorem dbReject_drive (sid lines : Nat) : (dbReject sid lines s).drive = s.drive := by simp [dbReject]

@[simp] theorem srcDoorbell_drive (sid port pic lines : Nat) :
    (srcDoorbell sid port pic lines s).drive = s.drive := by
  simp [srcDoorbell]

@[simp] theorem ctlWrite_drive (sid port off v : Nat) :
    (ctlWrite sid port off v s).drive = s.drive := by
  simp [ctlWrite]

@[simp] theorem ctlWrites_drive (sid port off : Nat) (l : List Nat) :
    (ctlWrites sid port off l s).drive = s.drive := by
  induction l generalizing off s with
  | nil => rfl
  | cons v l ih => simp [ctlWrites, ih]

@[simp] theorem windowWrite_drive (sid port off : Nat) (data : List Byte) :
    (windowWrite sid port off data s).drive = s.drive := by simp [windowWrite]

@[simp] theorem bar2Write_drive (req : Req) (ide : Option Nat) (addr : Nat) (data : List Byte) :
    (bar2Write req ide addr data s).drive = s.drive := by
  unfold bar2Write
  (repeat' split) <;> simp

@[simp] theorem execRingCopyDone_keeps (sid : Fin 4096) : Keeps s (execRingCopyDone sid s) := by
  unfold execRingCopyDone
  dsimp only
  split <;> simp

/-! ### Row scheduling -/

@[simp] theorem promoteLong_drive (sid : Nat) : (promoteLong sid s).drive = s.drive := by
  unfold promoteLong
  extract_lets x s1
  have hs1 : s1.drive = s.drive := by
    dsimp only [s1]
    split
    · rfl
    · simp
  clear_value s1
  refine (forAll_drive s1 _ (fun i u => ?_)).trans hs1
  dsimp only
  split
  · split <;> simp
  · rfl

@[simp] theorem bindSlot_drive (sid i : Nat) (t : Slot8) :
    (bindSlot sid i t s).drive = s.drive := by
  simp [bindSlot]

@[simp] theorem startEncode_drive (sid num : Nat) : (startEncode sid num s).drive = s.drive := by
  unfold startEncode
  dsimp only
  split <;> simp

@[simp] theorem startDecode_drive (sid num : Nat) : (startDecode sid num s).drive = s.drive := by simp [startDecode]

@[simp] theorem sessAlloc_drive (sid n : Nat) (ty : PoolTy) (size : Nat) :
    (sessAlloc sid n ty size s).2.drive = s.drive := by
  unfold sessAlloc
  dsimp only
  split
  · split
    · simp
    · rfl
  · split
    next hp => exact drive_of_eq hp (bpmAlloc_drive s _)
    next hp => exact drive_of_eq hp (bpmAlloc_drive s _)

@[simp] theorem takeSlot_drive (sid num : Nat) : (takeSlot sid num s).drive = s.drive := by
  unfold takeSlot
  dsimp only
  split <;> simp

@[simp] theorem takeBits_drive (sid num : Nat) : (takeBits sid num s).drive = s.drive := by
  unfold takeBits
  dsimp only
  split
  · rfl
  split
  · rfl
  split
  all_goals
    next h => simp [drive_of_eq h (sessAlloc_drive s _ _ _ _)]

@[simp] theorem takeSlotBuf_drive (sid num : Nat) : (takeSlotBuf sid num s).drive = s.drive := by
  unfold takeSlotBuf
  dsimp only
  split
  · rfl
  split
  · rfl
  split
  all_goals
    next h => simp [drive_of_eq h (sessAlloc_drive s _ _ _ _)]

@[simp] theorem takeOut_drive (sid num : Nat) : (takeOut sid num s).drive = s.drive := by
  unfold takeOut
  dsimp only
  split
  · rfl
  split
  · rfl
  split
  · simp
  split
  · rfl
  split
  all_goals
    next h => simp [drive_of_eq h (sessAlloc_drive s _ _ _ _)]

@[simp] theorem rwqHigh_drive (p : Nat) : (rwqHigh p s).drive = s.drive := by simp [rwqHigh]
@[simp] theorem packetGo_drive (sid pel k : Nat) (low : Bool) :
    (packetGo sid pel k low s).drive = s.drive := by
  simp [packetGo]

@[simp] theorem packetBegin_drive (sid k : Nat) (low : Bool) : (packetBegin sid k low s).drive = s.drive := by
  unfold packetBegin
  dsimp only
  (repeat' split) <;> simp

@[simp] theorem promoteAged_drive (p : Nat) : (promoteAged p s).drive = s.drive := by simp [promoteAged]
@[simp] theorem giveRow_drive (c : Nat) (k : Pkt) (slot : Nat) :
    (giveRow c k slot s).drive = s.drive := by
  simp [giveRow]

@[simp] theorem execRowDispatch_keeps (core : Fin 64) (ecc : Option Nat) :
    Keeps s (execRowDispatch core ecc s) := by
  unfold execRowDispatch
  dsimp only
  (repeat' split) <;> simp

/-! ### The rate loop -/

@[simp] theorem openBucket_drive (sid num : Nat) : (openBucket sid num s).drive = s.drive := by
  unfold openBucket
  dsimp only
  split <;> simp

@[simp] theorem replaceBucket_drive (sid num : Nat) : (replaceBucket sid num s).drive = s.drive := by
  unfold replaceBucket
  dsimp only
  (repeat' split) <;> simp

@[simp] theorem decideRow_drive (sid num n hdr : Nat) : (decideRow sid num n hdr s).drive = s.drive := by
  unfold decideRow
  split <;> simp

/-! ### Reconstructed samples -/

@[simp] theorem storeUnit_drive (sid num : Nat) (u : UnitPix) : (storeUnit sid num u s).drive = s.drive := by
  obtain ⟨m, x, h⟩ := storeUnit_only s sid num u
  rw [h]
  rfl

@[simp] theorem storeMotion_drive (sid num : Nat) (ps : List Pred) :
    (storeMotion sid num ps s).drive = s.drive := by
  obtain ⟨m, h⟩ := storeMotion_only s sid num ps
  rw [h]
  rfl

@[simp] theorem storeHeader_drive (sid num : Nat) : (storeHeader sid num s).drive = s.drive := by
  unfold storeHeader
  dsimp only
  split <;> simp

@[simp] theorem storeSaved_drive (sid num : Nat) (l : List Byte) : (storeSaved sid num l s).drive = s.drive := by
  unfold storeSaved
  dsimp only
  split <;> simp

@[simp] theorem storeRun_drive (handle w h depth : Nat) (r : PixRun) :
    (storeRun handle w h depth r s).drive = s.drive := by
  simp [storeRun]

/-! ### The block pipeline -/

@[simp] theorem releaseLines_drive (sid num n : Nat) : (releaseLines sid num n s).drive = s.drive := by
  unfold releaseLines
  dsimp only
  split <;> simp

@[simp] theorem seamSend_drive (x : Session) (r : SeamRec) : (seamSend x r s).drive = s.drive := by simp [seamSend]
@[simp] theorem setPacked_drive (sid num : Nat) : (setPacked sid num s).drive = s.drive := by simp [setPacked]

@[simp] theorem encBlock_drive (sid num n j st : Nat) (d : BlkData) (o : BlockOut) :
    (encBlock sid num n j st d o s).drive = s.drive := by
  unfold encBlock
  split <;> simp

@[simp] theorem refusePic_drive (sid num : Nat) : (refusePic sid num s).drive = s.drive := by simp [refusePic]
@[simp] theorem evtMissing_drive (sid num : Nat) (l : List Nat) :
    (evtMissing sid num l s).drive = s.drive := by
  simp [evtMissing]

@[simp] theorem applyMarks_drive (sid : Nat) (l : List (Nat × Term)) : (applyMarks sid l s).drive = s.drive := by
  simp [applyMarks]

@[simp] theorem fillTargets_drive (sid buf : Nat) (t : Slot8) (l : List Nat) :
    (fillTargets sid buf t l s).drive = s.drive := by
  induction l generalizing s with
  | nil => rfl
  | cons i l ih => simp [fillTargets, ih]

@[simp] theorem showExisting_drive (sid num i : Nat) (h : DecHead) :
    (showExisting sid num i h s).drive = s.drive := by
  simp [showExisting]

@[simp] theorem parseHead_drive (sid num : Nat) (h : DecHead) : (parseHead sid num h s).drive = s.drive := by
  unfold parseHead
  dsimp only
  (repeat' split) <;> simp

@[simp] theorem decErrs_drive (sid num : Nat) (l : List DecErr) :
    (decErrs sid num l s).drive = s.drive := by
  simp [decErrs]

@[simp] theorem decEnd_drive (sid num : Nat) : (decEnd sid num s).drive = s.drive := by
  unfold decEnd
  split <;> simp

@[simp] theorem decBlock_drive (sid num n j st : Nat) (d : BlkData) (o : BlockOut) :
    (decBlock sid num n j st d o s).drive = s.drive := by
  unfold decBlock
  extract_lets +onlyGivenNames s0 x
  have hs0 : s0.drive = s.drive := by simp [s0]
  clear_value s0
  split
  · exact hs0
  split
  · exact hs0
  dsimp only
  (repeat' split) <;> simp [hs0]

@[simp] theorem blockEffect_drive (r : CoreRow) (j st : Nat) (o : BlockOut) :
    (blockEffect r j st o s).drive = s.drive := by
  unfold blockEffect
  split <;> simp

@[simp] theorem blockData_drive (c : Nat) (r : CoreRow) (j st : Nat) (o : BlockOut) :
    (blockData c r j st o s).drive = s.drive := by
  obtain ⟨k, h⟩ := blockData_only s c r j st o
  rw [h]
  rfl

@[simp] theorem rowEnd_drive (c : Nat) (r : CoreRow) : (rowEnd c r s).drive = s.drive := by simp [rowEnd]

@[simp] theorem passBlock_drive (c : Nat) (r : CoreRow) (j st : Nat) : (passBlock c r j st s).drive = s.drive := by
  simp [passBlock]

@[simp] theorem execBlockStageDone_keeps (core : Fin 64) (st : Fin 7) (o : BlockOut) :
    Keeps s (execBlockStageDone core st o s) := by
  unfold execBlockStageDone
  dsimp only
  (repeat' split) <;> simp

@[simp] theorem seamArrive_drive (k kind fails : Nat) : (seamArrive k kind fails s).drive = s.drive := by
  unfold seamArrive
  dsimp only
  (repeat' split) <;> simp

/-! ### Packets -/

@[simp] theorem pictureSent_drive (sid num : Nat) : (pictureSent sid num s).drive = s.drive := by
  unfold pictureSent
  dsimp only
  split <;> simp

@[simp] theorem firstRow_drive (sid : Nat) (p : Pic) : (firstRow sid p s).drive = s.drive := by simp [firstRow]

@[simp] theorem packRow_drive (sid : Nat) (num : Nat) (note : RowNotice) :
    (packRow sid num note s).drive = s.drive := by
  unfold packRow
  dsimp only
  split <;> simp

@[simp] theorem execRowPacketise_keeps (sid : Fin 4096) : Keeps s (execRowPacketise sid s) := by
  unfold execRowPacketise
  dsimp only
  (repeat' split) <;> simp

@[simp] theorem drawIn_drive (lo hi : Nat) : (drawIn lo hi s).2.drive = s.drive := (rfl)
@[simp] theorem armSr_drive (sid : Nat) : (armSr sid s).drive = s.drive := by simp [armSr]
@[simp] theorem sendPkt_drive (sub : Nat) (t : TxPkt) : (sendPkt sub t s).drive = s.drive := by simp [sendPkt]

@[simp] theorem execPacketSend_keeps (sub : Fin 8) : Keeps s (execPacketSend sub s) := by
  unfold execPacketSend
  (repeat' split) <;> simp

@[simp] theorem execSrSend_keeps (sid : Fin 4096) : Keeps s (execSrSend sid s) := by
  unfold execSrSend
  dsimp only
  split <;> simp

/-! ### The time unit -/

@[simp] theorem clockStep_drive (d : Int) : (clockStep d s).drive = s.drive := by simp [clockStep]
@[simp] theorem ptpMod_drive (d : Nat) (f : Ptp → Ptp) : (ptpMod d f s).drive = s.drive := (rfl)
@[simp] theorem evtTime_drive (step : Bool) (size : Int) :
    (evtTime step size s).drive = s.drive := by
  simp [evtTime]

@[simp] theorem timeGo_drive (st : TimeSt) (active : Nat) (step : Bool) (size : Int) :
    (timeGo st active step size s).drive = s.drive := by simp [timeGo]

@[simp] theorem stepOff_drive (d : Nat) : (stepOff d s).drive = s.drive := by simp [stepOff]
@[simp] theorem switchTo_drive (d : Nat) : (switchTo d s).drive = s.drive := by simp [switchTo]

@[simp] theorem timeSettle_drive : (timeSettle s).drive = s.drive := by
  unfold timeSettle
  (repeat' split) <;> simp

@[simp] theorem domainLost_drive (d : Nat) : (domainLost d s).drive = s.drive := by
  unfold domainLost
  dsimp only
  (repeat' split) <;> simp

@[simp] theorem syncDone_drive (d : Nat) (t1 t2 : Int) : (syncDone d t1 t2 s).drive = s.drive := by
  unfold syncDone
  dsimp only
  split <;> simp

@[simp] theorem announceIn_drive (d src : Nat) (ds : List Nat) (steps : Nat) (utc : Option Nat) (log : Int) :
    (announceIn d src ds steps utc log s).drive = s.drive := by
  unfold announceIn
  (repeat' split) <;> simp

@[simp] theorem ptpIn_drive (d : Nat) (m : PtpMsg) : (ptpIn d m s).drive = s.drive := by
  unfold ptpIn
  dsimp only
  (repeat' split) <;> simp

@[simp] theorem ptpFrame_drive (sub dom tr : Nat) (m : PtpMsg) :
    (ptpFrame sub dom tr m s).drive = s.drive := by
  simp [ptpFrame]

@[simp] theorem execPtpDomainLost_keeps (d : Fin 2) : Keeps s (execPtpDomainLost d s) := by
  unfold execPtpDomainLost
  dsimp only
  split <;> simp

@[simp] theorem timeManual_drive : (timeManual s).drive = s.drive := by simp [timeManual]
@[simp] theorem timePtp_drive : (timePtp s).drive = s.drive := by simp [timePtp]

@[simp] theorem timeSet_drive (v : W64) : (timeSet v s).drive = s.drive := by
  unfold timeSet
  split
  · rfl
  · rw [State.drive_mk, State.drive_eta, clockStep_drive]

@[simp] theorem timeRate_drive (v : W32) : (timeRate v s).drive = s.drive := by simp [timeRate]

/-! ### Ethernet -/

@[simp] theorem evtSub_drive (sub : Nat) (up : Bool) : (evtSub sub up s).drive = s.drive := by simp [evtSub]
@[simp] theorem setLink_drive (sub : Nat) (up : Bool) : (setLink sub up s).drive = s.drive := by simp [setLink]
@[simp] theorem dropLinks_drive (p : Nat) (all : Bool) : (dropLinks p all s).drive = s.drive := by simp [dropLinks]
@[simp] theorem writeEthMode_drive (p v : Nat) : (writeEthMode p v s).drive = s.drive := by simp [writeEthMode]

@[simp] theorem rtcpItem_drive (sid : Nat) (it : RtcpItem) : (rtcpItem sid it s).drive = s.drive := by
  unfold rtcpItem
  dsimp only
  (repeat' split) <;> simp

@[simp] theorem sessionRtcp_drive (sid src sport : Nat) (k : RtcpIn) :
    (sessionRtcp sid src sport k s).drive = s.drive := by
  unfold sessionRtcp
  dsimp only
  (repeat' split) <;> simp

@[simp] theorem exception_drive (sub reason : Nat) (f : RxFrame) : (exception sub reason f s).drive = s.drive := by
  simp [exception]

@[simp] theorem execReceiveFrame_keeps (sub : Fin 8) (f : RxFrame) : Keeps s (execReceiveFrame sub f s) := by
  unfold execReceiveFrame
  (repeat' split) <;> simp

@[simp] theorem writeHtqTail_drive (v : Nat) : (writeHtqTail v s).drive = s.drive := by simp [writeHtqTail]

/-! ### Mailboxes -/

@[simp] theorem mbxMod_drive (c : Nat) (f : Mbx → Mbx) : (mbxMod c f s).drive = s.drive := (rfl)
@[simp] theorem mbxEvt_drive (c bit : Nat) (irq : Bool) : (mbxEvt c bit irq s).drive = s.drive := by simp [mbxEvt]
@[simp] theorem inSpace_drive (c before : Nat) : (inSpace c before s).drive = s.drive := by simp [inSpace]
@[simp] theorem mbxCount_drive (c words msgs : Nat) :
    (mbxCount c words msgs s).drive = s.drive := by
  simp [mbxCount]

@[simp] theorem outHead_drive (n c : Nat) (can : Bool) : (outHead n c can s).drive = s.drive := by
  induction n generalizing s with
  | zero => rfl
  | succ n ih =>
    unfold outHead
    (repeat' split) <;> simp [ih]

@[simp] theorem mbxInWord_drive (c : Fin 8) (id : W16) (auth : Bool) (word : W32) :
    (mbxInWord c id auth word s).drive = s.drive := by simp [mbxInWord]

@[simp] theorem mbxOutPop_drive (c : Nat) : (mbxOutPop c s).drive = s.drive := by
  unfold mbxOutPop
  dsimp only
  split <;> simp

@[simp] theorem mbxHostReset_drive (c : Nat) : (mbxHostReset c s).drive = s.drive := by simp [mbxHostReset]
@[simp] theorem mbxServeReset_drive (c : Nat) : (mbxServeReset c s).drive = s.drive := by simp [mbxServeReset]

@[simp] theorem execMbxBridgePlace_keeps (c : Fin 8) : Keeps s (execMbxBridgePlace c s) := by
  unfold execMbxBridgePlace
  dsimp only
  split <;> simp

@[simp] theorem execMbxEndpointTimeout_keeps (c : Fin 8) : Keeps s (execMbxEndpointTimeout c s) := by
  unfold execMbxEndpointTimeout
  dsimp only
  split <;> simp

@[simp] theorem execSidebandReset_keeps (i3c : Bool) : Keeps s (execSidebandReset i3c s) := by
  refine keeps_next.mpr (forAll_drive s _ (fun c u => ?_))
  split <;> simp

/-! ### Memory controllers -/

@[simp] theorem refIssue_drive (n c : Nat) : (refIssue n c s).drive = s.drive := by simp [refIssue]

@[simp] theorem refIssues_drive (n c k : Nat) : (refIssues n c k s).drive = s.drive := by
  induction k generalizing s with
  | zero => rfl
  | succ k ih => simp [refIssues, ih]

@[simp] theorem eccNote_drive (n ue addr : Nat) : (eccNote n ue addr s).drive = s.drive := by simp [eccNote]
@[simp] theorem trnStart_drive (mc op : Nat) (cmd : W32) :
    (trnStart mc op cmd s).drive = s.drive := by
  simp [trnStart]
@[simp] theorem trnPattern_drive (mc : Nat) : (trnPattern mc s).drive = s.drive := by simp [trnPattern]

/-! ### Gears, voltage and heat -/

@[simp] theorem overCheck_drive (p : Nat) : (overCheck p s).drive = s.drive := by simp [overCheck]
@[simp] theorem gearSet_drive (p g : Nat) : (gearSet p g s).drive = s.drive := by simp [gearSet]
@[simp] theorem derail_drive (p : Nat) : (derail p s).drive = s.drive := by simp [derail]

@[simp] theorem execGearUp_keeps (p : Fin 8) : Keeps s (execGearUp p s) := by
  unfold execGearUp
  dsimp only
  split <;> simp

@[simp] theorem capStep_drive (p : Nat) : (capStep p s).drive = s.drive := by simp [capStep]

@[simp] theorem execDroopEnd_keeps (p : Fin 8) : Keeps s (execDroopEnd p s) := by
  unfold execDroopEnd
  split <;> simp

@[simp] theorem commitWrite_drive (p code : Nat) : (commitWrite p code s).drive = s.drive := by simp [commitWrite]

/-! ### The settings store -/

@[simp] theorem nvsResult_drive (code : Nat) (cmd : Bool) :
    (nvsResult code cmd s).drive = s.drive := by
  simp [nvsResult]

@[simp] theorem nvsStart_drive (live clear cmd : Bool) (slot : Option Nat) :
    (nvsStart live clear cmd slot s).drive = s.drive := by simp [nvsStart]

@[simp] theorem nvsAbandon_drive : (nvsAbandon s).drive = s.drive := by simp [nvsAbandon]
@[simp] theorem nvsArm_drive (req : Req) (op : Fin 4) : (nvsArm req op s).drive = s.drive := by simp [nvsArm]

@[simp] theorem nvsSecond_drive (op : Nat) (live clear : Bool) (req : Req) :
    (nvsSecond op live clear req s).drive = s.drive := by
  unfold nvsSecond
  (repeat' split) <;> simp

@[simp] theorem execNvsCmdTimeout_keeps : Keeps s (execNvsCmdTimeout s) := by
  unfold execNvsCmdTimeout
  split <;> simp

@[simp] theorem execNvsWriteDone_keeps (readBack : Bool) : Keeps s (execNvsWriteDone readBack s) := by
  unfold execNvsWriteDone
  (repeat' split) <;> simp

/-! ### Links and function resets -/

@[simp] theorem ideLeave_drive (p : Nat) : (ideLeave p s).drive = s.drive := by simp [ideLeave]
@[simp] theorem evtPort_drive (p : Nat) : (evtPort p s).drive = s.drive := by simp [evtPort]
@[simp] theorem svcSyncAll_drive : (svcSyncAll s).drive = s.drive := by simp [svcSyncAll]

@[simp] theorem linkGo_drive (p : Nat) (st : LinkSt) (gen width : Nat) (flit : Bool) :
    (linkGo p st gen width flit s).drive = s.drive := by simp [linkGo]

@[simp] theorem forgetSlots_drive (gone : Nat → Bool) : (forgetSlots gone s).drive = s.drive := (rfl)
@[simp] theorem closeSilent_drive (sid : Nat) : (closeSilent sid s).drive = s.drive := by simp [closeSilent]
@[simp] theorem resetFunction_drive (fn : Nat) : (resetFunction fn s).drive = s.drive := by simp [resetFunction]
@[simp] theorem resetConfig_drive (fn : Nat) : (resetConfig fn s).drive = s.drive := by simp [resetConfig]
@[simp] theorem pfFlr_drive : (pfFlr s).drive = s.drive := by simp [pfFlr]
@[simp] theorem aqDisable_drive (fn : Fin 64) : (aqDisable fn s).drive = s.drive := by simp [aqDisable]

/-! ### Keys and enrolment -/

@[simp] theorem secCnt_drive (i : Nat) : (secCnt i s).drive = s.drive := (rfl)
@[simp] theorem authFail_drive (slot : Nat) : (authFail slot s).drive = s.drive := by simp [authFail]
@[simp] theorem draw_drive : (draw s).2.drive = s.drive := (rfl)

@[simp] theorem writeResult_drive (fn addr len : Nat) (t : Tab Nat) (chain : Bool) :
    (writeResult fn addr len t chain s).drive = s.drive := by simp [writeResult]

@[simp] theorem opCmd_drive (slot opc op top : Nat) (ok : Slot → State → Bool) {body : Slot → State → State}
    (hbody : ∀ c u, (body c u).drive = u.drive) : (opCmd slot opc op top ok body s).drive = s.drive := by
  unfold opCmd
  split
  · rfl
  split
  · exact runCmd_drive s _ _ _ hbody
  · rfl

@[simp] theorem installKeys_drive (sid suite send recv : Nat) :
    (installKeys sid suite send recv s).drive = s.drive := by
  simp [installKeys]

@[simp] theorem execKeyAgreeAgree_keeps (slot : Nat) (m1 : Option KeyMsg) (ok : Bool) :
    Keeps s (execKeyAgreeAgree slot m1 ok s) := by
  unfold execKeyAgreeAgree
  split <;> simp

@[simp] theorem execKeyAgreeSet_keeps (slot : Nat) (k : Option KeySet) : Keeps s (execKeyAgreeSet slot k s) := by
  unfold execKeyAgreeSet
  split <;> simp

@[simp] theorem enrolCmd_drive (slot op : Nat) (writes : Bool) {body : Slot → State → State}
    (hbody : ∀ c u, (body c u).drive = u.drive) :
    (enrolCmd slot op writes body s).drive = s.drive := by
  unfold enrolCmd
  split
  · rfl
  · refine opCmd_drive s _ _ _ _ _ (fun c u => ?_)
    split
    · exact finish_drive u _ _
    · exact hbody c u

@[simp] theorem enrolAs_drive (cl gen cdid key wrk : Nat) :
    (enrolAs cl gen cdid key wrk s).drive = s.drive := by
  simp [enrolAs]

@[simp] theorem execClusterEnrolCreate_keeps (slot : Nat) (t : Option Ticket) :
    Keeps s (execClusterEnrolCreate slot t s) := by
  unfold execClusterEnrolCreate
  (repeat' split) <;> simp

@[simp] theorem execClusterEnrolOffer_keeps (slot : Nat) (req : Option (EnrolReq × Ticket)) (ok : Bool) :
    Keeps s (execClusterEnrolOffer slot req ok s) := by
  refine keeps_next.mpr (opCmd_drive s _ _ _ _ _ (fun c u => ?_))
  dsimp only
  (repeat' split) <;> simp

@[simp] theorem execClusterEnrolAccept_keeps (slot : Nat) (req : Option (Grant × Ticket)) :
    Keeps s (execClusterEnrolAccept slot req s) := by
  unfold execClusterEnrolAccept
  (repeat' split) <;> simp

@[simp] theorem enrolErase_drive : (enrolErase s).drive = s.drive := by simp [enrolErase]
@[simp] theorem unlockWipe_drive : (unlockWipe s).drive = s.drive := by simp [unlockWipe]

@[simp] theorem execDebugUnlockResponse_keeps (slot : Nat) (resp : Option (Bool × Nat)) :
    Keeps s (execDebugUnlockResponse slot resp s) := by
  refine keeps_next.mpr (opCmd_drive s _ _ _ _ _ (fun c u => ?_))
  dsimp only
  (repeat' split) <;> simp

/-! ### Requests of SEC -/

@[simp] theorem execMbxInRead_keeps (c : Fin 8) : Keeps s (execMbxInRead c s) := by
  unfold execMbxInRead
  dsimp only
  split <;> simp

@[simp] theorem secReq_drive (c : Fin 4) (nvs : Bool) {body : State → State} (hbody : ∀ u, (body u).drive = u.drive) :
    (secReq c nvs body s).drive = s.drive := by
  unfold secReq
  split
  · rfl
  · exact hbody _

@[simp] theorem burn_drive (ok : Bool) (f : Sec → Sec) : (burn ok f s).drive = s.drive := by simp [burn]
@[simp] theorem flashPut_drive (area : Nat) (m : Img) : (flashPut area m s).drive = s.drive := (rfl)
@[simp] theorem patchPut_drive (i : Nat) (m : Img) : (patchPut i m s).drive = s.drive := (rfl)

@[simp] theorem execFwStage_keeps (c : Fin 4) (m : Img) : Keeps s (execFwStage c m s) := by
  refine keeps_next.mpr (secReq_drive s _ _ (fun u => ?_))
  dsimp only
  (repeat' split) <;> simp

/-! ### Microcode -/

@[simp] theorem ctxMod_drive (i k : Nat) (f : Ctx → Ctx) : (ctxMod i k f s).drive = s.drive := (rfl)
@[simp] theorem ctxStall_drive (kind i k : Nat) : (ctxStall kind i k s).drive = s.drive := by simp [ctxStall]
@[simp] theorem rowSwitch_drive (i : Nat) : (rowSwitch i s).drive = s.drive := by simp [rowSwitch]
@[simp] theorem takeReq_drive (i k p : Nat) : (takeReq i k p s).drive = s.drive := by simp [takeReq]
@[simp] theorem fenceSettle_drive (i sid : Nat) : (fenceSettle i sid s).drive = s.drive := by simp [fenceSettle]

@[simp] theorem fenceActs_drive (i k : Nat) : (fenceActs i k s).drive = s.drive := by
  unfold fenceActs
  split <;> simp

@[simp] theorem scrubStart_drive (i : Nat) : (scrubStart i s).drive = s.drive := by simp [scrubStart]
@[simp] theorem handlerActs_drive (i k p : Nat) : (handlerActs i k p s).drive = s.drive := by simp [handlerActs]

@[simp] theorem foldCtx_drive (i k u : Nat) (st : List Nat) (notes : Nat) :
    (foldCtx i k u st notes s).drive = s.drive := by
  unfold foldCtx
  dsimp only
  split <;> simp

@[simp] theorem resumeCtx_drive (i k : Nat) : (resumeCtx i k s).drive = s.drive := by
  unfold resumeCtx
  split <;> simp

@[simp] theorem commitPoint_drive (i k : Nat) (u : Nat) (st : List Nat) (notes : Nat) (fresh : List Nat) :
    (commitPoint i k u st notes fresh s).drive = s.drive := by
  unfold commitPoint
  dsimp only
  split <;> simp

@[simp] theorem execNanowordComplete_keeps (core : Fin 64) (k : Fin 8) (flag : Bool) (key : Fin 16) (sram ops : Nat)
    (fresh : List Nat) (kind3 : Bool) : Keeps s (execNanowordComplete core k flag key sram ops fresh kind3 s) := by
  unfold execNanowordComplete
  dsimp only
  (repeat' split) <;> simp

@[simp] theorem svnCommit_drive (m : Img) : (svnCommit m s).drive = s.drive := by simp [svnCommit]

@[simp] theorem mcodeFinish_drive : (mcodeFinish s).drive = s.drive := by
  unfold mcodeFinish
  dsimp only
  (repeat' split) <;> simp

@[simp] theorem mcodeSettle_drive : (mcodeSettle s).drive = s.drive := by
  unfold mcodeSettle
  split
  · rfl
  dsimp only
  split
  · simp
  refine forAll_drive _ _ (fun p u => ?_)
  split <;> simp

@[simp] theorem execMcodeLoad_keeps (slot : Nat) (img : Option Img) : Keeps s (execMcodeLoad slot img s) := by
  unfold execMcodeLoad
  split <;> simp

@[simp] theorem execPatchActivation_keeps (core : Fin 64) : Keeps s (execPatchActivation core s) := by
  unfold execPatchActivation
  split <;> simp

@[simp] theorem reloadCore_drive (i : Nat) : (reloadCore i s).drive = s.drive := by simp [reloadCore]
@[simp] theorem scrubAsk_drive (i : Nat) : (scrubAsk i s).drive = s.drive := by simp [scrubAsk]

/-! ### Stranded sessions and sealed polders -/

@[simp] theorem evtStranded_drive (sid pol : Nat) : (evtStranded sid pol s).drive = s.drive := by simp [evtStranded]

@[simp] theorem autoPlace_drive (sid pol : Nat) : (autoPlace sid pol s).drive = s.drive := by
  unfold autoPlace
  dsimp only
  (repeat' split) <;> simp

@[simp] theorem strand_drive (sid pol : Nat) : (strand sid pol s).drive = s.drive := by simp [strand]
@[simp] theorem strandAll_drive (pol : Nat) (p : Session → Bool) :
    (strandAll pol p s).drive = s.drive := by
  simp [strandAll]
@[simp] theorem sealCore_drive (c : Nat) : (sealCore c s).drive = s.drive := by simp [sealCore]
@[simp] theorem sealPel_drive (p : Nat) : (sealPel p s).drive = s.drive := by simp [sealPel]
@[simp] theorem sealMcSession_drive (n sid : Nat) :
    (sealMcSession n sid s).drive = s.drive := by
  simp [sealMcSession]
@[simp] theorem sealMc_drive (n : Nat) : (sealMc n s).drive = s.drive := by simp [sealMc]
@[simp] theorem sealEth_drive (i : Nat) : (sealEth i s).drive = s.drive := by simp [sealEth]
@[simp] theorem sealBpm_drive : (sealBpm s).drive = s.drive := by simp [sealBpm]

@[simp] theorem sealMgmt_drive : (sealMgmt s).drive = s.drive := by
  unfold sealMgmt
  extract_lets +onlyGivenNames one
  have hone (sid : Nat) (u : State) : (one sid u).drive = u.drive := by
    simp only [one, sessMod_drive]
    split <;> simp
  clear_value one
  simp [hone]

@[simp] theorem sealEffect_drive (i : Nat) : (sealEffect i s).drive = s.drive := by simp [sealEffect]

/-! ### Faults and re-admission -/

@[simp] theorem setClass_drive (src v : Nat) : (setClass src v s).drive = s.drive := by simp [setClass]

@[simp] theorem captureAt_drive (a : Nat) (detail : Bool) (r : Report) :
    (captureAt a detail r s).drive = s.drive := by
  simp [captureAt]

@[simp] theorem fltCapture_drive (r : Report) : (fltCapture r s).drive = s.drive := by simp [fltCapture]
@[simp] theorem coreStalled_drive (i : Nat) : (coreStalled i s).drive = s.drive := by simp [coreStalled]

@[simp] theorem detect_drive (r : Report) : (detect r s).drive = s.drive := by
  unfold detect
  dsimp only
  split <;> simp

@[simp] theorem reportCe_drive (src : Nat) : (reportCe src s).drive = s.drive := by simp [reportCe]
@[simp] theorem fatalWipe_drive (src : Nat) : (fatalWipe src s).drive = s.drive := by simp [fatalWipe]

@[simp] theorem fatalGo_drive (src : Nat) : (fatalGo src s).drive = s.drive := by
  unfold fatalGo
  dsimp only
  split <;> simp

@[simp] theorem admitFail_drive (pol step : Nat) : (admitFail pol step s).drive = s.drive := by
  unfold admitFail
  dsimp only
  split <;> simp

@[simp] theorem raiseShut_drive (r : Report) : (raiseShut r s).drive = s.drive := by
  unfold raiseShut
  dsimp only
  (repeat' split) <;> simp

@[simp] theorem sealPolder_drive (pol src : Nat) : (sealPolder pol src s).drive = s.drive := by simp [sealPolder]
@[simp] theorem fltRaise_drive (was : Nat → Bool) (r : Report) :
    (fltRaise was r s).drive = s.drive := by
  simp [fltRaise]
@[simp] theorem fltCycle_drive (l : List Report) : (fltCycle l s).drive = s.drive := by simp [fltCycle]

@[simp] theorem execFaultRaise_keeps (reps : List Report) : Keeps s (execFaultRaise reps s) := by
  unfold execFaultRaise
  (repeat' split) <;> simp

@[simp] theorem clearPending_drive (i : Nat) : (clearPending i s).drive = s.drive := (rfl)
@[simp] theorem resetPage_drive (p : Page) : (resetPage p s).drive = s.drive := by simp [resetPage]
@[simp] theorem resetPages_drive (pol : Nat) : (resetPages pol s).drive = s.drive := by simp [resetPages]

@[simp] theorem testPass_drive (pol : Nat) (slow : Bool) (seam : List (Fin 4)) :
    (testPass pol slow seam s).drive = s.drive := by
  simp [testPass]

@[simp] theorem execSelfTestDone_keeps (pol : Fin 95) (fail : Option (Fin 3)) (slow : Bool) (seam : List (Fin 4)) :
    Keeps s (execSelfTestDone pol fail slow seam s) := by
  unfold execSelfTestDone
  split <;> simp

@[simp] theorem reopen_drive (i : Nat) : (reopen i s).drive = s.drive := by simp [reopen]

@[simp] theorem execQuiescentBoundary_keeps (pol : Fin 95) : Keeps s (execQuiescentBoundary pol s) := by
  unfold execQuiescentBoundary
  dsimp only
  (repeat' split) <;> simp

@[simp] theorem injWrite_drive (p : Page) (v : Nat) : (injWrite p v s).drive = s.drive := by simp [injWrite]

@[simp] theorem execInjectionArm_keeps (page : Nat) (v : W32) : Keeps s (execInjectionArm page v s) := by
  unfold execInjectionArm
  split <;> simp

@[simp] theorem execInjectionDisarm_keeps (page : Nat) (v : W32) : Keeps s (execInjectionDisarm page v s) := by
  unfold execInjectionDisarm
  split <;> simp

@[simp] theorem execInjectionFire_keeps (page : Nat) : Keeps s (execInjectionFire page s) := by
  unfold execInjectionFire
  split <;> simp

@[simp] theorem execPageLock_keeps (page : Nat) : Keeps s (execPageLock page s) := by
  unfold execPageLock
  split <;> simp

/-! ### Power, reset and start-up -/

@[simp] theorem clearChip_drive : (clearChip s).drive = s.drive := (rfl)
@[simp] theorem adopt_drive (p : Part) : (adopt p s).drive = s.drive := by simp [adopt]
@[simp] theorem clearHeld_drive : (clearHeld s).drive = s.drive := by simp [clearHeld]

@[simp] theorem warmWrite_drive (req : Req) (v : Nat) : (warmWrite req v s).drive = s.drive := by
  unfold warmWrite
  dsimp only
  split <;> simp

@[simp] theorem bootStop_drive (step cause : Nat) : (bootStop step cause s).drive = s.drive := by simp [bootStop]

@[simp] theorem loadImage_drive (ty idx : Nat) (l : List Nat) : (loadImage ty idx l s).2.drive = s.drive := by
  induction l generalizing s with
  | nil => rfl
  | cons a l ih =>
    unfold loadImage
    dsimp only
    split
    · simp
    · simp [ih]

@[simp] theorem bootSec_drive : (bootSec s).drive = s.drive := by simp [bootSec]
@[simp] theorem bootSettings_drive : (bootSettings s).drive = s.drive := by simp [bootSettings]

@[simp] theorem loadPatches_drive (l : List Img) : (loadPatches l s).drive = s.drive := by
  induction l generalizing s with
  | nil => rfl
  | cons m l ih =>
    unfold loadPatches
    (repeat' split) <;> simp [ih]

@[simp] theorem bootMcode_drive : (bootMcode s).drive = s.drive := by simp [bootMcode]
@[simp] theorem trainMc_drive (n : Nat) (r : TrainRes) : (trainMc n r s).drive = s.drive := by simp [trainMc]
@[simp] theorem bootPolders_drive : (bootPolders s).drive = s.drive := by simp [bootPolders]
@[simp] theorem bootBpm_drive : (bootBpm s).drive = s.drive := by simp [bootBpm]
@[simp] theorem bootTandem_drive (fails : List (Fin 32)) :
    (bootTandem fails s).drive = s.drive := by
  simp [bootTandem]

@[simp] theorem bootReady_drive (fails : List (Fin 32)) : (bootReady fails s).drive = s.drive := by
  simp [bootReady]

@[simp] theorem startUp_drive (train : List TrainRes) (fails : List (Fin 32)) :
    (startUp train fails s).drive = s.drive := by
  unfold startUp
  dsimp only
  split
  · simp
  split
  next h => simp [drive_of_eq h (loadImage_drive _ _ _ _)]
  next h =>
    split
    next h' => simp [drive_of_eq h' (loadImage_drive _ _ _ _), drive_of_eq h (loadImage_drive _ _ _ _)]
    next h' => simp [drive_of_eq h' (loadImage_drive _ _ _ _), drive_of_eq h (loadImage_drive _ _ _ _)]

@[simp] theorem execJtagInstruction_keeps (op : JtagOp) (pins : BitVec 66) :
    Keeps s (execJtagInstruction op pins s) := by
  unfold execJtagInstruction
  dsimp only
  (repeat' split) <;> simp

/-! ### Buffer requests -/

@[simp] theorem bpmAnswer_drive (port : Nat) (r : AllocRes) : (bpmAnswer port r s).drive = s.drive := by
  unfold bpmAnswer
  split <;> simp

@[simp] theorem execAllocRetry_keeps (rid : Nat) : Keeps s (execAllocRetry rid s) := by
  unfold execAllocRetry
  dsimp only
  (repeat' split) <;> simp

/-! ### Device DRAM -/

@[simp] theorem lineRead_drive (n : Nat) (r : DReq) : (lineRead n r s).drive = s.drive := by simp [lineRead]
@[simp] theorem dramServe_drive (r : DReq) : (dramServe r s).drive = s.drive := by simp [dramServe]

@[simp] theorem serveAll_drive (n : Nat) (l : List DReq) : (serveAll n l s).drive = s.drive := by
  induction n generalizing l s with
  | zero => rfl
  | succ n ih =>
    unfold serveAll
    split
    · rfl
    · simp [ih]

@[simp] theorem dramWait_drive (r : DReq) : (dramWait r s).drive = s.drive := by simp [dramWait]

@[simp] theorem execDramRequest_keeps (port : Fin 15) (write : Bool) (addr : Fin (2 ^ 39)) (len : Nat) (data : List Byte)
    (cls : Fin 3) (ecc : Fin 3) : Keeps s (execDramRequest port write addr len data cls ecc s) := by
  unfold execDramRequest
  dsimp only
  (repeat' split) <;> simp

/-! ### Register accesses -/

@[simp] theorem accSize_drive : (accSize s).drive = s.drive := by simp [accSize]
@[simp] theorem accUnmapped_drive (req : Req) : (accUnmapped req s).drive = s.drive := by simp [accUnmapped]
@[simp] theorem halfMod_drive (req : Req) (f : Half → Half) : (halfMod req f s).drive = s.drive := (rfl)

@[simp] theorem clearRc_drive (p : Page) (r : Reg) (k : Nat) : (clearRc p r k s).drive = s.drive := by
  unfold clearRc
  split
  · rfl
  split
  · rfl
  · exact forAll_drive s (r.flds.filter (fun f => f.acc == .rc)) (fun f u => rfset_drive u (regAddr p r k) f.lo f.n 0)

@[simp] theorem readEffect_drive (req : Req) (p : Page) (r : Reg) (k : Nat) :
    (readEffect req p r k s).drive = s.drive := by
  simp [readEffect]

@[simp] theorem read32_drive (req : Req) (p : Page) (off : Nat) : (read32 req p off s).2.drive = s.drive := by
  unfold read32
  dsimp only
  (repeat' split) <;> simp

@[simp] theorem read64_drive (req : Req) (p : Page) (off : Nat) : (read64 req p off s).2.drive = s.drive := by
  unfold read64
  dsimp only
  (repeat' split) <;> simp

@[simp] theorem regRead_drive (req : Req) (a len : Nat) : (regRead req a len s).2.drive = s.drive := by
  unfold regRead
  dsimp only
  (repeat' split) <;> simp

@[simp] theorem execRegisterRead_keeps (req : Req) (bar2 : Bool) (addr len : Nat) :
    Keeps s (execRegisterRead req bar2 addr len s) := by
  unfold execRegisterRead
  dsimp only
  (repeat' split) <;> simp

@[simp] theorem plainWrite_drive (p : Page) (r : Reg) (k v mask : Nat) :
    (plainWrite p r k v mask s).drive = s.drive := by
  simp [plainWrite]

@[simp] theorem pelCtrlWrite_drive (p v : Nat) : (pelCtrlWrite p v s).drive = s.drive := by simp [pelCtrlWrite]
@[simp] theorem nvsCmdWrite_drive (req : Req) (v : Nat) :
    (nvsCmdWrite req v s).drive = s.drive := by
  simp [nvsCmdWrite]
@[simp] theorem micPendWrite_drive (i v : Nat) : (micPendWrite i v s).drive = s.drive := by simp [micPendWrite]

@[simp] theorem micWrite_drive (req : Req) (p : Page) (r : Reg) (k v : Nat) :
    (micWrite req p r k v s).drive = s.drive := by
  unfold micWrite
  (repeat' split) <;> simp

@[simp] theorem dmaWrite_drive (req : Req) (p : Page) (r : Reg) (k v mask : Nat) :
    (dmaWrite req p r k v mask s).drive = s.drive := by
  unfold dmaWrite
  split <;> simp

@[simp] theorem hqWrite_drive (p : Page) (r : Reg) (k v mask : Nat) : (hqWrite p r k v mask s).drive = s.drive := by
  unfold hqWrite
  split <;> simp

@[simp] theorem pktRingWrite_drive (p : Page) (r : Reg) (v mask : Nat) :
    (pktRingWrite p r v mask s).drive = s.drive := by
  simp [pktRingWrite]

@[simp] theorem pktWrite_drive (p : Page) (r : Reg) (k v mask : Nat) :
    (pktWrite p r k v mask s).drive = s.drive := by
  unfold pktWrite
  split <;> simp

@[simp] theorem timeCtrlWrite_drive (p : Page) (r : Reg) (v : Nat) : (timeCtrlWrite p r v s).drive = s.drive := by
  simp [timeCtrlWrite]

@[simp] theorem timeDomWrite_drive (p : Page) (r : Reg) (k v mask : Nat) :
    (timeDomWrite p r k v mask s).drive = s.drive := by
  simp [timeDomWrite]

@[simp] theorem timeWrite_drive (p : Page) (r : Reg) (k v mask : Nat) :
    (timeWrite p r k v mask s).drive = s.drive := by
  unfold timeWrite
  split <;> simp

@[simp] theorem mcWrite_drive (p : Page) (r : Reg) (k v mask : Nat) : (mcWrite p r k v mask s).drive = s.drive := by
  unfold mcWrite
  split <;> simp

@[simp] theorem blockWrite_drive (req : Req) (rid : W16) (auth : Bool) (p : Page) (r : Reg) (k v mask : Nat) :
    (blockWrite req rid auth p r k v mask s).drive = s.drive := by
  unfold blockWrite
  split <;> simp

@[simp] theorem regWrite_drive (req : Req) (rid : W16) (auth : Bool) (p : Page) (r : Reg) (k v mask : Nat) :
    (regWrite req rid auth p r k v mask s).drive = s.drive := by simp [regWrite]

@[simp] theorem dropHeld_drive (req : Req) : (dropHeld req s).drive = s.drive := by simp [dropHeld]

@[simp] theorem write32_drive (req : Req) (rid : W16) (auth : Bool) (p : Page) (off v : Nat) :
    (write32 req rid auth p off v s).drive = s.drive := by
  unfold write32
  (repeat' split) <;> simp

@[simp] theorem write64_drive (req : Req) (rid : W16) (auth : Bool) (p : Page) (off v : Nat) :
    (write64 req rid auth p off v s).drive = s.drive := by
  unfold write64
  split <;> simp

@[simp] theorem doorWrite_drive (fn off len : Nat) (v : W64) :
    (doorWrite fn off len v s).drive = s.drive := by
  simp [doorWrite]

@[simp] theorem execRegisterWrite_keeps (req : Req) (rid : W16) (auth : Bool) (addr len : Nat) (value : W64) :
    Keeps s (execRegisterWrite req rid auth addr len value s) := by
  unfold execRegisterWrite
  (repeat' split) <;> simp

/-! ### SPDM -/

@[simp] theorem doe_drive (p code : Nat) (l : List Nat) : (doe p code l s).drive = s.drive := by simp [doe]
@[simp] theorem doeErr_drive (p code : Nat) : (doeErr p code s).drive = s.drive := by simp [doeErr]

@[simp] theorem doeAt_drive (p n : Nat) {body : State → State} (hbody : ∀ u, (body u).drive = u.drive) :
    (doeAt p n body s).drive = s.drive := by
  unfold doeAt
  (repeat' split) <;> simp [hbody]

@[simp] theorem doeIn_drive (p id : Nat) {body : SpdmSession → State → State} (hbody : ∀ x u, (body x u).drive = u.drive) :
    (doeIn p id body s).drive = s.drive := by
  unfold doeIn
  (repeat' split) <;> simp [hbody]

@[simp] theorem execFinish_keeps (p : Fin 3) (id : Nat) (ok : Bool) (peer : Option Peer) :
    Keeps s (execFinish p id ok peer s) := by
  refine keeps_next.mpr (doeAt_drive s _ _ (fun u => ?_))
  dsimp only
  (repeat' split) <;> simp

@[simp] theorem ideMod_drive (p i : Nat) (f : IdeStream → IdeStream) : (ideMod p i f s).drive = s.drive := (rfl)

/-! ### Every command -/

/-- A command that only composes operations keeps it by their equations; one that branches has its own lemma above. -/
theorem exec_keeps (c : Instr) : Keeps s (exec c s) := by
  cases c <;> simp [exec, execVfEnable, execCreateQp, execSetVfQuota, execSetVfQueues, execSqTailDoorbell, execCqHeadDoorbell,
    execAdminQueueEnable, execLinkL1Entry, execLinkL1Exit, execMsixUnmask, execFunctionPowerState, execIdentify,
    execMicSourceRaise, execMicTgtClaim, execMicTgtEoi, execMicSwi, execMicSrcCfg, execMicTargetWake, execDmaChEnable,
    execDmaNop, execDmaCopy, execDmaFill, execDmaCompare, execDmaGather, execDmaChDisable, execDmaChResume, execDmaChTail,
    execShadowCommit, execSessionClose, execSessionQuiesce, execSessionResume, execSessionMove, execSessionExport,
    execSessionQuery, execKeyRequest, execRateDemotionEnd, execFrameRelease, execTandemJoin, execTandemSplit, execIngestWrite,
    execSrcDb, execJobPacketWrite, execAgePromotion, execSeamBoundaryRecord, execSeamSnapshotRecord, execSeamEntropyHandover,
    execSeamModelRecord, execDelayReqSend, execTimeManual, execTimePtp, execTimeSet, execTimeRate, execEthLinkUp,
    execEthLinkDown, execEthModeWrite, execHostTxTail, execHostTxSend, execMbxInData, execMbxOutData, execHostReset,
    execMbxPartialTimeout, execMctpMessage, execMbxOutWrite, execRefreshInterval, execRtTrafficEnd, execMr4Poll,
    execDriftCheck, execSelfRefreshIdle, execSrPrepDone, execSrEntryDone, execSrWake, execMcTrnWritePattern,
    execMcTrnReadCompare, execMcTrnWriteReadCompare, execMcTrnMrWrite, execMcTrnMrRead, execMcTrnZqCal, execMcTrnWck2ckSample,
    execMcTrnDone, execDerailleurEval, execAvsUpdate, execDroopOnset, execCapRelease, execThermalSample, execSupplyExcursion,
    execCommitGearWrite, execStoreSettings, execNvsCmdArm, execNvsStoreTrainLive, execNvsStoreTrainStored, execNvsClear,
    execPcieLinkChange, execPcieHotReset, execPeerPortFlr, execVfFlr, execPfFlr, execAdminQueueDisable, execAttest,
    execClusterEnrolRequest, execClusterEnrolLeave, execDebugUnlockChallenge, execDrbgReseed, execLcProvision, execLcActivate,
    execLcReturn, execOpkeyRotate, execVendorRevoke, execBindWrite, execCommitWatchdog, execScrub, execScrubPeriod,
    execFaultReportTimer, execPolderAdmit, execHAutoReadmit, execPowerOn, execPerstAssert, execWarmReset, execRefclkLoss,
    execRootPllRelock, execPowerRemoval, execStartUp, execAlloc, execRef, execUnref, execReserve, execUnreserve,
    execBpmHoldExpire, execSrExitDone, execGetVersion, execGetCapabilities, execNegotiateAlgorithms, execGetDigests,
    execGetCertificate, execChallenge, execGetMeasurements, execKeyExchange, execKeyUpdate, execHeartbeat, execEndSession,
    execKeyProg, execKSetGo, execIdeIntegrityError]

end

/-- Settles O7: every arm of the dispatch is made of operations that keep what drives the block. -/
theorem commandsLeaveQueueAndTime : Obligations.CommandsLeaveQueueAndTime :=
  fun c s t h => Prod.mk.inj (exec_keeps s c t h)

end Sys2Proof.Machine
end

section
/-! What the part is (R283 to R285; a part is what it is from its first power-on by log 8): the facts of the board and the burnt
lifecycle groups. Each operation of the model keeps both, with one equation that says so; only the first power-on and the three
lifecycle requests of the secure channels write them. -/

namespace Sys2Proof.Machine

/-- What the part is: the facts of the board and the lifecycle groups that are burnt. -/
def State.fuses (s : State) : Board × Nat := (s.board, s.sec.lcBurnt)

/-- The outcome of a command leaves the part as in `s`. -/
def KeepsFuses (s : State) (o : Host.Outcome State Fault Refusal) : Prop := ∀ t, o = .next t → t.fuses = s.fuses

section
variable (s : State)

@[simp] theorem State.fuses_eta : (s.board, s.sec.lcBurnt) = s.fuses := (rfl)

/-- An update of the other fields keeps it. -/
@[simp] theorem State.fuses_mk {pending board boot now clk adj regs halves funs ports qps slots fetchOrder fetchPos
    deferred doorbells sess pels cores pairs mcs bpm dram bufm dma mbx micSrc micTgt flt gears nvs net time sec mcode
    jtagIr rebalanceAt free out} :
    (State.mk pending board boot now clk adj regs halves funs ports qps slots fetchOrder fetchPos deferred doorbells
      sess pels cores pairs mcs bpm dram bufm dma mbx micSrc micTgt flt gears nvs net time sec mcode jtagIr rebalanceAt
      free out).fuses = (board, sec.lcBurnt) :=
  (rfl)

@[simp] theorem ite_fuses (p : Prop) [Decidable p] (s t : State) :
    (if p then s else t).fuses = if p then s.fuses else t.fuses :=
  apply_ite State.fuses p s t

/-- The state of a pair that a function answers. -/
theorem fuses_of_eq {α : Type} {x : α × State} {a : α} {s t : State} (h : x = (a, t)) (hx : x.2.fuses = s.fuses) :
    t.fuses = s.fuses := by
  rw [h] at hx
  exact hx

theorem DeliveryOnly.fuses {s t : State} (h : DeliveryOnly s t) : t.fuses = s.fuses := by
  rw [h]
  rfl

@[simp] theorem keepsFuses_next {s t : State} : KeepsFuses s (.next t) ↔ t.fuses = s.fuses :=
  ⟨fun h => h t rfl, fun h _ ht => next_inj ht ▸ h⟩

@[simp] theorem keepsFuses_fault {f : Fault} : KeepsFuses s (.fault f) := fun _ h => nomatch h

/-! ### Registers and records -/

@[simp] theorem rset_fuses (a v : Nat) : (rset a v s).fuses = s.fuses := (rfl)
@[simp] theorem rfset_fuses (a lo n v : Nat) : (rfset a lo n v s).fuses = s.fuses := (rfl)
@[simp] theorem rcnt_fuses (a lo n k : Nat) : (rcnt a lo n k s).fuses = s.fuses := (rfl)
@[simp] theorem emit_fuses (o : Out) : (emit o s).fuses = s.fuses := (rfl)
@[simp] theorem takeFree_fuses : (takeFree s).2.fuses = s.fuses := (rfl)
@[simp] theorem pgEvt_fuses (p : Page) (b : Nat) : (pgEvt p b s).fuses = s.fuses := (rfl)
@[simp] theorem pgBlock_fuses (p : Page) : (pgBlock p s).fuses = s.fuses := (rfl)
@[simp] theorem polMod_fuses (i : Nat) (f : Polder → Polder) : (polMod i f s).fuses = s.fuses := (rfl)
@[simp] theorem funcMod_fuses (f : Nat) (g : Func → Func) : (funcMod f g s).fuses = s.fuses := (rfl)
@[simp] theorem portMod_fuses (i : Nat) (g : Port → Port) : (portMod i g s).fuses = s.fuses := (rfl)
@[simp] theorem sessMod_fuses (i : Nat) (g : Session → Session) : (sessMod i g s).fuses = s.fuses := (rfl)
@[simp] theorem coreMod_fuses (i : Nat) (g : Core → Core) : (coreMod i g s).fuses = s.fuses := (rfl)
@[simp] theorem pelMod_fuses (i : Nat) (g : Pel → Pel) : (pelMod i g s).fuses = s.fuses := (rfl)
@[simp] theorem pairMod_fuses (i : Nat) (g : Pair → Pair) : (pairMod i g s).fuses = s.fuses := (rfl)
@[simp] theorem mcMod_fuses (i : Nat) (g : Mc → Mc) : (mcMod i g s).fuses = s.fuses := (rfl)
@[simp] theorem chMod_fuses (n c : Nat) (g : McCh → McCh) : (chMod n c g s).fuses = s.fuses := (rfl)
@[simp] theorem gearMod_fuses (i : Nat) (g : Gear → Gear) : (gearMod i g s).fuses = s.fuses := (rfl)
@[simp] theorem subMod_fuses (i : Nat) (g : Subport → Subport) : (subMod i g s).fuses = s.fuses := (rfl)
@[simp] theorem raiseRep_fuses (r : Report) : (raiseRep r s).fuses = s.fuses := (rfl)
@[simp] theorem raise_fuses (kind inst : Nat) : (raise kind inst s).fuses = s.fuses := (rfl)

@[simp] theorem raiseAt_fuses (kind inst addr addrKind requester access : Nat) :
    (raiseAt kind inst addr addrKind requester access s).fuses = s.fuses :=
  (rfl)

@[simp] theorem forAll_fuses {α : Type} (l : List α) {f : α → State → State} (hf : ∀ a u, (f a u).fuses = u.fuses) :
    (forAll l f s).fuses = s.fuses :=
  forAll_keeps (fun u => u.fuses = s.fuses) f (fun a u hu => (hf a u).trans hu) l s rfl

/-! ### Buffers -/

@[simp] theorem poolMod_fuses (p : Nat) (g : Pool → Pool) : (poolMod p g s).fuses = s.fuses := (rfl)
@[simp] theorem bufMod_fuses (k : Nat) (g : BufRec → BufRec) : (bufMod k g s).fuses = s.fuses := (rfl)
@[simp] theorem bufErase_fuses (k : Nat) : (bufErase k s).fuses = s.fuses := (rfl)

@[simp] theorem ticketsClear_fuses (rid : Option Nat) : (ticketsClear rid s).fuses = s.fuses := by
  unfold ticketsClear
  (repeat' split) <;> simp

theorem takeBuf_fuses {p : Nat} {r : AllocReq} {s t : State} {h : Nat} (ht : takeBuf p r s = some (h, t)) :
    t.fuses = s.fuses := by
  unfold takeBuf at ht
  split at ht
  · cases ht
  · cases ht
    simp

@[simp] theorem refuse_fuses (r : AllocReq) : (refuse r s).fuses = s.fuses := by
  unfold refuse
  (repeat' split) <;> simp

@[simp] theorem bpmAlloc_fuses (r : AllocReq) : (bpmAlloc r s).2.fuses = s.fuses := by
  unfold bpmAlloc
  split
  · rfl
  split
  · rfl
  split
  · simp
  split
  · simp
  next ht =>
    split
    · exact takeBuf_fuses ht
    · simp [takeBuf_fuses ht]

@[simp] theorem bpmReject_fuses (port kind h : Nat) : (bpmReject port kind h s).fuses = s.fuses := by simp [bpmReject]

@[simp] theorem bpmRef_fuses (port who h : Nat) : (bpmRef port who h s).2.fuses = s.fuses := by
  unfold bpmRef
  (repeat' split) <;> simp

@[simp] theorem bufReturn_fuses (k : Nat) : (bufReturn k s).fuses = s.fuses := by simp [bufReturn]

@[simp] theorem bpmUnref_fuses (port who h : Nat) (host : Bool) : (bpmUnref port who h host s).2.fuses = s.fuses := by
  simp only [bpmUnref]
  (repeat' split) <;> simp

@[simp] theorem bpmReserve_fuses (p sid n : Nat) : (bpmReserve p sid n s).2.fuses = s.fuses := by
  simp [bpmReserve, apply_ite Prod.snd]

@[simp] theorem bpmUnreserve_fuses (p sid n : Nat) : (bpmUnreserve p sid n s).fuses = s.fuses := (rfl)

@[simp] theorem dropRef_fuses (port h : Nat) : (dropRef port h s).fuses = s.fuses := by
  unfold dropRef
  (repeat' split) <;> simp

@[simp] theorem addRef_fuses (port h : Nat) : (addRef port h s).fuses = s.fuses := by
  unfold addRef
  (repeat' split) <;> simp

@[simp] theorem reissue_fuses : (reissue s).fuses = s.fuses := by simp [reissue]
@[simp] theorem bufWrite_fuses (k off : Nat) (l : List Byte) : (bufWrite k off l s).fuses = s.fuses := by simp [bufWrite]

/-! ### Completions and queued commands -/

@[simp] theorem qpMod_fuses (k : Nat) (g : QPair → QPair) : (qpMod k g s).fuses = s.fuses :=
  ((DeliveryOnly.refl s).after_qpMod k g).fuses

@[simp] theorem slotFree_fuses (o : Option Nat) : (slotFree o s).fuses = s.fuses := ((DeliveryOnly.refl s).after_slotFree o).fuses

@[simp] theorem cqWrite_fuses (k : Nat) (e : Entry) : (cqWrite k e s).fuses = s.fuses :=
  ((DeliveryOnly.refl s).after_cqWrite k e).fuses

@[simp] theorem msixSend_fuses (fn vec : Nat) : (msixSend fn vec s).fuses = s.fuses :=
  ((DeliveryOnly.refl s).after_msixSend fn vec).fuses

@[simp] theorem cqModerate_fuses (k : Nat) : (cqModerate k s).fuses = s.fuses := ((DeliveryOnly.refl s).after_cqModerate k).fuses

@[simp] theorem svcSync_fuses (k : Nat) : (svcSync k s).fuses = s.fuses := by simp [svcSync]

@[simp] theorem cqDrop_fuses (k : Nat) (e : Entry) : (cqDrop k e s).fuses = s.fuses :=
  ((DeliveryOnly.refl s).after_cqDrop k e).fuses

@[simp] theorem cqPour_fuses (k : Nat) : (cqPour k s).fuses = s.fuses := ((DeliveryOnly.refl s).after_cqPour k).fuses

@[simp] theorem cqL1Check_fuses (k : Nat) : (cqL1Check k s).fuses = s.fuses := ((DeliveryOnly.refl s).after_cqL1Check k).fuses

@[simp] theorem cqReleaseN_fuses (n : Nat) : (cqReleaseN n s).fuses = s.fuses := ((DeliveryOnly.refl s).after_cqReleaseN n).fuses

@[simp] theorem cqRelease_fuses : (cqRelease s).fuses = s.fuses := cqReleaseN_fuses s _

@[simp] theorem cqStartFlush_fuses (k : Nat) : (cqStartFlush k s).fuses = s.fuses := by simp [cqStartFlush]

@[simp] theorem event_fuses (k code idx : Nat) (sid : Option Nat) (r0 r1 r2 r3 ext : Nat) :
    (event k code idx sid r0 r1 r2 r3 ext s).fuses = s.fuses :=
  ((DeliveryOnly.refl s).after_event k code idx sid r0 r1 r2 r3 ext).fuses

@[simp] theorem evtPf_fuses (code idx r0 r1 : Nat) : (evtPf code idx r0 r1 s).fuses = s.fuses := by simp [evtPf]

@[simp] theorem evtSess_fuses (sid code idx r0 r1 r2 r3 ext : Nat) :
    (evtSess sid code idx r0 r1 r2 r3 ext s).fuses = s.fuses := by simp [evtSess]

@[simp] theorem settleDeletes_fuses : (settleDeletes s).fuses = s.fuses := (DeliveryOnly.refl s).after_settleDeletes.fuses

@[simp] theorem settleBad_fuses : (settleBad s).fuses = s.fuses := (DeliveryOnly.refl s).after_settleBad.fuses

@[simp] theorem complete_fuses (slot st : Nat) (r : Res) : (complete slot st r s).fuses = s.fuses :=
  ((DeliveryOnly.refl s).after_complete slot st r).fuses

@[simp] theorem finish_fuses (slot st : Nat) : (finish slot st s).fuses = s.fuses := by simp [finish]

@[simp] theorem hold_fuses (slot : Nat) : (hold slot s).fuses = s.fuses := by
  unfold hold
  split <;> simp

@[simp] theorem runCmd_fuses (slot opc : Nat) (ok : Slot → State → Bool) {body : Slot → State → State}
    (hbody : ∀ c u, (body c u).fuses = u.fuses) : (runCmd slot opc ok body s).fuses = s.fuses := by
  rcases runCmd_cases slot opc ok body s with h | ⟨st, h⟩ | ⟨c, -, h⟩
  · rw [h]
  · rw [h, finish_fuses]
  · rw [h, hbody]

/-! ### Queue pairs, fetch and functions -/

@[simp] theorem execDeleteQp_keepsFuses (slot : Nat) : KeepsFuses s (execDeleteQp slot s) := by
  refine keepsFuses_next.mpr (runCmd_fuses s _ _ _ (fun c u => ?_))
  dsimp only
  (repeat' split) <;> simp

@[simp] theorem execSetCqModeration_keepsFuses (slot : Nat) : KeepsFuses s (execSetCqModeration slot s) := by
  refine keepsFuses_next.mpr (runCmd_fuses s _ _ _ (fun c u => ?_))
  dsimp only
  (repeat' split) <;> simp

@[simp] theorem dbError_fuses (fn qid : Nat) (sq : Bool) (value : Nat) : (dbError fn qid sq value s).fuses = s.fuses := by
  simp [dbError]

@[simp] theorem sqTailWrite_fuses (fn : Fin 64) (qid : Fin 256) (at4 : Fin 4) (len : Nat) (value : W64) :
    (sqTailWrite fn qid at4 len value s).fuses = s.fuses := by
  simp only [sqTailWrite]
  (repeat' split) <;> simp

@[simp] theorem cqHeadWrite_fuses (fn : Fin 64) (qid : Fin 256) (at4 : Fin 4) (len : Nat) (value : W64) :
    (cqHeadWrite fn qid at4 len value s).fuses = s.fuses := by
  simp only [cqHeadWrite]
  (repeat' split) <;> simp

@[simp] theorem takeEntry_fuses (cl k n : Nat) (entry : BitVec 512) : (takeEntry cl k n entry s).2.fuses = s.fuses := by
  simp [takeEntry]

@[simp] theorem execSqFetch_keepsFuses (entry : BitVec 512) : KeepsFuses s (execSqFetch entry s) := by
  unfold execSqFetch
  split <;> simp

@[simp] theorem execSqEntryReadError_keepsFuses : KeepsFuses s (execSqEntryReadError s) := by
  unfold execSqEntryReadError
  split <;> simp

@[simp] theorem execCqAggTimeout_keepsFuses (fn : Fin 64) (qid : Fin 256) : KeepsFuses s (execCqAggTimeout fn qid s) := by
  simp only [execCqAggTimeout]
  split <;> simp

@[simp] theorem execServiceTimerExpire_keepsFuses (fn : Fin 64) (qid : Fin 256) :
    KeepsFuses s (execServiceTimerExpire fn qid s) := by
  simp only [execServiceTimerExpire]
  split <;> simp

@[simp] theorem aqEnable_fuses (fn : Fin 64) (cfg : W32) : (aqEnable fn cfg s).fuses = s.fuses := by simp [aqEnable]

@[simp] theorem execAqReady_keepsFuses (fn : Fin 64) : KeepsFuses s (execAqReady fn s) := by
  simp only [execAqReady]
  (repeat' split) <;> simp

@[simp] theorem flushIn_fuses (l : List Nat) (want : CqSt → Bool) : (flushIn l want s).fuses = s.fuses := by
  refine forAll_fuses s l (fun k u => ?_)
  split <;> simp

@[simp] theorem srOrders_fuses : (srOrders s).fuses = s.fuses := by simp [srOrders]

@[simp] theorem execBufAlloc_keepsFuses (slot : Nat) : KeepsFuses s (execBufAlloc slot s) := by
  refine keepsFuses_next.mpr (runCmd_fuses s _ _ _ (fun c u => ?_))
  split
  all_goals
    next h => simp [fuses_of_eq h (bpmAlloc_fuses u _)]

@[simp] theorem execBufWrite_keepsFuses (slot : Nat) (data : Option HostBuf) : KeepsFuses s (execBufWrite slot data s) := by
  refine keepsFuses_next.mpr (runCmd_fuses s _ _ _ (fun c u => ?_))
  dsimp only
  (repeat' split) <;> simp

@[simp] theorem execBufRead_keepsFuses (slot : Nat) (ok : Bool) : KeepsFuses s (execBufRead slot ok s) := by
  refine keepsFuses_next.mpr (runCmd_fuses s _ _ _ (fun c u => ?_))
  dsimp only
  (repeat' split) <;> simp

@[simp] theorem execBufRelease_keepsFuses (slot : Nat) : KeepsFuses s (execBufRelease slot s) := by
  rw [execBufRelease, keepsFuses_next]
  split
  · rfl
  refine runCmd_fuses s _ _ _ (fun c u => ?_)
  split
  all_goals
    next h => simp [fuses_of_eq h (bpmUnref_fuses u _ _ _ _)]

@[simp] theorem ethTx_fuses (sub : Nat) (kind : PktKind) (sid seq len : Nat) :
    (ethTx sub kind sid seq len s).fuses = s.fuses := by simp [ethTx]

/-! ### The interrupt controller -/

@[simp] theorem micSrcMod_fuses (n : Nat) (f : MicSrc → MicSrc) : (micSrcMod n f s).fuses = s.fuses := (rfl)
@[simp] theorem micTgtMod_fuses (t : Nat) (f : MicTgt → MicTgt) : (micTgtMod t f s).fuses = s.fuses := (rfl)
@[simp] theorem micSettle_fuses : (micSettle s).fuses = s.fuses := by simp [micSettle]
@[simp] theorem micSignal_fuses (n : Nat) (on : Bool) : (micSignal n on s).fuses = s.fuses := by simp [micSignal]
@[simp] theorem micPulse_fuses (n : Nat) : (micPulse n s).fuses = s.fuses := by simp [micPulse]

@[simp] theorem micClaim_fuses (req : Req) (t : Fin 9) : (micClaim req t s).2.fuses = s.fuses := by
  simp [micClaim, apply_ite Prod.snd]

@[simp] theorem micUnmatched_fuses (t n : Nat) : (micUnmatched t n s).fuses = s.fuses := by simp [micUnmatched]
@[simp] theorem micEoi_fuses (req : Req) (t : Fin 9) (src : Fin 512) : (micEoi req t src s).fuses = s.fuses := by simp [micEoi]
@[simp] theorem micSwi_fuses (req : Req) (set : W32) : (micSwi req set s).fuses = s.fuses := by simp [micSwi]

@[simp] theorem micCfgWrite_fuses (req : Req) (src : Fin 512) (cfg : W32) : (micCfgWrite req src cfg s).fuses = s.fuses := by
  simp [micCfgWrite]

/-! ### The DMA engine -/

@[simp] theorem dmaMod_fuses (c : Nat) (f : DmaCh → DmaCh) : (dmaMod c f s).fuses = s.fuses := (rfl)
@[simp] theorem dmaGo_fuses (c : Nat) : (dmaGo c s).fuses = s.fuses := by simp [dmaGo]
@[simp] theorem dmaShadow_fuses (c : Nat) : (dmaShadow c s).fuses = s.fuses := by simp [dmaShadow]
@[simp] theorem dmaEnable_fuses (req : Req) (c : Fin 32) : (dmaEnable req c s).fuses = s.fuses := by simp [dmaEnable]

@[simp] theorem spaceWrite_fuses (sp addr : Nat) (l : List Byte) : (spaceWrite sp addr l s).fuses = s.fuses := by
  simp [spaceWrite]

@[simp] theorem dRefs_fuses (c : Nat) (l got : List Nat) : (dRefs c l got s).2.fuses = s.fuses := by
  induction l generalizing got s with
  | nil => rfl
  | cons h l ih =>
    unfold dRefs
    split
    · simp
    · simp [ih]

@[simp] theorem dmaRun_fuses (c : Nat) (d : BitVec 256) (host : List Byte) (err : Option (Nat × Fin 3)) :
    (dmaRun c d host err s).fuses = s.fuses := by
  unfold dmaRun
  extract_lets +onlyGivenNames done
  have hdone (e : DmaEnd) (u : State) : (done e u).fuses = u.fuses := dmaMod_fuses u c _
  clear_value done
  split
  · rfl
  split
  · simp [hdone]
  split
  · simp [hdone]
  split
  next h => simp [hdone, fuses_of_eq h (dRefs_fuses s _ _ _)]
  next h =>
    have hrefs := fuses_of_eq h (dRefs_fuses s _ _ _)
    split
    · simp [hdone, hrefs]
    extract_lets +onlyGivenNames n fencedAt data
    clear_value fencedAt
    cases fencedAt with
    | none =>
      dsimp only
      (repeat' split) <;> simp [hdone, hrefs]
    | some o => simp [hdone, hrefs]

@[simp] theorem dmaOp_fuses (op : Nat) (c : Nat) (d : BitVec 256) (host : List Byte) (err : Option (Nat × Fin 3)) :
    (dmaOp op c d host err s).fuses = s.fuses := by simp [dmaOp]

@[simp] theorem execDmaDescriptorDone_keepsFuses (c : Fin 32) : KeepsFuses s (execDmaDescriptorDone c s) := by
  simp only [execDmaDescriptorDone]
  split <;> simp

@[simp] theorem dmaDisable_fuses (req : Req) (c : Fin 32) : (dmaDisable req c s).fuses = s.fuses := by
  unfold dmaDisable
  (repeat' split) <;> simp

@[simp] theorem dmaResume_fuses (req : Req) (c : Fin 32) : (dmaResume req c s).fuses = s.fuses := by simp [dmaResume]

@[simp] theorem dmaTailWrite_fuses (req : Req) (c : Fin 32) (idx : Nat) : (dmaTailWrite req c idx s).fuses = s.fuses := by
  simp [dmaTailWrite]

@[simp] theorem dmaCommit_fuses (req : Req) (c : Fin 32) (weight : Fin 8) : (dmaCommit req c weight s).fuses = s.fuses := by
  simp [dmaCommit]

/-! ### What sessions share -/

@[simp] theorem slotEmpty_fuses (sid i : Nat) : (slotEmpty sid i s).fuses = s.fuses := by simp [slotEmpty]
@[simp] theorem picMod_fuses (sid num : Nat) (f : Pic → Pic) : (picMod sid num f s).fuses = s.fuses := (rfl)

@[simp] theorem flushPics_fuses (n sid : Nat) : (flushPics n sid s).fuses = s.fuses := by
  induction n generalizing s with
  | zero => rfl
  | succ n ih =>
    unfold flushPics
    dsimp only
    (repeat' split) <;> simp [ih]

@[simp] theorem flushAll_fuses (sid : Nat) : (flushAll sid s).fuses = s.fuses := by simp [flushAll]

@[simp] theorem dropCaptured_fuses (sid num : Nat) : (dropCaptured sid num s).fuses = s.fuses := by
  unfold dropCaptured
  split <;> simp

@[simp] theorem sourceFree_fuses (sid num : Nat) : (sourceFree sid num s).fuses = s.fuses := by
  simp only [sourceFree]
  split <;> simp

@[simp] theorem bktMod_fuses (sid num : Nat) (f : Bkt → Bkt) : (bktMod sid num f s).fuses = s.fuses := (rfl)

@[simp] theorem endPic_fuses (sid num st : Nat) : (endPic sid num st s).fuses = s.fuses := by
  simp only [endPic]
  split <;> simp

@[simp] theorem dropPkts_fuses (sid : Nat) : (dropPkts sid s).fuses = s.fuses := (rfl)
@[simp] theorem askFence_fuses (sid : Nat) : (askFence sid s).fuses = s.fuses := (rfl)
@[simp] theorem abandon_fuses (sid : Nat) : (abandon sid s).fuses = s.fuses := by simp [abandon]
@[simp] theorem placeRing_fuses (sid core : Nat) : (placeRing sid core s).fuses = s.fuses := by simp [placeRing]
@[simp] theorem evtMoved_fuses (sid old new cause : Nat) : (evtMoved sid old new cause s).fuses = s.fuses := by simp [evtMoved]
@[simp] theorem wmClear_fuses (sid : Nat) : (wmClear sid s).fuses = s.fuses := (rfl)
@[simp] theorem wmLoad_fuses (sid : Nat) : (wmLoad sid s).fuses = s.fuses := by simp [wmLoad]

@[simp] theorem bindTo_fuses (sid core : Nat) (st : SState) : (bindTo sid core st s).fuses = s.fuses := by simp [bindTo]

@[simp] theorem evtSplit_fuses (k cause : Nat) : (evtSplit k cause s).fuses = s.fuses := by simp [evtSplit]
@[simp] theorem pairSettle_fuses (k : Nat) : (pairSettle k s).fuses = s.fuses := by simp [pairSettle]

@[simp] theorem moveEnd_fuses (sid cause : Nat) : (moveEnd sid cause s).fuses = s.fuses := by
  simp only [moveEnd]
  split <;> simp

@[simp] theorem rebind_fuses (sid core cause : Nat) (lost : Bool) : (rebind sid core cause lost s).fuses = s.fuses := by
  simp [rebind]

@[simp] theorem doMove_fuses (sid : Nat) : (doMove sid s).fuses = s.fuses := by
  simp only [doMove]
  (repeat' split) <;> simp

@[simp] theorem startSeal_fuses (sid : Nat) : (startSeal sid s).fuses = s.fuses := by
  simp only [startSeal]
  (repeat' split) <;> simp

@[simp] theorem settle_fuses (sid : Nat) : (settle sid s).fuses = s.fuses := by
  simp only [settle]
  (repeat' split) <;> simp

@[simp] theorem afterEnd_fuses (sid : Nat) : (afterEnd sid s).fuses = s.fuses := by simp [afterEnd]

@[simp] theorem endPend_fuses (sid st : Nat) : (endPend sid st s).fuses = s.fuses := by
  unfold endPend
  split <;> simp

@[simp] theorem dropRetries_fuses (sid : Nat) : (dropRetries sid s).fuses = s.fuses := by
  refine forAll_fuses s _ (fun a u => ?_)
  dsimp only
  (repeat' split) <;> simp

@[simp] theorem releaseSession_fuses (sid : Nat) : (releaseSession sid s).fuses = s.fuses := by simp [releaseSession]
@[simp] theorem pktCnt_fuses (i n : Nat) : (pktCnt i n s).fuses = s.fuses := (rfl)
@[simp] theorem sendSr_fuses (sid : Nat) (bye : Bool) : (sendSr sid bye s).fuses = s.fuses := by simp [sendSr]

@[simp] theorem closeSession_fuses (sid : Nat) (slot : Option Nat) : (closeSession sid slot s).fuses = s.fuses := by
  simp [closeSession]

/-! ### Reference slots in memory -/

@[simp] theorem storeBytes_fuses (handle off : Nat) (l : List Byte) : (storeBytes handle off l s).fuses = s.fuses := by
  simp [storeBytes]

@[simp] theorem storeUnits_fuses (std : Std) (depth handle total : Nat) (enc : Bool) (lens : List Byte) (n u : Nat)
    (l : List Byte) :
    (storeUnits std depth handle total enc lens n u l s).fuses = s.fuses := by
  induction n generalizing u l s with
  | zero => rfl
  | succ n ih => simp [storeUnits, ih]

@[simp] theorem storeRecord_fuses (std : Std) (handle : Nat) (enc : Bool) (l : List Byte) :
    (storeRecord std handle enc l s).fuses = s.fuses := by simp [storeRecord]

/-! ### Admission, opening and import -/

theorem reserveFrames_fuses {sid size n : Nat} {s t : State} (h : reserveFrames sid size n s = some t) : t.fuses = s.fuses := by
  unfold reserveFrames at h
  split at h
  · cases h
  next p _ _ =>
    have hres := bpmReserve_fuses s p sid n
    split at h
    next hp =>
      rw [hp] at hres
      cases h
      simpa using hres
    · cases h

theorem drawFrame_fuses {sid size h : Nat} {s t : State} (ht : drawFrame sid size s = some (h, t)) : t.fuses = s.fuses := by
  unfold drawFrame at ht
  dsimp only at ht
  split at ht
  next hp =>
    cases ht
    exact fuses_of_eq hp (bpmAlloc_fuses s _)
  · cases ht

theorem reserveAll_fuses {sid core : Nat} {s t : State} (h : reserveAll sid core s = some t) : t.fuses = s.fuses := by
  unfold reserveAll at h
  dsimp only at h
  split at h
  · obtain ⟨u, hu, ht⟩ := Option.bind_eq_some_iff.mp h
    exact (reserveFrames_fuses ht).trans (reserveFrames_fuses hu)
  split at h
  · cases h
  split at h
  · cases h
  split at h
  · obtain ⟨v, hv, ht⟩ := Option.bind_eq_some_iff.mp h
    obtain ⟨u, hu, rfl⟩ := Option.map_eq_some_iff.mp hv
    split at ht
    · cases ht
    · cases ht
      simp [reserveFrames_fuses hu]
  · obtain ⟨v, hv, h⟩ := Option.bind_eq_some_iff.mp h
    obtain ⟨u, hu, rfl⟩ := Option.map_eq_some_iff.mp hv
    obtain ⟨w, hw, h⟩ := Option.bind_eq_some_iff.mp h
    obtain ⟨⟨h0, y⟩, hy, h⟩ := Option.bind_eq_some_iff.mp h
    obtain ⟨⟨h1, z⟩, hz, rfl⟩ := Option.map_eq_some_iff.mp h
    simp [drawFrame_fuses hz, drawFrame_fuses hy, reserveFrames_fuses hw, reserveFrames_fuses hu]

theorem admitProtected_fuses {x : Session} {imp pol : Bool} {sid r : Nat} {s s2 t : State}
    (h : admitProtected x imp pol sid s s2 = .inr (r, t)) : t.fuses = s2.fuses := by
  unfold admitProtected at h
  (repeat' split at h) <;> cases h <;> rfl

theorem admitPlaced_fuses {x : Session} {imp pol : Bool} {c r : Nat} {s t : State} (h : admitPlaced x imp pol c s = .inr (r, t)) :
    t.fuses = s.fuses := by
  unfold admitPlaced at h
  dsimp only at h
  split at h
  · cases h
  split at h
  · cases h
  split at h
  · cases h
  next hres => exact (admitProtected_fuses h).trans ((reserveAll_fuses hres).trans (by simp))

theorem admission_fuses {x0 : Session} {imp pol : Bool} {s t : State} {sid : Nat} (h : admission x0 imp pol s = .inr (sid, t)) :
    t.fuses = s.fuses := by
  rcases Nat.lt_or_ge (lowFree s.sess 0) 4096 with hsid | hsid
  · cases hq : quotaOk s x0.owner x0.load with
    | false => rw [admission_of_overQuota hsid hq] at h; cases h
    | true =>
      cases hf : formatOk x0 with
      | none => rw [admission_of_badFormat hsid hq hf] at h; cases h
      | some f =>
        cases hp : place s x0.kind x0.load x0.lc with
        | none => rw [admission_of_unplaced hsid hq hf hp] at h; cases h
        | some c => rw [admission_of_placed hsid hq hf hp] at h; exact admitPlaced_fuses h
  · rw [admission_of_noContext hsid] at h; cases h

@[simp] theorem secAdmit_fuses (sid : Nat) : (secAdmit sid s).fuses = s.fuses := by simp [secAdmit]
@[simp] theorem openRefused_fuses (st : Nat) (pol : Bool) : (openRefused st pol s).fuses = s.fuses := by simp [openRefused]

@[simp] theorem execSessionOpen_keepsFuses (slot : Nat) (blk : Option HostBuf) (pol : Bool) :
    KeepsFuses s (execSessionOpen slot blk pol s) := by
  refine keepsFuses_next.mpr (runCmd_fuses s _ _ _ (fun c u => ?_))
  cases blk with
  | none => simp
  | some b =>
    dsimp only
    split
    · simp
    split
    · simp
    split
    · simp
    next h => simp [admission_fuses h]

theorem importSlots_fuses {sid : Nat} {recs : List (Nat × List Byte)} {s t : State} (h : importSlots sid recs s = some t) :
    t.fuses = s.fuses := by
  unfold importSlots at h
  refine List.foldlRecOn (motive := fun r => ∀ u, r = some u → u.fuses = s.fuses) (List.range 8) _
    (fun u hu => Option.some.inj hu ▸ rfl) (fun r hr i _ u hu => ?_) t h
  obtain ⟨v, hv, hu⟩ := Option.bind_eq_some_iff.mp hu
  split at hu
  · obtain ⟨⟨a, w⟩, hw, rfl⟩ := Option.map_eq_some_iff.mp hu
    have hdraw := (drawFrame_fuses hw).trans (hr v hv)
    dsimp only
    split <;> simp [hdraw]
  · cases hu
    simp [hr v hv]

@[simp] theorem execSessionImport_keepsFuses (slot : Nat) (img : Option SealedImage) :
    KeepsFuses s (execSessionImport slot img s) := by
  refine keepsFuses_next.mpr (runCmd_fuses s _ _ _ (fun c u => ?_))
  cases img with
  | none => simp
  | some m =>
    dsimp only
    iterate 4
      split
      · simp
    split
    · simp
    next h =>
      split
      · simp
      next h' => simp [importSlots_fuses h', admission_fuses h]

/-! ### Session commands -/

@[simp] theorem sessCmd_fuses (slot opc : Nat) (ok : Slot → State → Bool) (sts : List SState)
    {body : Slot → Nat → Session → State → State} (hbody : ∀ c sid x u, (body c sid x u).fuses = u.fuses) :
    (sessCmd slot opc ok sts body s).fuses = s.fuses := by
  refine runCmd_fuses s _ _ _ (fun c u => ?_)
  dsimp only
  split
  · exact finish_fuses u _ _
  · exact hbody _ _ _ u

@[simp] theorem execSealDone_keepsFuses (sid : Fin 4096) (ok : Bool) : KeepsFuses s (execSealDone sid ok s) := by
  simp only [execSealDone]
  (repeat' split) <;> simp

@[simp] theorem execSessionSetRc_keepsFuses (slot : Nat) (blk : Option HostBuf) : KeepsFuses s (execSessionSetRc slot blk s) := by
  unfold execSessionSetRc
  split <;> simp

@[simp] theorem submitRate_fuses (sid : Nat) : (submitRate sid s).fuses = s.fuses := by simp [submitRate]

@[simp] theorem noteReady_fuses (sid : Nat) : (noteReady sid s).fuses = s.fuses := by
  simp only [noteReady]
  (repeat' split) <;> simp

@[simp] theorem execEncodePicture_keepsFuses (slot : Nat) : KeepsFuses s (execEncodePicture slot s) := by
  refine keepsFuses_next.mpr (runCmd_fuses s _ _ _ (fun c u => ?_))
  dsimp only
  (repeat' split) <;> simp

@[simp] theorem execDecodePicture_keepsFuses (slot : Nat) : KeepsFuses s (execDecodePicture slot s) := by
  refine keepsFuses_next.mpr (runCmd_fuses s _ _ _ (fun c u => ?_))
  dsimp only
  (repeat' split) <;> simp

@[simp] theorem execSeamTrained_keepsFuses (k : Fin 32) : KeepsFuses s (execSeamTrained k s) := by
  simp only [execSeamTrained]
  (repeat' split) <;> simp

@[simp] theorem execSeamTrainTimeout_keepsFuses (k : Fin 32) : KeepsFuses s (execSeamTrainTimeout k s) := by
  simp only [execSeamTrainTimeout]
  (repeat' split) <;> simp

@[simp] theorem execRebalanceEval_keepsFuses : KeepsFuses s (execRebalanceEval s) := by
  simp only [execRebalanceEval]
  (repeat' split) <;> simp

@[simp] theorem execAutoMove_keepsFuses (sid : Fin 4096) : KeepsFuses s (execAutoMove sid s) := by
  simp only [execAutoMove]
  (repeat' split) <;> simp

@[simp] theorem freeSession_fuses (sid : Nat) : (freeSession sid s).fuses = s.fuses := by simp [freeSession]

@[simp] theorem execSessionCloseDrained_keepsFuses (sid : Fin 4096) : KeepsFuses s (execSessionCloseDrained sid s) := by
  simp only [execSessionCloseDrained]
  (repeat' split) <;> simp

@[simp] theorem execHoldoffEnd_keepsFuses (sid : Fin 4096) : KeepsFuses s (execHoldoffEnd sid s) := by
  unfold execHoldoffEnd
  split <;> simp

@[simp] theorem execCcfbSilence_keepsFuses (sid : Fin 4096) : KeepsFuses s (execCcfbSilence sid s) := by
  simp only [execCcfbSilence]
  split <;> simp

@[simp] theorem execRtcpSilence_keepsFuses (sid : Fin 4096) : KeepsFuses s (execRtcpSilence sid s) := by
  simp only [execRtcpSilence]
  split <;> simp

@[simp] theorem execOldKeyLapse_keepsFuses (sid : Fin 4096) : KeepsFuses s (execOldKeyLapse sid s) := by
  unfold execOldKeyLapse
  split <;> simp

/-! ### Ingest windows -/

@[simp] theorem ringWrite_fuses (sid port off : Nat) (data : List Byte) : (ringWrite sid port off data s).fuses = s.fuses := by
  simp [ringWrite]

@[simp] theorem halfWrite_fuses (sid off : Nat) (data : List Byte) : (halfWrite sid off data s).fuses = s.fuses := by
  simp [halfWrite]

@[simp] theorem dbReject_fuses (sid lines : Nat) : (dbReject sid lines s).fuses = s.fuses := by simp [dbReject]

@[simp] theorem srcDoorbell_fuses (sid port pic lines : Nat) : (srcDoorbell sid port pic lines s).fuses = s.fuses := by
  simp [srcDoorbell]

@[simp] theorem ctlWrite_fuses (sid port off v : Nat) : (ctlWrite sid port off v s).fuses = s.fuses := by simp [ctlWrite]

@[simp] theorem ctlWrites_fuses (sid port off : Nat) (l : List Nat) : (ctlWrites sid port off l s).fuses = s.fuses := by
  induction l generalizing off s with
  | nil => rfl
  | cons v l ih => simp [ctlWrites, ih]

@[simp] theorem windowWrite_fuses (sid port off : Nat) (data : List Byte) :
    (windowWrite sid port off data s).fuses = s.fuses := by simp [windowWrite]

@[simp] theorem bar2Write_fuses (req : Req) (ide : Option Nat) (addr : Nat) (data : List Byte) :
    (bar2Write req ide addr data s).fuses = s.fuses := by
  unfold bar2Write
  (repeat' split) <;> simp

@[simp] theorem execRingCopyDone_keepsFuses (sid : Fin 4096) : KeepsFuses s (execRingCopyDone sid s) := by
  simp only [execRingCopyDone]
  split <;> simp

/-! ### Row scheduling -/

@[simp] theorem promoteLong_fuses (sid : Nat) : (promoteLong sid s).fuses = s.fuses := by
  unfold promoteLong
  extract_lets x s1
  have hs1 : s1.fuses = s.fuses := by
    dsimp only [s1]
    split
    · rfl
    · simp
  clear_value s1
  refine (forAll_fuses s1 _ (fun i u => ?_)).trans hs1
  dsimp only
  split
  · split <;> simp
  · rfl

@[simp] theorem bindSlot_fuses (sid i : Nat) (t : Slot8) : (bindSlot sid i t s).fuses = s.fuses := by simp [bindSlot]

@[simp] theorem startEncode_fuses (sid num : Nat) : (startEncode sid num s).fuses = s.fuses := by
  simp only [startEncode]
  split <;> simp

@[simp] theorem startDecode_fuses (sid num : Nat) : (startDecode sid num s).fuses = s.fuses := by simp [startDecode]

@[simp] theorem sessAlloc_fuses (sid n : Nat) (ty : PoolTy) (size : Nat) : (sessAlloc sid n ty size s).2.fuses = s.fuses := by
  unfold sessAlloc
  dsimp only
  split
  · split
    · simp
    · rfl
  · split
    next hp => exact fuses_of_eq hp (bpmAlloc_fuses s _)
    next hp => exact fuses_of_eq hp (bpmAlloc_fuses s _)

@[simp] theorem takeSlot_fuses (sid num : Nat) : (takeSlot sid num s).fuses = s.fuses := by
  simp only [takeSlot]
  split <;> simp

@[simp] theorem takeBits_fuses (sid num : Nat) : (takeBits sid num s).fuses = s.fuses := by
  unfold takeBits
  dsimp only
  split
  · rfl
  split
  · rfl
  split
  all_goals
    next h => simp [fuses_of_eq h (sessAlloc_fuses s _ _ _ _)]

@[simp] theorem takeSlotBuf_fuses (sid num : Nat) : (takeSlotBuf sid num s).fuses = s.fuses := by
  unfold takeSlotBuf
  dsimp only
  split
  · rfl
  split
  · rfl
  split
  all_goals
    next h => simp [fuses_of_eq h (sessAlloc_fuses s _ _ _ _)]

@[simp] theorem takeOut_fuses (sid num : Nat) : (takeOut sid num s).fuses = s.fuses := by
  unfold takeOut
  dsimp only
  split
  · rfl
  split
  · rfl
  split
  · simp
  split
  · rfl
  split
  all_goals
    next h => simp [fuses_of_eq h (sessAlloc_fuses s _ _ _ _)]

@[simp] theorem rwqHigh_fuses (p : Nat) : (rwqHigh p s).fuses = s.fuses := by simp [rwqHigh]
@[simp] theorem packetGo_fuses (sid pel k : Nat) (low : Bool) : (packetGo sid pel k low s).fuses = s.fuses := by simp [packetGo]

@[simp] theorem packetBegin_fuses (sid k : Nat) (low : Bool) : (packetBegin sid k low s).fuses = s.fuses := by
  simp only [packetBegin]
  (repeat' split) <;> simp

@[simp] theorem promoteAged_fuses (p : Nat) : (promoteAged p s).fuses = s.fuses := by simp [promoteAged]
@[simp] theorem giveRow_fuses (c : Nat) (k : Pkt) (slot : Nat) : (giveRow c k slot s).fuses = s.fuses := by simp [giveRow]

@[simp] theorem execRowDispatch_keepsFuses (core : Fin 64) (ecc : Option Nat) : KeepsFuses s (execRowDispatch core ecc s) := by
  simp only [execRowDispatch]
  (repeat' split) <;> simp

/-! ### The rate loop -/

@[simp] theorem openBucket_fuses (sid num : Nat) : (openBucket sid num s).fuses = s.fuses := by
  simp only [openBucket]
  split <;> simp

@[simp] theorem replaceBucket_fuses (sid num : Nat) : (replaceBucket sid num s).fuses = s.fuses := by
  simp only [replaceBucket]
  (repeat' split) <;> simp

@[simp] theorem decideRow_fuses (sid num n hdr : Nat) : (decideRow sid num n hdr s).fuses = s.fuses := by
  unfold decideRow
  split <;> simp

/-! ### Reconstructed samples -/

@[simp] theorem storeUnit_fuses (sid num : Nat) (u : UnitPix) : (storeUnit sid num u s).fuses = s.fuses := by
  simp only [storeUnit]
  split <;> simp

@[simp] theorem storeMotion_fuses (sid num : Nat) (ps : List Pred) : (storeMotion sid num ps s).fuses = s.fuses := by
  obtain ⟨m, h⟩ := storeMotion_only s sid num ps
  rw [h]
  rfl

@[simp] theorem storeHeader_fuses (sid num : Nat) : (storeHeader sid num s).fuses = s.fuses := by
  simp only [storeHeader]
  split <;> simp

@[simp] theorem storeSaved_fuses (sid num : Nat) (l : List Byte) : (storeSaved sid num l s).fuses = s.fuses := by
  simp only [storeSaved]
  split <;> simp

@[simp] theorem storeRun_fuses (handle w h depth : Nat) (r : PixRun) : (storeRun handle w h depth r s).fuses = s.fuses := by
  simp [storeRun]

/-! ### The block pipeline -/

@[simp] theorem releaseLines_fuses (sid num n : Nat) : (releaseLines sid num n s).fuses = s.fuses := by
  simp only [releaseLines]
  split <;> simp

@[simp] theorem seamSend_fuses (x : Session) (r : SeamRec) : (seamSend x r s).fuses = s.fuses := by simp [seamSend]
@[simp] theorem setPacked_fuses (sid num : Nat) : (setPacked sid num s).fuses = s.fuses := by simp [setPacked]

@[simp] theorem encBlock_fuses (sid num n j st : Nat) (d : BlkData) (o : BlockOut) :
    (encBlock sid num n j st d o s).fuses = s.fuses := by
  unfold encBlock
  split <;> simp

@[simp] theorem refusePic_fuses (sid num : Nat) : (refusePic sid num s).fuses = s.fuses := by simp [refusePic]
@[simp] theorem evtMissing_fuses (sid num : Nat) (l : List Nat) : (evtMissing sid num l s).fuses = s.fuses := by simp [evtMissing]

@[simp] theorem applyMarks_fuses (sid : Nat) (l : List (Nat × Term)) : (applyMarks sid l s).fuses = s.fuses := by
  simp [applyMarks]

@[simp] theorem fillTargets_fuses (sid buf : Nat) (t : Slot8) (l : List Nat) : (fillTargets sid buf t l s).fuses = s.fuses := by
  induction l generalizing s with
  | nil => rfl
  | cons i l ih => simp [fillTargets, ih]

@[simp] theorem showExisting_fuses (sid num i : Nat) (h : DecHead) : (showExisting sid num i h s).fuses = s.fuses := by
  simp [showExisting]

@[simp] theorem parseHead_fuses (sid num : Nat) (h : DecHead) : (parseHead sid num h s).fuses = s.fuses := by
  simp only [parseHead]
  (repeat' split) <;> simp

@[simp] theorem decErrs_fuses (sid num : Nat) (l : List DecErr) : (decErrs sid num l s).fuses = s.fuses := by simp [decErrs]

@[simp] theorem decEnd_fuses (sid num : Nat) : (decEnd sid num s).fuses = s.fuses := by
  unfold decEnd
  split <;> simp

@[simp] theorem decBlock_fuses (sid num n j st : Nat) (d : BlkData) (o : BlockOut) :
    (decBlock sid num n j st d o s).fuses = s.fuses := by
  simp only [decBlock]
  split <;> simp

@[simp] theorem blockEffect_fuses (r : CoreRow) (j st : Nat) (o : BlockOut) : (blockEffect r j st o s).fuses = s.fuses := by
  unfold blockEffect
  split <;> simp

@[simp] theorem blockData_fuses (c : Nat) (r : CoreRow) (j st : Nat) (o : BlockOut) :
    (blockData c r j st o s).fuses = s.fuses := by
  obtain ⟨k, h⟩ := blockData_only s c r j st o
  rw [h]
  rfl

@[simp] theorem rowEnd_fuses (c : Nat) (r : CoreRow) : (rowEnd c r s).fuses = s.fuses := by simp [rowEnd]

@[simp] theorem passBlock_fuses (c : Nat) (r : CoreRow) (j st : Nat) : (passBlock c r j st s).fuses = s.fuses := by
  simp [passBlock]

@[simp] theorem execBlockStageDone_keepsFuses (core : Fin 64) (st : Fin 7) (o : BlockOut) :
    KeepsFuses s (execBlockStageDone core st o s) := by
  simp only [execBlockStageDone]
  (repeat' split) <;> simp

@[simp] theorem seamArrive_fuses (k kind fails : Nat) : (seamArrive k kind fails s).fuses = s.fuses := by
  simp only [seamArrive]
  (repeat' split) <;> simp

/-! ### Packets -/

@[simp] theorem pictureSent_fuses (sid num : Nat) : (pictureSent sid num s).fuses = s.fuses := by
  simp only [pictureSent]
  split <;> simp

@[simp] theorem firstRow_fuses (sid : Nat) (p : Pic) : (firstRow sid p s).fuses = s.fuses := by simp [firstRow]

@[simp] theorem packRow_fuses (sid : Nat) (num : Nat) (note : RowNotice) : (packRow sid num note s).fuses = s.fuses := by
  simp only [packRow]
  split <;> simp

@[simp] theorem execRowPacketise_keepsFuses (sid : Fin 4096) : KeepsFuses s (execRowPacketise sid s) := by
  simp only [execRowPacketise]
  (repeat' split) <;> simp

@[simp] theorem drawIn_fuses (lo hi : Nat) : (drawIn lo hi s).2.fuses = s.fuses := (rfl)
@[simp] theorem armSr_fuses (sid : Nat) : (armSr sid s).fuses = s.fuses := by simp [armSr]
@[simp] theorem sendPkt_fuses (sub : Nat) (t : TxPkt) : (sendPkt sub t s).fuses = s.fuses := by simp [sendPkt]

@[simp] theorem execPacketSend_keepsFuses (sub : Fin 8) : KeepsFuses s (execPacketSend sub s) := by
  unfold execPacketSend
  (repeat' split) <;> simp

@[simp] theorem execSrSend_keepsFuses (sid : Fin 4096) : KeepsFuses s (execSrSend sid s) := by
  simp only [execSrSend]
  split <;> simp

/-! ### The time unit -/

@[simp] theorem clockStep_fuses (d : Int) : (clockStep d s).fuses = s.fuses := by simp [clockStep]
@[simp] theorem ptpMod_fuses (d : Nat) (f : Ptp → Ptp) : (ptpMod d f s).fuses = s.fuses := (rfl)
@[simp] theorem evtTime_fuses (step : Bool) (size : Int) : (evtTime step size s).fuses = s.fuses := by simp [evtTime]

@[simp] theorem timeGo_fuses (st : TimeSt) (active : Nat) (step : Bool) (size : Int) :
    (timeGo st active step size s).fuses = s.fuses := by simp [timeGo]

@[simp] theorem stepOff_fuses (d : Nat) : (stepOff d s).fuses = s.fuses := by simp [stepOff]
@[simp] theorem switchTo_fuses (d : Nat) : (switchTo d s).fuses = s.fuses := by simp [switchTo]

@[simp] theorem timeSettle_fuses : (timeSettle s).fuses = s.fuses := by
  unfold timeSettle
  (repeat' split) <;> simp

@[simp] theorem domainLost_fuses (d : Nat) : (domainLost d s).fuses = s.fuses := by
  simp only [domainLost]
  (repeat' split) <;> simp

@[simp] theorem syncDone_fuses (d : Nat) (t1 t2 : Int) : (syncDone d t1 t2 s).fuses = s.fuses := by
  simp only [syncDone]
  split <;> simp

@[simp] theorem announceIn_fuses (d src : Nat) (ds : List Nat) (steps : Nat) (utc : Option Nat) (log : Int) :
    (announceIn d src ds steps utc log s).fuses = s.fuses := by
  unfold announceIn
  (repeat' split) <;> simp

@[simp] theorem ptpIn_fuses (d : Nat) (m : PtpMsg) : (ptpIn d m s).fuses = s.fuses := by
  simp only [ptpIn]
  (repeat' split) <;> simp

@[simp] theorem ptpFrame_fuses (sub dom tr : Nat) (m : PtpMsg) : (ptpFrame sub dom tr m s).fuses = s.fuses := by simp [ptpFrame]

@[simp] theorem execPtpDomainLost_keepsFuses (d : Fin 2) : KeepsFuses s (execPtpDomainLost d s) := by
  simp only [execPtpDomainLost]
  split <;> simp

@[simp] theorem timeManual_fuses : (timeManual s).fuses = s.fuses := by simp [timeManual]
@[simp] theorem timePtp_fuses : (timePtp s).fuses = s.fuses := by simp [timePtp]

@[simp] theorem timeSet_fuses (v : W64) : (timeSet v s).fuses = s.fuses := by simp [timeSet]

@[simp] theorem timeRate_fuses (v : W32) : (timeRate v s).fuses = s.fuses := by simp [timeRate]

/-! ### Ethernet -/

@[simp] theorem evtSub_fuses (sub : Nat) (up : Bool) : (evtSub sub up s).fuses = s.fuses := by simp [evtSub]
@[simp] theorem setLink_fuses (sub : Nat) (up : Bool) : (setLink sub up s).fuses = s.fuses := by simp [setLink]
@[simp] theorem dropLinks_fuses (p : Nat) (all : Bool) : (dropLinks p all s).fuses = s.fuses := by simp [dropLinks]
@[simp] theorem writeEthMode_fuses (p v : Nat) : (writeEthMode p v s).fuses = s.fuses := by simp [writeEthMode]

@[simp] theorem rtcpItem_fuses (sid : Nat) (it : RtcpItem) : (rtcpItem sid it s).fuses = s.fuses := by
  simp only [rtcpItem]
  (repeat' split) <;> simp

@[simp] theorem sessionRtcp_fuses (sid src sport : Nat) (k : RtcpIn) : (sessionRtcp sid src sport k s).fuses = s.fuses := by
  simp only [sessionRtcp]
  (repeat' split) <;> simp

@[simp] theorem exception_fuses (sub reason : Nat) (f : RxFrame) : (exception sub reason f s).fuses = s.fuses := by
  simp [exception]

@[simp] theorem execReceiveFrame_keepsFuses (sub : Fin 8) (f : RxFrame) : KeepsFuses s (execReceiveFrame sub f s) := by
  unfold execReceiveFrame
  (repeat' split) <;> simp

@[simp] theorem writeHtqTail_fuses (v : Nat) : (writeHtqTail v s).fuses = s.fuses := by simp [writeHtqTail]

/-! ### Mailboxes -/

@[simp] theorem mbxMod_fuses (c : Nat) (f : Mbx → Mbx) : (mbxMod c f s).fuses = s.fuses := (rfl)
@[simp] theorem mbxEvt_fuses (c bit : Nat) (irq : Bool) : (mbxEvt c bit irq s).fuses = s.fuses := by simp [mbxEvt]
@[simp] theorem inSpace_fuses (c before : Nat) : (inSpace c before s).fuses = s.fuses := by simp [inSpace]
@[simp] theorem mbxCount_fuses (c words msgs : Nat) : (mbxCount c words msgs s).fuses = s.fuses := by simp [mbxCount]

@[simp] theorem outHead_fuses (n c : Nat) (can : Bool) : (outHead n c can s).fuses = s.fuses := by
  induction n generalizing s with
  | zero => rfl
  | succ n ih =>
    unfold outHead
    (repeat' split) <;> simp [ih]

@[simp] theorem mbxInWord_fuses (c : Fin 8) (id : W16) (auth : Bool) (word : W32) :
    (mbxInWord c id auth word s).fuses = s.fuses := by simp [mbxInWord]

@[simp] theorem mbxOutPop_fuses (c : Nat) : (mbxOutPop c s).fuses = s.fuses := by
  simp only [mbxOutPop]
  split <;> simp

@[simp] theorem mbxHostReset_fuses (c : Nat) : (mbxHostReset c s).fuses = s.fuses := by simp [mbxHostReset]
@[simp] theorem mbxServeReset_fuses (c : Nat) : (mbxServeReset c s).fuses = s.fuses := by simp [mbxServeReset]

@[simp] theorem execMbxBridgePlace_keepsFuses (c : Fin 8) : KeepsFuses s (execMbxBridgePlace c s) := by
  simp only [execMbxBridgePlace]
  split <;> simp

@[simp] theorem execMbxEndpointTimeout_keepsFuses (c : Fin 8) : KeepsFuses s (execMbxEndpointTimeout c s) := by
  simp only [execMbxEndpointTimeout]
  split <;> simp

@[simp] theorem execSidebandReset_keepsFuses (i3c : Bool) : KeepsFuses s (execSidebandReset i3c s) := by
  refine keepsFuses_next.mpr (forAll_fuses s _ (fun c u => ?_))
  split <;> simp

/-! ### Memory controllers -/

@[simp] theorem refIssue_fuses (n c : Nat) : (refIssue n c s).fuses = s.fuses := by simp [refIssue]

@[simp] theorem refIssues_fuses (n c k : Nat) : (refIssues n c k s).fuses = s.fuses := by
  induction k generalizing s with
  | zero => rfl
  | succ k ih => simp [refIssues, ih]

@[simp] theorem eccNote_fuses (n ue addr : Nat) : (eccNote n ue addr s).fuses = s.fuses := by simp [eccNote]
@[simp] theorem trnStart_fuses (mc op : Nat) (cmd : W32) : (trnStart mc op cmd s).fuses = s.fuses := by simp [trnStart]
@[simp] theorem trnPattern_fuses (mc : Nat) : (trnPattern mc s).fuses = s.fuses := by simp [trnPattern]

/-! ### Gears, voltage and heat -/

@[simp] theorem overCheck_fuses (p : Nat) : (overCheck p s).fuses = s.fuses := by simp [overCheck]
@[simp] theorem gearSet_fuses (p g : Nat) : (gearSet p g s).fuses = s.fuses := by simp [gearSet]
@[simp] theorem derail_fuses (p : Nat) : (derail p s).fuses = s.fuses := by simp [derail]

@[simp] theorem execGearUp_keepsFuses (p : Fin 8) : KeepsFuses s (execGearUp p s) := by
  simp only [execGearUp]
  split <;> simp

@[simp] theorem capStep_fuses (p : Nat) : (capStep p s).fuses = s.fuses := by simp [capStep]

@[simp] theorem execDroopEnd_keepsFuses (p : Fin 8) : KeepsFuses s (execDroopEnd p s) := by
  unfold execDroopEnd
  split <;> simp

@[simp] theorem commitWrite_fuses (p code : Nat) : (commitWrite p code s).fuses = s.fuses := by simp [commitWrite]

/-! ### The settings store -/

@[simp] theorem nvsResult_fuses (code : Nat) (cmd : Bool) : (nvsResult code cmd s).fuses = s.fuses := by simp [nvsResult]

@[simp] theorem nvsStart_fuses (live clear cmd : Bool) (slot : Option Nat) :
    (nvsStart live clear cmd slot s).fuses = s.fuses := by simp [nvsStart]

@[simp] theorem nvsAbandon_fuses : (nvsAbandon s).fuses = s.fuses := by simp [nvsAbandon]
@[simp] theorem nvsArm_fuses (req : Req) (op : Fin 4) : (nvsArm req op s).fuses = s.fuses := by simp [nvsArm]

@[simp] theorem nvsSecond_fuses (op : Nat) (live clear : Bool) (req : Req) : (nvsSecond op live clear req s).fuses = s.fuses := by
  unfold nvsSecond
  (repeat' split) <;> simp

@[simp] theorem execNvsCmdTimeout_keepsFuses : KeepsFuses s (execNvsCmdTimeout s) := by
  unfold execNvsCmdTimeout
  split <;> simp

@[simp] theorem execNvsWriteDone_keepsFuses (readBack : Bool) : KeepsFuses s (execNvsWriteDone readBack s) := by
  unfold execNvsWriteDone
  (repeat' split) <;> simp

/-! ### Links and function resets -/

@[simp] theorem ideLeave_fuses (p : Nat) : (ideLeave p s).fuses = s.fuses := by simp [ideLeave]
@[simp] theorem evtPort_fuses (p : Nat) : (evtPort p s).fuses = s.fuses := by simp [evtPort]
@[simp] theorem svcSyncAll_fuses : (svcSyncAll s).fuses = s.fuses := by simp [svcSyncAll]

@[simp] theorem linkGo_fuses (p : Nat) (st : LinkSt) (gen width : Nat) (flit : Bool) :
    (linkGo p st gen width flit s).fuses = s.fuses := by simp [linkGo]

@[simp] theorem forgetSlots_fuses (gone : Nat → Bool) : (forgetSlots gone s).fuses = s.fuses := (rfl)
@[simp] theorem closeSilent_fuses (sid : Nat) : (closeSilent sid s).fuses = s.fuses := by simp [closeSilent]
@[simp] theorem resetFunction_fuses (fn : Nat) : (resetFunction fn s).fuses = s.fuses := by simp [resetFunction]
@[simp] theorem resetConfig_fuses (fn : Nat) : (resetConfig fn s).fuses = s.fuses := by simp [resetConfig]
@[simp] theorem pfFlr_fuses : (pfFlr s).fuses = s.fuses := by simp [pfFlr]
@[simp] theorem aqDisable_fuses (fn : Fin 64) : (aqDisable fn s).fuses = s.fuses := by simp [aqDisable]

/-! ### Keys and enrolment -/

@[simp] theorem secCnt_fuses (i : Nat) : (secCnt i s).fuses = s.fuses := (rfl)
@[simp] theorem authFail_fuses (slot : Nat) : (authFail slot s).fuses = s.fuses := by simp [authFail]
@[simp] theorem draw_fuses : (draw s).2.fuses = s.fuses := (rfl)

@[simp] theorem writeResult_fuses (fn addr len : Nat) (t : Tab Nat) (chain : Bool) :
    (writeResult fn addr len t chain s).fuses = s.fuses := by simp [writeResult]

@[simp] theorem opCmd_fuses (slot opc op top : Nat) (ok : Slot → State → Bool) {body : Slot → State → State}
    (hbody : ∀ c u, (body c u).fuses = u.fuses) : (opCmd slot opc op top ok body s).fuses = s.fuses := by
  unfold opCmd
  split
  · rfl
  split
  · exact runCmd_fuses s _ _ _ hbody
  · rfl

@[simp] theorem installKeys_fuses (sid suite send recv : Nat) : (installKeys sid suite send recv s).fuses = s.fuses := by
  simp [installKeys]

@[simp] theorem execKeyAgreeAgree_keepsFuses (slot : Nat) (m1 : Option KeyMsg) (ok : Bool) :
    KeepsFuses s (execKeyAgreeAgree slot m1 ok s) := by
  unfold execKeyAgreeAgree
  split <;> simp

@[simp] theorem execKeyAgreeSet_keepsFuses (slot : Nat) (k : Option KeySet) : KeepsFuses s (execKeyAgreeSet slot k s) := by
  unfold execKeyAgreeSet
  split <;> simp

@[simp] theorem enrolCmd_fuses (slot op : Nat) (writes : Bool) {body : Slot → State → State}
    (hbody : ∀ c u, (body c u).fuses = u.fuses) :
    (enrolCmd slot op writes body s).fuses = s.fuses := by
  unfold enrolCmd
  split
  · rfl
  · refine opCmd_fuses s _ _ _ _ _ (fun c u => ?_)
    split
    · exact finish_fuses u _ _
    · exact hbody c u

@[simp] theorem enrolAs_fuses (cl gen cdid key wrk : Nat) : (enrolAs cl gen cdid key wrk s).fuses = s.fuses := by simp [enrolAs]

@[simp] theorem execClusterEnrolCreate_keepsFuses (slot : Nat) (t : Option Ticket) :
    KeepsFuses s (execClusterEnrolCreate slot t s) := by
  unfold execClusterEnrolCreate
  (repeat' split) <;> simp

@[simp] theorem execClusterEnrolOffer_keepsFuses (slot : Nat) (req : Option (EnrolReq × Ticket)) (ok : Bool) :
    KeepsFuses s (execClusterEnrolOffer slot req ok s) := by
  refine keepsFuses_next.mpr (opCmd_fuses s _ _ _ _ _ (fun c u => ?_))
  dsimp only
  (repeat' split) <;> simp

@[simp] theorem execClusterEnrolAccept_keepsFuses (slot : Nat) (req : Option (Grant × Ticket)) :
    KeepsFuses s (execClusterEnrolAccept slot req s) := by
  unfold execClusterEnrolAccept
  (repeat' split) <;> simp

@[simp] theorem enrolErase_fuses : (enrolErase s).fuses = s.fuses := by simp [enrolErase]
@[simp] theorem unlockWipe_fuses : (unlockWipe s).fuses = s.fuses := by simp [unlockWipe]

@[simp] theorem execDebugUnlockResponse_keepsFuses (slot : Nat) (resp : Option (Bool × Nat)) :
    KeepsFuses s (execDebugUnlockResponse slot resp s) := by
  refine keepsFuses_next.mpr (opCmd_fuses s _ _ _ _ _ (fun c u => ?_))
  dsimp only
  (repeat' split) <;> simp

/-! ### Requests of SEC -/

@[simp] theorem execMbxInRead_keepsFuses (c : Fin 8) : KeepsFuses s (execMbxInRead c s) := by
  simp only [execMbxInRead]
  split <;> simp

@[simp] theorem secReq_fuses (c : Fin 4) (nvs : Bool) {body : State → State} (hbody : ∀ u, (body u).fuses = u.fuses) :
    (secReq c nvs body s).fuses = s.fuses := by
  unfold secReq
  split
  · rfl
  · exact hbody _

@[simp] theorem burn_fuses {f : Sec → Sec} (hf : ∀ k, (f k).lcBurnt = k.lcBurnt) (ok : Bool) :
    (burn ok f s).fuses = s.fuses := by
  simp [burn, hf]

@[simp] theorem flashPut_fuses (area : Nat) (m : Img) : (flashPut area m s).fuses = s.fuses := (rfl)
@[simp] theorem patchPut_fuses (i : Nat) (m : Img) : (patchPut i m s).fuses = s.fuses := (rfl)

@[simp] theorem execFwStage_keepsFuses (c : Fin 4) (m : Img) : KeepsFuses s (execFwStage c m s) := by
  refine keepsFuses_next.mpr (secReq_fuses s _ _ (fun u => ?_))
  dsimp only
  (repeat' split) <;> simp

/-! ### Microcode -/

@[simp] theorem ctxMod_fuses (i k : Nat) (f : Ctx → Ctx) : (ctxMod i k f s).fuses = s.fuses := (rfl)
@[simp] theorem ctxStall_fuses (kind i k : Nat) : (ctxStall kind i k s).fuses = s.fuses := by simp [ctxStall]
@[simp] theorem rowSwitch_fuses (i : Nat) : (rowSwitch i s).fuses = s.fuses := by simp [rowSwitch]
@[simp] theorem takeReq_fuses (i k p : Nat) : (takeReq i k p s).fuses = s.fuses := by simp [takeReq]
@[simp] theorem fenceSettle_fuses (i sid : Nat) : (fenceSettle i sid s).fuses = s.fuses := by simp [fenceSettle]

@[simp] theorem fenceActs_fuses (i k : Nat) : (fenceActs i k s).fuses = s.fuses := by
  unfold fenceActs
  split <;> simp

@[simp] theorem scrubStart_fuses (i : Nat) : (scrubStart i s).fuses = s.fuses := by simp [scrubStart]
@[simp] theorem handlerActs_fuses (i k p : Nat) : (handlerActs i k p s).fuses = s.fuses := by simp [handlerActs]

@[simp] theorem foldCtx_fuses (i k u : Nat) (st : List Nat) (notes : Nat) : (foldCtx i k u st notes s).fuses = s.fuses := by
  simp only [foldCtx]
  split <;> simp

@[simp] theorem resumeCtx_fuses (i k : Nat) : (resumeCtx i k s).fuses = s.fuses := by
  unfold resumeCtx
  split <;> simp

@[simp] theorem commitPoint_fuses (i k : Nat) (u : Nat) (st : List Nat) (notes : Nat) (fresh : List Nat) :
    (commitPoint i k u st notes fresh s).fuses = s.fuses := by
  simp only [commitPoint]
  split <;> simp

@[simp] theorem execNanowordComplete_keepsFuses (core : Fin 64) (k : Fin 8) (flag : Bool) (key : Fin 16) (sram ops : Nat)
    (fresh : List Nat) (kind3 : Bool) : KeepsFuses s (execNanowordComplete core k flag key sram ops fresh kind3 s) := by
  simp only [execNanowordComplete]
  (repeat' split) <;> simp

@[simp] theorem svnCommit_fuses (m : Img) : (svnCommit m s).fuses = s.fuses := by simp [svnCommit]

@[simp] theorem mcodeFinish_fuses : (mcodeFinish s).fuses = s.fuses := by
  simp only [mcodeFinish]
  (repeat' split) <;> simp

@[simp] theorem mcodeSettle_fuses : (mcodeSettle s).fuses = s.fuses := by
  unfold mcodeSettle
  split
  · rfl
  dsimp only
  split
  · simp
  refine forAll_fuses _ _ (fun p u => ?_)
  split <;> simp

@[simp] theorem execMcodeLoad_keepsFuses (slot : Nat) (img : Option Img) : KeepsFuses s (execMcodeLoad slot img s) := by
  unfold execMcodeLoad
  split <;> simp

@[simp] theorem execPatchActivation_keepsFuses (core : Fin 64) : KeepsFuses s (execPatchActivation core s) := by
  unfold execPatchActivation
  split <;> simp

@[simp] theorem reloadCore_fuses (i : Nat) : (reloadCore i s).fuses = s.fuses := by simp [reloadCore]
@[simp] theorem scrubAsk_fuses (i : Nat) : (scrubAsk i s).fuses = s.fuses := by simp [scrubAsk]

/-! ### Stranded sessions and sealed polders -/

@[simp] theorem evtStranded_fuses (sid pol : Nat) : (evtStranded sid pol s).fuses = s.fuses := by simp [evtStranded]

@[simp] theorem autoPlace_fuses (sid pol : Nat) : (autoPlace sid pol s).fuses = s.fuses := by
  simp only [autoPlace]
  (repeat' split) <;> simp

@[simp] theorem strand_fuses (sid pol : Nat) : (strand sid pol s).fuses = s.fuses := by simp [strand]
@[simp] theorem strandAll_fuses (pol : Nat) (p : Session → Bool) : (strandAll pol p s).fuses = s.fuses := by simp [strandAll]
@[simp] theorem sealCore_fuses (c : Nat) : (sealCore c s).fuses = s.fuses := by simp [sealCore]
@[simp] theorem sealPel_fuses (p : Nat) : (sealPel p s).fuses = s.fuses := by simp [sealPel]
@[simp] theorem sealMcSession_fuses (n sid : Nat) : (sealMcSession n sid s).fuses = s.fuses := by simp [sealMcSession]
@[simp] theorem sealMc_fuses (n : Nat) : (sealMc n s).fuses = s.fuses := by simp [sealMc]
@[simp] theorem sealEth_fuses (i : Nat) : (sealEth i s).fuses = s.fuses := by simp [sealEth]
@[simp] theorem sealBpm_fuses : (sealBpm s).fuses = s.fuses := by simp [sealBpm]

@[simp] theorem sealMgmt_fuses : (sealMgmt s).fuses = s.fuses := by
  unfold sealMgmt
  extract_lets +onlyGivenNames one
  have hone (sid : Nat) (u : State) : (one sid u).fuses = u.fuses := by
    simp only [one, sessMod_fuses]
    split <;> simp
  clear_value one
  simp [hone]

@[simp] theorem sealEffect_fuses (i : Nat) : (sealEffect i s).fuses = s.fuses := by simp [sealEffect]

/-! ### Faults and re-admission -/

@[simp] theorem setClass_fuses (src v : Nat) : (setClass src v s).fuses = s.fuses := by simp [setClass]

@[simp] theorem captureAt_fuses (a : Nat) (detail : Bool) (r : Report) : (captureAt a detail r s).fuses = s.fuses := by
  simp [captureAt]

@[simp] theorem fltCapture_fuses (r : Report) : (fltCapture r s).fuses = s.fuses := by simp [fltCapture]
@[simp] theorem coreStalled_fuses (i : Nat) : (coreStalled i s).fuses = s.fuses := by simp [coreStalled]

@[simp] theorem detect_fuses (r : Report) : (detect r s).fuses = s.fuses := by
  simp only [detect]
  split <;> simp

@[simp] theorem reportCe_fuses (src : Nat) : (reportCe src s).fuses = s.fuses := by simp [reportCe]
@[simp] theorem fatalWipe_fuses (src : Nat) : (fatalWipe src s).fuses = s.fuses := by simp [fatalWipe]

@[simp] theorem fatalGo_fuses (src : Nat) : (fatalGo src s).fuses = s.fuses := by
  simp only [fatalGo]
  split <;> simp

@[simp] theorem admitFail_fuses (pol step : Nat) : (admitFail pol step s).fuses = s.fuses := by
  simp only [admitFail]
  split <;> simp

@[simp] theorem raiseShut_fuses (r : Report) : (raiseShut r s).fuses = s.fuses := by
  simp only [raiseShut]
  (repeat' split) <;> simp

@[simp] theorem sealPolder_fuses (pol src : Nat) : (sealPolder pol src s).fuses = s.fuses := by simp [sealPolder]
@[simp] theorem fltRaise_fuses (was : Nat → Bool) (r : Report) : (fltRaise was r s).fuses = s.fuses := by simp [fltRaise]
@[simp] theorem fltCycle_fuses (l : List Report) : (fltCycle l s).fuses = s.fuses := by simp [fltCycle]

@[simp] theorem execFaultRaise_keepsFuses (reps : List Report) : KeepsFuses s (execFaultRaise reps s) := by
  unfold execFaultRaise
  (repeat' split) <;> simp

@[simp] theorem clearPending_fuses (i : Nat) : (clearPending i s).fuses = s.fuses := (rfl)
@[simp] theorem resetPage_fuses (p : Page) : (resetPage p s).fuses = s.fuses := by simp [resetPage]
@[simp] theorem resetPages_fuses (pol : Nat) : (resetPages pol s).fuses = s.fuses := by simp [resetPages]

@[simp] theorem testPass_fuses (pol : Nat) (slow : Bool) (seam : List (Fin 4)) : (testPass pol slow seam s).fuses = s.fuses := by
  simp [testPass]

@[simp] theorem execSelfTestDone_keepsFuses (pol : Fin 95) (fail : Option (Fin 3)) (slow : Bool) (seam : List (Fin 4)) :
    KeepsFuses s (execSelfTestDone pol fail slow seam s) := by
  unfold execSelfTestDone
  split <;> simp

@[simp] theorem reopen_fuses (i : Nat) : (reopen i s).fuses = s.fuses := by simp [reopen]

@[simp] theorem execQuiescentBoundary_keepsFuses (pol : Fin 95) : KeepsFuses s (execQuiescentBoundary pol s) := by
  simp only [execQuiescentBoundary]
  (repeat' split) <;> simp

@[simp] theorem injWrite_fuses (p : Page) (v : Nat) : (injWrite p v s).fuses = s.fuses := by simp [injWrite]

@[simp] theorem execInjectionArm_keepsFuses (page : Nat) (v : W32) : KeepsFuses s (execInjectionArm page v s) := by
  unfold execInjectionArm
  split <;> simp

@[simp] theorem execInjectionDisarm_keepsFuses (page : Nat) (v : W32) : KeepsFuses s (execInjectionDisarm page v s) := by
  unfold execInjectionDisarm
  split <;> simp

@[simp] theorem execInjectionFire_keepsFuses (page : Nat) : KeepsFuses s (execInjectionFire page s) := by
  unfold execInjectionFire
  split <;> simp

@[simp] theorem execPageLock_keepsFuses (page : Nat) : KeepsFuses s (execPageLock page s) := by
  unfold execPageLock
  split <;> simp

/-! ### Power, reset and start-up -/

@[simp] theorem clearChip_fuses : (clearChip s).fuses = s.fuses := (rfl)
/-- A part that is known takes nothing. -/
theorem adopt_of_known {s : State} (hk : s.board.known = true) (p : Part) : adopt p s = s := if_pos hk

@[simp] theorem clearHeld_fuses : (clearHeld s).fuses = s.fuses := by simp [clearHeld]

@[simp] theorem warmWrite_fuses (req : Req) (v : Nat) : (warmWrite req v s).fuses = s.fuses := by
  unfold warmWrite
  (repeat' split) <;> simp

@[simp] theorem bootStop_fuses (step cause : Nat) : (bootStop step cause s).fuses = s.fuses := by simp [bootStop]

@[simp] theorem loadImage_fuses (ty idx : Nat) (l : List Nat) : (loadImage ty idx l s).2.fuses = s.fuses := by
  induction l generalizing s with
  | nil => rfl
  | cons a l ih =>
    unfold loadImage
    dsimp only
    split
    · simp
    · simp [ih]

@[simp] theorem bootSec_fuses : (bootSec s).fuses = s.fuses := by simp [bootSec]
@[simp] theorem bootSettings_fuses : (bootSettings s).fuses = s.fuses := by simp [bootSettings]

@[simp] theorem loadPatches_fuses (l : List Img) : (loadPatches l s).fuses = s.fuses := by
  induction l generalizing s with
  | nil => rfl
  | cons m l ih =>
    unfold loadPatches
    (repeat' split) <;> simp [ih]

@[simp] theorem bootMcode_fuses : (bootMcode s).fuses = s.fuses := by simp [bootMcode]
@[simp] theorem trainMc_fuses (n : Nat) (r : TrainRes) : (trainMc n r s).fuses = s.fuses := by simp [trainMc]
@[simp] theorem bootPolders_fuses : (bootPolders s).fuses = s.fuses := by simp [bootPolders]
@[simp] theorem bootBpm_fuses : (bootBpm s).fuses = s.fuses := by simp [bootBpm]
@[simp] theorem bootTandem_fuses (fails : List (Fin 32)) : (bootTandem fails s).fuses = s.fuses := by simp [bootTandem]

@[simp] theorem bootReady_fuses (fails : List (Fin 32)) : (bootReady fails s).fuses = s.fuses := by simp [bootReady]

@[simp] theorem startUp_fuses (train : List TrainRes) (fails : List (Fin 32)) : (startUp train fails s).fuses = s.fuses := by
  unfold startUp
  dsimp only
  split
  · simp
  split
  next h => simp [fuses_of_eq h (loadImage_fuses _ _ _ _)]
  next h =>
    split
    next h' => simp [fuses_of_eq h' (loadImage_fuses _ _ _ _), fuses_of_eq h (loadImage_fuses _ _ _ _)]
    next h' => simp [fuses_of_eq h' (loadImage_fuses _ _ _ _), fuses_of_eq h (loadImage_fuses _ _ _ _)]

@[simp] theorem execJtagInstruction_keepsFuses (op : JtagOp) (pins : BitVec 66) :
    KeepsFuses s (execJtagInstruction op pins s) := by
  simp only [execJtagInstruction]
  (repeat' split) <;> simp

/-! ### Buffer requests -/

@[simp] theorem bpmAnswer_fuses (port : Nat) (r : AllocRes) : (bpmAnswer port r s).fuses = s.fuses := by
  unfold bpmAnswer
  split <;> simp

@[simp] theorem execAllocRetry_keepsFuses (rid : Nat) : KeepsFuses s (execAllocRetry rid s) := by
  simp only [execAllocRetry]
  (repeat' split) <;> simp

/-! ### Device DRAM -/

@[simp] theorem lineRead_fuses (n : Nat) (r : DReq) : (lineRead n r s).fuses = s.fuses := by simp [lineRead]
@[simp] theorem dramServe_fuses (r : DReq) : (dramServe r s).fuses = s.fuses := by simp [dramServe]

@[simp] theorem serveAll_fuses (n : Nat) (l : List DReq) : (serveAll n l s).fuses = s.fuses := by
  induction n generalizing l s with
  | zero => rfl
  | succ n ih =>
    unfold serveAll
    split
    · rfl
    · simp [ih]

@[simp] theorem dramWait_fuses (r : DReq) : (dramWait r s).fuses = s.fuses := by simp [dramWait]

@[simp] theorem execDramRequest_keepsFuses (port : Fin 15) (write : Bool) (addr : Fin (2 ^ 39)) (len : Nat) (data : List Byte)
    (cls : Fin 3) (ecc : Fin 3) : KeepsFuses s (execDramRequest port write addr len data cls ecc s) := by
  simp only [execDramRequest]
  (repeat' split) <;> simp

/-! ### Register accesses -/

@[simp] theorem accSize_fuses : (accSize s).fuses = s.fuses := by simp [accSize]
@[simp] theorem accUnmapped_fuses (req : Req) : (accUnmapped req s).fuses = s.fuses := by simp [accUnmapped]
@[simp] theorem halfMod_fuses (req : Req) (f : Half → Half) : (halfMod req f s).fuses = s.fuses := (rfl)

@[simp] theorem clearRc_fuses (p : Page) (r : Reg) (k : Nat) : (clearRc p r k s).fuses = s.fuses := by
  unfold clearRc
  split
  · rfl
  split
  · rfl
  · exact forAll_fuses s (r.flds.filter (fun f => f.acc == .rc)) (fun f u => rfset_fuses u (regAddr p r k) f.lo f.n 0)

@[simp] theorem readEffect_fuses (req : Req) (p : Page) (r : Reg) (k : Nat) : (readEffect req p r k s).fuses = s.fuses := by
  simp [readEffect]

@[simp] theorem read32_fuses (req : Req) (p : Page) (off : Nat) : (read32 req p off s).2.fuses = s.fuses := by
  unfold read32
  (repeat' split) <;> simp

@[simp] theorem read64_fuses (req : Req) (p : Page) (off : Nat) : (read64 req p off s).2.fuses = s.fuses := by
  simp only [read64]
  (repeat' split) <;> simp

@[simp] theorem regRead_fuses (req : Req) (a len : Nat) : (regRead req a len s).2.fuses = s.fuses := by
  simp only [regRead]
  (repeat' split) <;> simp

@[simp] theorem execRegisterRead_keepsFuses (req : Req) (bar2 : Bool) (addr len : Nat) :
    KeepsFuses s (execRegisterRead req bar2 addr len s) := by
  simp only [execRegisterRead]
  (repeat' split) <;> simp

@[simp] theorem plainWrite_fuses (p : Page) (r : Reg) (k v mask : Nat) : (plainWrite p r k v mask s).fuses = s.fuses := by
  simp [plainWrite]

@[simp] theorem pelCtrlWrite_fuses (p v : Nat) : (pelCtrlWrite p v s).fuses = s.fuses := by simp [pelCtrlWrite]
@[simp] theorem nvsCmdWrite_fuses (req : Req) (v : Nat) : (nvsCmdWrite req v s).fuses = s.fuses := by simp [nvsCmdWrite]
@[simp] theorem micPendWrite_fuses (i v : Nat) : (micPendWrite i v s).fuses = s.fuses := by simp [micPendWrite]

@[simp] theorem micWrite_fuses (req : Req) (p : Page) (r : Reg) (k v : Nat) : (micWrite req p r k v s).fuses = s.fuses := by
  unfold micWrite
  (repeat' split) <;> simp

@[simp] theorem dmaWrite_fuses (req : Req) (p : Page) (r : Reg) (k v mask : Nat) :
    (dmaWrite req p r k v mask s).fuses = s.fuses := by
  unfold dmaWrite
  split <;> simp

@[simp] theorem hqWrite_fuses (p : Page) (r : Reg) (k v mask : Nat) : (hqWrite p r k v mask s).fuses = s.fuses := by
  unfold hqWrite
  split <;> simp

@[simp] theorem pktRingWrite_fuses (p : Page) (r : Reg) (v mask : Nat) : (pktRingWrite p r v mask s).fuses = s.fuses := by
  simp [pktRingWrite]

@[simp] theorem pktWrite_fuses (p : Page) (r : Reg) (k v mask : Nat) : (pktWrite p r k v mask s).fuses = s.fuses := by
  unfold pktWrite
  split <;> simp

@[simp] theorem timeCtrlWrite_fuses (p : Page) (r : Reg) (v : Nat) : (timeCtrlWrite p r v s).fuses = s.fuses := by
  simp [timeCtrlWrite]

@[simp] theorem timeDomWrite_fuses (p : Page) (r : Reg) (k v mask : Nat) : (timeDomWrite p r k v mask s).fuses = s.fuses := by
  simp [timeDomWrite]

@[simp] theorem timeWrite_fuses (p : Page) (r : Reg) (k v mask : Nat) : (timeWrite p r k v mask s).fuses = s.fuses := by
  unfold timeWrite
  split <;> simp

@[simp] theorem mcWrite_fuses (p : Page) (r : Reg) (k v mask : Nat) : (mcWrite p r k v mask s).fuses = s.fuses := by
  unfold mcWrite
  split <;> simp

@[simp] theorem blockWrite_fuses (req : Req) (rid : W16) (auth : Bool) (p : Page) (r : Reg) (k v mask : Nat) :
    (blockWrite req rid auth p r k v mask s).fuses = s.fuses := by
  unfold blockWrite
  split <;> simp

@[simp] theorem regWrite_fuses (req : Req) (rid : W16) (auth : Bool) (p : Page) (r : Reg) (k v mask : Nat) :
    (regWrite req rid auth p r k v mask s).fuses = s.fuses := by simp [regWrite]

@[simp] theorem dropHeld_fuses (req : Req) : (dropHeld req s).fuses = s.fuses := by simp [dropHeld]

@[simp] theorem write32_fuses (req : Req) (rid : W16) (auth : Bool) (p : Page) (off v : Nat) :
    (write32 req rid auth p off v s).fuses = s.fuses := by
  unfold write32
  (repeat' split) <;> simp

@[simp] theorem write64_fuses (req : Req) (rid : W16) (auth : Bool) (p : Page) (off v : Nat) :
    (write64 req rid auth p off v s).fuses = s.fuses := by
  unfold write64
  split <;> simp

@[simp] theorem doorWrite_fuses (fn off len : Nat) (v : W64) : (doorWrite fn off len v s).fuses = s.fuses := by simp [doorWrite]

@[simp] theorem execRegisterWrite_keepsFuses (req : Req) (rid : W16) (auth : Bool) (addr len : Nat) (value : W64) :
    KeepsFuses s (execRegisterWrite req rid auth addr len value s) := by
  unfold execRegisterWrite
  (repeat' split) <;> simp

/-! ### SPDM -/

@[simp] theorem doe_fuses (p code : Nat) (l : List Nat) : (doe p code l s).fuses = s.fuses := by simp [doe]
@[simp] theorem doeErr_fuses (p code : Nat) : (doeErr p code s).fuses = s.fuses := by simp [doeErr]

@[simp] theorem doeAt_fuses (p n : Nat) {body : State → State} (hbody : ∀ u, (body u).fuses = u.fuses) :
    (doeAt p n body s).fuses = s.fuses := by
  unfold doeAt
  (repeat' split) <;> simp [hbody]

@[simp] theorem doeIn_fuses (p id : Nat) {body : SpdmSession → State → State} (hbody : ∀ x u, (body x u).fuses = u.fuses) :
    (doeIn p id body s).fuses = s.fuses := by
  unfold doeIn
  (repeat' split) <;> simp [hbody]

@[simp] theorem execFinish_keepsFuses (p : Fin 3) (id : Nat) (ok : Bool) (peer : Option Peer) :
    KeepsFuses s (execFinish p id ok peer s) := by
  refine keepsFuses_next.mpr (doeAt_fuses s _ _ (fun u => ?_))
  dsimp only
  (repeat' split) <;> simp

@[simp] theorem ideMod_fuses (p i : Nat) (f : IdeStream → IdeStream) : (ideMod p i f s).fuses = s.fuses := (rfl)

/-! ### Time -/

@[simp] theorem micHeader_fuses (n : Nat) (on : Bool) : (micHeader n on s).fuses = s.fuses := by simp [micHeader]
@[simp] theorem micSample_fuses : (micSample s).fuses = s.fuses := by simp [micSample]
@[simp] theorem tick_fuses : (tick s).fuses = s.fuses := by simp [tick]

end

/-! ### Burnt groups -/

section
variable {s t u : State}

/-- The facts of the board are the same, and every lifecycle group burnt in `s` is burnt in `t`. -/
def Onward (s t : State) : Prop := t.board = s.board ∧ ∀ k, bitAt s.sec.lcBurnt k = true → bitAt t.sec.lcBurnt k = true

theorem onward_of_fuses (h : t.fuses = s.fuses) : Onward s t := by
  obtain ⟨hboard, hburnt⟩ := Prod.mk.inj h
  exact ⟨hboard, fun k hk => by rwa [hburnt]⟩

theorem Onward.trans (hst : Onward s t) (htu : Onward t u) : Onward s u := ⟨htu.1.trans hst.1, fun k hk => htu.2 k (hst.2 k hk)⟩

/-- Burning one bit keeps every burnt bit. -/
theorem bitAt_setBits_one {x k : Nat} (i : Nat) (h : bitAt x k = true) : bitAt (setBits x i 1 1) k = true := by
  rw [bitAt_eq] at h ⊢
  rcases Nat.lt_trichotomy k i with hlt | rfl | hgt
  · rwa [bitsOf_setBits_below _ _ _ _ _ _ hlt]
  · rw [bitsOf_setBits_same]
    rfl
  · rwa [bitsOf_setBits_above _ _ _ _ _ _ hgt]

/-- Burning a lifecycle group goes onward, whether or not its read-back holds. -/
theorem burn_group_onward (ok : Bool) (i : Nat) (s : State) :
    Onward s (burn ok (fun k => { k with lcBurnt := setBits k.lcBurnt i 1 1 }) s) := by
  cases ok with
  | false => exact onward_of_fuses (raise_fuses s _ _)
  | true => exact ⟨rfl, fun k hk => bitAt_setBits_one i hk⟩

theorem secReq_onward {body : State → State} (hbody : ∀ u, Onward u (body u)) (c : Fin 4) (nvs : Bool) (s : State) :
    Onward s (secReq c nvs body s) := by
  unfold secReq
  split
  · exact onward_of_fuses rfl
  · exact hbody _

/-- What the requests that burn a group share: nothing happens, the refusal is counted, or the state `t` is entered. -/
theorem onward_of_checks {p q : Prop} [Decidable p] [Decidable q] (h : Onward s t) :
    Onward s (if p then s else if q then secCnt 2 s else t) := by
  split
  · exact onward_of_fuses rfl
  split
  · exact onward_of_fuses (secCnt_fuses s 2)
  · exact h

/-! ### Every command -/

theorem execLcProvision_onward (c : Fin 4) (sig : Bool) (key serial : Nat) (otp : Bool)
    (h : execLcProvision c sig key serial otp s = .next t) : Onward s t :=
  next_inj h ▸ secReq_onward (fun u => onward_of_checks (burn_group_onward otp 0 u)) c _ s

theorem execLcActivate_onward (c : Fin 4) (sig : Bool) (key : Nat) (otpHash otpGroup : Bool)
    (h : execLcActivate c sig key otpHash otpGroup s = .next t) : Onward s t := by
  refine next_inj h ▸ secReq_onward (fun u => onward_of_checks ?_) c _ s
  have hkey := onward_of_fuses (burn_fuses u (f := fun k => { k with opHash := tput k.opHash 0 key }) (fun _ => rfl) otpHash)
  dsimp only
  split
  · exact hkey.trans (burn_group_onward otpGroup 1 _)
  · exact hkey

theorem execLcReturn_onward (c : Fin 4) (sig : Bool) (key serial : Nat) (otp : Bool)
    (h : execLcReturn c sig key serial otp s = .next t) : Onward s t := by
  refine next_inj h ▸ secReq_onward (fun u => onward_of_checks ?_) c _ s
  exact (onward_of_fuses (by simp)).trans (burn_group_onward otp 2 _)

/-- The rise of power takes nothing from a part that is known. -/
theorem execPowerOn_onward {part : Part} (hk : s.board.known = true) (h : execPowerOn part s = .next t) : Onward s t := by
  refine next_inj h ▸ onward_of_fuses ?_
  rw [adopt_of_known hk]
  simp

/-- Every other command keeps the part; one that branches has its own lemma above. -/
theorem exec_onward {c : Instr} (hk : s.board.known = true) (h : exec c s = .next t) : Onward s t := by
  cases c
  case lcProvision => exact execLcProvision_onward _ _ _ _ _ h
  case lcActivate => exact execLcActivate_onward _ _ _ _ _ h
  case lcReturn => exact execLcReturn_onward _ _ _ _ _ h
  case powerOn => exact execPowerOn_onward hk h
  all_goals
    refine onward_of_fuses ?_
    revert t
    change KeepsFuses s _
    simp [exec, execVfEnable, execCreateQp, execSetVfQuota, execSetVfQueues, execSqTailDoorbell, execCqHeadDoorbell,
      execAdminQueueEnable, execLinkL1Entry, execLinkL1Exit, execMsixUnmask, execFunctionPowerState, execIdentify,
      execMicSourceRaise, execMicTgtClaim, execMicTgtEoi, execMicSwi, execMicSrcCfg, execMicTargetWake, execDmaChEnable,
      execDmaNop, execDmaCopy, execDmaFill, execDmaCompare, execDmaGather, execDmaChDisable, execDmaChResume, execDmaChTail,
      execShadowCommit, execSessionClose, execSessionQuiesce, execSessionResume, execSessionMove, execSessionExport,
      execSessionQuery, execKeyRequest, execRateDemotionEnd, execFrameRelease, execTandemJoin, execTandemSplit,
      execIngestWrite, execSrcDb, execJobPacketWrite, execAgePromotion, execSeamBoundaryRecord, execSeamSnapshotRecord,
      execSeamEntropyHandover, execSeamModelRecord, execDelayReqSend, execTimeManual, execTimePtp, execTimeSet, execTimeRate,
      execEthLinkUp, execEthLinkDown, execEthModeWrite, execHostTxTail, execHostTxSend, execMbxInData, execMbxOutData,
      execHostReset, execMbxPartialTimeout, execMctpMessage, execMbxOutWrite, execRefreshInterval, execRtTrafficEnd,
      execMr4Poll, execDriftCheck, execSelfRefreshIdle, execSrPrepDone, execSrEntryDone, execSrWake, execMcTrnWritePattern,
      execMcTrnReadCompare, execMcTrnWriteReadCompare, execMcTrnMrWrite, execMcTrnMrRead, execMcTrnZqCal,
      execMcTrnWck2ckSample, execMcTrnDone, execDerailleurEval, execAvsUpdate, execDroopOnset, execCapRelease,
      execThermalSample, execSupplyExcursion, execCommitGearWrite, execStoreSettings, execNvsCmdArm, execNvsStoreTrainLive,
      execNvsStoreTrainStored, execNvsClear, execPcieLinkChange, execPcieHotReset, execPeerPortFlr, execVfFlr, execPfFlr,
      execAdminQueueDisable, execAttest, execClusterEnrolRequest, execClusterEnrolLeave, execDebugUnlockChallenge,
      execDrbgReseed, execOpkeyRotate, execVendorRevoke, execBindWrite, execCommitWatchdog, execScrub, execScrubPeriod,
      execFaultReportTimer, execPolderAdmit, execHAutoReadmit, execPerstAssert, execWarmReset, execRefclkLoss,
      execRootPllRelock, execPowerRemoval, execStartUp, execAlloc, execRef, execUnref, execReserve, execUnreserve,
      execBpmHoldExpire, execSrExitDone, execGetVersion, execGetCapabilities, execNegotiateAlgorithms, execGetDigests,
      execGetCertificate, execChallenge, execGetMeasurements, execKeyExchange, execKeyUpdate, execHeartbeat, execEndSession,
      execKeyProg, execKSetGo, execIdeIntegrityError]

theorem step_onward (hk : s.board.known = true) (h : step s = .next t) : Onward s t := by
  unfold step at h
  split at h
  · exact onward_of_fuses (next_inj h ▸ tick_fuses s)
  next l _ => exact exec_onward (s := { s with pending := l }) hk h

end

/-- Settles O6: time and every command but the three requests that burn a group keep the part, and burning keeps what is burnt. -/
theorem lifecycleIsOneWay : Obligations.LifecycleIsOneWay := fun _ _ hk h => step_onward hk h

end Sys2Proof.Machine
end

section
/-! The steering of a carrier area and the vote of its decoder (R326 to R328). The pick over a list is the cheapest candidate of
what has been read so far; the level it names changes by one, so the parity of the sum turns and the count of nonzero levels
stays. -/

namespace Sys2Proof.Machine

section
variable {one k : Nat} {l : WmLevel} {ls : List WmLevel}

/-! ### What the area carries -/

/-- The number of nonzero counted levels of an area. -/
def wmCount (ls : List WmLevel) : Nat := (ls.filter (fun l => l.level != 0)).length

/-- The sum of the magnitudes is odd. -/
def wmOdd (ls : List WmLevel) : Bool := decide ((ls.map (fun l => l.level.natAbs)).sum % 2 = 1)

theorem wmVote_eq (h : Nat) (ls : List WmLevel) :
    wmVote h ls = if wmCount ls < 3 then none else some (wmIndex h, wmOdd ls != wmKeyBit h) :=
  rfl

theorem wmSteer_of_stays {target : Bool} (h : wmCount ls < 3 ∨ wmOdd ls = target) : wmSteer one target ls = ls := if_pos h

/-! ### The change of one level -/

/-- The magnitude becomes 2 from 1, and a neighbour otherwise; it never becomes 0. -/
theorem wmNext_cases (hl : l.level ≠ 0) :
    wmNext one l ≠ 0 ∧ (wmNext one l = l.level.natAbs + 1 ∨ wmNext one l + 1 = l.level.natAbs) := by
  unfold wmNext
  dsimp only
  split
  · omega
  · split <;> omega

@[simp] theorem wmWith_natAbs (l : WmLevel) (m : Nat) : (wmWith l m).level.natAbs = m := by
  unfold wmWith
  dsimp only
  split <;> omega

theorem wmWith_sign {m : Nat} (hl : l.level ≠ 0) (hm : m ≠ 0) : (wmWith l m).level.sign = l.level.sign := by
  unfold wmWith
  dsimp only
  rcases lt_or_gt_of_ne hl with h | h
  · rw [if_pos h, Int.sign_eq_neg_one_of_neg h, Int.sign_eq_neg_one_of_neg (by omega)]
  · rw [if_neg (by omega), Int.sign_eq_one_of_pos h, Int.sign_eq_one_of_pos (by omega)]

/-! ### The pick -/

/-- `r` names the cheapest candidate of the list, the earliest of equals; none where every level is 0. -/
def Cheapest (one : Nat) (ls : List WmLevel) : Option (Nat × Int) → Prop
  | none => ∀ l ∈ ls, l.level = 0
  | some (k, c) => ∃ l, ls[k]? = some l ∧ l.level ≠ 0 ∧ c = wmCost one l ∧
      ∀ i m, ls[i]? = some m → m.level ≠ 0 → c ≤ wmCost one m ∧ (c = wmCost one m → k ≤ i)

/-- One more level is a candidate where it is nonzero, and is taken where it is cheaper than what is picked so far. -/
theorem Cheapest.snoc {b : Option (Nat × Int)} (hb : Cheapest one ls b) (l : WmLevel) :
    Cheapest one (ls ++ [l]) (wmPick one [l] ls.length b) := by
  have hat {i : Nat} {m : WmLevel} (h : (ls ++ [l])[i]? = some m) : ls[i]? = some m ∨ (i = ls.length ∧ l = m) := by
    rw [List.getElem?_append] at h
    split at h
    · exact .inl h
    next hi =>
      rw [List.getElem?_singleton] at h
      split at h
      · exact .inr ⟨by omega, Option.some.inj h⟩
      · cases h
  unfold wmPick wmPick
  dsimp only
  split
  next hl =>
    match b with
    | none =>
      intro m hm
      rcases List.mem_append.mp hm with h | h
      · exact hb m h
      · rw [List.mem_singleton.mp h, hl]
    | some (k, c) =>
      obtain ⟨x, hx, hx0, hc, hmin⟩ := hb
      refine ⟨x, List.getElem?_append_left (List.getElem?_eq_some_iff.mp hx).1 ▸ hx, hx0, hc, fun i m hi hm => ?_⟩
      rcases hat hi with h | ⟨-, rfl⟩
      · exact hmin i m h hm
      · exact absurd hl hm
  next hl =>
    match b with
    | none =>
      refine ⟨l, List.getElem?_concat_length, hl, rfl, fun i m hi hm => ?_⟩
      rcases hat hi with h | ⟨rfl, rfl⟩
      · exact absurd (hb m (List.mem_of_getElem? h)) hm
      · exact ⟨le_rfl, fun _ => le_rfl⟩
    | some (k, c) =>
      obtain ⟨x, hx, hx0, hc, hmin⟩ := hb
      have hk : k < ls.length := (List.getElem?_eq_some_iff.mp hx).1
      dsimp only
      split
      next hlt =>
        refine ⟨l, List.getElem?_concat_length, hl, rfl, fun i m hi hm => ?_⟩
        rcases hat hi with h | ⟨rfl, rfl⟩
        · have hle := (hmin i m h hm).1
          omega
        · exact ⟨le_rfl, fun _ => le_rfl⟩
      next hge =>
        refine ⟨x, List.getElem?_append_left hk ▸ hx, hx0, hc, fun i m hi hm => ?_⟩
        rcases hat hi with h | ⟨rfl, rfl⟩
        · exact hmin i m h hm
        · omega

theorem wmPick_cheapest_append (ls : List WmLevel) :
    ∀ {pre : List WmLevel} {b : Option (Nat × Int)}, Cheapest one pre b →
      Cheapest one (pre ++ ls) (wmPick one ls pre.length b) := by
  induction ls with
  | nil => exact fun {pre b} h => by rwa [List.append_nil]
  | cons l ls ih =>
    intro pre b h
    have hrest := ih (h.snoc l)
    rwa [List.append_assoc, List.length_append] at hrest

theorem wmPick_cheapest (one : Nat) (ls : List WmLevel) : Cheapest one ls (wmPick one ls 0 none) :=
  wmPick_cheapest_append ls (pre := []) (b := none) (fun _ h => nomatch h)

/-! ### The steered area -/

theorem mapIdx_at_eq_set {f : WmLevel → WmLevel} (h : ls[k]? = some l) :
    ls.mapIdx (fun i x => if i = k then f x else x) = ls.set k (f l) := by
  refine List.ext_getElem? (fun i => ?_)
  rw [List.getElem?_mapIdx, List.getElem?_set']
  split
  next hik => simp [hik, h]
  next hik => simp [Ne.symm hik]

/-- Where the area must change, the cheapest candidate changes, the earliest of equals. -/
theorem wmSteer_of_changes {target : Bool} (hn : 3 ≤ wmCount ls) (hodd : wmOdd ls ≠ target) :
    ∃ k l, ls[k]? = some l ∧ l.level ≠ 0 ∧ wmSteer one target ls = ls.set k (wmWith l (wmNext one l)) ∧
      ∀ i m, ls[i]? = some m → m.level ≠ 0 → wmCost one l ≤ wmCost one m ∧ (wmCost one l = wmCost one m → k ≤ i) := by
  have hsteer : wmSteer one target ls = match wmPick one ls 0 none with
      | none => ls
      | some (k, _) => ls.mapIdx (fun i l => if i = k then wmWith l (wmNext one l) else l) :=
    if_neg (not_or.mpr ⟨Nat.not_lt.mpr hn, hodd⟩)
  have hpick := wmPick_cheapest one ls
  match hp : wmPick one ls 0 none with
  | none =>
    rw [hp] at hpick
    have hzero : wmCount ls = 0 := by
      rw [wmCount, List.filter_eq_nil_iff.mpr (fun l hl => by simp [hpick l hl]), List.length_nil]
    omega
  | some (k, c) =>
    rw [hp] at hpick hsteer
    obtain ⟨l, hk, hl, rfl, hmin⟩ := hpick
    exact ⟨k, l, hk, hl, hsteer.trans (mapIdx_at_eq_set hk), hmin⟩

/-- A level that stays nonzero leaves the count, and one that changes by one turns the parity. -/
theorem wmCount_wmOdd_set {x : WmLevel} (hk : ls[k]? = some l) (hl : l.level ≠ 0) (hx : x.level ≠ 0)
    (hstep : x.level.natAbs = l.level.natAbs + 1 ∨ x.level.natAbs + 1 = l.level.natAbs) :
    wmCount (ls.set k x) = wmCount ls ∧ wmOdd (ls.set k x) = !wmOdd ls := by
  obtain ⟨hlt, rfl⟩ := List.getElem?_eq_some_iff.mp hk
  obtain ⟨pre, post, hls, -, hset⟩ := List.exists_of_set (a' := x) hlt
  generalize ls[k] = l at hls hl hstep
  subst hls
  rw [hset]
  refine ⟨by simp [wmCount, hl, hx], ?_⟩
  simp only [wmOdd, List.map_append, List.map_cons, List.sum_append, List.sum_cons, ← decide_not, decide_eq_decide]
  omega

/-- A steered area has as many nonzero levels as before, and with 3 or more of them the target's parity. -/
theorem wmSteer_carries (one : Nat) (target : Bool) (ls : List WmLevel) :
    wmCount (wmSteer one target ls) = wmCount ls ∧ (3 ≤ wmCount ls → wmOdd (wmSteer one target ls) = target) := by
  by_cases hstay : wmCount ls < 3 ∨ wmOdd ls = target
  · rw [wmSteer_of_stays hstay]
    exact ⟨rfl, fun hn => hstay.resolve_left (Nat.not_lt.mpr hn)⟩
  · obtain ⟨hn, hodd⟩ := not_or.mp hstay
    obtain ⟨k, l, hk, hl, hset, -⟩ := wmSteer_of_changes (one := one) (Nat.not_lt.mp hn) hodd
    obtain ⟨hnext, hstep⟩ := wmNext_cases (one := one) hl
    have hx : (wmWith l (wmNext one l)).level ≠ 0 := fun h => hnext (by rw [← wmWith_natAbs l (wmNext one l), h]; rfl)
    obtain ⟨hcount, hturn⟩ := wmCount_wmOdd_set hk hl hx (by simpa using hstep)
    rw [hset]
    exact ⟨hcount, fun _ => hturn.trans (Bool.not_eq.mpr hodd)⟩

end

/-- Settles O36: the pick names the cheapest candidate, and its change by one gives the area the target's parity, which the key
bit turns back into the code's bit. -/
theorem watermarkVotesAreTheCode : Obligations.WatermarkVotesAreTheCode := by
  intro one p h ls
  refine ⟨wmSteer_of_stays, fun hn hodd => ?_, ?_⟩
  · obtain ⟨k, l, hk, hl, hset, hmin⟩ := wmSteer_of_changes (one := one) hn hodd
    obtain ⟨hnext, hstep⟩ := wmNext_cases (one := one) hl
    refine ⟨k, l, (wmWith l (wmNext one l)).level, hk, hl, hset, wmWith_sign hl hnext, ?_, ?_⟩
    · rwa [wmWith_natAbs]
    · rw [wmWith_natAbs]
      exact hmin
  · obtain ⟨hcount, htarget⟩ := wmSteer_carries one (wmTarget p h) ls
    rw [wmVote_eq, hcount]
    refine if_ctx_congr Iff.rfl (fun _ => rfl) (fun hn => ?_)
    rw [htarget (Nat.not_lt.mp hn), wmTarget, Bool.bne_assoc, bne_self_eq_false, Bool.bne_false]

end Sys2Proof.Machine
end

section
/-! The keys of an IDE stream (R317, R318, R506): KEY_PROG and K_SET_GO within a secured session of the port, and the integrity
error of a stream. -/

namespace Sys2Proof.Machine

section
variable {s : State} {p i id : Nat} {x : SpdmSession} {body : SpdmSession → State → State}

/-! ### A request within a session -/

/-- The session of the port that a protected request names. -/
def securedSession (s : State) (p id : Nat) : Option SpdmSession :=
  (port s p).sessions.find? (fun y => y.established && y.sessId == id)

theorem doeIn_of_session (hup : doeUp s p = true) (hx : securedSession s p id = some x) : doeIn p id body s = body x s := by
  unfold securedSession at hx
  simp [doeIn, hup, hx]

theorem doeIn_of_noSession (hup : doeUp s p = true) (hx : securedSession s p id = none) :
    doeIn p id body s = emit (.doe p 0x7F [4]) s := by
  unfold securedSession at hx
  simp [doeIn, hup, hx]
  rfl

/-! ### The streams of a port -/


@[simp] theorem ideOf_ideMod_same (f : IdeStream → IdeStream) : ideOf (ideMod p i f s) p i = f (ideOf s p i) := by
  simp [ideOf, ideMod]

theorem ideOf_ideMod_other {j : Nat} (f : IdeStream → IdeStream) (hj : j ≠ i) : ideOf (ideMod p i f s) p j = ideOf s p j := by
  simp [ideOf, ideMod, tget_tmod_other _ _ _ _ _ hj]

@[simp] theorem ideOf_emit (o : Out) (j : Nat) : ideOf (emit o s) p j = ideOf s p j := rfl

/-! ### KEY_PROG and K_SET_GO -/

/-- The stream with the key of sub-stream `sub` staged by session `x`, number `id`. -/
def IdeStream.stage (e : IdeStream) (x : SpdmSession) (id sid sub : Nat) : IdeStream :=
  let old := if e.keyedBy = some id then e.staged else []
  { e with
    streamId := sid, configured := true, keyedBy := some id, cert := x.cert
    staged := if old.contains sub then old else old ++ [sub] }

/-- The stream with the staged key of sub-stream `sub` in effect, set by session `x`. -/
def IdeStream.putInEffect (e : IdeStream) (x : SpdmSession) (sub : Nat) : IdeStream :=
  let live := if e.live.contains sub then e.live else e.live ++ [sub]
  { e with
    staged := e.staged.filter (fun k => k != sub), live := live, secure := decide (live.length = 6)
    mutualAuth := x.mutualAuth, peerRoot := x.peerRoot, opRoot := x.opRoot }

theorem mem_addOnce (l : List Nat) (k : Nat) : k ∈ if l.contains k then l else l ++ [k] := by
  split
  next h => simpa using h
  next => simp

theorem IdeStream.mem_stage_staged (e : IdeStream) (x : SpdmSession) (id sid sub : Nat) :
    sub ∈ (e.stage x id sid sub).staged :=
  mem_addOnce _ sub

theorem IdeStream.mem_putInEffect_live (e : IdeStream) (x : SpdmSession) (sub : Nat) : sub ∈ (e.putInEffect x sub).live :=
  mem_addOnce _ sub

theorem IdeStream.notMem_putInEffect_staged (e : IdeStream) (x : SpdmSession) (sub : Nat) :
    sub ∉ (e.putInEffect x sub).staged := by
  simp [IdeStream.putInEffect]

section
variable {p : Fin 3} {i : Fin 9} {sid : Byte} {sub : Fin 6}

theorem execKeyProg_of_session (hup : doeUp s p = true) (hx : securedSession s p id = some x) :
    execKeyProg p id i sid sub s =
      .next (emit (.doe p 0x7E [1, 0]) (ideMod p i (fun e => e.stage x id sid.toNat sub.val) s)) :=
  congrArg _ (doeIn_of_session hup hx)

theorem execKSetGo_of_staged (hup : doeUp s p = true) (hx : securedSession s p id = some x)
    (hkeyed : (ideOf s p i).keyedBy = some id) (hsub : sub.val ∈ (ideOf s p i).staged) :
    execKSetGo p id i sub s = .next (emit (.doe p 0x7E [2, 0]) (ideMod p i (fun e => e.putInEffect x sub.val) s)) :=
  congrArg _ ((doeIn_of_session hup hx).trans (if_neg (by simp [hkeyed, hsub])))

theorem execKSetGo_of_otherSession (hup : doeUp s p = true) (hx : securedSession s p id = some x)
    (hkeyed : (ideOf s p i).keyedBy ≠ some id) : execKSetGo p id i sub s = .next (emit (.doe p 0x7F [1]) s) :=
  congrArg _ ((doeIn_of_session hup hx).trans (if_pos (.inl hkeyed)))

/-! ### The integrity error -/

theorem execIdeIntegrityError_of_secure (hsec : (ideOf s p i).secure = true) :
    execIdeIntegrityError p i s =
      .next (raise 0x2A p (rcnt (0x9009C + 0x1000 * p.val) 0 32 1 (ideMod p i IdeStream.leave s))) :=
  congrArg _ (if_neg (by simp [hsec]))

theorem execIdeIntegrityError_of_notSecure (hsec : (ideOf s p i).secure = false) : execIdeIntegrityError p i s = .next s :=
  congrArg _ (if_pos (by simp [hsec]))

end

end

/-- Settles O43: within a session both requests change one stream of the port and answer, outside it they answer an error, and an
integrity error acts on a Secure stream alone. -/
theorem ideStreamTakesItsKeysInSession : Obligations.IdeStreamTakesItsKeysInSession := by
  refine ⟨fun p id i sid sub s x hup hx => ⟨?_, fun hkeyed hsub => ?_, execKSetGo_of_otherSession hup hx⟩,
    fun p id i sid sub s hup hx => ⟨congrArg _ (doeIn_of_noSession hup hx), congrArg _ (doeIn_of_noSession hup hx)⟩,
    fun p i s => ⟨fun hsec => ?_, execIdeIntegrityError_of_notSecure⟩⟩
  · refine ⟨_, execKeyProg_of_session hup hx, ?_⟩
    simp only [ideOf_emit, ideOf_ideMod_same]
    exact ⟨rfl, rfl, rfl, IdeStream.mem_stage_staged _ _ _ _ _, rfl, fun j hj => ideOf_ideMod_other _ hj, rfl⟩
  · refine ⟨_, execKSetGo_of_staged hup hx hkeyed hsub, ?_⟩
    simp only [ideOf_emit, ideOf_ideMod_same]
    exact ⟨IdeStream.mem_putInEffect_live _ _ _, IdeStream.notMem_putInEffect_staged _ _ _, rfl, rfl,
      fun j hj => ideOf_ideMod_other _ hj, rfl⟩
  · have hleft : ideOf (ideMod p i IdeStream.leave s) p i = (ideOf s p i).leave := ideOf_ideMod_same _
    refine ⟨_, execIdeIntegrityError_of_secure hsec, hleft, congrArg IdeStream.secure hleft, List.length_append, ?_, ?_⟩
    · rw [rfld_raise, rfld_rcnt_same, ideMod, rfld_portMod]
    · simp [ideMod]

end Sys2Proof.Machine
end

section
/-! The memory invariant over every command (R333, R355, R475; that both memories are listed at strictly rising addresses is the
model's choice, log 9). The invariant speaks of device DRAM, buffer contents, READY and the last start-up step. Most operations
change none of the four, and each has one equation that says so; one that gives a buffer back, stores bytes or starts the device
up keeps their form. The same pass shows that a command runs to a next state; a DRAM access alone can fault. -/

namespace Sys2Proof.Machine

/-- What the invariant speaks of: device DRAM, buffer contents, READY and the last start-up step. -/
def State.mem (s : State) : List Host.Cell × Tab Byte × Bool × Nat := (s.dram, s.bufm, s.boot.ready, s.boot.step)

/-- Both memories are in their one form, and READY is up only after the last start-up step. -/
def Formed (m : List Host.Cell × Tab Byte × Bool × Nat) : Prop :=
  Memory.wf m.1 = true ∧ tsortedFrom 0 m.2.1 = true ∧ (m.2.2.1 = true → m.2.2.2 = 8)

/-- A command runs to a next state, which is in form where `s` is. -/
def Answers (s : State) (o : Host.Outcome State Fault Refusal) : Prop := ∃ t, o = .next t ∧ (Formed s.mem → Formed t.mem)

theorem inv_iff_formed (s : State) : Inv s = true ↔ Formed s.mem := by
  cases hr : s.boot.ready <;> simp [Inv, Formed, State.mem, hr, and_assoc]

section
variable (s : State)

@[simp] theorem State.mem_eta : (s.dram, s.bufm, s.boot.ready, s.boot.step) = s.mem := (rfl)

/-- An update of the other fields keeps it. -/
@[simp] theorem State.mem_mk {pending board boot now clk adj regs halves funs ports qps slots fetchOrder fetchPos
    deferred doorbells sess pels cores pairs mcs bpm dram bufm dma mbx micSrc micTgt flt gears nvs net time sec mcode
    jtagIr rebalanceAt free out} :
    (State.mk pending board boot now clk adj regs halves funs ports qps slots fetchOrder fetchPos deferred doorbells
      sess pels cores pairs mcs bpm dram bufm dma mbx micSrc micTgt flt gears nvs net time sec mcode jtagIr rebalanceAt
      free out).mem = (dram, bufm, boot.ready, boot.step) :=
  (rfl)

@[simp] theorem ite_mem (p : Prop) [Decidable p] (s t : State) :
    (if p then s else t).mem = if p then s.mem else t.mem :=
  apply_ite State.mem p s t

/-- The state of a pair that a function answers. -/
theorem mem_of_eq {α : Type} {x : α × State} {a : α} {s t : State} (h : x = (a, t)) (hx : x.2.mem = s.mem) :
    t.mem = s.mem := by
  rw [h] at hx
  exact hx

theorem formed_of_eq {α : Type} {x : α × State} {a : α} {t : State} (h : x = (a, t)) (hx : Formed x.2.mem) : Formed t.mem := by
  rw [h] at hx
  exact hx

theorem DeliveryOnly.mem {s t : State} (h : DeliveryOnly s t) : t.mem = s.mem := by
  rw [h]
  rfl

@[simp] theorem answers_next {s t : State} : Answers s (.next t) ↔ (Formed s.mem → Formed t.mem) :=
  ⟨fun ⟨_, hu, h⟩ => next_inj hu ▸ h, fun h => ⟨t, rfl, h⟩⟩

/-- A command whose next state has the same memories. -/
theorem answers_of_mem {s t : State} (h : t.mem = s.mem) : Answers s (.next t) :=
  answers_next.mpr fun hs => h ▸ hs

/-! ### What the form of the memories survives -/

@[simp] theorem formed_ite (p : Prop) [Decidable p] (a b : List Host.Cell × Tab Byte × Bool × Nat) :
    Formed (if p then a else b) ↔ if p then Formed a else Formed b :=
  iff_of_eq (apply_ite Formed p a b)

section
variable {dram : List Host.Cell} {bufm : Tab Byte} {ready : Bool} {step : Nat}

/-- Bytes written to device DRAM. -/
@[simp] theorem formed_dramWrites (h : Formed (dram, bufm, ready, step)) (a : Nat) (l : List Byte) :
    Formed (Memory.writes dram a l, bufm, ready, step) :=
  ⟨Memory.wf_writes l dram a h.1, h.2⟩

/-- Cells of device DRAM taken out. -/
@[simp] theorem formed_dramFilter (h : Formed (dram, bufm, ready, step)) (p : Host.Cell → Bool) :
    Formed (dram.filter p, bufm, ready, step) :=
  ⟨Memory.wf_filter p dram h.1, h.2⟩

/-- Bytes written to buffers. -/
@[simp] theorem formed_bufmPuts (h : Formed (dram, bufm, ready, step)) (a : Nat) (l : List Byte) :
    Formed (dram, tputs bufm a l, ready, step) :=
  ⟨h.1, tsortedFrom_tputs l bufm a h.2.1, h.2.2⟩

/-- Buffer contents taken out. -/
@[simp] theorem formed_bufmFilter (h : Formed (dram, bufm, ready, step)) (p : Nat × Byte → Bool) :
    Formed (dram, bufm.filter p, ready, step) :=
  ⟨h.1, tsortedFrom_filter p bufm 0 h.2.1, h.2.2⟩

end

/-! ### Registers and records -/

@[simp] theorem rset_mem (a v : Nat) : (rset a v s).mem = s.mem := (rfl)
@[simp] theorem rfset_mem (a lo n v : Nat) : (rfset a lo n v s).mem = s.mem := (rfl)
@[simp] theorem rcnt_mem (a lo n k : Nat) : (rcnt a lo n k s).mem = s.mem := (rfl)
@[simp] theorem emit_mem (o : Out) : (emit o s).mem = s.mem := (rfl)
@[simp] theorem takeFree_mem : (takeFree s).2.mem = s.mem := (rfl)
@[simp] theorem pgEvt_mem (p : Page) (b : Nat) : (pgEvt p b s).mem = s.mem := (rfl)
@[simp] theorem pgBlock_mem (p : Page) : (pgBlock p s).mem = s.mem := (rfl)
@[simp] theorem polMod_mem (i : Nat) (f : Polder → Polder) : (polMod i f s).mem = s.mem := (rfl)
@[simp] theorem funcMod_mem (f : Nat) (g : Func → Func) : (funcMod f g s).mem = s.mem := (rfl)
@[simp] theorem portMod_mem (i : Nat) (g : Port → Port) : (portMod i g s).mem = s.mem := (rfl)
@[simp] theorem sessMod_mem (i : Nat) (g : Session → Session) : (sessMod i g s).mem = s.mem := (rfl)
@[simp] theorem coreMod_mem (i : Nat) (g : Core → Core) : (coreMod i g s).mem = s.mem := (rfl)
@[simp] theorem pelMod_mem (i : Nat) (g : Pel → Pel) : (pelMod i g s).mem = s.mem := (rfl)
@[simp] theorem pairMod_mem (i : Nat) (g : Pair → Pair) : (pairMod i g s).mem = s.mem := (rfl)
@[simp] theorem mcMod_mem (i : Nat) (g : Mc → Mc) : (mcMod i g s).mem = s.mem := (rfl)
@[simp] theorem chMod_mem (n c : Nat) (g : McCh → McCh) : (chMod n c g s).mem = s.mem := (rfl)
@[simp] theorem gearMod_mem (i : Nat) (g : Gear → Gear) : (gearMod i g s).mem = s.mem := (rfl)
@[simp] theorem subMod_mem (i : Nat) (g : Subport → Subport) : (subMod i g s).mem = s.mem := (rfl)
@[simp] theorem raiseRep_mem (r : Report) : (raiseRep r s).mem = s.mem := (rfl)
@[simp] theorem raise_mem (kind inst : Nat) : (raise kind inst s).mem = s.mem := (rfl)
@[simp] theorem raiseAt_mem (kind inst addr addrKind requester access : Nat) :
    (raiseAt kind inst addr addrKind requester access s).mem = s.mem :=
  (rfl)

@[simp] theorem forAll_mem {α : Type} (l : List α) {f : α → State → State} (hf : ∀ a u, (f a u).mem = u.mem) :
    (forAll l f s).mem = s.mem :=
  forAll_keeps (fun u => u.mem = s.mem) f (fun a u hu => (hf a u).trans hu) l s rfl

/-! ### Buffers -/

@[simp] theorem poolMod_mem (p : Nat) (g : Pool → Pool) : (poolMod p g s).mem = s.mem := (rfl)
@[simp] theorem bufMod_mem (k : Nat) (g : BufRec → BufRec) : (bufMod k g s).mem = s.mem := (rfl)
@[simp] theorem ticketsClear_mem (rid : Option Nat) : (ticketsClear rid s).mem = s.mem := by
  cases rid with
  | none => rfl
  | some w => simp [ticketsClear]

@[simp] theorem refuse_mem (r : AllocReq) : (refuse r s).mem = s.mem := by
  unfold refuse
  cases r.rid with
  | none => simp
  | some w => simp

@[simp] theorem bpmReject_mem (port kind h : Nat) :
    (bpmReject port kind h s).mem = s.mem := by
  simp [bpmReject]

@[simp] theorem bpmRef_mem (port who h : Nat) : (bpmRef port who h s).2.mem = s.mem := by
  unfold bpmRef
  split
  · rfl
  split <;> simp

@[simp] theorem bpmReserve_mem (p sid n : Nat) : (bpmReserve p sid n s).2.mem = s.mem := by
  simp [bpmReserve, apply_ite Prod.snd]

@[simp] theorem bpmUnreserve_mem (p sid n : Nat) : (bpmUnreserve p sid n s).mem = s.mem := (rfl)
@[simp] theorem addRef_mem (port h : Nat) : (addRef port h s).mem = s.mem := by
  unfold addRef
  (repeat' split) <;> simp

/-! ### Completions and queued commands -/

@[simp] theorem qpMod_mem (k : Nat) (g : QPair → QPair) : (qpMod k g s).mem = s.mem :=
  ((DeliveryOnly.refl s).after_qpMod k g).mem

@[simp] theorem slotFree_mem (o : Option Nat) : (slotFree o s).mem = s.mem :=
  ((DeliveryOnly.refl s).after_slotFree o).mem

@[simp] theorem cqWrite_mem (k : Nat) (e : Entry) : (cqWrite k e s).mem = s.mem :=
  ((DeliveryOnly.refl s).after_cqWrite k e).mem

@[simp] theorem msixSend_mem (fn vec : Nat) : (msixSend fn vec s).mem = s.mem :=
  ((DeliveryOnly.refl s).after_msixSend fn vec).mem

@[simp] theorem cqModerate_mem (k : Nat) : (cqModerate k s).mem = s.mem :=
  ((DeliveryOnly.refl s).after_cqModerate k).mem

@[simp] theorem svcSync_mem (k : Nat) : (svcSync k s).mem = s.mem := by simp [svcSync]
@[simp] theorem cqDrop_mem (k : Nat) (e : Entry) : (cqDrop k e s).mem = s.mem :=
  ((DeliveryOnly.refl s).after_cqDrop k e).mem

@[simp] theorem cqPour_mem (k : Nat) : (cqPour k s).mem = s.mem :=
  ((DeliveryOnly.refl s).after_cqPour k).mem

@[simp] theorem cqL1Check_mem (k : Nat) : (cqL1Check k s).mem = s.mem :=
  ((DeliveryOnly.refl s).after_cqL1Check k).mem

@[simp] theorem cqReleaseN_mem (n : Nat) : (cqReleaseN n s).mem = s.mem :=
  ((DeliveryOnly.refl s).after_cqReleaseN n).mem

@[simp] theorem cqRelease_mem : (cqRelease s).mem = s.mem := cqReleaseN_mem s _
@[simp] theorem cqStartFlush_mem (k : Nat) : (cqStartFlush k s).mem = s.mem := by simp [cqStartFlush]
@[simp] theorem event_mem (k code idx : Nat) (sid : Option Nat) (r0 r1 r2 r3 ext : Nat) :
    (event k code idx sid r0 r1 r2 r3 ext s).mem = s.mem :=
  ((DeliveryOnly.refl s).after_event k code idx sid r0 r1 r2 r3 ext).mem

@[simp] theorem evtPf_mem (code idx r0 r1 : Nat) : (evtPf code idx r0 r1 s).mem = s.mem := by simp [evtPf]
@[simp] theorem evtSess_mem (sid code idx r0 r1 r2 r3 ext : Nat) :
    (evtSess sid code idx r0 r1 r2 r3 ext s).mem = s.mem := by simp [evtSess]

@[simp] theorem settleDeletes_mem : (settleDeletes s).mem = s.mem :=
  (DeliveryOnly.refl s).after_settleDeletes.mem

@[simp] theorem settleBad_mem : (settleBad s).mem = s.mem :=
  (DeliveryOnly.refl s).after_settleBad.mem

@[simp] theorem complete_mem (slot st : Nat) (r : Res) : (complete slot st r s).mem = s.mem :=
  ((DeliveryOnly.refl s).after_complete slot st r).mem

@[simp] theorem finish_mem (slot st : Nat) : (finish slot st s).mem = s.mem := by simp [finish]
@[simp] theorem hold_mem (slot : Nat) : (hold slot s).mem = s.mem := by
  unfold hold
  split <;> simp

@[simp] theorem runCmd_mem (slot opc : Nat) (ok : Slot → State → Bool) {body : Slot → State → State}
    (hbody : ∀ c u, (body c u).mem = u.mem) : (runCmd slot opc ok body s).mem = s.mem := by
  rcases runCmd_cases slot opc ok body s with h | ⟨st, h⟩ | ⟨c, -, h⟩
  · rw [h]
  · rw [h, finish_mem]
  · rw [h, hbody]

/-! ### Queue pairs, fetch and functions -/

@[simp] theorem dbError_mem (fn qid : Nat) (sq : Bool) (value : Nat) :
    (dbError fn qid sq value s).mem = s.mem := by
  simp [dbError]

@[simp] theorem sqTailWrite_mem (fn : Fin 64) (qid : Fin 256) (at4 : Fin 4) (len : Nat) (value : W64) :
    (sqTailWrite fn qid at4 len value s).mem = s.mem := by
  unfold sqTailWrite
  dsimp only
  (repeat' split) <;> simp

@[simp] theorem cqHeadWrite_mem (fn : Fin 64) (qid : Fin 256) (at4 : Fin 4) (len : Nat) (value : W64) :
    (cqHeadWrite fn qid at4 len value s).mem = s.mem := by
  unfold cqHeadWrite
  dsimp only
  (repeat' split) <;> simp

@[simp] theorem takeEntry_mem (cl k n : Nat) (entry : BitVec 512) :
    (takeEntry cl k n entry s).2.mem = s.mem := by
  simp [takeEntry]

@[simp] theorem aqEnable_mem (fn : Fin 64) (cfg : W32) : (aqEnable fn cfg s).mem = s.mem := by simp [aqEnable]
@[simp] theorem flushIn_mem (l : List Nat) (want : CqSt → Bool) : (flushIn l want s).mem = s.mem := by
  refine forAll_mem s l (fun k u => ?_)
  split <;> simp

@[simp] theorem srOrders_mem : (srOrders s).mem = s.mem := by simp [srOrders]
@[simp] theorem ethTx_mem (sub : Nat) (kind : PktKind) (sid seq len : Nat) :
    (ethTx sub kind sid seq len s).mem = s.mem := by simp [ethTx]

/-! ### The interrupt controller -/

@[simp] theorem micSrcMod_mem (n : Nat) (f : MicSrc → MicSrc) : (micSrcMod n f s).mem = s.mem := (rfl)
@[simp] theorem micTgtMod_mem (t : Nat) (f : MicTgt → MicTgt) : (micTgtMod t f s).mem = s.mem := (rfl)
@[simp] theorem micSettle_mem : (micSettle s).mem = s.mem := by simp [micSettle]
@[simp] theorem micSignal_mem (n : Nat) (on : Bool) : (micSignal n on s).mem = s.mem := by simp [micSignal]
@[simp] theorem micPulse_mem (n : Nat) : (micPulse n s).mem = s.mem := by simp [micPulse]
@[simp] theorem micClaim_mem (req : Req) (t : Fin 9) : (micClaim req t s).2.mem = s.mem := by
  simp [micClaim, apply_ite Prod.snd]

@[simp] theorem micUnmatched_mem (t n : Nat) : (micUnmatched t n s).mem = s.mem := by simp [micUnmatched]
@[simp] theorem micEoi_mem (req : Req) (t : Fin 9) (src : Fin 512) :
    (micEoi req t src s).mem = s.mem := by
  simp [micEoi]

@[simp] theorem micSwi_mem (req : Req) (set : W32) : (micSwi req set s).mem = s.mem := by simp [micSwi]
@[simp] theorem micCfgWrite_mem (req : Req) (src : Fin 512) (cfg : W32) :
    (micCfgWrite req src cfg s).mem = s.mem := by
  unfold micCfgWrite
  dsimp only
  (repeat' split) <;> simp only [micSettle_mem, micSrcMod_mem, rset_mem]

/-! ### The DMA engine -/

@[simp] theorem dmaMod_mem (c : Nat) (f : DmaCh → DmaCh) : (dmaMod c f s).mem = s.mem := (rfl)
@[simp] theorem dmaGo_mem (c : Nat) : (dmaGo c s).mem = s.mem := by simp [dmaGo]
@[simp] theorem dmaShadow_mem (c : Nat) : (dmaShadow c s).mem = s.mem := by simp [dmaShadow]
@[simp] theorem dmaEnable_mem (req : Req) (c : Fin 32) :
    (dmaEnable req c s).mem = s.mem := by
  simp [dmaEnable]

@[simp] theorem dmaResume_mem (req : Req) (c : Fin 32) :
    (dmaResume req c s).mem = s.mem := by
  simp [dmaResume]

@[simp] theorem dmaTailWrite_mem (req : Req) (c : Fin 32) (idx : Nat) :
    (dmaTailWrite req c idx s).mem = s.mem := by
  simp [dmaTailWrite]

@[simp] theorem dmaCommit_mem (req : Req) (c : Fin 32) (weight : Fin 8) :
    (dmaCommit req c weight s).mem = s.mem := by
  simp [dmaCommit]

/-! ### What sessions share -/

@[simp] theorem picMod_mem (sid num : Nat) (f : Pic → Pic) : (picMod sid num f s).mem = s.mem := (rfl)
@[simp] theorem flushPics_mem (n sid : Nat) : (flushPics n sid s).mem = s.mem := by
  induction n generalizing s with
  | zero => rfl
  | succ n ih =>
    unfold flushPics
    dsimp only
    (repeat' split) <;> simp [ih]

@[simp] theorem flushAll_mem (sid : Nat) : (flushAll sid s).mem = s.mem := by simp [flushAll]
@[simp] theorem sourceFree_mem (sid num : Nat) : (sourceFree sid num s).mem = s.mem := by
  unfold sourceFree
  dsimp only
  split <;> simp

@[simp] theorem bktMod_mem (sid num : Nat) (f : Bkt → Bkt) : (bktMod sid num f s).mem = s.mem := (rfl)
@[simp] theorem dropPkts_mem (sid : Nat) : (dropPkts sid s).mem = s.mem := (rfl)
@[simp] theorem askFence_mem (sid : Nat) : (askFence sid s).mem = s.mem := (rfl)
@[simp] theorem abandon_mem (sid : Nat) : (abandon sid s).mem = s.mem := by simp [abandon]
@[simp] theorem evtMoved_mem (sid old new cause : Nat) :
    (evtMoved sid old new cause s).mem = s.mem := by
  simp [evtMoved]

@[simp] theorem wmClear_mem (sid : Nat) : (wmClear sid s).mem = s.mem := (rfl)
@[simp] theorem wmLoad_mem (sid : Nat) : (wmLoad sid s).mem = s.mem := by simp [wmLoad]
@[simp] theorem bindTo_mem (sid core : Nat) (st : SState) : (bindTo sid core st s).mem = s.mem := by
  simp [bindTo]

@[simp] theorem evtSplit_mem (k cause : Nat) : (evtSplit k cause s).mem = s.mem := by simp [evtSplit]
@[simp] theorem pairSettle_mem (k : Nat) : (pairSettle k s).mem = s.mem := by simp [pairSettle]
@[simp] theorem moveEnd_mem (sid cause : Nat) : (moveEnd sid cause s).mem = s.mem := by
  unfold moveEnd
  dsimp only
  split <;> simp

@[simp] theorem startSeal_mem (sid : Nat) : (startSeal sid s).mem = s.mem := by
  unfold startSeal
  dsimp only
  (repeat' split) <;> simp

@[simp] theorem endPend_mem (sid st : Nat) : (endPend sid st s).mem = s.mem := by
  unfold endPend
  split <;> simp

@[simp] theorem pktCnt_mem (i n : Nat) : (pktCnt i n s).mem = s.mem := (rfl)
@[simp] theorem sendSr_mem (sid : Nat) (bye : Bool) : (sendSr sid bye s).mem = s.mem := by simp [sendSr]

/-! ### Admission, opening and import -/

theorem reserveFrames_mem {sid size n : Nat} {s t : State} (h : reserveFrames sid size n s = some t) :
    t.mem = s.mem := by
  unfold reserveFrames at h
  split at h
  · cases h
  next p _ _ =>
    have hres := bpmReserve_mem s p sid n
    split at h
    next hp =>
      rw [hp] at hres
      cases h
      simpa using hres
    · cases h

theorem admitProtected_mem {x : Session} {imp pol : Bool} {sid r : Nat} {s s2 t : State}
    (h : admitProtected x imp pol sid s s2 = .inr (r, t)) : t.mem = s2.mem := by
  unfold admitProtected at h
  (repeat' split at h) <;> cases h <;> rfl

@[simp] theorem secAdmit_mem (sid : Nat) : (secAdmit sid s).mem = s.mem := by simp [secAdmit]
@[simp] theorem openRefused_mem (st : Nat) (pol : Bool) :
    (openRefused st pol s).mem = s.mem := by
  simp [openRefused]

/-! ### Session commands -/

@[simp] theorem sessCmd_mem (slot opc : Nat) (ok : Slot → State → Bool) (sts : List SState)
    {body : Slot → Nat → Session → State → State} (hbody : ∀ c sid x u, (body c sid x u).mem = u.mem) :
    (sessCmd slot opc ok sts body s).mem = s.mem := by
  refine runCmd_mem s _ _ _ (fun c u => ?_)
  dsimp only
  split
  · exact finish_mem u _ _
  · exact hbody _ _ _ u

@[simp] theorem submitRate_mem (sid : Nat) : (submitRate sid s).mem = s.mem := by simp [submitRate]
@[simp] theorem noteReady_mem (sid : Nat) : (noteReady sid s).mem = s.mem := by
  unfold noteReady
  dsimp only
  (repeat' split) <;> simp

/-! ### Ingest windows -/

@[simp] theorem ringWrite_mem (sid port off : Nat) (data : List Byte) :
    (ringWrite sid port off data s).mem = s.mem := by
  simp [ringWrite]

@[simp] theorem dbReject_mem (sid lines : Nat) : (dbReject sid lines s).mem = s.mem := by simp [dbReject]
@[simp] theorem srcDoorbell_mem (sid port pic lines : Nat) :
    (srcDoorbell sid port pic lines s).mem = s.mem := by
  simp [srcDoorbell]

@[simp] theorem ctlWrite_mem (sid port off v : Nat) :
    (ctlWrite sid port off v s).mem = s.mem := by
  simp [ctlWrite]

@[simp] theorem ctlWrites_mem (sid port off : Nat) (l : List Nat) :
    (ctlWrites sid port off l s).mem = s.mem := by
  induction l generalizing off s with
  | nil => rfl
  | cons v l ih => simp [ctlWrites, ih]

/-! ### Row scheduling -/

@[simp] theorem startDecode_mem (sid num : Nat) : (startDecode sid num s).mem = s.mem := by simp [startDecode]
@[simp] theorem takeSlot_mem (sid num : Nat) : (takeSlot sid num s).mem = s.mem := by
  unfold takeSlot
  dsimp only
  split <;> simp

@[simp] theorem rwqHigh_mem (p : Nat) : (rwqHigh p s).mem = s.mem := by simp [rwqHigh]
@[simp] theorem packetGo_mem (sid pel k : Nat) (low : Bool) :
    (packetGo sid pel k low s).mem = s.mem := by
  simp [packetGo]

@[simp] theorem promoteAged_mem (p : Nat) : (promoteAged p s).mem = s.mem := by simp [promoteAged]
@[simp] theorem giveRow_mem (c : Nat) (k : Pkt) (slot : Nat) :
    (giveRow c k slot s).mem = s.mem := by
  simp [giveRow]

/-! ### The rate loop -/

@[simp] theorem openBucket_mem (sid num : Nat) : (openBucket sid num s).mem = s.mem := by
  unfold openBucket
  dsimp only
  split <;> simp

@[simp] theorem replaceBucket_mem (sid num : Nat) : (replaceBucket sid num s).mem = s.mem := by
  unfold replaceBucket
  dsimp only
  (repeat' split) <;> simp

@[simp] theorem decideRow_mem (sid num n hdr : Nat) : (decideRow sid num n hdr s).mem = s.mem := by
  unfold decideRow
  split <;> simp

/-! ### The block pipeline -/

@[simp] theorem releaseLines_mem (sid num n : Nat) : (releaseLines sid num n s).mem = s.mem := by
  unfold releaseLines
  dsimp only
  split <;> simp

@[simp] theorem seamSend_mem (x : Session) (r : SeamRec) : (seamSend x r s).mem = s.mem := by simp [seamSend]
@[simp] theorem setPacked_mem (sid num : Nat) : (setPacked sid num s).mem = s.mem := by simp [setPacked]
@[simp] theorem evtMissing_mem (sid num : Nat) (l : List Nat) :
    (evtMissing sid num l s).mem = s.mem := by
  simp [evtMissing]

@[simp] theorem decErrs_mem (sid num : Nat) (l : List DecErr) :
    (decErrs sid num l s).mem = s.mem := by
  simp [decErrs]

@[simp] theorem blockData_mem (c : Nat) (r : CoreRow) (j st : Nat) (o : BlockOut) :
    (blockData c r j st o s).mem = s.mem := by
  obtain ⟨k, h⟩ := blockData_only s c r j st o
  rw [h]
  rfl

@[simp] theorem seamArrive_mem (k kind fails : Nat) : (seamArrive k kind fails s).mem = s.mem := by
  unfold seamArrive
  dsimp only
  (repeat' split) <;> simp

/-! ### Packets -/

@[simp] theorem firstRow_mem (sid : Nat) (p : Pic) : (firstRow sid p s).mem = s.mem := by simp [firstRow]
@[simp] theorem drawIn_mem (lo hi : Nat) : (drawIn lo hi s).2.mem = s.mem := (rfl)
@[simp] theorem armSr_mem (sid : Nat) : (armSr sid s).mem = s.mem := by simp [armSr]
@[simp] theorem sendPkt_mem (sub : Nat) (t : TxPkt) : (sendPkt sub t s).mem = s.mem := by simp [sendPkt]

/-! ### The time unit -/

@[simp] theorem clockStep_mem (d : Int) : (clockStep d s).mem = s.mem := by simp [clockStep]
@[simp] theorem ptpMod_mem (d : Nat) (f : Ptp → Ptp) : (ptpMod d f s).mem = s.mem := (rfl)
@[simp] theorem evtTime_mem (step : Bool) (size : Int) :
    (evtTime step size s).mem = s.mem := by
  simp [evtTime]

@[simp] theorem timeGo_mem (st : TimeSt) (active : Nat) (step : Bool) (size : Int) :
    (timeGo st active step size s).mem = s.mem := by simp [timeGo]

@[simp] theorem stepOff_mem (d : Nat) : (stepOff d s).mem = s.mem := by simp [stepOff]
@[simp] theorem switchTo_mem (d : Nat) : (switchTo d s).mem = s.mem := by simp [switchTo]
@[simp] theorem timeSettle_mem : (timeSettle s).mem = s.mem := by
  unfold timeSettle
  (repeat' split) <;> simp

@[simp] theorem domainLost_mem (d : Nat) : (domainLost d s).mem = s.mem := by
  unfold domainLost
  dsimp only
  (repeat' split) <;> simp

@[simp] theorem syncDone_mem (d : Nat) (t1 t2 : Int) : (syncDone d t1 t2 s).mem = s.mem := by
  unfold syncDone
  dsimp only
  split <;> simp

@[simp] theorem announceIn_mem (d src : Nat) (ds : List Nat) (steps : Nat) (utc : Option Nat) (log : Int) :
    (announceIn d src ds steps utc log s).mem = s.mem := by
  unfold announceIn
  (repeat' split) <;> simp

@[simp] theorem ptpIn_mem (d : Nat) (m : PtpMsg) : (ptpIn d m s).mem = s.mem := by
  unfold ptpIn
  dsimp only
  (repeat' split) <;> simp

@[simp] theorem ptpFrame_mem (sub dom tr : Nat) (m : PtpMsg) :
    (ptpFrame sub dom tr m s).mem = s.mem := by
  simp [ptpFrame]

@[simp] theorem timeManual_mem : (timeManual s).mem = s.mem := by simp [timeManual]
@[simp] theorem timePtp_mem : (timePtp s).mem = s.mem := by simp [timePtp]
@[simp] theorem timeSet_mem (v : W64) : (timeSet v s).mem = s.mem := by
  unfold timeSet
  split
  · rfl
  · rw [State.mem_mk, State.mem_eta, clockStep_mem]

@[simp] theorem timeRate_mem (v : W32) : (timeRate v s).mem = s.mem := by simp [timeRate]

/-! ### Ethernet -/

@[simp] theorem evtSub_mem (sub : Nat) (up : Bool) : (evtSub sub up s).mem = s.mem := by simp [evtSub]
@[simp] theorem setLink_mem (sub : Nat) (up : Bool) : (setLink sub up s).mem = s.mem := by simp [setLink]
@[simp] theorem dropLinks_mem (p : Nat) (all : Bool) : (dropLinks p all s).mem = s.mem := by simp [dropLinks]
@[simp] theorem writeEthMode_mem (p v : Nat) : (writeEthMode p v s).mem = s.mem := by simp [writeEthMode]
@[simp] theorem rtcpItem_mem (sid : Nat) (it : RtcpItem) : (rtcpItem sid it s).mem = s.mem := by
  unfold rtcpItem
  dsimp only
  (repeat' split) <;> simp

@[simp] theorem sessionRtcp_mem (sid src sport : Nat) (k : RtcpIn) :
    (sessionRtcp sid src sport k s).mem = s.mem := by
  unfold sessionRtcp
  dsimp only
  (repeat' split) <;> simp

@[simp] theorem exception_mem (sub reason : Nat) (f : RxFrame) : (exception sub reason f s).mem = s.mem := by
  simp [exception]

@[simp] theorem writeHtqTail_mem (v : Nat) : (writeHtqTail v s).mem = s.mem := by simp [writeHtqTail]

/-! ### Mailboxes -/

@[simp] theorem mbxMod_mem (c : Nat) (f : Mbx → Mbx) : (mbxMod c f s).mem = s.mem := (rfl)
@[simp] theorem mbxEvt_mem (c bit : Nat) (irq : Bool) : (mbxEvt c bit irq s).mem = s.mem := by simp [mbxEvt]
@[simp] theorem inSpace_mem (c before : Nat) : (inSpace c before s).mem = s.mem := by simp [inSpace]
@[simp] theorem mbxCount_mem (c words msgs : Nat) :
    (mbxCount c words msgs s).mem = s.mem := by
  simp [mbxCount]

@[simp] theorem outHead_mem (n c : Nat) (can : Bool) : (outHead n c can s).mem = s.mem := by
  induction n generalizing s with
  | zero => rfl
  | succ n ih =>
    unfold outHead
    (repeat' split) <;> simp [ih]

@[simp] theorem mbxInWord_mem (c : Fin 8) (id : W16) (auth : Bool) (word : W32) :
    (mbxInWord c id auth word s).mem = s.mem := by simp [mbxInWord]

@[simp] theorem mbxOutPop_mem (c : Nat) : (mbxOutPop c s).mem = s.mem := by
  unfold mbxOutPop
  dsimp only
  split <;> simp

@[simp] theorem mbxHostReset_mem (c : Nat) : (mbxHostReset c s).mem = s.mem := by simp [mbxHostReset]
@[simp] theorem mbxServeReset_mem (c : Nat) : (mbxServeReset c s).mem = s.mem := by simp [mbxServeReset]

/-! ### Memory controllers -/

@[simp] theorem refIssue_mem (n c : Nat) : (refIssue n c s).mem = s.mem := by simp [refIssue]
@[simp] theorem refIssues_mem (n c k : Nat) : (refIssues n c k s).mem = s.mem := by
  induction k generalizing s with
  | zero => rfl
  | succ k ih => simp [refIssues, ih]

@[simp] theorem eccNote_mem (n ue addr : Nat) : (eccNote n ue addr s).mem = s.mem := by simp [eccNote]
@[simp] theorem trnStart_mem (mc op : Nat) (cmd : W32) :
    (trnStart mc op cmd s).mem = s.mem := by
  simp [trnStart]

@[simp] theorem trnPattern_mem (mc : Nat) : (trnPattern mc s).mem = s.mem := by simp [trnPattern]

/-! ### Gears, voltage and heat -/

@[simp] theorem overCheck_mem (p : Nat) : (overCheck p s).mem = s.mem := by simp [overCheck]
@[simp] theorem gearSet_mem (p g : Nat) : (gearSet p g s).mem = s.mem := by simp [gearSet]
@[simp] theorem derail_mem (p : Nat) : (derail p s).mem = s.mem := by simp [derail]
@[simp] theorem capStep_mem (p : Nat) : (capStep p s).mem = s.mem := by simp [capStep]
@[simp] theorem commitWrite_mem (p code : Nat) : (commitWrite p code s).mem = s.mem := by simp [commitWrite]

/-! ### The settings store -/

@[simp] theorem nvsResult_mem (code : Nat) (cmd : Bool) :
    (nvsResult code cmd s).mem = s.mem := by
  simp [nvsResult]

@[simp] theorem nvsStart_mem (live clear cmd : Bool) (slot : Option Nat) :
    (nvsStart live clear cmd slot s).mem = s.mem := by simp [nvsStart]

@[simp] theorem nvsAbandon_mem : (nvsAbandon s).mem = s.mem := by simp [nvsAbandon]
@[simp] theorem nvsArm_mem (req : Req) (op : Fin 4) : (nvsArm req op s).mem = s.mem := by simp [nvsArm]
@[simp] theorem nvsSecond_mem (op : Nat) (live clear : Bool) (req : Req) :
    (nvsSecond op live clear req s).mem = s.mem := by
  unfold nvsSecond
  (repeat' split) <;> simp

/-! ### Links and function resets -/

@[simp] theorem ideLeave_mem (p : Nat) : (ideLeave p s).mem = s.mem := by simp [ideLeave]
@[simp] theorem evtPort_mem (p : Nat) : (evtPort p s).mem = s.mem := by simp [evtPort]
@[simp] theorem svcSyncAll_mem : (svcSyncAll s).mem = s.mem := by simp [svcSyncAll]
@[simp] theorem linkGo_mem (p : Nat) (st : LinkSt) (gen width : Nat) (flit : Bool) :
    (linkGo p st gen width flit s).mem = s.mem := by simp [linkGo]

@[simp] theorem forgetSlots_mem (gone : Nat → Bool) : (forgetSlots gone s).mem = s.mem := (rfl)
@[simp] theorem resetConfig_mem (fn : Nat) : (resetConfig fn s).mem = s.mem := by simp [resetConfig]

/-! ### Keys and enrolment -/

@[simp] theorem secCnt_mem (i : Nat) : (secCnt i s).mem = s.mem := (rfl)
@[simp] theorem authFail_mem (slot : Nat) : (authFail slot s).mem = s.mem := by simp [authFail]
@[simp] theorem draw_mem : (draw s).2.mem = s.mem := (rfl)
@[simp] theorem writeResult_mem (fn addr len : Nat) (t : Tab Nat) (chain : Bool) :
    (writeResult fn addr len t chain s).mem = s.mem := by simp [writeResult]

@[simp] theorem opCmd_mem (slot opc op top : Nat) (ok : Slot → State → Bool) {body : Slot → State → State}
    (hbody : ∀ c u, (body c u).mem = u.mem) : (opCmd slot opc op top ok body s).mem = s.mem := by
  unfold opCmd
  split
  · rfl
  split
  · exact runCmd_mem s _ _ _ hbody
  · rfl

@[simp] theorem installKeys_mem (sid suite send recv : Nat) :
    (installKeys sid suite send recv s).mem = s.mem := by
  simp [installKeys]

@[simp] theorem enrolCmd_mem (slot op : Nat) (writes : Bool) {body : Slot → State → State}
    (hbody : ∀ c u, (body c u).mem = u.mem) :
    (enrolCmd slot op writes body s).mem = s.mem := by
  unfold enrolCmd
  split
  · rfl
  · refine opCmd_mem s _ _ _ _ _ (fun c u => ?_)
    split
    · exact finish_mem u _ _
    · exact hbody c u

@[simp] theorem enrolAs_mem (cl gen cdid key wrk : Nat) :
    (enrolAs cl gen cdid key wrk s).mem = s.mem := by
  simp [enrolAs]

@[simp] theorem enrolErase_mem : (enrolErase s).mem = s.mem := by simp [enrolErase]

/-! ### Requests of SEC -/

@[simp] theorem secReq_mem (c : Fin 4) (nvs : Bool) {body : State → State} (hbody : ∀ u, (body u).mem = u.mem) :
    (secReq c nvs body s).mem = s.mem := by
  unfold secReq
  split
  · rfl
  · exact hbody _

@[simp] theorem burn_mem (ok : Bool) (f : Sec → Sec) : (burn ok f s).mem = s.mem := by simp [burn]
@[simp] theorem flashPut_mem (area : Nat) (m : Img) : (flashPut area m s).mem = s.mem := (rfl)
@[simp] theorem patchPut_mem (i : Nat) (m : Img) : (patchPut i m s).mem = s.mem := (rfl)

/-! ### Microcode -/

@[simp] theorem ctxMod_mem (i k : Nat) (f : Ctx → Ctx) : (ctxMod i k f s).mem = s.mem := (rfl)
@[simp] theorem ctxStall_mem (kind i k : Nat) : (ctxStall kind i k s).mem = s.mem := by simp [ctxStall]
@[simp] theorem rowSwitch_mem (i : Nat) : (rowSwitch i s).mem = s.mem := by simp [rowSwitch]
@[simp] theorem takeReq_mem (i k p : Nat) : (takeReq i k p s).mem = s.mem := by simp [takeReq]
@[simp] theorem fenceSettle_mem (i sid : Nat) : (fenceSettle i sid s).mem = s.mem := by simp [fenceSettle]
@[simp] theorem fenceActs_mem (i k : Nat) : (fenceActs i k s).mem = s.mem := by
  unfold fenceActs
  split <;> simp

@[simp] theorem scrubStart_mem (i : Nat) : (scrubStart i s).mem = s.mem := by simp [scrubStart]
@[simp] theorem handlerActs_mem (i k p : Nat) : (handlerActs i k p s).mem = s.mem := by simp [handlerActs]
@[simp] theorem foldCtx_mem (i k u : Nat) (st : List Nat) (notes : Nat) :
    (foldCtx i k u st notes s).mem = s.mem := by
  unfold foldCtx
  dsimp only
  split <;> simp

@[simp] theorem resumeCtx_mem (i k : Nat) : (resumeCtx i k s).mem = s.mem := by
  unfold resumeCtx
  split <;> simp

@[simp] theorem commitPoint_mem (i k : Nat) (u : Nat) (st : List Nat) (notes : Nat) (fresh : List Nat) :
    (commitPoint i k u st notes fresh s).mem = s.mem := by
  unfold commitPoint
  dsimp only
  split <;> simp

@[simp] theorem svnCommit_mem (m : Img) : (svnCommit m s).mem = s.mem := by simp [svnCommit]
@[simp] theorem mcodeFinish_mem : (mcodeFinish s).mem = s.mem := by
  unfold mcodeFinish
  dsimp only
  (repeat' split) <;> simp

@[simp] theorem mcodeSettle_mem : (mcodeSettle s).mem = s.mem := by
  unfold mcodeSettle
  split
  · rfl
  dsimp only
  split
  · simp
  refine forAll_mem _ _ (fun p u => ?_)
  split <;> simp

@[simp] theorem reloadCore_mem (i : Nat) : (reloadCore i s).mem = s.mem := by simp [reloadCore]
@[simp] theorem scrubAsk_mem (i : Nat) : (scrubAsk i s).mem = s.mem := by simp [scrubAsk]

/-! ### Stranded sessions and sealed polders -/

@[simp] theorem evtStranded_mem (sid pol : Nat) : (evtStranded sid pol s).mem = s.mem := by simp [evtStranded]

/-! ### Faults and re-admission -/

@[simp] theorem setClass_mem (src v : Nat) : (setClass src v s).mem = s.mem := by simp [setClass]
@[simp] theorem captureAt_mem (a : Nat) (detail : Bool) (r : Report) :
    (captureAt a detail r s).mem = s.mem := by
  simp [captureAt]

@[simp] theorem fltCapture_mem (r : Report) : (fltCapture r s).mem = s.mem := by simp [fltCapture]
@[simp] theorem coreStalled_mem (i : Nat) : (coreStalled i s).mem = s.mem := by simp [coreStalled]
@[simp] theorem detect_mem (r : Report) : (detect r s).mem = s.mem := by
  unfold detect
  dsimp only
  split <;> simp

@[simp] theorem reportCe_mem (src : Nat) : (reportCe src s).mem = s.mem := by simp [reportCe]
@[simp] theorem fatalWipe_mem (src : Nat) : (fatalWipe src s).mem = s.mem := by simp [fatalWipe]
@[simp] theorem fatalGo_mem (src : Nat) : (fatalGo src s).mem = s.mem := by
  unfold fatalGo
  dsimp only
  split <;> simp

@[simp] theorem admitFail_mem (pol step : Nat) : (admitFail pol step s).mem = s.mem := by
  unfold admitFail
  dsimp only
  split <;> simp

@[simp] theorem raiseShut_mem (r : Report) : (raiseShut r s).mem = s.mem := by
  unfold raiseShut
  dsimp only
  (repeat' split) <;> simp

@[simp] theorem clearPending_mem (i : Nat) : (clearPending i s).mem = s.mem := (rfl)
@[simp] theorem resetPage_mem (p : Page) : (resetPage p s).mem = s.mem := by simp [resetPage]
@[simp] theorem resetPages_mem (pol : Nat) : (resetPages pol s).mem = s.mem := by simp [resetPages]
@[simp] theorem testPass_mem (pol : Nat) (slow : Bool) (seam : List (Fin 4)) :
    (testPass pol slow seam s).mem = s.mem := by
  simp [testPass]

@[simp] theorem injWrite_mem (p : Page) (v : Nat) : (injWrite p v s).mem = s.mem := by simp [injWrite]

/-! ### Power, reset and start-up -/

@[simp] theorem adopt_mem (p : Part) : (adopt p s).mem = s.mem := by simp [adopt]
@[simp] theorem warmWrite_mem (req : Req) (v : Nat) : (warmWrite req v s).mem = s.mem := by
  unfold warmWrite
  dsimp only
  split <;> simp

@[simp] theorem loadImage_mem (ty idx : Nat) (l : List Nat) : (loadImage ty idx l s).2.mem = s.mem := by
  induction l generalizing s with
  | nil => rfl
  | cons a l ih =>
    unfold loadImage
    dsimp only
    split
    · simp
    · simp [ih]

@[simp] theorem bootSec_mem : (bootSec s).mem = s.mem := by simp [bootSec]
@[simp] theorem bootSettings_mem : (bootSettings s).mem = s.mem := by simp [bootSettings]
@[simp] theorem loadPatches_mem (l : List Img) : (loadPatches l s).mem = s.mem := by
  induction l generalizing s with
  | nil => rfl
  | cons m l ih =>
    unfold loadPatches
    (repeat' split) <;> simp [ih]

@[simp] theorem bootMcode_mem : (bootMcode s).mem = s.mem := by simp [bootMcode]
@[simp] theorem trainMc_mem (n : Nat) (r : TrainRes) : (trainMc n r s).mem = s.mem := by simp [trainMc]
@[simp] theorem bootPolders_mem : (bootPolders s).mem = s.mem := by simp [bootPolders]
@[simp] theorem bootBpm_mem : (bootBpm s).mem = s.mem := by simp [bootBpm]
@[simp] theorem bootTandem_mem (fails : List (Fin 32)) :
    (bootTandem fails s).mem = s.mem := by
  simp [bootTandem]

/-! ### Buffer requests -/

@[simp] theorem bpmAnswer_mem (port : Nat) (r : AllocRes) : (bpmAnswer port r s).mem = s.mem := by
  unfold bpmAnswer
  split <;> simp

/-! ### Device DRAM -/

@[simp] theorem lineRead_mem (n : Nat) (r : DReq) : (lineRead n r s).mem = s.mem := by simp [lineRead]
@[simp] theorem dramWait_mem (r : DReq) : (dramWait r s).mem = s.mem := by simp [dramWait]

/-! ### Register accesses -/

@[simp] theorem accSize_mem : (accSize s).mem = s.mem := by simp [accSize]
@[simp] theorem accUnmapped_mem (req : Req) : (accUnmapped req s).mem = s.mem := by simp [accUnmapped]
@[simp] theorem halfMod_mem (req : Req) (f : Half → Half) : (halfMod req f s).mem = s.mem := (rfl)
@[simp] theorem clearRc_mem (p : Page) (r : Reg) (k : Nat) : (clearRc p r k s).mem = s.mem := by
  unfold clearRc
  split
  · rfl
  split
  · rfl
  · exact forAll_mem s (r.flds.filter (fun f => f.acc == .rc)) (fun f u => rfset_mem u (regAddr p r k) f.lo f.n 0)

@[simp] theorem readEffect_mem (req : Req) (p : Page) (r : Reg) (k : Nat) :
    (readEffect req p r k s).mem = s.mem := by
  simp [readEffect]

@[simp] theorem read32_mem (req : Req) (p : Page) (off : Nat) : (read32 req p off s).2.mem = s.mem := by
  unfold read32
  dsimp only
  (repeat' split) <;> simp

@[simp] theorem read64_mem (req : Req) (p : Page) (off : Nat) : (read64 req p off s).2.mem = s.mem := by
  unfold read64
  dsimp only
  (repeat' split) <;> simp

@[simp] theorem regRead_mem (req : Req) (a len : Nat) : (regRead req a len s).2.mem = s.mem := by
  unfold regRead
  dsimp only
  (repeat' split) <;> simp

@[simp] theorem plainWrite_mem (p : Page) (r : Reg) (k v mask : Nat) :
    (plainWrite p r k v mask s).mem = s.mem := by
  simp [plainWrite]

@[simp] theorem pelCtrlWrite_mem (p v : Nat) : (pelCtrlWrite p v s).mem = s.mem := by simp [pelCtrlWrite]
@[simp] theorem nvsCmdWrite_mem (req : Req) (v : Nat) :
    (nvsCmdWrite req v s).mem = s.mem := by
  simp [nvsCmdWrite]

@[simp] theorem micPendWrite_mem (i v : Nat) : (micPendWrite i v s).mem = s.mem := by simp [micPendWrite]
@[simp] theorem micWrite_mem (req : Req) (p : Page) (r : Reg) (k v : Nat) :
    (micWrite req p r k v s).mem = s.mem := by
  unfold micWrite
  (repeat' split) <;> simp

@[simp] theorem pktRingWrite_mem (p : Page) (r : Reg) (v mask : Nat) :
    (pktRingWrite p r v mask s).mem = s.mem := by
  simp [pktRingWrite]

@[simp] theorem pktWrite_mem (p : Page) (r : Reg) (k v mask : Nat) :
    (pktWrite p r k v mask s).mem = s.mem := by
  unfold pktWrite
  split <;> simp

@[simp] theorem timeCtrlWrite_mem (p : Page) (r : Reg) (v : Nat) : (timeCtrlWrite p r v s).mem = s.mem := by
  simp [timeCtrlWrite]

@[simp] theorem timeDomWrite_mem (p : Page) (r : Reg) (k v mask : Nat) :
    (timeDomWrite p r k v mask s).mem = s.mem := by
  simp [timeDomWrite]

@[simp] theorem timeWrite_mem (p : Page) (r : Reg) (k v mask : Nat) :
    (timeWrite p r k v mask s).mem = s.mem := by
  unfold timeWrite
  split <;> simp

@[simp] theorem mcWrite_mem (p : Page) (r : Reg) (k v mask : Nat) : (mcWrite p r k v mask s).mem = s.mem := by
  unfold mcWrite
  split <;> simp

@[simp] theorem dropHeld_mem (req : Req) : (dropHeld req s).mem = s.mem := by simp [dropHeld]
@[simp] theorem doorWrite_mem (fn off len : Nat) (v : W64) :
    (doorWrite fn off len v s).mem = s.mem := by
  simp [doorWrite]

/-! ### SPDM -/

@[simp] theorem doe_mem (p code : Nat) (l : List Nat) : (doe p code l s).mem = s.mem := by simp [doe]
@[simp] theorem doeErr_mem (p code : Nat) : (doeErr p code s).mem = s.mem := by simp [doeErr]
@[simp] theorem doeAt_mem (p n : Nat) {body : State → State} (hbody : ∀ u, (body u).mem = u.mem) :
    (doeAt p n body s).mem = s.mem := by
  unfold doeAt
  (repeat' split) <;> simp [hbody]

@[simp] theorem doeIn_mem (p id : Nat) {body : SpdmSession → State → State} (hbody : ∀ x u, (body x u).mem = u.mem) :
    (doeIn p id body s).mem = s.mem := by
  unfold doeIn
  (repeat' split) <;> simp [hbody]

@[simp] theorem ideMod_mem (p i : Nat) (f : IdeStream → IdeStream) : (ideMod p i f s).mem = s.mem := (rfl)

end
end Sys2Proof.Machine
end

section
/-! The operations that give a buffer back, store bytes, serve DRAM, reset or start the device up keep the form of both memories
(R333, R355, R475). -/

namespace Sys2Proof.Machine
section
variable (s : State)

/-! ### Shared shapes -/

@[simp] theorem forAll_formed {α : Type} {s : State} (l : List α) {f : α → State → State}
    (hf : ∀ a u, Formed u.mem → Formed (f a u).mem) (hs : Formed s.mem) : Formed (forAll l f s).mem :=
  forAll_keeps (fun u => Formed u.mem) f hf l s hs

theorem runCmd_formed {s : State} (slot opc : Nat) (ok : Slot → State → Bool) {body : Slot → State → State}
    (hbody : ∀ c u, Formed u.mem → Formed (body c u).mem) (hs : Formed s.mem) : Formed (runCmd slot opc ok body s).mem := by
  rcases runCmd_cases slot opc ok body s with h | ⟨st, h⟩ | ⟨c, -, h⟩
  · rwa [h]
  · rwa [h, finish_mem]
  · rw [h]
    exact hbody c s hs

/-! ### Buffers -/

@[simp] theorem bufErase_formed (k : Nat) (hs : Formed s.mem) : Formed (bufErase k s).mem := formed_bufmFilter hs _

theorem takeBuf_formed {p : Nat} {r : AllocReq} {s t : State} {h : Nat} (ht : takeBuf p r s = some (h, t))
    (hs : Formed s.mem) : Formed t.mem := by
  unfold takeBuf at ht
  split at ht
  · cases ht
  · cases ht
    simp [hs]

@[simp] theorem bpmAlloc_formed (r : AllocReq) (hs : Formed s.mem) : Formed (bpmAlloc r s).2.mem := by
  unfold bpmAlloc
  split
  · exact hs
  split
  · exact hs
  split
  · simp [hs]
  split
  · simp [hs]
  next ht =>
    have hu := takeBuf_formed ht hs
    split
    · exact hu
    · simp [hu]

@[simp] theorem bufReturn_formed (k : Nat) (hs : Formed s.mem) : Formed (bufReturn k s).mem := by simp [bufReturn, hs]

@[simp] theorem bpmUnref_formed (port who h : Nat) (host : Bool) (hs : Formed s.mem) :
    Formed (bpmUnref port who h host s).2.mem := by
  unfold bpmUnref
  split
  · exact hs
  split
  · simp [hs]
  · simp [apply_ite Prod.snd, hs]

@[simp] theorem dropRef_formed (port h : Nat) (hs : Formed s.mem) : Formed (dropRef port h s).mem := by
  unfold dropRef
  (repeat' split) <;> simp [hs]

@[simp] theorem reissue_formed (hs : Formed s.mem) : Formed (reissue s).mem := by
  refine forAll_formed _ (fun o u hu => ?_) (by simpa using hs)
  split <;> simp [hu]

@[simp] theorem bufWrite_formed (k off : Nat) (l : List Byte) (hs : Formed s.mem) : Formed (bufWrite k off l s).mem :=
  formed_bufmPuts hs _ l

/-! ### The DMA engine -/

@[simp] theorem spaceWrite_formed (sp addr : Nat) (l : List Byte) (hs : Formed s.mem) :
    Formed (spaceWrite sp addr l s).mem := by
  simp [spaceWrite, hs]

@[simp] theorem dRefs_formed (c : Nat) (l got : List Nat) (hs : Formed s.mem) : Formed (dRefs c l got s).2.mem := by
  induction l generalizing got s with
  | nil => exact hs
  | cons h l ih =>
    unfold dRefs
    split
    · simp +contextual [hs]
    · simp [ih, hs]

@[simp] theorem dmaRun_formed (c : Nat) (d : BitVec 256) (host : List Byte) (err : Option (Nat × Fin 3))
    (hs : Formed s.mem) : Formed (dmaRun c d host err s).mem := by
  unfold dmaRun
  extract_lets +onlyGivenNames done
  have hdone (e : DmaEnd) (u : State) : (done e u).mem = u.mem := dmaMod_mem u c _
  clear_value done
  split
  · exact hs
  split
  · simp [hdone, hs]
  split
  · simp [hdone, hs]
  split
  next h => simp [hdone, formed_of_eq h (dRefs_formed s _ _ _ hs)]
  next h =>
    have hrefs := formed_of_eq h (dRefs_formed s _ _ _ hs)
    split
    · simp [hdone, hrefs]
    extract_lets +onlyGivenNames n fencedAt data
    clear_value fencedAt
    cases fencedAt with
    | none =>
      dsimp only
      (repeat' split) <;> simp [hdone, hrefs]
    | some o => simp [hdone, hrefs]

@[simp] theorem dmaOp_formed (op : Nat) (c : Nat) (d : BitVec 256) (host : List Byte) (err : Option (Nat × Fin 3))
    (hs : Formed s.mem) : Formed (dmaOp op c d host err s).mem := by simp [dmaOp, hs]

@[simp] theorem dmaDisable_formed (req : Req) (c : Fin 32) (hs : Formed s.mem) : Formed (dmaDisable req c s).mem := by
  unfold dmaDisable
  split
  · exact hs
  extract_lets s1
  split
  · exact hs
  extract_lets s2 s3
  have h2 : Formed s2.mem := forAll_formed _ (fun h u hu => dropRef_formed u 11 h hu) hs
  have h3 : Formed s3.mem := by simp [s3, h2]
  simpa using h3

/-! ### What sessions share -/

@[simp] theorem slotEmpty_formed (sid i : Nat) (hs : Formed s.mem) : Formed (slotEmpty sid i s).mem := by
  simp [slotEmpty, hs]

@[simp] theorem dropCaptured_formed (sid num : Nat) (hs : Formed s.mem) : Formed (dropCaptured sid num s).mem := by
  unfold dropCaptured
  split
  · exact hs
  split
  · exact hs
  · exact forAll_formed _ (fun h u hu => dropRef_formed u 0 h hu) hs

@[simp] theorem endPic_formed (sid num st : Nat) (hs : Formed s.mem) : Formed (endPic sid num st s).mem := by
  unfold endPic
  extract_lets x
  split
  · exact hs
  split
  · exact hs
  extract_lets rows s1 s2 s3 s4 bound s5 s6 s7
  have h2 : Formed s2.mem := by simp [s2, s1, hs]
  have h4 : Formed s4.mem := by simp [s4, s3, h2]
  have h5 : Formed s5.mem := by simp [s5, h4]
  simp [s7, s6, h5]

@[simp] theorem placeRing_formed (sid core : Nat) (hs : Formed s.mem) : Formed (placeRing sid core s).mem := by
  simp [placeRing, hs]

@[simp] theorem rebind_formed (sid core cause : Nat) (lost : Bool) (hs : Formed s.mem) :
    Formed (rebind sid core cause lost s).mem := by
  simp [rebind, hs]

@[simp] theorem doMove_formed (sid : Nat) (hs : Formed s.mem) : Formed (doMove sid s).mem := by
  unfold doMove
  dsimp only
  (repeat' split) <;> simp [hs]

@[simp] theorem settle_formed (sid : Nat) (hs : Formed s.mem) : Formed (settle sid s).mem := by
  unfold settle
  dsimp only
  (repeat' split) <;> simp [hs]

@[simp] theorem afterEnd_formed (sid : Nat) (hs : Formed s.mem) : Formed (afterEnd sid s).mem := by
  simp [afterEnd, hs]

@[simp] theorem dropRetries_formed (sid : Nat) (hs : Formed s.mem) : Formed (dropRetries sid s).mem := by
  refine forAll_formed _ (fun n u hu => ?_) hs
  dsimp only
  (repeat' split) <;> simp [hu]

@[simp] theorem releaseSession_formed (sid : Nat) (hs : Formed s.mem) : Formed (releaseSession sid s).mem := by
  unfold releaseSession
  extract_lets x s1 hs' s2 s3
  have h1 : Formed s1.mem := forAll_formed _ (fun i u hu => slotEmpty_formed u sid i hu) hs
  have h2 : Formed s2.mem := forAll_formed _ (fun h u hu => dropRef_formed u 0 h hu) h1
  have h3 : Formed s3.mem := by simp [s3, h2]
  simp [h3]

@[simp] theorem closeSession_formed (sid : Nat) (slot : Option Nat) (hs : Formed s.mem) :
    Formed (closeSession sid slot s).mem := by
  unfold closeSession
  extract_lets x s0 s1 s2
  have h1 : Formed s1.mem := by simp [s1, s0, hs]
  have h2 : Formed s2.mem := forAll_formed _ (fun p u hu => endPic_formed u sid p.num stAborted hu) h1
  simpa using h2

/-! ### Reference slots in memory -/

@[simp] theorem storeBytes_formed (handle off : Nat) (l : List Byte) (hs : Formed s.mem) :
    Formed (storeBytes handle off l s).mem := by
  simp [storeBytes, hs]

@[simp] theorem storeUnits_formed (std : Std) (depth handle total : Nat) (enc : Bool) (lens : List Byte) (n u : Nat)
    (l : List Byte) (hs : Formed s.mem) : Formed (storeUnits std depth handle total enc lens n u l s).mem := by
  induction n generalizing u l s with
  | zero => exact hs
  | succ n ih =>
    unfold storeUnits
    extract_lets e bytes s1 v s2
    have h1 : Formed s1.mem := storeBytes_formed s _ _ _ hs
    exact ih s2 _ _ (by simp [s2, h1])

@[simp] theorem storeRecord_formed (std : Std) (handle : Nat) (enc : Bool) (l : List Byte) (hs : Formed s.mem) :
    Formed (storeRecord std handle enc l s).mem :=
  storeUnits_formed _ _ _ _ _ _ _ _ _ _ <| storeBytes_formed _ _ _ _ <| storeBytes_formed _ _ _ _ <|
    storeBytes_formed _ _ _ _ <| storeBytes_formed _ _ _ _ hs

/-! ### Admission, opening and import -/

theorem drawFrame_formed {sid size h : Nat} {s t : State} (ht : drawFrame sid size s = some (h, t)) (hs : Formed s.mem) :
    Formed t.mem := by
  unfold drawFrame at ht
  dsimp only at ht
  split at ht
  next hp =>
    cases ht
    exact formed_of_eq hp (bpmAlloc_formed s _ hs)
  · cases ht

theorem reserveAll_formed {sid core : Nat} {s t : State} (h : reserveAll sid core s = some t) (hs : Formed s.mem) :
    Formed t.mem := by
  unfold reserveAll at h
  dsimp only at h
  split at h
  · obtain ⟨u, hu, ht⟩ := Option.bind_eq_some_iff.mp h
    rwa [reserveFrames_mem ht, reserveFrames_mem hu]
  split at h
  · cases h
  split at h
  · cases h
  split at h
  · obtain ⟨v, hv, ht⟩ := Option.bind_eq_some_iff.mp h
    obtain ⟨u, hu, rfl⟩ := Option.map_eq_some_iff.mp hv
    split at ht
    · cases ht
    · cases ht
      simp [reserveFrames_mem hu, hs]
  · obtain ⟨v, hv, h⟩ := Option.bind_eq_some_iff.mp h
    obtain ⟨u, hu, rfl⟩ := Option.map_eq_some_iff.mp hv
    obtain ⟨w, hw, h⟩ := Option.bind_eq_some_iff.mp h
    obtain ⟨⟨h0, y⟩, hy, h⟩ := Option.bind_eq_some_iff.mp h
    obtain ⟨⟨h1, z⟩, hz, rfl⟩ := Option.map_eq_some_iff.mp h
    have hwf : Formed w.mem := by simpa [reserveFrames_mem hw, reserveFrames_mem hu] using hs
    have hyf : Formed y.mem := drawFrame_formed hy hwf
    have hzf : Formed z.mem := drawFrame_formed hz hyf
    simpa using hzf

theorem admitPlaced_formed {x : Session} {imp pol : Bool} {c r : Nat} {s t : State}
    (h : admitPlaced x imp pol c s = .inr (r, t)) (hs : Formed s.mem) : Formed t.mem := by
  unfold admitPlaced at h
  dsimp only at h
  split at h
  · cases h
  split at h
  · cases h
  split at h
  · cases h
  next hres =>
    rw [admitProtected_mem h]
    exact reserveAll_formed hres (by simpa using hs)

theorem admission_formed {x0 : Session} {imp pol : Bool} {s t : State} {sid : Nat} (h : admission x0 imp pol s = .inr (sid, t))
    (hs : Formed s.mem) : Formed t.mem := by
  rcases Nat.lt_or_ge (lowFree s.sess 0) 4096 with hsid | hsid
  · cases hq : quotaOk s x0.owner x0.load with
    | false => rw [admission_of_overQuota hsid hq] at h; cases h
    | true =>
      cases hf : formatOk x0 with
      | none => rw [admission_of_badFormat hsid hq hf] at h; cases h
      | some f =>
        cases hp : place s x0.kind x0.load x0.lc with
        | none => rw [admission_of_unplaced hsid hq hf hp] at h; cases h
        | some c => rw [admission_of_placed hsid hq hf hp] at h; exact admitPlaced_formed h hs
  · rw [admission_of_noContext hsid] at h; cases h

theorem importSlots_formed {sid : Nat} {recs : List (Nat × List Byte)} {s t : State} (h : importSlots sid recs s = some t)
    (hs : Formed s.mem) : Formed t.mem := by
  unfold importSlots at h
  refine List.foldlRecOn (motive := fun r => ∀ u, r = some u → Formed u.mem) (List.range 8) _
    (fun u hu => Option.some.inj hu ▸ hs) (fun r hr i _ u hu => ?_) t h
  obtain ⟨v, hv, hu⟩ := Option.bind_eq_some_iff.mp hu
  split at hu
  · obtain ⟨⟨a, w⟩, hw, rfl⟩ := Option.map_eq_some_iff.mp hu
    have hdraw := drawFrame_formed hw (hr v hv)
    dsimp only
    split <;> simp [hdraw]
  · cases hu
    simp [hr v hv]

/-! ### Sessions and their windows -/

@[simp] theorem freeSession_formed (sid : Nat) (hs : Formed s.mem) : Formed (freeSession sid s).mem := by
  simp [freeSession, hs]

@[simp] theorem halfWrite_formed (sid off : Nat) (data : List Byte) (hs : Formed s.mem) :
    Formed (halfWrite sid off data s).mem := by
  simp [halfWrite, hs]

@[simp] theorem windowWrite_formed (sid port off : Nat) (data : List Byte) (hs : Formed s.mem) :
    Formed (windowWrite sid port off data s).mem := by
  simp [windowWrite, hs]

@[simp] theorem bar2Write_formed (req : Req) (ide : Option Nat) (addr : Nat) (data : List Byte) (hs : Formed s.mem) :
    Formed (bar2Write req ide addr data s).mem := by
  unfold bar2Write
  (repeat' split) <;> simp [hs]

/-! ### Row scheduling -/

@[simp] theorem promoteLong_formed (sid : Nat) (hs : Formed s.mem) : Formed (promoteLong sid s).mem := by
  unfold promoteLong
  extract_lets x s1
  have h1 : s1.mem = s.mem := by
    dsimp only [s1]
    split
    · rfl
    · simp
  refine forAll_formed _ (fun i u hu => ?_) (h1 ▸ hs)
  dsimp only
  split
  · split <;> simp [hu]
  · exact hu

@[simp] theorem bindSlot_formed (sid i : Nat) (t : Slot8) (hs : Formed s.mem) : Formed (bindSlot sid i t s).mem := by
  simp [bindSlot, hs]

@[simp] theorem startEncode_formed (sid num : Nat) (hs : Formed s.mem) : Formed (startEncode sid num s).mem := by
  unfold startEncode
  extract_lets s1 x
  have h1 : Formed s1.mem := promoteLong_formed _ _ (by simpa using hs)
  split
  · exact hs
  rename_i s2 s3 s4 _ _ _
  extract_lets t s5
  have h2 : Formed s2.mem := by simp [s2, h1]
  have h4 : Formed s4.mem := by simp +contextual [s4, s3, h2]
  have h5 : Formed s5.mem := bindSlot_formed s4 _ _ _ h4
  simpa using h5

@[simp] theorem sessAlloc_formed (sid n : Nat) (ty : PoolTy) (size : Nat) (hs : Formed s.mem) :
    Formed (sessAlloc sid n ty size s).2.mem := by
  unfold sessAlloc
  dsimp only
  split
  · split
    · simpa using hs
    · exact hs
  · split
    next hp => exact formed_of_eq hp (bpmAlloc_formed s _ hs)
    next hp => exact formed_of_eq hp (bpmAlloc_formed s _ hs)

@[simp] theorem takeBits_formed (sid num : Nat) (hs : Formed s.mem) : Formed (takeBits sid num s).mem := by
  unfold takeBits
  dsimp only
  split
  · exact hs
  split
  · exact hs
  split
  all_goals
    next h => simp [formed_of_eq h (sessAlloc_formed s _ _ _ _ hs)]

@[simp] theorem takeSlotBuf_formed (sid num : Nat) (hs : Formed s.mem) : Formed (takeSlotBuf sid num s).mem := by
  unfold takeSlotBuf
  dsimp only
  split
  · exact hs
  split
  · exact hs
  split
  all_goals
    next h => simp [formed_of_eq h (sessAlloc_formed s _ _ _ _ hs)]

@[simp] theorem takeOut_formed (sid num : Nat) (hs : Formed s.mem) : Formed (takeOut sid num s).mem := by
  unfold takeOut
  dsimp only
  split
  · exact hs
  split
  · exact hs
  split
  · simpa using hs
  split
  · exact hs
  split
  all_goals
    next h => simp [formed_of_eq h (sessAlloc_formed s _ _ _ _ hs)]

@[simp] theorem packetBegin_formed (sid k : Nat) (low : Bool) (hs : Formed s.mem) : Formed (packetBegin sid k low s).mem := by
  unfold packetBegin
  extract_lets x
  split
  · exact hs
  split
  · exact hs
  extract_lets s1
  have hbits (n : Nat) : Formed (takeBits sid n (takeSlot sid n s)).mem := takeBits_formed _ _ _ (by simpa using hs)
  have h1 : Formed s1.mem := by simp [s1, hbits, hs]
  clear_value s1
  dsimp only
  (repeat' split) <;> simp [h1]

/-! ### Reconstructed samples -/

@[simp] theorem storeUnit_formed (sid num : Nat) (u : UnitPix) (hs : Formed s.mem) : Formed (storeUnit sid num u s).mem := by
  unfold storeUnit
  dsimp only
  split
  · exact hs
  split
  · exact hs
  · simp [hs]

@[simp] theorem storeMotion_formed (sid num : Nat) (ps : List Pred) (hs : Formed s.mem) :
    Formed (storeMotion sid num ps s).mem := by
  unfold storeMotion
  dsimp only
  split
  · exact hs
  refine forAll_formed _ (fun c u hu => ?_) hs
  split
  · exact hu
  · simp [hu]

@[simp] theorem storeHeader_formed (sid num : Nat) (hs : Formed s.mem) : Formed (storeHeader sid num s).mem := by
  unfold storeHeader
  dsimp only
  split <;> simp [hs]

@[simp] theorem storeSaved_formed (sid num : Nat) (l : List Byte) (hs : Formed s.mem) : Formed (storeSaved sid num l s).mem := by
  unfold storeSaved
  dsimp only
  split <;> simp [hs]

@[simp] theorem storeRun_formed (handle w h depth : Nat) (r : PixRun) (hs : Formed s.mem) :
    Formed (storeRun handle w h depth r s).mem := by
  simp +contextual [storeRun, hs]

/-! ### The block pipeline -/

@[simp] theorem encBlock_formed (sid num n j st : Nat) (d : BlkData) (o : BlockOut) (hs : Formed s.mem) :
    Formed (encBlock sid num n j st d o s).mem := by
  have hunits : Formed (forAll o.units (storeUnit sid num) s).mem :=
    forAll_formed _ (fun u v hv => storeUnit_formed v sid num u hv) hs
  have hmotion (l : List Pred) : Formed (storeMotion sid num l (forAll o.units (storeUnit sid num) s)).mem :=
    storeMotion_formed _ _ _ _ hunits
  unfold encBlock
  dsimp only
  split <;> simp +contextual [hs, hmotion]

@[simp] theorem refusePic_formed (sid num : Nat) (hs : Formed s.mem) : Formed (refusePic sid num s).mem := by
  simp [refusePic, hs]

@[simp] theorem applyMarks_formed (sid : Nat) (l : List (Nat × Term)) (hs : Formed s.mem) : Formed (applyMarks sid l s).mem := by
  simp +contextual [applyMarks, hs]

@[simp] theorem fillTargets_formed (sid buf : Nat) (t : Slot8) (l : List Nat) (hs : Formed s.mem) :
    Formed (fillTargets sid buf t l s).mem := by
  induction l generalizing s with
  | nil => exact hs
  | cons i l ih => simp [fillTargets, ih, hs]

@[simp] theorem showExisting_formed (sid num i : Nat) (h : DecHead) (hs : Formed s.mem) :
    Formed (showExisting sid num i h s).mem := by
  simp [showExisting, hs]

@[simp] theorem parseHead_formed (sid num : Nat) (h : DecHead) (hs : Formed s.mem) : Formed (parseHead sid num h s).mem := by
  unfold parseHead
  extract_lets x
  split
  · simp [hs]
  split
  · simp [hs]
  split
  · exact hs
  rename_i s1 s2 s3 fills _ _ _ _ p _
  extract_lets t s4
  have h2 : Formed s2.mem := by simp [s2, s1, hs]
  have h3 : Formed s3.mem := by simp +contextual [s3, h2]
  simp [s4, h3]

@[simp] theorem decEnd_formed (sid num : Nat) (hs : Formed s.mem) : Formed (decEnd sid num s).mem := by
  unfold decEnd
  split
  · exact hs
  extract_lets bits s1 s2 s3
  have h2 : Formed s2.mem := by simp [s2, s1, hs]
  have h3 : Formed s3.mem := by simp [s3, h2]
  simp [h3]

@[simp] theorem decBlock_formed (sid num n j st : Nat) (d : BlkData) (o : BlockOut) (hs : Formed s.mem) :
    Formed (decBlock sid num n j st d o s).mem := by
  unfold decBlock
  extract_lets +onlyGivenNames s0 x
  have hs0 : Formed s0.mem := by simp [s0, hs]
  clear_value s0
  have hunits : Formed (forAll o.units (storeUnit sid num) s0).mem :=
    forAll_formed _ (fun u v hv => storeUnit_formed v sid num u hv) hs0
  split
  · exact hs0
  next p _ =>
  have hshown : Formed (forAll o.shown (storeRun p.outFrame p.outW p.outH p.depth) s0).mem :=
    forAll_formed _ (fun r v hv => storeRun_formed v _ _ _ _ r hv) hs0
  split
  · exact hs0
  dsimp only
  (repeat' split) <;> simp [hs0, hunits, hshown]

@[simp] theorem blockEffect_formed (r : CoreRow) (j st : Nat) (o : BlockOut) (hs : Formed s.mem) :
    Formed (blockEffect r j st o s).mem := by
  unfold blockEffect
  split <;> simp [hs]

@[simp] theorem rowEnd_formed (c : Nat) (r : CoreRow) (hs : Formed s.mem) : Formed (rowEnd c r s).mem := by
  simp [rowEnd, hs]

@[simp] theorem passBlock_formed (c : Nat) (r : CoreRow) (j st : Nat) (hs : Formed s.mem) :
    Formed (passBlock c r j st s).mem := by
  simp [passBlock, hs]

/-! ### Packets -/

@[simp] theorem pictureSent_formed (sid num : Nat) (hs : Formed s.mem) : Formed (pictureSent sid num s).mem := by
  unfold pictureSent
  dsimp only
  split <;> simp [hs]

@[simp] theorem packRow_formed (sid : Nat) (num : Nat) (note : RowNotice) (hs : Formed s.mem) :
    Formed (packRow sid num note s).mem := by
  unfold packRow
  dsimp only
  split <;> simp [hs]

/-! ### Function resets and keys -/

@[simp] theorem closeSilent_formed (sid : Nat) (hs : Formed s.mem) : Formed (closeSilent sid s).mem := by
  simp [closeSilent, hs]

@[simp] theorem resetFunction_formed (fn : Nat) (hs : Formed s.mem) : Formed (resetFunction fn s).mem := by
  unfold resetFunction
  extract_lets sids s1 base s2 s3 s4 held s5
  have h1 : Formed s1.mem := forAll_formed _ (fun sid u hu => closeSilent_formed u sid hu) hs
  have h5 : Formed s5.mem := forAll_formed _ (fun h u hu => dropRef_formed _ 12 h hu) h1
  simpa using h5

@[simp] theorem pfFlr_formed (hs : Formed s.mem) : Formed (pfFlr s).mem := by
  unfold pfFlr
  extract_lets vfs s1 s2
  have h1 : Formed s1.mem := forAll_formed _ (fun n u hu => resetFunction_formed u n hu) hs
  simp [s2, h1]

@[simp] theorem aqDisable_formed (fn : Fin 64) (hs : Formed s.mem) : Formed (aqDisable fn s).mem := by
  simp [aqDisable, hs]

@[simp] theorem unlockWipe_formed (hs : Formed s.mem) : Formed (unlockWipe s).mem := by
  unfold unlockWipe
  extract_lets prot s1 s2
  have h1 : Formed s1.mem := forAll_formed _ (fun sid u hu => closeSession_formed u sid none hu) hs
  simp [s2, h1]

/-! ### Stranded sessions and sealed polders -/

@[simp] theorem autoPlace_formed (sid pol : Nat) (hs : Formed s.mem) : Formed (autoPlace sid pol s).mem := by
  unfold autoPlace
  dsimp only
  (repeat' split) <;> simp [hs]

@[simp] theorem strand_formed (sid pol : Nat) (hs : Formed s.mem) : Formed (strand sid pol s).mem := by
  unfold strand
  extract_lets x
  split
  · exact hs
  rename_i s1 s2 s3 _
  have h2 : Formed s2.mem := by simp +contextual [s2, s1, hs]
  simp [s3, h2]

@[simp] theorem strandAll_formed (pol : Nat) (p : Session → Bool) (hs : Formed s.mem) : Formed (strandAll pol p s).mem := by
  simp +contextual [strandAll, hs]

@[simp] theorem sealCore_formed (c : Nat) (hs : Formed s.mem) : Formed (sealCore c s).mem := by simp [sealCore, hs]
@[simp] theorem sealPel_formed (p : Nat) (hs : Formed s.mem) : Formed (sealPel p s).mem := by simp [sealPel, hs]

@[simp] theorem sealMcSession_formed (n sid : Nat) (hs : Formed s.mem) : Formed (sealMcSession n sid s).mem := by
  unfold sealMcSession
  extract_lets x gone hit s1 s2 s3 ends s4
  have h3 : s3.mem = s.mem := by simp [s3, s2, s1]
  have h4 : Formed s4.mem := forAll_formed _ (fun p u hu => endPic_formed u sid p.num stFenced hu) (h3 ▸ hs)
  simp [h4]

@[simp] theorem sealMc_formed (n : Nat) (hs : Formed s.mem) : Formed (sealMc n s).mem := by
  unfold sealMc
  extract_lets s1 s2 prim s3 lost
  have h2 : Formed s2.mem := forAll_formed _ (fun sid u hu => sealMcSession_formed u n sid hu) hs
  have h3 : Formed s3.mem := by simp [s3, h2]
  refine forAll_formed _ (fun sid u hu => ?_) h3
  simp [hu]

@[simp] theorem sealEth_formed (i : Nat) (hs : Formed s.mem) : Formed (sealEth i s).mem := by simp [sealEth, hs]

@[simp] theorem sealBpm_formed (hs : Formed s.mem) : Formed (sealBpm s).mem :=
  forAll_formed _ (fun _ _ hu => forAll_formed _ (fun h v hv => dropRef_formed v 11 h hv) hu) hs

@[simp] theorem sealMgmt_formed (hs : Formed s.mem) : Formed (sealMgmt s).mem := by
  unfold sealMgmt
  extract_lets one s1 dels open' s2
  have hone (sid : Nat) (u : State) (hu : Formed u.mem) : Formed (one sid u).mem := by
    simp only [one, sessMod_mem]
    split <;> simp +contextual [hu]
  have h1 : Formed s1.mem := forAll_formed _ hone hs
  simp [s2, h1]

@[simp] theorem sealEffect_formed (i : Nat) (hs : Formed s.mem) : Formed (sealEffect i s).mem := by simp [sealEffect, hs]

/-! ### Faults and re-admission -/

@[simp] theorem sealPolder_formed (pol src : Nat) (hs : Formed s.mem) : Formed (sealPolder pol src s).mem := by
  simp [sealPolder, hs]

@[simp] theorem fltRaise_formed (was : Nat → Bool) (r : Report) (hs : Formed s.mem) : Formed (fltRaise was r s).mem := by
  simp [fltRaise, hs]

@[simp] theorem fltCycle_formed (l : List Report) (hs : Formed s.mem) : Formed (fltCycle l s).mem :=
  forAll_formed _ (fun r u hu => fltRaise_formed u _ r hu) hs

/-- A polder that opens again: a memory controller comes back with its part of both memories undefined. -/
@[simp] theorem reopen_formed (i : Nat) (hs : Formed s.mem) : Formed (reopen i s).mem := by
  unfold reopen
  extract_lets s1
  have h1 : Formed s1.mem := by simpa [s1] using hs
  clear_value s1
  split
  · exact ⟨Memory.wf_filter _ _ h1.1, tsortedFrom_filter _ _ 0 h1.2.1, h1.2.2⟩
  · (repeat' split) <;> simp +zetaDelta [h1]

/-! ### Power, reset and start-up -/

/-- A reset empties both memories and keeps READY and the step. -/
theorem clearChip_mem : (clearChip s).mem = ([], [], s.boot.ready, s.boot.step) := (rfl)

theorem formed_nil {ready : Bool} {step : Nat} (h : ready = true → step = 8) : Formed ([], [], ready, step) := ⟨rfl, rfl, h⟩

@[simp] theorem clearChip_formed (hs : Formed s.mem) : Formed (clearChip s).mem := formed_nil hs.2.2

/-- READY is down once the held state is cleared. -/
theorem clearHeld_formed (hs : Formed s.mem) : Formed (clearHeld s).mem := ⟨hs.1, hs.2.1, nofun⟩

/-- Start-up stops at a step with READY down. -/
theorem bootStop_formed {s u : State} (step cause : Nat) (hu : u.mem = s.mem) (hr : s.boot.ready = false) (hs : Formed s.mem) :
    Formed (bootStop step cause u).mem := by
  have hdown : u.boot.ready = false := (congrArg (fun m => m.2.2.1) hu).trans hr
  obtain ⟨hdram, hbufm, -⟩ : Formed u.mem := hu ▸ hs
  exact ⟨hdram, hbufm, fun h => nomatch hdown.symm.trans h⟩

/-- READY rises with the last step. -/
theorem bootReady_formed (fails : List (Fin 32)) (hs : Formed s.mem) : Formed (bootReady fails s).mem := by
  unfold bootReady
  extract_lets s1 s2 s3 boot s4 s5 s6
  have h3 : s3.mem = s.mem := by simp [s3, s2, s1]
  have h4 : s4.mem = (s3.dram, s3.bufm, true, 8) := by simp [s4, boot]
  obtain ⟨hdram, hbufm, -⟩ : Formed s3.mem := h3 ▸ hs
  have hup : Formed (s3.dram, s3.bufm, true, 8) := ⟨hdram, hbufm, fun _ => rfl⟩
  simpa [s6, s5, h4] using hup

theorem startUp_formed (train : List TrainRes) (fails : List (Fin 32)) (hr : s.boot.ready = false) (hs : Formed s.mem) :
    Formed (startUp train fails s).mem := by
  unfold startUp
  dsimp only
  split
  · exact bootStop_formed 1 4 (by simp) hr hs
  split
  next h => exact bootStop_formed 2 1 ((mem_of_eq h (loadImage_mem _ _ _ _)).trans (by simp)) hr hs
  next h =>
    have h3 := (mem_of_eq h (loadImage_mem _ _ _ _)).trans (show _ = s.mem by simp)
    split
    next h' => exact bootStop_formed 4 2 ((mem_of_eq h' (loadImage_mem _ _ _ _)).trans (by simp [h3])) hr hs
    next h' =>
      have h4 := (mem_of_eq h' (loadImage_mem _ _ _ _)).trans (show _ = s.mem by simp [h3])
      split
      · exact bootStop_formed 6 3 (by simp [h4]) hr hs
      · exact bootReady_formed _ _ (by simpa [h4] using hs)

/-! ### Device DRAM -/

@[simp] theorem dramServe_formed (r : DReq) (hs : Formed s.mem) : Formed (dramServe r s).mem := by
  unfold dramServe
  extract_lets n c s0
  have h0 : Formed s0.mem := by simp [s0, hs]
  clear_value s0
  split <;> simp +zetaDelta [h0]

@[simp] theorem serveAll_formed (n : Nat) (l : List DReq) (hs : Formed s.mem) : Formed (serveAll n l s).mem := by
  induction n generalizing l s with
  | zero => exact hs
  | succ n ih =>
    unfold serveAll
    split
    · exact hs
    · exact ih _ _ (dramServe_formed s _ hs)

/-! ### Register accesses -/

@[simp] theorem dmaWrite_formed (req : Req) (p : Page) (r : Reg) (k v mask : Nat) (hs : Formed s.mem) :
    Formed (dmaWrite req p r k v mask s).mem := by
  unfold dmaWrite
  split <;> simp [hs]

@[simp] theorem hqWrite_formed (p : Page) (r : Reg) (k v mask : Nat) (hs : Formed s.mem) :
    Formed (hqWrite p r k v mask s).mem := by
  unfold hqWrite
  split <;> simp [hs]

@[simp] theorem blockWrite_formed (req : Req) (rid : W16) (auth : Bool) (p : Page) (r : Reg) (k v mask : Nat)
    (hs : Formed s.mem) : Formed (blockWrite req rid auth p r k v mask s).mem := by
  unfold blockWrite
  split <;> simp [hs]

@[simp] theorem regWrite_formed (req : Req) (rid : W16) (auth : Bool) (p : Page) (r : Reg) (k v mask : Nat)
    (hs : Formed s.mem) : Formed (regWrite req rid auth p r k v mask s).mem := by simp [regWrite, hs]

@[simp] theorem write32_formed (req : Req) (rid : W16) (auth : Bool) (p : Page) (off v : Nat) (hs : Formed s.mem) :
    Formed (write32 req rid auth p off v s).mem := by
  unfold write32
  (repeat' split) <;> simp [hs]

@[simp] theorem write64_formed (req : Req) (rid : W16) (auth : Bool) (p : Page) (off v : Nat) (hs : Formed s.mem) :
    Formed (write64 req rid auth p off v s).mem := by
  unfold write64
  split <;> simp [hs]

end
end Sys2Proof.Machine
end

section
/-! What each command answers: a next state in form, or, for a DRAM request at or above the usable capacity, a fault (R333; that
no other command stops, and the fault's name, are the model's choices, logs 13 and 20). -/

namespace Sys2Proof.Machine
section
variable (s : State)

/-! ### Shared shapes of commands -/

theorem sessCmd_formed {s : State} (slot opc : Nat) (ok : Slot → State → Bool) (sts : List SState)
    {body : Slot → Nat → Session → State → State} (hbody : ∀ c sid x u, Formed u.mem → Formed (body c sid x u).mem)
    (hs : Formed s.mem) : Formed (sessCmd slot opc ok sts body s).mem := by
  refine runCmd_formed _ _ _ (fun c u hu => ?_) hs
  dsimp only
  split
  · simpa using hu
  · exact hbody _ _ _ u hu

theorem opCmd_formed {s : State} (slot opc op top : Nat) (ok : Slot → State → Bool) {body : Slot → State → State}
    (hbody : ∀ c u, Formed u.mem → Formed (body c u).mem) (hs : Formed s.mem) :
    Formed (opCmd slot opc op top ok body s).mem := by
  unfold opCmd
  split
  · exact hs
  split
  · exact runCmd_formed _ _ _ hbody hs
  · exact hs

theorem secReq_formed {s : State} (c : Fin 4) (nvs : Bool) {body : State → State}
    (hbody : ∀ u, Formed u.mem → Formed (body u).mem) (hs : Formed s.mem) : Formed (secReq c nvs body s).mem := by
  unfold secReq
  split
  · exact hs
  · exact hbody _ (by simpa using hs)

/-! ### Queue pairs, fetch and functions -/

@[simp] theorem execDeleteQp_answers (slot : Nat) : Answers s (execDeleteQp slot s) := by
  refine answers_of_mem (runCmd_mem s _ _ _ (fun c u => ?_))
  dsimp only
  (repeat' split) <;> simp

@[simp] theorem execSetCqModeration_answers (slot : Nat) : Answers s (execSetCqModeration slot s) := by
  refine answers_of_mem (runCmd_mem s _ _ _ (fun c u => ?_))
  dsimp only
  (repeat' split) <;> simp

@[simp] theorem execSqFetch_answers (entry : BitVec 512) : Answers s (execSqFetch entry s) := by
  unfold execSqFetch
  split <;> simp

@[simp] theorem execSqEntryReadError_answers : Answers s (execSqEntryReadError s) := by
  unfold execSqEntryReadError
  split <;> simp

@[simp] theorem execCqAggTimeout_answers (fn : Fin 64) (qid : Fin 256) : Answers s (execCqAggTimeout fn qid s) := by
  unfold execCqAggTimeout
  dsimp only
  split <;> simp

@[simp] theorem execServiceTimerExpire_answers (fn : Fin 64) (qid : Fin 256) :
    Answers s (execServiceTimerExpire fn qid s) := by
  unfold execServiceTimerExpire
  dsimp only
  split <;> simp

@[simp] theorem execAqReady_answers (fn : Fin 64) : Answers s (execAqReady fn s) := by
  unfold execAqReady
  dsimp only
  (repeat' split) <;> simp

@[simp] theorem execBufAlloc_answers (slot : Nat) : Answers s (execBufAlloc slot s) := by
  refine answers_next.mpr (runCmd_formed _ _ _ fun c u hu => ?_)
  split
  all_goals
    next h => simp [formed_of_eq h (bpmAlloc_formed u _ hu)]

@[simp] theorem execBufWrite_answers (slot : Nat) (data : Option HostBuf) : Answers s (execBufWrite slot data s) := by
  refine answers_next.mpr (runCmd_formed _ _ _ fun c u hu => ?_)
  dsimp only
  (repeat' split) <;> simp [hu]

@[simp] theorem execBufRead_answers (slot : Nat) (ok : Bool) : Answers s (execBufRead slot ok s) := by
  refine answers_of_mem (runCmd_mem s _ _ _ (fun c u => ?_))
  dsimp only
  (repeat' split) <;> simp

@[simp] theorem execBufRelease_answers (slot : Nat) : Answers s (execBufRelease slot s) := by
  rw [execBufRelease, answers_next]
  split
  · exact id
  refine runCmd_formed _ _ _ fun c u hu => ?_
  split
  all_goals
    next h => simp [formed_of_eq h (bpmUnref_formed u _ _ _ _ hu)]

/-! ### The DMA engine -/

@[simp] theorem execDmaNop_answers (c : Fin 32) (desc : BitVec 256) : Answers s (execDmaNop c desc s) :=
  answers_next.mpr (dmaOp_formed s _ _ _ _ _)

@[simp] theorem execDmaCopy_answers (c : Fin 32) (desc : BitVec 256) (host : List Byte) (err : Option (Nat × Fin 3)) :
    Answers s (execDmaCopy c desc host err s) :=
  answers_next.mpr (dmaOp_formed s _ _ _ _ _)

@[simp] theorem execDmaFill_answers (c : Fin 32) (desc : BitVec 256) (err : Option (Nat × Fin 3)) :
    Answers s (execDmaFill c desc err s) :=
  answers_next.mpr (dmaOp_formed s _ _ _ _ _)

@[simp] theorem execDmaCompare_answers (c : Fin 32) (desc : BitVec 256) (host : List Byte) (err : Option (Nat × Fin 3)) :
    Answers s (execDmaCompare c desc host err s) :=
  answers_next.mpr (dmaOp_formed s _ _ _ _ _)

@[simp] theorem execDmaGather_answers (c : Fin 32) (desc : BitVec 256) (host : List Byte) (err : Option (Nat × Fin 3)) :
    Answers s (execDmaGather c desc host err s) :=
  answers_next.mpr (dmaOp_formed s _ _ _ _ _)

@[simp] theorem execDmaChDisable_answers (req : Req) (c : Fin 32) : Answers s (execDmaChDisable req c s) :=
  answers_next.mpr (dmaDisable_formed s _ _)

@[simp] theorem execDmaDescriptorDone_answers (c : Fin 32) : Answers s (execDmaDescriptorDone c s) := by
  unfold execDmaDescriptorDone
  extract_lets d
  refine answers_next.mpr fun hs => ?_
  split
  · exact hs
  split
  · exact hs
  extract_lets r s1 halts s2 s3 s4 s5 u s6
  have h1 : Formed s1.mem := by simp [s1, hs]
  have h2 : Formed s2.mem := forAll_formed _ (fun h u hu => dropRef_formed u 11 h hu) h1
  have h5 : Formed s5.mem := by simp [s5, s4, s3, h2]
  have h6 : Formed s6.mem := by simp [s6, u, h5]
  simp [h6]

/-! ### Admission, opening and import -/

@[simp] theorem execSessionOpen_answers (slot : Nat) (blk : Option HostBuf) (pol : Bool) :
    Answers s (execSessionOpen slot blk pol s) := by
  refine answers_next.mpr (runCmd_formed _ _ _ fun c u hu => ?_)
  cases blk with
  | none => simp [hu]
  | some b =>
    dsimp only
    split
    · simp [hu]
    split
    · simp [hu]
    split
    · simp [hu]
    next h => simp [admission_formed h hu]

@[simp] theorem execSessionImport_answers (slot : Nat) (img : Option SealedImage) :
    Answers s (execSessionImport slot img s) := by
  refine answers_next.mpr (runCmd_formed _ _ _ fun c u hu => ?_)
  cases img with
  | none => simp [hu]
  | some m =>
    dsimp only
    iterate 4
      split
      · simp [hu]
    split
    · simp [hu]
    next h =>
      have hadm := admission_formed h hu
      split
      · simp [hu]
      next h' => simp [importSlots_formed h' (by simpa using hadm)]

/-! ### Session commands -/

@[simp] theorem execSessionClose_answers (slot : Nat) : Answers s (execSessionClose slot s) := by
  refine answers_next.mpr (runCmd_formed _ _ _ fun c u hu => ?_)
  split <;> simp [hu]

@[simp] theorem execSessionQuiesce_answers (slot : Nat) : Answers s (execSessionQuiesce slot s) :=
  answers_next.mpr (sessCmd_formed _ _ _ _ fun c sid x u hu => by simp [hu])

@[simp] theorem execSessionMove_answers (slot : Nat) : Answers s (execSessionMove slot s) := by
  refine answers_next.mpr (sessCmd_formed _ _ _ _ fun c sid x u hu => ?_)
  dsimp only
  split <;> simp [hu]

@[simp] theorem execSessionExport_answers (slot : Nat) : Answers s (execSessionExport slot s) := by
  refine answers_next.mpr (sessCmd_formed _ _ _ _ fun c sid x u hu => ?_)
  dsimp only
  (repeat' split) <;> simp [hu]

@[simp] theorem execSealDone_answers (sid : Fin 4096) (ok : Bool) : Answers s (execSealDone sid ok s) := by
  unfold execSealDone
  extract_lets x
  refine answers_next.mpr fun hs => ?_
  split
  · exact hs
  split
  · simpa using hs
  rename_i s1 s2 s3 s4 _ _
  have h1 : s1.mem = s.mem := by simp [s1]
  have h2 : Formed s2.mem := forAll_formed _ (fun p u hu => endPic_formed u sid p.num stBadState hu) (h1 ▸ hs)
  have h4 : Formed s4.mem := by simp [s4, s3, h2]
  clear_value s4
  split <;> simp [h4]

@[simp] theorem execSessionSetRc_answers (slot : Nat) (blk : Option HostBuf) :
    Answers s (execSessionSetRc slot blk s) := by
  unfold execSessionSetRc
  split <;> simp

@[simp] theorem execEncodePicture_answers (slot : Nat) : Answers s (execEncodePicture slot s) := by
  refine answers_of_mem (runCmd_mem s _ _ _ (fun c u => ?_))
  dsimp only
  (repeat' split) <;> simp

@[simp] theorem execDecodePicture_answers (slot : Nat) : Answers s (execDecodePicture slot s) := by
  refine answers_of_mem (runCmd_mem s _ _ _ (fun c u => ?_))
  dsimp only
  (repeat' split) <;> simp

@[simp] theorem execSeamTrained_answers (k : Fin 32) : Answers s (execSeamTrained k s) := by
  unfold execSeamTrained
  dsimp only
  (repeat' split) <;> simp

@[simp] theorem execSeamTrainTimeout_answers (k : Fin 32) : Answers s (execSeamTrainTimeout k s) := by
  unfold execSeamTrainTimeout
  dsimp only
  (repeat' split) <;> simp

@[simp] theorem execRebalanceEval_answers : Answers s (execRebalanceEval s) := by
  unfold execRebalanceEval
  dsimp only
  (repeat' split) <;> simp

@[simp] theorem execAutoMove_answers (sid : Fin 4096) : Answers s (execAutoMove sid s) := by
  refine answers_next.mpr fun hs => ?_
  dsimp only
  (repeat' split) <;> simp [hs]

@[simp] theorem execSessionCloseDrained_answers (sid : Fin 4096) : Answers s (execSessionCloseDrained sid s) := by
  refine answers_next.mpr fun hs => ?_
  dsimp only
  (repeat' split) <;> simp [hs]

@[simp] theorem execHoldoffEnd_answers (sid : Fin 4096) : Answers s (execHoldoffEnd sid s) := by
  unfold execHoldoffEnd
  split <;> simp

@[simp] theorem execCcfbSilence_answers (sid : Fin 4096) : Answers s (execCcfbSilence sid s) := by
  unfold execCcfbSilence
  dsimp only
  split <;> simp

@[simp] theorem execRtcpSilence_answers (sid : Fin 4096) : Answers s (execRtcpSilence sid s) := by
  unfold execRtcpSilence
  dsimp only
  split <;> simp

@[simp] theorem execOldKeyLapse_answers (sid : Fin 4096) : Answers s (execOldKeyLapse sid s) := by
  unfold execOldKeyLapse
  split <;> simp

/-! ### Ingest windows -/

@[simp] theorem execIngestWrite_answers (req : Req) (ide : Option Nat) (addr : Nat) (data : List Byte) :
    Answers s (execIngestWrite req ide addr data s) :=
  answers_next.mpr (bar2Write_formed s _ _ _ _)

@[simp] theorem execSrcDb_answers (req : Req) (ide : Option Nat) (sid : Fin 4096) (pic lines : W16) :
    Answers s (execSrcDb req ide sid pic lines s) := by
  refine answers_next.mpr fun hs => ?_
  split <;> simp [hs]

@[simp] theorem execRingCopyDone_answers (sid : Fin 4096) : Answers s (execRingCopyDone sid s) := by
  unfold execRingCopyDone
  extract_lets x
  refine answers_next.mpr fun hs => ?_
  split
  · exact hs
  rename_i s1 s2 _ _ _
  have h2 : Formed s2.mem := by simp [s2, s1, hs]
  simp +contextual [h2]

/-! ### Row scheduling -/

@[simp] theorem execJobPacketWrite_answers (sid : Fin 4096) (low : Bool) (k : Nat) :
    Answers s (execJobPacketWrite sid low k s) := by
  refine answers_next.mpr fun hs => ?_
  (repeat' split) <;> simp [hs]

@[simp] theorem execRowDispatch_answers (core : Fin 64) (ecc : Option Nat) :
    Answers s (execRowDispatch core ecc s) := by
  unfold execRowDispatch
  dsimp only
  (repeat' split) <;> simp

/-! ### The block pipeline -/

@[simp] theorem execBlockStageDone_answers (core : Fin 64) (st : Fin 7) (o : BlockOut) :
    Answers s (execBlockStageDone core st o s) := by
  refine answers_next.mpr fun hs => ?_
  (repeat' split) <;> simp [hs]

/-! ### Packets -/

@[simp] theorem execRowPacketise_answers (sid : Fin 4096) : Answers s (execRowPacketise sid s) := by
  refine answers_next.mpr fun hs => ?_
  (repeat' split) <;> simp [hs]

@[simp] theorem execPacketSend_answers (sub : Fin 8) : Answers s (execPacketSend sub s) := by
  refine answers_next.mpr fun hs => ?_
  (repeat' split) <;> simp [hs]

@[simp] theorem execSrSend_answers (sid : Fin 4096) : Answers s (execSrSend sid s) := by
  unfold execSrSend
  dsimp only
  split <;> simp

/-! ### The time unit -/

@[simp] theorem execPtpDomainLost_answers (d : Fin 2) : Answers s (execPtpDomainLost d s) := by
  unfold execPtpDomainLost
  dsimp only
  split <;> simp

/-! ### Ethernet -/

@[simp] theorem execReceiveFrame_answers (sub : Fin 8) (f : RxFrame) : Answers s (execReceiveFrame sub f s) := by
  unfold execReceiveFrame
  (repeat' split) <;> simp

/-! ### Mailboxes -/

@[simp] theorem execMbxBridgePlace_answers (c : Fin 8) : Answers s (execMbxBridgePlace c s) := by
  unfold execMbxBridgePlace
  dsimp only
  split <;> simp

@[simp] theorem execMbxEndpointTimeout_answers (c : Fin 8) : Answers s (execMbxEndpointTimeout c s) := by
  unfold execMbxEndpointTimeout
  dsimp only
  split <;> simp

@[simp] theorem execSidebandReset_answers (i3c : Bool) : Answers s (execSidebandReset i3c s) := by
  refine answers_of_mem (forAll_mem s _ (fun c u => ?_))
  split <;> simp

/-! ### Gears, voltage and heat -/

@[simp] theorem execGearUp_answers (p : Fin 8) : Answers s (execGearUp p s) := by
  unfold execGearUp
  dsimp only
  split <;> simp

@[simp] theorem execDroopEnd_answers (p : Fin 8) : Answers s (execDroopEnd p s) := by
  unfold execDroopEnd
  split <;> simp

/-! ### The settings store -/

@[simp] theorem execNvsCmdTimeout_answers : Answers s (execNvsCmdTimeout s) := by
  unfold execNvsCmdTimeout
  split <;> simp

@[simp] theorem execNvsWriteDone_answers (readBack : Bool) : Answers s (execNvsWriteDone readBack s) := by
  unfold execNvsWriteDone
  (repeat' split) <;> simp

/-! ### Keys and enrolment -/

@[simp] theorem execVfFlr_answers (vf : Fin 64) : Answers s (execVfFlr vf s) := by
  refine answers_next.mpr fun hs => ?_
  split <;> simp [hs]

@[simp] theorem execPfFlr_answers : Answers s (execPfFlr s) := by
  refine answers_next.mpr fun hs => ?_
  split <;> simp [hs]

@[simp] theorem execAdminQueueDisable_answers (fn : Fin 64) : Answers s (execAdminQueueDisable fn s) :=
  answers_next.mpr (aqDisable_formed s _)

@[simp] theorem execKeyAgreeAgree_answers (slot : Nat) (m1 : Option KeyMsg) (ok : Bool) :
    Answers s (execKeyAgreeAgree slot m1 ok s) := by
  unfold execKeyAgreeAgree
  split <;> simp

@[simp] theorem execKeyAgreeSet_answers (slot : Nat) (k : Option KeySet) : Answers s (execKeyAgreeSet slot k s) := by
  unfold execKeyAgreeSet
  split <;> simp

@[simp] theorem execClusterEnrolCreate_answers (slot : Nat) (t : Option Ticket) :
    Answers s (execClusterEnrolCreate slot t s) := by
  unfold execClusterEnrolCreate
  (repeat' split) <;> simp

@[simp] theorem execClusterEnrolOffer_answers (slot : Nat) (req : Option (EnrolReq × Ticket)) (ok : Bool) :
    Answers s (execClusterEnrolOffer slot req ok s) := by
  refine answers_of_mem (opCmd_mem s _ _ _ _ _ (fun c u => ?_))
  dsimp only
  (repeat' split) <;> simp

@[simp] theorem execClusterEnrolAccept_answers (slot : Nat) (req : Option (Grant × Ticket)) :
    Answers s (execClusterEnrolAccept slot req s) := by
  unfold execClusterEnrolAccept
  (repeat' split) <;> simp

@[simp] theorem execDebugUnlockResponse_answers (slot : Nat) (resp : Option (Bool × Nat)) :
    Answers s (execDebugUnlockResponse slot resp s) := by
  refine answers_next.mpr fun hs => opCmd_formed _ _ _ _ _ (fun c u hu => ?_) hs
  (repeat' split) <;> simp [hu]

/-! ### Requests of SEC -/

@[simp] theorem execLcReturn_answers (c : Fin 4) (sig : Bool) (key serial : Nat) (otp : Bool) :
    Answers s (execLcReturn c sig key serial otp s) := by
  refine answers_next.mpr (secReq_formed _ _ fun u hu => ?_)
  split
  · exact hu
  split
  · simpa using hu
  · simp +contextual [hu]

@[simp] theorem execMbxInRead_answers (c : Fin 8) : Answers s (execMbxInRead c s) := by
  unfold execMbxInRead
  dsimp only
  split <;> simp

@[simp] theorem execFwStage_answers (c : Fin 4) (m : Img) : Answers s (execFwStage c m s) := by
  refine answers_of_mem (secReq_mem s _ _ (fun u => ?_))
  dsimp only
  (repeat' split) <;> simp

/-! ### Microcode -/

@[simp] theorem execNanowordComplete_answers (core : Fin 64) (k : Fin 8) (flag : Bool) (key : Fin 16) (sram ops : Nat)
    (fresh : List Nat) (kind3 : Bool) : Answers s (execNanowordComplete core k flag key sram ops fresh kind3 s) := by
  unfold execNanowordComplete
  dsimp only
  (repeat' split) <;> simp

@[simp] theorem execMcodeLoad_answers (slot : Nat) (img : Option Img) : Answers s (execMcodeLoad slot img s) := by
  unfold execMcodeLoad
  split <;> simp

@[simp] theorem execPatchActivation_answers (core : Fin 64) : Answers s (execPatchActivation core s) := by
  unfold execPatchActivation
  split <;> simp

/-! ### Faults and re-admission -/

@[simp] theorem execFaultRaise_answers (reps : List Report) : Answers s (execFaultRaise reps s) := by
  refine answers_next.mpr fun hs => ?_
  (repeat' split) <;> simp [hs]

@[simp] theorem execSelfTestDone_answers (pol : Fin 95) (fail : Option (Fin 3)) (slow : Bool) (seam : List (Fin 4)) :
    Answers s (execSelfTestDone pol fail slow seam s) := by
  unfold execSelfTestDone
  split <;> simp

@[simp] theorem execQuiescentBoundary_answers (pol : Fin 95) : Answers s (execQuiescentBoundary pol s) := by
  refine answers_next.mpr fun hs => ?_
  dsimp only
  (repeat' split) <;> simp [hs]

@[simp] theorem execInjectionArm_answers (page : Nat) (v : W32) : Answers s (execInjectionArm page v s) := by
  unfold execInjectionArm
  split <;> simp

@[simp] theorem execInjectionDisarm_answers (page : Nat) (v : W32) : Answers s (execInjectionDisarm page v s) := by
  unfold execInjectionDisarm
  split <;> simp

@[simp] theorem execInjectionFire_answers (page : Nat) : Answers s (execInjectionFire page s) := by
  unfold execInjectionFire
  split <;> simp

@[simp] theorem execPageLock_answers (page : Nat) : Answers s (execPageLock page s) := by
  unfold execPageLock
  split <;> simp

/-! ### Power, reset and start-up -/

@[simp] theorem execPowerOn_answers (part : Part) : Answers s (execPowerOn part s) := by
  refine answers_next.mpr fun hs => ?_
  split
  · exact hs
  · exact formed_nil nofun

@[simp] theorem execPerstAssert_answers (ns : Nat) (acts : Bool) : Answers s (execPerstAssert ns acts s) := by
  refine answers_next.mpr fun hs => ?_
  split
  · exact hs
  · exact formed_nil nofun

@[simp] theorem execPowerRemoval_answers : Answers s (execPowerRemoval s) := by
  refine answers_next.mpr fun hs => ?_
  split
  · simpa using hs
  · exact formed_nil nofun

@[simp] theorem execStartUp_answers (straps : Byte) (train : List TrainRes) (fails : List (Fin 32)) :
    Answers s (execStartUp straps train fails s) := by
  refine answers_next.mpr fun hs => ?_
  split
  · exact hs
  · exact startUp_formed _ _ _ rfl (formed_nil nofun)

@[simp] theorem execJtagInstruction_answers (op : JtagOp) (pins : BitVec 66) :
    Answers s (execJtagInstruction op pins s) := by
  unfold execJtagInstruction
  dsimp only
  (repeat' split) <;> simp

/-! ### Buffer requests -/

@[simp] theorem execAlloc_answers (port : Fin 15) (ty : PoolTy) (size : Nat) (cls : Fin 4) (sid : Option (Fin 4096))
    (rid : Option Nat) : Answers s (execAlloc port ty size cls sid rid s) := by
  unfold execAlloc
  split
  next h => exact answers_next.mpr fun hs => by simpa using formed_of_eq h (bpmAlloc_formed s _ hs)

@[simp] theorem execUnref_answers (port : Fin 15) (who : Fin 128) (handle : W32) : Answers s (execUnref port who handle s) := by
  refine answers_next.mpr fun hs => ?_
  split
  · exact hs
  split
  next h => simpa using formed_of_eq h (bpmUnref_formed s _ _ _ _ hs)

@[simp] theorem execAllocRetry_answers (rid : Nat) : Answers s (execAllocRetry rid s) := by
  refine answers_next.mpr fun hs => ?_
  split
  · exact hs
  split
  · exact hs
  split
  next h =>
    have h1 := formed_of_eq h (bpmAlloc_formed s _ hs)
    rw [bpmAnswer_mem]
    split <;> simp [h1]

/-! ### Device DRAM -/

@[simp] theorem execSrExitDone_answers (mc : Fin 16) : Answers s (execSrExitDone mc s) := by
  refine answers_next.mpr fun hs => ?_
  split
  · exact hs
  · exact forAll_formed _ (fun c u hu => serveAll_formed u _ _ hu) hs

/-- A request at or above the usable capacity faults; any other one runs to a next state (R333). -/
theorem execDramRequest_cases (port : Fin 15) (write : Bool) (addr : Fin (2 ^ 39)) (len : Nat) (data : List Byte)
    (cls ecc : Fin 3) :
    Answers s (execDramRequest port write addr len data cls ecc s) ∨
      execDramRequest port write addr len data cls ecc s = .fault .noSuchAddress ∧
        usableCap (mcOf s (devMc addr.val)).density ≤ devOff addr.val + (if write then data.length else len) - 1 := by
  unfold execDramRequest
  extract_lets n m r last
  split
  · simp
  split
  · simp
  split
  next h => exact .inr ⟨rfl, h⟩
  next =>
    refine .inl ?_
    split <;> exact answers_next.mpr fun hs => by simp +zetaDelta [hs]

/-! ### Register accesses -/

@[simp] theorem execRegisterRead_answers (req : Req) (bar2 : Bool) (addr len : Nat) :
    Answers s (execRegisterRead req bar2 addr len s) := by
  unfold execRegisterRead
  dsimp only
  (repeat' split) <;> simp

@[simp] theorem execRegisterWrite_answers (req : Req) (rid : W16) (auth : Bool) (addr len : Nat) (value : W64) :
    Answers s (execRegisterWrite req rid auth addr len value s) := by
  refine answers_next.mpr fun hs => ?_
  (repeat' split) <;> simp [hs]

/-! ### SPDM -/

@[simp] theorem execFinish_answers (p : Fin 3) (id : Nat) (ok : Bool) (peer : Option Peer) :
    Answers s (execFinish p id ok peer s) := by
  refine answers_of_mem (doeAt_mem s _ _ (fun u => ?_))
  dsimp only
  (repeat' split) <;> simp

/-! ### Every command -/

/-- Every command runs to a next state, in form where `s` is, but for a DRAM request at or above the usable capacity. A command
that only composes operations is closed by their equations; one that branches has its own lemma above. -/
theorem exec_cases (c : Instr) :
    Answers s (exec c s) ∨ exec c s = .fault .noSuchAddress ∧
      ∃ port write addr len data cls ecc, c = .dramRequest port write addr len data cls ecc ∧
        usableCap (mcOf s (devMc addr.val)).density ≤ devOff addr.val + (if write then data.length else len) - 1 := by
  cases c
  case dramRequest port write addr len data cls ecc =>
    exact (execDramRequest_cases s port write addr len data cls ecc).imp_right fun h =>
      ⟨h.1, port, write, addr, len, data, cls, ecc, rfl, h.2⟩
  all_goals
    refine .inl ?_
    simp [exec, execVfEnable, execCreateQp, execSetVfQuota, execSetVfQueues, execSqTailDoorbell, execCqHeadDoorbell,
      execAdminQueueEnable, execLinkL1Entry, execLinkL1Exit, execMsixUnmask, execFunctionPowerState, execIdentify,
      execMicSourceRaise, execMicTgtClaim, execMicTgtEoi, execMicSwi, execMicSrcCfg, execMicTargetWake,
      execDmaChEnable, execDmaChResume, execDmaChTail, execShadowCommit, execSessionResume, execSessionQuery,
      execKeyRequest, execRateDemotionEnd, execFrameRelease, execTandemJoin, execTandemSplit, execAgePromotion,
      execSeamBoundaryRecord, execSeamSnapshotRecord, execSeamEntropyHandover, execSeamModelRecord, execDelayReqSend,
      execTimeManual, execTimePtp, execTimeSet, execTimeRate, execEthLinkUp, execEthLinkDown, execEthModeWrite,
      execHostTxTail, execHostTxSend, execMbxInData, execMbxOutData, execHostReset, execMbxPartialTimeout,
      execMctpMessage, execMbxOutWrite, execRefreshInterval, execRtTrafficEnd, execMr4Poll, execDriftCheck,
      execSelfRefreshIdle, execSrPrepDone, execSrEntryDone, execSrWake, execMcTrnWritePattern, execMcTrnReadCompare,
      execMcTrnWriteReadCompare, execMcTrnMrWrite, execMcTrnMrRead, execMcTrnZqCal, execMcTrnWck2ckSample,
      execMcTrnDone, execDerailleurEval, execAvsUpdate, execDroopOnset, execCapRelease, execThermalSample,
      execSupplyExcursion, execCommitGearWrite, execStoreSettings, execNvsCmdArm, execNvsStoreTrainLive,
      execNvsStoreTrainStored, execNvsClear, execPcieLinkChange, execPcieHotReset, execPeerPortFlr, execAttest,
      execClusterEnrolRequest, execClusterEnrolLeave, execDebugUnlockChallenge, execDrbgReseed, execLcProvision,
      execLcActivate, execOpkeyRotate, execVendorRevoke, execBindWrite, execCommitWatchdog, execScrub,
      execScrubPeriod, execFaultReportTimer, execPolderAdmit, execHAutoReadmit, execWarmReset, execRefclkLoss,
      execRootPllRelock, execRef, execReserve, execUnreserve, execBpmHoldExpire, execGetVersion, execGetCapabilities,
      execNegotiateAlgorithms, execGetDigests, execGetCertificate, execChallenge, execGetMeasurements,
      execKeyExchange, execKeyUpdate, execHeartbeat, execEndSession, execKeyProg, execKSetGo, execIdeIntegrityError]

end

/-! ### A cycle of time -/

@[simp] theorem micHeader_mem (s : State) (n : Nat) (on : Bool) : (micHeader n on s).mem = s.mem := by simp [micHeader]
@[simp] theorem micSample_mem (s : State) : (micSample s).mem = s.mem := by simp [micSample]
@[simp] theorem tick_mem (s : State) : (tick s).mem = s.mem := by simp [tick]

/-- Settles O3: a step is one cycle of time, which leaves the memories alone, or a command, whose operations keep their form. -/
theorem everyStepKeepsInvariant : Obligations.EveryStepKeepsInvariant := by
  intro s t hs ht
  rw [inv_iff_formed] at hs ⊢
  unfold step at ht
  split at ht
  · rw [← next_inj ht, tick_mem]
    exact hs
  next c l _ =>
    rcases exec_cases { s with pending := l } c with ⟨u, hu, hkeep⟩ | ⟨hfault, -⟩
    · rw [hu] at ht
      exact next_inj ht ▸ hkeep hs
    · rw [hfault] at ht
      cases ht

/-- Settles O8: of the two outcomes of a command one is a next state, the other the fault of a DRAM request. -/
theorem onlyAccessBeyondMemoryStops : Obligations.OnlyAccessBeyondMemoryStops := by
  intro c s
  rcases exec_cases s c with ⟨t, ht, -⟩ | ⟨hfault, haccess⟩
  · simp [ht]
  · rw [hfault]
    exact ⟨nofun, fun f hf => ⟨(Host.Outcome.fault.inj hf).symm, haccess⟩⟩

/-- Settles O4: after power-on reset both memories are empty and READY is down. -/
theorem resetMeetsInvariant : Obligations.ResetMeetsInvariant :=
  (inv_iff_formed State.reset).mpr (formed_nil nofun)

end Sys2Proof.Machine
end

section
/-! Memory controllers: what their channels, their queues and a request served leave, and the bytes of device DRAM (O47). -/

namespace Sys2Proof.Machine

/-! ### A channel of a controller -/

section
variable (n c : Nat) (g : McCh → McCh) (s : State)

theorem mcOf_chMod_same : mcOf (chMod n c g s) n = { mcOf s n with ch := tmod {} (mcOf s n).ch c g } := mcOf_mcMod_same _ _ _
theorem mcOf_chMod_other {j : Nat} (h : j ≠ n) : mcOf (chMod n c g s) j = mcOf s j :=
  (mcOf_mcMod _ _ _ _).trans (if_neg h)
theorem chan_chMod_same : (mcOf (chMod n c g s) n).chan c = g ((mcOf s n).chan c) := by
  rw [mcOf_chMod_same]
  exact tget_tmod_same _ _ _ _
theorem chan_chMod_other {d : Nat} (h : d ≠ c) : (mcOf (chMod n c g s) n).chan d = (mcOf s n).chan d := by
  rw [mcOf_chMod_same]
  exact tget_tmod_other _ _ _ _ _ h
@[simp] theorem st_chMod (j : Nat) : (mcOf (chMod n c g s) j).st = (mcOf s j).st := by
  by_cases h : j = n
  · rw [h, mcOf_chMod_same]
  · rw [mcOf_chMod_other n c g s h]
@[simp] theorem delays_chMod (j : Nat) : (mcOf (chMod n c g s) j).delays = (mcOf s j).delays := by
  by_cases h : j = n
  · rw [h, mcOf_chMod_same]
  · rw [mcOf_chMod_other n c g s h]
end

/-! ### What changes controllers alone -/

/-- `t` differs from `s` in its memory controllers at most. -/
def McsOnly (s t : State) : Prop := { t with mcs := s.mcs } = s

namespace McsOnly
variable {s t : State} (h : McsOnly s t)
include h

theorem eq : { t with mcs := s.mcs } = s := h
theorem regs : t.regs = s.regs := (congrArg State.regs h.eq :)
theorem dram : t.dram = s.dram := (congrArg State.dram h.eq :)
theorem free : t.free = s.free := (congrArg State.free h.eq :)
theorem flt : t.flt = s.flt := (congrArg State.flt h.eq :)
theorem out : t.out = s.out := (congrArg State.out h.eq :)
theorem trans {u : State} (h' : McsOnly t u) : McsOnly s u := by
  have hu : { u with mcs := s.mcs } = { t with mcs := s.mcs } := (congrArg (fun v : State => { v with mcs := s.mcs }) h'.eq :)
  exact hu.trans h
end McsOnly

theorem mcMod_mcsOnly (n : Nat) (g : Mc → Mc) (s : State) : McsOnly s (mcMod n g s) := rfl

/-! ### The check of a line read -/

section
variable (n : Nat) (r : DReq) (s : State)

/-- An error is counted; the first one is also written to the block of the first error, and the page notes it. -/
theorem eccNote_cases (ue addr : Nat) : eccNote n ue addr s = rcnt (aMc n (0xE0 + 4 * ue)) 0 32 1 s ∨
    ∃ v, eccNote n ue addr s = pgBlock ⟨.mc, n⟩ (rset (aMc n 0xE8) v (rcnt (aMc n (0xE0 + 4 * ue)) 0 32 1 s)) := by
  by_cases h : rfld (rcnt (aMc n (0xE0 + 4 * ue)) 0 32 1 s) (aMc n 0xE8) 63 1 = 1
  · exact .inl (if_pos h)
  · exact .inr ⟨_, if_neg h⟩

/-- The count of an error stands in its own register; the first error's block and the page's own word lie elsewhere. -/
theorem rfld_eccNote (addr : Nat) {ue : Nat} (h : ue < 2) :
    rfld (eccNote n ue addr s) (aMc n (0xE0 + 4 * ue)) 0 32 = satAdd 32 (rfld s (aMc n (0xE0 + 4 * ue)) 0 32) 1 := by
  rcases eccNote_cases n s ue addr with hnote | ⟨v, hnote⟩
  · rw [hnote, rfld_rcnt_same]
  · rw [hnote, rfld, rget_pgBlock_other _ _ _ (by simp only [aMc, Page.at, Page.base]; omega),
      rget_rset_other _ _ _ _ (by simp only [aMc]; omega), ← rfld, rfld_rcnt_same]

/-- A noted error leaves device DRAM, what goes out and the fault reports as they are. -/
theorem eccNote_keeps (ue addr : Nat) : (eccNote n ue addr s).dram = s.dram ∧ (eccNote n ue addr s).free = s.free ∧
    (eccNote n ue addr s).out = s.out ∧ (eccNote n ue addr s).flt = s.flt := by
  rcases eccNote_cases n s ue addr with hnote | ⟨v, hnote⟩ <;> simp [hnote]

theorem lineRead_clean (h : r.ecc = 0) : lineRead n r s = s := by simp [lineRead, h]

/-- A line with a corrected error (`ue` 0) or an uncorrectable one (`ue` 1): the error is counted and raised. -/
theorem lineRead_error {ue : Nat} (hue : ue < 2) (h : r.ecc = ue + 1) :
    rfld (lineRead n r s) (aMc n (0xE0 + 4 * ue)) 0 32 = satAdd 32 (rfld s (aMc n (0xE0 + 4 * ue)) 0 32) 1 ∧
      (lineRead n r s).flt.reports.length = s.flt.reports.length + 1 := by
  have hline : ∃ rep, lineRead n r s = raiseRep rep (eccNote n ue r.addr s) := by
    obtain rfl | rfl : ue = 0 ∨ ue = 1 := by omega
    · exact ⟨_, by rw [lineRead, if_pos h]; rfl⟩
    · exact ⟨_, by rw [lineRead, if_neg (by omega), if_pos h]; rfl⟩
  obtain ⟨rep, hrep⟩ := hline
  obtain ⟨-, -, -, hflt⟩ := eccNote_keeps n s ue r.addr
  rw [hrep]
  refine ⟨rfld_eccNote n s r.addr hue, ?_⟩
  rw [← hflt]
  exact List.length_append

/-- The check of a line read leaves device DRAM and what goes out as they are. -/
theorem lineRead_keeps : (lineRead n r s).dram = s.dram ∧ (lineRead n r s).free = s.free ∧ (lineRead n r s).out = s.out := by
  have hnote (ue : Nat) (rep : Report) : (raiseRep rep (eccNote n ue r.addr s)).dram = s.dram ∧
      (raiseRep rep (eccNote n ue r.addr s)).free = s.free ∧ (raiseRep rep (eccNote n ue r.addr s)).out = s.out := by
    obtain ⟨hdram, hfree, hout, -⟩ := eccNote_keeps n s ue r.addr
    exact ⟨hdram, hfree, hout⟩
  by_cases h₁ : r.ecc = 1
  · rw [lineRead, if_pos h₁]
    exact hnote 0 _
  by_cases h₂ : r.ecc = 2
  · rw [lineRead, if_neg h₁, if_pos h₂]
    exact hnote 1 _
  · rw [lineRead, if_neg h₁, if_neg h₂]
    exact ⟨rfl, rfl, rfl⟩
end

/-! ### The bytes of device DRAM -/

theorem dramByte_congr {s t : State} (hd : s.dram = t.dram) (hf : s.free = t.free) (a : Nat) : dramByte s a = dramByte t a := by
  unfold dramByte
  rw [hd, hf]

theorem dramBytes_congr {s t : State} (hd : s.dram = t.dram) (hf : s.free = t.free) :
    ∀ (len a : Nat), dramBytes s a len = dramBytes t a len
  | 0, _ => rfl
  | len + 1, a => by rw [dramBytes, dramBytes, dramByte_congr hd hf, dramBytes_congr hd hf len]

/-- A byte written reads as the data; every other byte is as it was. -/
theorem dramByte_writes {s t : State} {addr : Nat} {data : List Byte} (hd : t.dram = Memory.writes s.dram addr data)
    (hf : t.free = s.free) (a : Nat) :
    dramByte t a = if addr ≤ a ∧ a < addr + data.length then data.getD (a - addr) 0#8 else dramByte s a := by
  unfold dramByte
  rw [hd, hf, Memory.find_writes]
  split_ifs with h
  · have hlt : a - addr < data.length := by omega
    rw [List.getElem?_eq_getElem hlt, List.getD_eq_getElem _ _ hlt]
  · rfl

/-! ### A request served -/

/-- What serving a request leaves of its class: the channel notes when it last served a real-time one. -/
def serveMark (r : DReq) (s : State) : State :=
  if r.cls = 0 then chMod (devMc r.addr) (devChan (devOff r.addr)) (fun h => { h with lastRt := some s.now }) s else s

section
variable (r : DReq) (s : State)

theorem serveMark_mcsOnly : McsOnly s (serveMark r s) := by
  unfold serveMark
  split <;> rfl

@[simp] theorem st_serveMark (j : Nat) : (mcOf (serveMark r s) j).st = (mcOf s j).st := by
  unfold serveMark
  split
  · exact st_chMod ..
  · rfl

theorem dramServe_write (hw : r.write = true) (he : r.ecc = 0) :
    dramServe r s = emit (.dramEnd r.addr false)
      { serveMark r s with dram := Memory.writes (serveMark r s).dram r.addr r.data } := by
  unfold dramServe
  simp [hw, he, lineRead_clean, serveMark]

theorem dramServe_read (hw : r.write = false) (he : r.ecc ≠ 2) :
    dramServe r s = emit (.dramRd r.addr (dramBytes s r.addr r.len) false) (lineRead (devMc r.addr) r (serveMark r s)) := by
  have hmark := serveMark_mcsOnly r s
  obtain ⟨hdram, hfree, -⟩ := lineRead_keeps (devMc r.addr) r (serveMark r s)
  have hbytes : dramBytes (lineRead (devMc r.addr) r (serveMark r s)) r.addr r.len = dramBytes s r.addr r.len :=
    dramBytes_congr (hdram.trans hmark.dram) (hfree.trans hmark.free) _ _
  rw [← hbytes]
  unfold dramServe
  simp [hw, he, serveMark]

theorem dramServe_poisoned (hw : r.write = false) (he : r.ecc = 2) :
    dramServe r s = emit (.dramRd r.addr [] true) (lineRead (devMc r.addr) r (serveMark r s)) := by
  unfold dramServe
  simp [hw, he, serveMark]
end

/-- A write served without an error: DRAM takes the bytes, and only the controllers change besides. -/
theorem dramServe_write_frame (r : DReq) (s : State) (hw : r.write = true) (he : r.ecc = 0) :
    (dramServe r s).dram = Memory.writes s.dram r.addr r.data ∧ (dramServe r s).out = .dramEnd r.addr false :: s.out ∧
      { dramServe r s with dram := s.dram, mcs := s.mcs, out := s.out } = s := by
  have hmark := serveMark_mcsOnly r s
  rw [dramServe_write r s hw he]
  exact ⟨congrArg (Memory.writes · r.addr r.data) hmark.dram,
    congrArg (Out.dramEnd r.addr false :: ·) hmark.out, congrArg (fun u => { u with dram := s.dram, out := s.out }) hmark⟩

/-- A read served without an error: only the controllers change. -/
theorem dramServe_read_frame (r : DReq) (s : State) (hw : r.write = false) (he : r.ecc = 0) :
    (dramServe r s).out = .dramRd r.addr (dramBytes s r.addr r.len) false :: s.out ∧
      { dramServe r s with mcs := s.mcs, out := s.out } = s := by
  have hmark := serveMark_mcsOnly r s
  rw [dramServe_read r s hw (by omega), lineRead_clean _ _ _ he]
  exact ⟨congrArg (Out.dramRd r.addr _ false :: ·) hmark.out, congrArg (fun u => { u with out := s.out }) hmark⟩

theorem st_dramServe_clean (r : DReq) (s : State) (he : r.ecc = 0) (j : Nat) : (mcOf (dramServe r s) j).st = (mcOf s j).st := by
  cases hw : r.write with
  | true => rw [dramServe_write r s hw he]; exact st_serveMark r s j
  | false => rw [dramServe_read r s hw (by omega), lineRead_clean _ _ _ he]; exact st_serveMark r s j

/-- A read served whose line has an error: the answer goes out, and the error is counted and raised. -/
theorem dramServe_read_error (r : DReq) (s : State) (hw : r.write = false) {ue : Nat} (hue : ue < 2) (he : r.ecc = ue + 1) :
    (dramServe r s).out = (if ue = 1 then .dramRd r.addr [] true else .dramRd r.addr (dramBytes s r.addr r.len) false) :: s.out ∧
      rfld (dramServe r s) (aMc (devMc r.addr) (0xE0 + 4 * ue)) 0 32 =
        satAdd 32 (rfld s (aMc (devMc r.addr) (0xE0 + 4 * ue)) 0 32) 1 ∧
      (dramServe r s).flt.reports.length = s.flt.reports.length + 1 ∧ (dramServe r s).dram = s.dram := by
  have hserve : dramServe r s = emit (if ue = 1 then .dramRd r.addr [] true else .dramRd r.addr (dramBytes s r.addr r.len) false)
      (lineRead (devMc r.addr) r (serveMark r s)) := by
    split_ifs with h
    · exact dramServe_poisoned r s hw (by omega)
    · exact dramServe_read r s hw (by omega)
  obtain ⟨hcount, hraised⟩ := lineRead_error (devMc r.addr) r (serveMark r s) hue he
  have hmark := serveMark_mcsOnly r s
  obtain ⟨hdram, -, hout⟩ := lineRead_keeps (devMc r.addr) r (serveMark r s)
  rw [hserve]
  refine ⟨congrArg (_ :: ·) ?_, hcount.trans ?_, hraised.trans ?_, ?_⟩
  · exact hout.trans hmark.out
  · rw [rfld, rfld, rget_congr hmark.regs]
  · rw [hmark.flt]
  · exact hdram.trans hmark.dram

/-! ### A request that arrives -/

section
variable (port : Fin 15) (write : Bool) (addr : Fin (2 ^ 39)) (len : Nat) (data : List Byte) (cls ecc : Fin 3) (s : State)

/-- The request as the controller keeps it. -/
def dramReqOf : DReq := { write := write, addr := addr, len := len, data := data, cls := cls, port := port, ecc := ecc }

/-- The polder of a controller that is not open answers fenced-abort. -/
theorem execDramRequest_fenced (hopen : polOpen s (72 + devMc addr) = false) :
    exec (.dramRequest port write addr len data cls ecc) s = .next (emit (.dramEnd addr true) s) := by
  simp [exec, execDramRequest, hopen]

variable (hopen : polOpen s (72 + devMc addr) = true) (hlive : isFatal s = false)
  (hserv : (mcOf s (devMc addr)).inService = true)
  (hcap : devOff addr + (if write then data.length else len) - 1 < usableCap (mcOf s (devMc addr)).density)
include hopen hlive hserv hcap

/-- ACTIVE serves the request; SR_PREP returns to ACTIVE and serves it. Before it is served only the controller changes. -/
theorem execDramRequest_serves (hst : (mcOf s (devMc addr)).st = .active ∨ (mcOf s (devMc addr)).st = .srPrep) :
    ∃ u, exec (.dramRequest port write addr len data cls ecc) s =
        .next (dramServe (dramReqOf port write addr len data cls ecc) u) ∧
      (mcOf u (devMc addr)).st = .active ∧ McsOnly s u := by
  rcases hst with hst | hst
  · refine ⟨mcMod (devMc addr) (fun m => { m with lastReq := s.now }) s, ?_, ?_, rfl⟩
    · simp [exec, execDramRequest, hopen, hlive, hserv, Nat.not_le.mpr hcap, hst, dramReqOf]
    · rw [mcOf_mcMod_same, hst]
  · refine ⟨mcMod (devMc addr) (fun m => { m with st := .active, since := s.now })
      (mcMod (devMc addr) (fun m => { m with lastReq := s.now }) s), ?_, ?_, rfl⟩
    · simp [exec, execDramRequest, hopen, hlive, hserv, Nat.not_le.mpr hcap, hst, dramReqOf]
    · rw [mcOf_mcMod_same]

/-- A write without an error: its bytes are written, and besides them only controllers change. -/
theorem execDramRequest_writes (hw : write = true) (he : ecc = 0)
    (hst : (mcOf s (devMc addr)).st = .active ∨ (mcOf s (devMc addr)).st = .srPrep) :
    ∃ t, exec (.dramRequest port write addr len data cls ecc) s = .next t ∧ (mcOf t (devMc addr)).st = .active ∧
      (∀ a, dramByte t a = if addr.val ≤ a ∧ a < addr.val + data.length then data.getD (a - addr.val) 0#8 else dramByte s a) ∧
      t.out = .dramEnd addr false :: s.out ∧ { t with dram := s.dram, mcs := s.mcs, out := s.out } = s := by
  obtain ⟨u, hexec, hactive, hu⟩ := execDramRequest_serves port write addr len data cls ecc s hopen hlive hserv hcap hst
  have he₀ : (dramReqOf port write addr len data cls ecc).ecc = 0 := congrArg Fin.val he
  obtain ⟨hdram, hout, hframe⟩ := dramServe_write_frame (dramReqOf port write addr len data cls ecc) u hw he₀
  refine ⟨_, hexec, (st_dramServe_clean _ u he₀ _).trans hactive, dramByte_writes ?_ ?_, ?_, ?_⟩
  · rw [hdram, hu.dram]; rfl
  · exact (congrArg State.free hframe :).trans hu.free
  · rw [hout, ← hu.out]; rfl
  · exact (congrArg (fun t : State => { t with dram := s.dram, mcs := s.mcs, out := s.out }) hframe).trans
      (congrArg (fun t : State => { t with dram := s.dram, out := s.out }) hu)

/-- A read without an error answers the bytes, and only controllers change. -/
theorem execDramRequest_reads (hw : write = false) (he : ecc = 0)
    (hst : (mcOf s (devMc addr)).st = .active ∨ (mcOf s (devMc addr)).st = .srPrep) :
    ∃ t, exec (.dramRequest port write addr len data cls ecc) s = .next t ∧ (mcOf t (devMc addr)).st = .active ∧
      t.out = .dramRd addr (dramBytes s addr len) false :: s.out ∧ { t with mcs := s.mcs, out := s.out } = s := by
  obtain ⟨u, hexec, hactive, hu⟩ := execDramRequest_serves port write addr len data cls ecc s hopen hlive hserv hcap hst
  have he₀ : (dramReqOf port write addr len data cls ecc).ecc = 0 := congrArg Fin.val he
  obtain ⟨hout, hframe⟩ := dramServe_read_frame (dramReqOf port write addr len data cls ecc) u hw he₀
  refine ⟨_, hexec, (st_dramServe_clean _ u he₀ _).trans hactive, ?_, ?_⟩
  · rw [hout, ← hu.out, ← dramBytes_congr hu.dram hu.free]; rfl
  · exact (congrArg (fun t : State => { t with mcs := s.mcs, out := s.out }) hframe).trans
      (congrArg (fun t : State => { t with out := s.out }) hu)

/-- A read of a line with a corrected error (`ue` 0) answers the bytes, with an uncorrectable one (`ue` 1) none. -/
theorem execDramRequest_reads_error (hw : write = false) {ue : Nat} (hue : ue < 2) (he : ecc.val = ue + 1)
    (hst : (mcOf s (devMc addr)).st = .active ∨ (mcOf s (devMc addr)).st = .srPrep) :
    ∃ t, exec (.dramRequest port write addr len data cls ecc) s = .next t ∧
      t.out = (if ue = 1 then .dramRd addr [] true else .dramRd addr (dramBytes s addr len) false) :: s.out ∧
      rfld t (aMc (devMc addr) (0xE0 + 4 * ue)) 0 32 = satAdd 32 (rfld s (aMc (devMc addr) (0xE0 + 4 * ue)) 0 32) 1 ∧
      t.flt.reports.length = s.flt.reports.length + 1 ∧ t.dram = s.dram := by
  obtain ⟨u, hexec, -, hu⟩ := execDramRequest_serves port write addr len data cls ecc s hopen hlive hserv hcap hst
  obtain ⟨hout, hcount, hraised, hdram⟩ := dramServe_read_error (dramReqOf port write addr len data cls ecc) u hw hue he
  refine ⟨_, hexec, ?_, ?_, ?_, hdram.trans hu.dram⟩
  · rw [hout, ← hu.out, ← dramBytes_congr hu.dram hu.free]; rfl
  · rw [← show rfld u (aMc (devMc addr) (0xE0 + 4 * ue)) 0 32 = rfld s (aMc (devMc addr) (0xE0 + 4 * ue)) 0 32 by
      rw [rfld, rfld, rget_congr hu.regs]]
    exact hcount
  · rw [hraised, ← hu.flt]

/-- From SR_ENTRY to SR_EXIT the request waits. -/
theorem execDramRequest_waits
    (hst : (mcOf s (devMc addr)).st = .srEntry ∨ (mcOf s (devMc addr)).st = .selfRefresh ∨ (mcOf s (devMc addr)).st = .srExit) :
    exec (.dramRequest port write addr len data cls ecc) s =
      .next (dramWait (dramReqOf port write addr len data cls ecc) (mcMod (devMc addr) (fun m => { m with lastReq := s.now }) s)) := by
  rcases hst with hst | hst | hst <;>
    simp [exec, execDramRequest, hopen, hlive, hserv, Nat.not_le.mpr hcap, hst, dramReqOf]
end

/-- A read that waits goes to the end of its channel's reads. -/
theorem reads_dramWait (r : DReq) (s : State) (hr : r.write = false)
    (hroom : ((mcOf s (devMc r.addr)).chan (devChan (devOff r.addr))).reads.length < 32) :
    ((mcOf (dramWait r s) (devMc r.addr)).chan (devChan (devOff r.addr))).reads.map (·.addr) =
      ((mcOf s (devMc r.addr)).chan (devChan (devOff r.addr))).reads.map (·.addr) ++ [r.addr] := by
  unfold dramWait
  rw [chan_chMod_same]
  simp [hr, hroom]

/-- Settles O47: a write is `Memory.writes` at the request's address; a read answers the bytes held, or none when poisoned. -/
theorem dramReadsGiveWhatWasWritten : Obligations.DramReadsGiveWhatWasWritten := by
  refine ⟨?_, ?_, execDramRequest_fenced, ?_⟩
  · intro port addr len data cls s hopen hlive hserv hst hcap
    exact execDramRequest_writes port true addr len data cls 0 s hopen hlive hserv hcap rfl rfl hst
  · intro port addr len data cls s hopen hlive hserv hst hcap
    have herror (ecc : Fin 3) {ue : Nat} (hue : ue < 2) (he : ecc.val = ue + 1) :=
      execDramRequest_reads_error port false addr len data cls ecc s hopen hlive hserv hcap rfl hue he hst
    exact ⟨execDramRequest_reads port false addr len data cls 0 s hopen hlive hserv hcap rfl rfl hst,
      herror 1 (ue := 0) (by decide) rfl, herror 2 (ue := 1) (by decide) rfl⟩
  · intro port addr len cls ecc s hopen hlive hserv hst hcap hroom
    refine ⟨_, execDramRequest_waits port false addr len [] cls ecc s hopen hlive hserv hcap hst, ?_, rfl⟩
    have hchan : (mcOf (mcMod (devMc addr) (fun m => { m with lastReq := s.now }) s) (devMc addr)).chan (devChan (devOff addr)) =
        (mcOf s (devMc addr)).chan (devChan (devOff addr)) := by rw [mcOf_mcMod_same]; rfl
    rw [← hchan] at hroom ⊢
    exact reads_dramWait (dramReqOf port false addr len [] cls ecc) _ rfl hroom

end Sys2Proof.Machine
end

section
/-! Refresh and self-refresh of a memory controller: the refreshes a channel owes, and the requests that wait (O48). -/

namespace Sys2Proof.Machine

/-! ### The refreshes a channel owes -/

/-- From `s` to `t` channel `c` of controller `n` issued `k` refreshes: besides that channel and what went out nothing changed. -/
structure Issued (n c k : Nat) (s t : State) : Prop where
  owed : ((mcOf t n).chan c).owed = ((mcOf s n).chan c).owed - k
  otherChan : ∀ d, d ≠ c → (mcOf t n).chan d = (mcOf s n).chan d
  otherMc : ∀ j, j ≠ n → mcOf t j = mcOf s j
  outLength : t.out.length = s.out.length + k
  frame : { t with mcs := s.mcs, out := s.out } = s

theorem refIssue_issued (n c : Nat) (s : State) : Issued n c 1 s (refIssue n c s) where
  owed := congrArg McCh.owed (chan_chMod_same n c _ s)
  otherChan _ h := chan_chMod_other n c _ s h
  otherMc _ h := mcOf_chMod_other n c _ s h
  outLength := rfl
  frame := rfl

theorem refIssues_issued (n c : Nat) : ∀ (k : Nat) (s : State), Issued n c k s (refIssues n c k s)
  | 0, _ => ⟨rfl, fun _ _ => rfl, fun _ _ => rfl, rfl, rfl⟩
  | k + 1, s => by
    have h₁ := refIssue_issued n c s
    have h₂ := refIssues_issued n c k (refIssue n c s)
    rw [refIssues]
    refine ⟨?_, fun d hd => (h₂.otherChan d hd).trans (h₁.otherChan d hd), fun j hj => (h₂.otherMc j hj).trans (h₁.otherMc j hj),
      ?_, (congrArg (fun u : State => { u with mcs := s.mcs, out := s.out }) h₂.frame).trans h₁.frame⟩
    · rw [h₂.owed, h₁.owed]; omega
    · rw [h₂.outLength, h₁.outLength]; omega

/-- Channel `c` issues every refresh it owes. -/
def issueOwed (n c : Nat) (s : State) : State := refIssues n c ((mcOf s n).chan c).owed s

/-- From `s` to `t` the channels of `l` issued every refresh they owed. -/
structure Drained (n : Nat) (l : List Nat) (s t : State) : Prop where
  owed : ∀ c ∈ l, ((mcOf t n).chan c).owed = 0
  otherChan : ∀ d, d ∉ l → (mcOf t n).chan d = (mcOf s n).chan d
  otherMc : ∀ j, j ≠ n → mcOf t j = mcOf s j
  outLength : t.out.length = s.out.length + (l.map (fun c => ((mcOf s n).chan c).owed)).sum
  frame : { t with mcs := s.mcs, out := s.out } = s

theorem forAll_issueOwed_drained (n : Nat) : ∀ (l : List Nat), l.Nodup → ∀ s, Drained n l s (forAll l (issueOwed n) s)
  | [], _, _ => ⟨nofun, fun _ _ => rfl, fun _ _ => rfl, rfl, rfl⟩
  | c :: l, hl, s => by
    obtain ⟨hc, hl⟩ := List.nodup_cons.mp hl
    have h₁ : Issued n c _ s (issueOwed n c s) := refIssues_issued n c _ s
    have h₂ := forAll_issueOwed_drained n l hl (issueOwed n c s)
    have hrest : l.map (fun d => ((mcOf (issueOwed n c s) n).chan d).owed) = l.map (fun d => ((mcOf s n).chan d).owed) :=
      List.map_congr_left fun d hd => by rw [h₁.otherChan d fun h => hc (h ▸ hd)]
    change Drained n (c :: l) s (forAll l (issueOwed n) (issueOwed n c s))
    refine ⟨?_, ?_, fun j hj => (h₂.otherMc j hj).trans (h₁.otherMc j hj), ?_,
      (congrArg (fun u : State => { u with mcs := s.mcs, out := s.out }) h₂.frame).trans h₁.frame⟩
    · rintro d (_ | ⟨_, hd⟩)
      · rw [h₂.otherChan c hc, h₁.owed, Nat.sub_self]
      · exact h₂.owed d hd
    · intro d hd
      obtain ⟨hdc, hdl⟩ := not_or.mp (List.mem_cons.not.mp hd)
      exact (h₂.otherChan d hdl).trans (h₁.otherChan d hdc)
    · rw [h₂.outLength, h₁.outLength, hrest, List.map_cons, List.sum_cons, Nat.add_assoc]

/-! ### The requests that wait -/

theorem tget_map {α : Type} (d : α) (f : α → α) (hd : f d = d) (i : Nat) :
    ∀ t : Tab α, tget d (t.map (fun e => (e.1, f e.2))) i = f (tget d t i)
  | [] => hd.symm
  | (k, v) :: t => by
    simp only [List.map_cons, tget, tget_map d f hd i t]
    split <;> rfl

/-- A fold that keeps what it holds or takes the next element ends with what it began with or an element. -/
theorem foldl_pick {α : Type} {f : Option α → α → Option α} (hf : ∀ b x y, f b x = some y → y = x ∨ b = some y) {r : α} :
    ∀ (l : List α) (b : Option α), l.foldl f b = some r → r ∈ l ∨ b = some r
  | [], _, h => .inr h
  | x :: l, b, h => by
    rcases foldl_pick hf l (f b x) h with h | h
    · exact .inl (.tail x h)
    · exact (hf b x r h).imp (fun (e : r = x) => e ▸ .head l) id

/-- The request served next is one of those that wait. -/
theorem nextReq_mem {now : Nat} {l : List DReq} {r : DReq} (h : nextReq now l = some r) : r ∈ l := by
  refine (foldl_pick ?_ _ none h).elim List.mem_of_mem_filter nofun
  intro b x y hy
  split at hy
  · exact .inl (Option.some.inj hy).symm
  · split at hy
    · exact .inl (Option.some.inj hy).symm
    · exact .inr hy

/-- From `s` to `t` controller `n` served requests: no queue and no other controller changed, and nothing of the sessions and
the buffers. -/
structure Served (n : Nat) (s t : State) : Prop where
  st : (mcOf t n).st = (mcOf s n).st
  reads : ∀ c, ((mcOf t n).chan c).reads = ((mcOf s n).chan c).reads
  writes : ∀ c, ((mcOf t n).chan c).writes = ((mcOf s n).chan c).writes
  otherMc : ∀ j, j ≠ n → mcOf t j = mcOf s j
  sess : t.sess = s.sess
  bpm : t.bpm = s.bpm
  bufm : t.bufm = s.bufm

namespace Served

theorem refl (n : Nat) (s : State) : Served n s s := ⟨rfl, fun _ => rfl, fun _ => rfl, fun _ _ => rfl, rfl, rfl, rfl⟩

theorem trans {n : Nat} {s t u : State} (h : Served n s t) (h' : Served n t u) : Served n s u where
  st := h'.st.trans h.st
  reads c := (h'.reads c).trans (h.reads c)
  writes c := (h'.writes c).trans (h.writes c)
  otherMc j hj := (h'.otherMc j hj).trans (h.otherMc j hj)
  sess := h'.sess.trans h.sess
  bpm := h'.bpm.trans h.bpm
  bufm := h'.bufm.trans h.bufm

/-- A change that touches none of the parts. -/
theorem of_eq {n : Nat} {s t : State} (hmcs : t.mcs = s.mcs) (hsess : t.sess = s.sess) (hbpm : t.bpm = s.bpm)
    (hbufm : t.bufm = s.bufm) : Served n s t := by
  have hmc (j : Nat) : mcOf t j = mcOf s j := mcOf_congr hmcs j
  exact ⟨by rw [hmc], fun _ => by rw [hmc], fun _ => by rw [hmc], fun j _ => hmc j, hsess, hbpm, hbufm⟩

end Served

theorem serveMark_served (r : DReq) (s : State) : Served (devMc r.addr) s (serveMark r s) := by
  unfold serveMark
  split
  · have hchan (c : Nat) : ∃ m, (mcOf (chMod (devMc r.addr) (devChan (devOff r.addr)) (fun h => { h with lastRt := some s.now }) s)
        (devMc r.addr)).chan c = { (mcOf s (devMc r.addr)).chan c with lastRt := m } := by
      by_cases h : c = devChan (devOff r.addr)
      · subst h
        exact ⟨_, chan_chMod_same ..⟩
      · exact ⟨((mcOf s (devMc r.addr)).chan c).lastRt, chan_chMod_other _ _ _ s h⟩
    refine ⟨st_chMod .., fun c => ?_, fun c => ?_, fun j hj => mcOf_chMod_other _ _ _ s hj, rfl, rfl, rfl⟩
    all_goals
      obtain ⟨m, hm⟩ := hchan c
      rw [hm]
  · exact .refl ..

theorem eccNote_served (m n ue addr : Nat) (s : State) : Served m s (eccNote n ue addr s) := by
  rcases eccNote_cases n s ue addr with hnote | ⟨v, hnote⟩ <;> exact .of_eq (by simp [hnote]) (by simp [hnote]) (by simp [hnote])
    (by simp [hnote])

theorem lineRead_served (m n : Nat) (r : DReq) (s : State) : Served m s (lineRead n r s) := by
  have hraise (rep : Report) (t : State) : Served m t (raiseRep rep t) := .of_eq rfl rfl rfl rfl
  by_cases h₁ : r.ecc = 1
  · rw [lineRead, if_pos h₁]
    exact (eccNote_served m n 0 r.addr s).trans (hraise _ _)
  by_cases h₂ : r.ecc = 2
  · rw [lineRead, if_neg h₁, if_pos h₂]
    exact (eccNote_served m n 1 r.addr s).trans (hraise _ _)
  · rw [lineRead, if_neg h₁, if_neg h₂]
    exact .refl m s

theorem dramServe_served (r : DReq) (s : State) : Served (devMc r.addr) s (dramServe r s) := by
  have hmark := serveMark_served r s
  have hline := hmark.trans (lineRead_served (devMc r.addr) (devMc r.addr) r (serveMark r s))
  cases hw : r.write with
  | false =>
    by_cases he : r.ecc = 2
    · rw [dramServe_poisoned r s hw he]
      exact hline.trans (.of_eq rfl rfl rfl rfl)
    · rw [dramServe_read r s hw he]
      exact hline.trans (.of_eq rfl rfl rfl rfl)
  | true =>
    unfold dramServe
    simp only [hw, if_true]
    rw [← serveMark]
    generalize lineRead (devMc r.addr) r (serveMark r s) = u at hline ⊢
    generalize serveMark r s = v at hmark ⊢
    by_cases hwhole : (decide (r.addr % 64 = 0) && decide (r.data.length = 64)) = true
    · simp only [hwhole, if_true, Bool.not_true, Bool.false_eq_true, false_and, if_false]
      exact hmark.trans (.of_eq rfl rfl rfl rfl)
    · simp only [hwhole, Bool.false_eq_true, if_false, Bool.not_false, true_and]
      split
      · exact hline.trans (.of_eq rfl rfl rfl rfl)
      · exact hline.trans (.of_eq rfl rfl rfl rfl)

theorem serveAll_served (n : Nat) : ∀ (k : Nat) (l : List DReq) (s : State), (∀ r ∈ l, devMc r.addr = n) →
    Served n s (serveAll k l s)
  | 0, _, s, _ => .refl n s
  | k + 1, l, s, hl => by
    unfold serveAll
    split
    · exact .refl n s
    next r hr =>
      have hr : Served n s (dramServe r s) := hl r (nextReq_mem hr) ▸ dramServe_served r s
      exact hr.trans (serveAll_served n k _ _ fun q hq => hl q (List.mem_of_mem_filter hq))

theorem mcEmpty_iff (s : State) (n : Nat) :
    mcEmpty s n = true ↔ ∀ c < 4, ((mcOf s n).chan c).reads = [] ∧ ((mcOf s n).chan c).writes = [] := by
  simp [mcEmpty]

/-! ### The states of self-refresh -/

/-- Controller `n` enters a state of self-refresh at time `now`. -/
def enterState (n : Nat) (st : McSt) (now : Nat) (s : State) : State := mcMod n (fun m => { m with st := st, since := now }) s

section
variable (n : Nat) (st : McSt) (now : Nat) (s : State)

theorem st_enterState : (mcOf (enterState n st now s) n).st = st := by unfold enterState; rw [mcOf_mcMod_same]
theorem chan_enterState (c : Nat) : (mcOf (enterState n st now s) n).chan c = (mcOf s n).chan c := by
  unfold enterState
  rw [mcOf_mcMod_same]
  rfl
theorem mcOf_enterState_other {j : Nat} (h : j ≠ n) : mcOf (enterState n st now s) j = mcOf s j := (mcOf_mcMod ..).trans (if_neg h)
end

/-- What SR_EXIT leaves before it serves: ACTIVE with empty queues. -/
def emptyQueues (n : Nat) (s : State) : State :=
  mcMod n (fun m => { m with
    st := .active, since := s.now, ch := m.ch.map (fun e => (e.1, { e.2 with reads := [], writes := [] })) }) s

section
variable (n : Nat) (s : State)

theorem st_emptyQueues : (mcOf (emptyQueues n s) n).st = .active := by unfold emptyQueues; rw [mcOf_mcMod_same]
theorem chan_emptyQueues (c : Nat) : (mcOf (emptyQueues n s) n).chan c = { (mcOf s n).chan c with reads := [], writes := [] } := by
  unfold emptyQueues
  rw [mcOf_mcMod_same]
  exact tget_map {} (fun h : McCh => { h with reads := [], writes := [] }) rfl c _
theorem mcOf_emptyQueues_other {j : Nat} (h : j ≠ n) : mcOf (emptyQueues n s) j = mcOf s j := (mcOf_mcMod ..).trans (if_neg h)
end

section
variable (n : Fin 16) (s : State) (hlive : mcLive s n = true)
include hlive

/-- A controller idle or ordered goes from ACTIVE to SR_PREP; with requests that wait or real-time traffic it stays. -/
theorem execSelfRefreshIdle_active (hst : (mcOf s n).st = .active) : exec (.selfRefreshIdle n) s =
    .next (if mcEmpty s n = true ∧ mcRt s n = false ∧ ((mcOf s n).ordered = true ∨ (bitAt (rget s (aMc n 0x88)) 0 = true ∧
      (mcOf s n).lastReq + psUs (bitsOf (rget s (aMc n 0x88)) 8 10) ≤ s.now)) then enterState n .srPrep s.now s else s) := by
  have hstay : (!mcLive s n) = true ∨ (mcOf s n).st ≠ .active ∨ (!mcEmpty s n) = true ∨ mcRt s n = true ∨
      (!(bitAt (rget s (aMc n 0x88)) 0 && decide (s.now ≥ (mcOf s n).lastReq + psUs (bitsOf (rget s (aMc n 0x88)) 8 10)) ||
        (mcOf s n).ordered)) = true ↔
      ¬ (mcEmpty s n = true ∧ mcRt s n = false ∧ ((mcOf s n).ordered = true ∨ (bitAt (rget s (aMc n 0x88)) 0 = true ∧
        (mcOf s n).lastReq + psUs (bitsOf (rget s (aMc n 0x88)) 8 10) ≤ s.now))) := by
    cases mcEmpty s n <;> cases mcRt s n <;> simp [hlive, hst, and_comm, imp_iff_not_or]
  simp only [exec, execSelfRefreshIdle, hstay]
  rw [ite_not]
  rfl

/-- SR_PREP ends in SR_ENTRY once every channel issued what it owed. -/
theorem execSrPrepDone_srPrep (hst : (mcOf s n).st = .srPrep) : exec (.srPrepDone n) s =
    .next (emit (.dramCmd n 4 2 0) (enterState n .srEntry s.now (forAll (List.range 4) (issueOwed n) s))) := by
  have hissue : issueOwed n = fun c s => refIssues n c ((mcOf s n).chan c).owed s := rfl
  simp only [exec, execSrPrepDone, enterState, hissue]
  rw [if_neg (by simp [hlive, hst])]

/-- SR_ENTRY ends in SELF_REFRESH, or in SR_EXIT when a request waits. -/
theorem execSrEntryDone_srEntry (hst : (mcOf s n).st = .srEntry) : exec (.srEntryDone n) s =
    .next (enterState n (if mcEmpty s n then .selfRefresh else .srExit) s.now s) := by
  simp only [exec, execSrEntryDone, hlive, hst]
  rfl

/-- SELF_REFRESH ends in SR_EXIT on a request that waits or on an order. -/
theorem execSrWake_selfRefresh (order : Bool) (hst : (mcOf s n).st = .selfRefresh) : exec (.srWake n order) s =
    .next (if mcEmpty s n = true ∧ order = false then s else enterState n .srExit s.now s) := by
  simp only [exec, execSrWake, hlive, hst]
  simp [enterState]

/-- SR_EXIT serves the requests that wait, when every one is of this controller. -/
theorem execSrExitDone_srExit (hst : (mcOf s n).st = .srExit)
    (hown : ∀ c < 4, ∀ r ∈ ((mcOf s n).chan c).reads ++ ((mcOf s n).chan c).writes, devMc r.addr = n.val) :
    ∃ t, exec (.srExitDone n) s = .next t ∧ Served n (emptyQueues n s) t := by
  simp only [exec, execSrExitDone, hlive, hst]
  refine ⟨_, rfl, forAll_keeps (Served n (emptyQueues n s)) _ ?_ _ _ (.refl ..)⟩
  intro c u hu
  refine hu.trans (serveAll_served _ _ _ u fun r hr => ?_)
  simp only [List.mem_map, List.mem_filter, List.mem_flatten, List.mem_range, McCh.waiting] at hr
  obtain ⟨_, ⟨⟨_, ⟨d, hd, rfl⟩, hq⟩, -⟩, rfl⟩ := hr
  obtain ⟨q, hwait, rfl⟩ := List.mem_map.mp hq
  exact hown d hd q hwait
end

/-- Settles O48, by the transition out of each state: SR_PREP drains what is owed, SR_EXIT serves what waits. -/
theorem selfRefreshFollowsItsStates : Obligations.SelfRefreshFollowsItsStates := by
  refine ⟨?_, ?_, ?_, ?_, ?_⟩
  · intro n s hlive hst
    rw [execSelfRefreshIdle_active n s hlive hst]
    exact ⟨fun hrt => by simp [hrt], fun hrt hempty hidle => congrArg _ (if_pos ⟨hempty, hrt, hidle⟩)⟩
  · intro n s hlive hst
    have h := forAll_issueOwed_drained n (List.range 4) List.nodup_range s
    have hexec := execSrPrepDone_srPrep n s hlive hst
    generalize forAll (List.range 4) (issueOwed n) s = u at h hexec
    refine ⟨_, hexec, ?_, fun c hc => ?_, ?_, fun j hj => ?_, ?_⟩
    · rw [mcOf_emit, st_enterState]
    · rw [mcOf_emit, chan_enterState]
      exact h.owed c (List.mem_range.mpr hc)
    · exact (congrArg (· + 1) h.outLength).trans (Nat.add_right_comm ..)
    · rw [mcOf_emit, mcOf_enterState_other _ _ _ _ hj]
      exact h.otherMc j hj
    · exact h.frame
  · intro n s hlive hst
    rw [execSrEntryDone_srEntry n s hlive hst]
    exact ⟨fun hempty => by rw [hempty]; rfl, fun hempty => by rw [hempty]; rfl⟩
  · intro n order s hlive hst
    rw [execSrWake_selfRefresh n s hlive order hst]
    refine ⟨fun hwake => congrArg _ (if_neg ?_), fun hord hempty => congrArg _ (if_pos ⟨hempty, hord⟩)⟩
    rintro ⟨hempty, hord⟩
    simp [hempty, hord] at hwake
  · intro n s hlive hst hown
    obtain ⟨t, ht, h⟩ := execSrExitDone_srExit n s hlive hst hown
    refine ⟨t, ht, h.st.trans (st_emptyQueues ..), (mcEmpty_iff t n).mpr fun c _ => ?_, h.sess, h.bpm, h.bufm,
      fun j hj => (h.otherMc j hj).trans (mcOf_emptyQueues_other _ _ hj)⟩
    rw [h.reads, h.writes, chan_emptyQueues]
    exact ⟨rfl, rfl⟩

end Sys2Proof.Machine
end

section
/-! Refresh, drift and training of a memory controller (O49). -/

namespace Sys2Proof.Machine

/-! ### Refresh -/

/-- A channel owes one refresh more, 8 at most. -/
def oweOne (n c : Nat) (s : State) : State := chMod n c (fun h => { h with owed := min 8 (((mcOf s n).chan c).owed + 1) }) s

theorem chan_oweOne (n c : Nat) (s : State) :
    (mcOf (oweOne n c s) n).chan c = { (mcOf s n).chan c with owed := min 8 (((mcOf s n).chan c).owed + 1) } :=
  chan_chMod_same n c _ s

/-- A channel with every owed refresh issued at once, when it changed alone before. -/
theorem Issued.drains {n c k : Nat} {s t u : State} (h : Issued n c k s t) (hk : ((mcOf s n).chan c).owed = k)
    (hother : ∀ d, d ≠ c → (mcOf s n).chan d = (mcOf u n).chan d) (hs : McsOnly u s) :
    ((mcOf t n).chan c).owed = 0 ∧ t.out.length = u.out.length + k ∧
      (∀ d, d ≠ c → (mcOf t n).chan d = (mcOf u n).chan d) ∧ { t with mcs := u.mcs, out := u.out } = u := by
  refine ⟨by rw [h.owed, hk, Nat.sub_self], by rw [h.outLength, hs.out], fun d hd => (h.otherChan d hd).trans (hother d hd), ?_⟩
  exact (congrArg (fun v : State => { v with mcs := u.mcs, out := u.out }) h.frame).trans
    (congrArg (fun v : State => { v with out := u.out }) hs)

/-- A refresh postponed until 8 are owed goes to the bank pair whose refresh is oldest, and is counted. -/
def refForced (n c : Nat) (s : State) : State :=
  pgBlock ⟨.mc, n⟩ (rcnt (aMc n 0x8C) 16 16 1 (rfset (aMc n 0x8C) 8 1 1 (refIssue n c s)))

theorem bitsOf_refForced (n c : Nat) (s : State) :
    bitsOf (rget (refForced n c s) (aMc n 0x8C)) 16 16 = satAdd 16 (bitsOf (rget s (aMc n 0x8C)) 16 16) 1 := by
  unfold refForced
  rw [rget_pgBlock_other _ _ _ (by simp only [aMc, Page.at, Page.base]; omega), ← rfld, rfld_rcnt_same]
  congr 1
  rw [rfld, rfset, rget_rset_same, bitsOf_setBits_above _ _ _ _ _ _ (by decide)]
  rfl

theorem owed_refForced (n c : Nat) (s : State) : ((mcOf (refForced n c s) n).chan c).owed = ((mcOf s n).chan c).owed - 1 := by
  rw [refForced, mcOf_pgBlock, mcOf_rcnt, mcOf_rfset]
  exact (refIssue_issued n c s).owed

theorem refForced_out (n c : Nat) (s : State) :
    (refForced n c s).out = .dramCmd n c 1 (((mcOf s n).chan c).pairs.headD 0) :: s.out := by
  cases s
  rfl

theorem refForced_oweOne_frame (n c : Nat) (s : State) :
    { refForced n c (oweOne n c s) with mcs := s.mcs, out := s.out, regs := s.regs } = s := by
  cases s
  rfl

section
variable (n : Fin 16) (c : Fin 4) (s : State) (hlive : mcLive s n = true)
include hlive

theorem execRefreshInterval_active (hst : (mcOf s n).st = .active) : exec (.refreshInterval n c) s = .next (
    if rtActive s n c = true then if min 8 (((mcOf s n).chan c).owed + 1) < 8 then oweOne n c s else refForced n c (oweOne n c s)
    else refIssues n c (min 8 (((mcOf s n).chan c).owed + 1)) (oweOne n c s)) := by
  simp only [exec, execRefreshInterval]
  rw [if_neg (by simp [hlive, hst])]
  rfl

theorem execRtTrafficEnd_owed (hrt : rtActive s n c = false) (hlast : ((mcOf s n).chan c).lastRt ≠ none) :
    exec (.rtTrafficEnd n c) s =
      .next (refIssues n c ((mcOf s n).chan c).owed (chMod n c (fun h => { h with lastRt := none }) s)) := by
  simp only [exec, execRtTrafficEnd]
  rw [if_neg (by simp [hlive, hrt, hlast])]

theorem execMr4Poll_active (hst : (mcOf s n).st = .active) (m0 m1 m2 m3 : Fin 3) : exec (.mr4Poll n m0 m1 m2 m3) s =
    .next (mcMod n (fun m => { m with mult := max (max m0.val m1.val) (max m2.val m3.val) }) s) := by
  simp only [exec, execMr4Poll]
  rw [if_neg (by simp [hlive, hst])]
end

/-- The refreshes of a channel, at the end of an interval, after real-time traffic, and at the pace the memory asks for. -/
theorem refresh_issued_or_postponed (n : Fin 16) (c : Fin 4) (s : State) (hlive : mcLive s n = true)
    (hst : (mcOf s n).st = .active) :
    let owed := min 8 (((mcOf s n).chan c).owed + 1)
    (rtActive s n c = false → ∃ t, exec (.refreshInterval n c) s = .next t ∧ ((mcOf t n).chan c).owed = 0 ∧
      t.out.length = s.out.length + owed ∧ (∀ d, d ≠ c.val → (mcOf t n).chan d = (mcOf s n).chan d) ∧
      { t with mcs := s.mcs, out := s.out } = s) ∧
    (rtActive s n c = true → owed < 8 → ∃ t, exec (.refreshInterval n c) s = .next t ∧ ((mcOf t n).chan c).owed = owed ∧
      { t with mcs := s.mcs } = s) ∧
    (rtActive s n c = true → owed = 8 → ∃ t, exec (.refreshInterval n c) s = .next t ∧ ((mcOf t n).chan c).owed = 7 ∧
      t.out = .dramCmd n c 1 (((mcOf s n).chan c).pairs.headD 0) :: s.out ∧
      bitsOf (rget t (aMc n 0x8C)) 16 16 = satAdd 16 (bitsOf (rget s (aMc n 0x8C)) 16 16) 1 ∧
      { t with mcs := s.mcs, out := s.out, regs := s.regs } = s) := by
  rw [execRefreshInterval_active n c s hlive hst]
  refine ⟨fun hrt => ?_, fun hrt hlow => ?_, fun hrt hfull => ?_⟩
  · rw [hrt, if_neg Bool.false_ne_true]
    exact ⟨_, rfl, (refIssues_issued n c _ _).drains (by rw [chan_oweOne]) (fun d hd => chan_chMod_other n c _ s hd) rfl⟩
  · rw [if_pos hrt, if_pos hlow]
    exact ⟨_, rfl, by rw [chan_oweOne], rfl⟩
  · rw [if_pos hrt, if_neg (by omega)]
    refine ⟨_, rfl, ?_, ?_, bitsOf_refForced n c _, refForced_oweOne_frame n c s⟩
    · rw [owed_refForced, chan_oweOne, hfull]
      rfl
    · rw [refForced_out, chan_oweOne]
      rfl

/-! ### Drift -/

theorem dlyKey_inj {c k k' i i' : Nat} (hk : k < 2) (hk' : k' < 2) (h : dlyKey c k i = dlyKey c k' i') :
    k = k' ∧ i = i' := by
  simp only [dlyKey] at h
  omega

/-- The shift of pin `j`: one delay of each kind. -/
def pinShift (c : Nat) (d : Int) (t : Tab Nat) (j : Nat) : Tab Nat :=
  tmod 0 (tmod 0 t (dlyKey c 0 j) (delayShift · d)) (dlyKey c 1 j) (delayShift · d)

theorem tget_pinShift {c k : Nat} (hk : k < 2) (d : Int) (t : Tab Nat) (i j : Nat) : tget 0 (pinShift c d t j) (dlyKey c k i) =
    if i = j then delayShift (tget 0 t (dlyKey c k i)) d else tget 0 t (dlyKey c k i) := by
  have hother {k' : Nat} (hk' : k' < 2) (u : Tab Nat) (h : ¬ (k = k' ∧ i = j)) :
      tget 0 (tmod 0 u (dlyKey c k' j) (delayShift · d)) (dlyKey c k i) = tget 0 u (dlyKey c k i) :=
    tget_tmod_other _ _ _ _ _ fun e => h (dlyKey_inj hk hk' e)
  unfold pinShift
  by_cases hij : i = j
  · subst hij
    obtain rfl | rfl : k = 0 ∨ k = 1 := by omega
    · rw [hother (by decide) _ (by simp), tget_tmod_same, if_pos rfl]
    · rw [tget_tmod_same, hother (by decide) _ (by simp), if_pos rfl]
  · rw [hother (by decide) _ (by simp [hij]), hother (by decide) _ (by simp [hij]), if_neg hij]

theorem tget_foldl_pinShift {c k : Nat} (hk : k < 2) (d : Int) (i : Nat) : ∀ (l : List Nat), l.Nodup → ∀ t : Tab Nat,
    tget 0 (l.foldl (pinShift c d) t) (dlyKey c k i) =
      if i ∈ l then delayShift (tget 0 t (dlyKey c k i)) d else tget 0 t (dlyKey c k i)
  | [], _, _ => rfl
  | j :: l, hl, t => by
    obtain ⟨hj, hl⟩ := List.nodup_cons.mp hl
    rw [List.foldl_cons, tget_foldl_pinShift hk d i l hl, tget_pinShift hk]
    by_cases hij : i = j
    · subst hij
      rw [if_neg hj, if_pos rfl, if_pos (List.mem_cons_self ..)]
    · simp [hij]

/-- Each delay of a channel's DQ pins moves by the difference, once. -/
theorem tget_dqShift {c k : Nat} (hk : k < 2) (d : Int) (t : Tab Nat) {i : Nat} (hi : i < 16) :
    tget 0 (dqShift c d t) (dlyKey c k i) = delayShift (tget 0 t (dlyKey c k i)) d :=
  (tget_foldl_pinShift hk d i (List.range 16) List.nodup_range t).trans (if_pos (List.mem_range.mpr hi))

/-- A drift check records the count of the oscillator. -/
def driftRecord (n c : Nat) (osc : W16) (s : State) : State :=
  chMod n c (fun h => { h with deferred := false, osc := osc.toNat }) s

/-- The correction of a drift: every DQ delay of the channel moves by `diff`, and `steps` is applied. -/
def driftMove (n c : Nat) (steps diff : Int) (s : State) : State :=
  mcMod n (fun m => { m with delays := dqShift c diff m.delays })
    (chMod n c (fun h => { h with delta := steps, adj := satAdd 32 h.adj 1 }) s)

theorem chan_driftRecord (n c : Nat) (osc : W16) (s : State) :
    (mcOf (driftRecord n c osc s) n).chan c = { (mcOf s n).chan c with deferred := false, osc := osc.toNat } := chan_chMod_same ..

theorem delays_driftRecord (n c : Nat) (osc : W16) (s : State) :
    (mcOf (driftRecord n c osc s) n).delays = (mcOf s n).delays := delays_chMod ..

theorem chan_driftMove (n c : Nat) (steps diff : Int) (s : State) : (mcOf (driftMove n c steps diff s) n).chan c =
    { (mcOf s n).chan c with delta := steps, adj := satAdd 32 ((mcOf s n).chan c).adj 1 } := by
  unfold driftMove
  rw [mcOf_mcMod_same]
  exact chan_chMod_same ..

theorem delays_driftMove (n c : Nat) (steps diff : Int) (s : State) :
    (mcOf (driftMove n c steps diff s) n).delays = dqShift c diff (mcOf s n).delays := by
  unfold driftMove
  rw [mcOf_mcMod_same, delays_chMod]

/-- A drift check ends with the note whether the correction applied is beyond its limit, raised when it was not before. -/
def driftNote (n c limit : Nat) (was : Bool) (s : State) : State :=
  let above := decide (((mcOf s n).chan c).delta.natAbs > limit)
  let s' := chMod n c (fun h => { h with excursion := above }) s
  if above && !was then raise 0x22 n s' else s'

/-- The note changes of a controller only what the channel says of an excursion. -/
theorem mcOf_driftNote (n c limit : Nat) (was : Bool) (s : State) :
    (∃ b, (mcOf (driftNote n c limit was s) n).chan c = { (mcOf s n).chan c with excursion := b }) ∧
      (mcOf (driftNote n c limit was s) n).delays = (mcOf s n).delays := by
  have hmc : ∃ b, mcOf (driftNote n c limit was s) n = mcOf (chMod n c (fun h => { h with excursion := b }) s) n := by
    refine ⟨decide (((mcOf s n).chan c).delta.natAbs > limit), ?_⟩
    unfold driftNote
    dsimp only
    split <;> rfl
  obtain ⟨b, hb⟩ := hmc
  rw [hb]
  exact ⟨⟨b, chan_chMod_same ..⟩, delays_chMod ..⟩

theorem driftNote_frame (n c limit : Nat) (was : Bool) {s u : State} (hu : McsOnly s u) :
    { driftNote n c limit was u with mcs := s.mcs, flt := s.flt } = s := by
  have hnote : { driftNote n c limit was u with mcs := s.mcs, flt := s.flt } = { u with mcs := s.mcs, flt := s.flt } := by
    unfold driftNote
    dsimp only
    cases decide (((mcOf u n).chan c).delta.natAbs > limit) && !was <;> rfl
  exact hnote.trans (congrArg (fun v : State => { v with flt := s.flt }) hu)

theorem driftRecord_mcsOnly (n c : Nat) (osc : W16) (s : State) : McsOnly s (driftRecord n c osc s) := mcMod_mcsOnly ..

theorem driftMove_mcsOnly (n c : Nat) (osc : W16) (steps diff : Int) (s : State) :
    McsOnly s (driftMove n c steps diff (driftRecord n c osc s)) :=
  ((driftRecord_mcsOnly n c osc s).trans (mcMod_mcsOnly ..)).trans (mcMod_mcsOnly ..)

section
variable (n : Fin 16) (c : Fin 4) (osc : W16) (steps : Int) (s : State) (hlive : mcLive s n = true)
  (hst : (mcOf s n).st = .active)
include hlive hst

theorem execDriftCheck_deferred (hrt : rtActive s n c = true) (hdef : ((mcOf s n).chan c).deferred = false) :
    exec (.driftCheck n c osc steps) s = .next (chMod n c (fun h => { h with deferred := true }) s) := by
  simp only [exec, execDriftCheck]
  rw [if_neg (by simp [hlive, hst]), if_pos (by simp [hrt, hdef])]

/-- A drift check that is not deferred: the delays move where the drift differs from the applied correction by THRESH or more
and FREEZE is 0. -/
theorem execDriftCheck_done (hrun : rtActive s n c = false ∨ ((mcOf s n).chan c).deferred = true) :
    exec (.driftCheck n c osc steps) s = .next
      (driftNote n c (bitsOf (rget s (aMc n 0x90)) 16 8) ((mcOf s n).chan c).excursion
        (if (steps - ((mcOf s n).chan c).delta).natAbs ≥ bitsOf (rget s (aMc n 0x90)) 10 6 ∧ !bitAt (rget s (aMc n 0x90)) 24 then
          driftMove n c steps (steps - ((mcOf s n).chan c).delta) (driftRecord n c osc s)
        else driftRecord n c osc s)) := by
  simp only [exec, execDriftCheck]
  rw [if_neg (by simp [hlive, hst]), if_neg (by simpa [imp_iff_not_or] using hrun)]
  rfl

/-- The count of a drift check that is not deferred, and the delays that stay or move. -/
theorem driftCheck_records (hrun : rtActive s n c = false ∨ ((mcOf s n).chan c).deferred = true) :
    let diff := steps - ((mcOf s n).chan c).delta
    let cfg := rget s (aMc n 0x90)
    ∃ t, exec (.driftCheck n c osc steps) s = .next t ∧
      ((mcOf t n).chan c).osc = osc.toNat ∧ ((mcOf t n).chan c).deferred = false ∧ { t with mcs := s.mcs, flt := s.flt } = s ∧
      ((diff.natAbs < bitsOf cfg 10 6 ∨ bitAt cfg 24 = true) → (mcOf t n).delays = (mcOf s n).delays ∧
        ((mcOf t n).chan c).delta = ((mcOf s n).chan c).delta) ∧
      (bitsOf cfg 10 6 ≤ diff.natAbs → bitAt cfg 24 = false → ((mcOf t n).chan c).delta = steps ∧ ∀ k < 2, ∀ i < 16,
        tget 0 (mcOf t n).delays (dlyKey c k i) = delayShift (tget 0 (mcOf s n).delays (dlyKey c k i)) diff) := by
  intro diff cfg
  rw [execDriftCheck_done n c osc steps s hlive hst hrun]
  refine ⟨_, rfl, ?_⟩
  by_cases hmove : diff.natAbs ≥ bitsOf cfg 10 6 ∧ !bitAt cfg 24
  · rw [if_pos hmove]
    obtain ⟨⟨b, hchan⟩, hdelays⟩ := mcOf_driftNote n c (bitsOf cfg 16 8) ((mcOf s n).chan c).excursion
      (driftMove n c steps diff (driftRecord n c osc s))
    rw [hchan, hdelays, chan_driftMove, chan_driftRecord, delays_driftMove, delays_driftRecord]
    obtain ⟨hfar, hfree⟩ := hmove
    refine ⟨rfl, rfl, driftNote_frame _ _ _ _ (driftMove_mcsOnly ..), fun hstay => ?_, fun _ _ => ⟨rfl, fun k hk i hi => tget_dqShift hk diff _ hi⟩⟩
    simp [Nat.not_lt.mpr hfar, (Bool.not_eq_true' _).mp hfree] at hstay
  · rw [if_neg hmove]
    obtain ⟨⟨b, hchan⟩, hdelays⟩ := mcOf_driftNote n c (bitsOf cfg 16 8) ((mcOf s n).chan c).excursion (driftRecord n c osc s)
    rw [hchan, hdelays, chan_driftRecord, delays_driftRecord]
    exact ⟨rfl, rfl, driftNote_frame _ _ _ _ (driftRecord_mcsOnly ..), fun _ => ⟨rfl, rfl⟩, fun hfar hfree => (hmove ⟨hfar, by rw [hfree]; rfl⟩).elim⟩
end

/-! ### Training -/

/-- The word of MC_TRN_CMD that a training operation starts with: GO, its OP and what the command selects. -/
def trnWord (op : Nat) (cmd : W32) : Nat := setBits (setBits (cmd.toNat % 2 ^ 25) 6 2 0) 0 3 op + 2 ^ 31

theorem trnWord_fields {op : Nat} (hop : op < 8) (cmd : W32) : bitsOf (trnWord op cmd) 0 3 = op ∧ bitAt (trnWord op cmd) 31 = true ∧
    bitsOf (trnWord op cmd) 8 16 = bitsOf cmd.toNat 8 16 := by
  rw [bitAt_eq, decide_eq_true_iff]
  simp only [trnWord, setBits, bitsOf]
  generalize cmd.toNat = w
  refine ⟨?_, ?_, ?_⟩ <;> omega

theorem rset_rset_frame (a v b w : Nat) (s : State) : { rset a v (rset b w s) with regs := s.regs } = s := rfl

/-- In TRAINING with GO 0 a training operation starts. -/
theorem trnStart_training {n op : Nat} (hop : op < 8) (cmd : W32) (s : State) (hst : (mcOf s n).st = .training)
    (hgo : bitAt (rget s (aMc n 0xC0)) 31 = false) :
    bitsOf (rget (trnStart n op cmd s) (aMc n 0xC0)) 0 3 = op ∧ bitAt (rget (trnStart n op cmd s) (aMc n 0xC0)) 31 = true ∧
      bitsOf (rget (trnStart n op cmd s) (aMc n 0xC0)) 8 16 = bitsOf cmd.toNat 8 16 ∧ rget (trnStart n op cmd s) (aMc n 0xD0) = 0 ∧
      { trnStart n op cmd s with regs := s.regs } = s := by
  have hstart : trnStart n op cmd s = rset (aMc n 0xD0) 0 (rset (aMc n 0xC0) (trnWord op cmd) s) :=
    if_neg (by simp [hst, hgo])
  have hcmd : rget (trnStart n op cmd s) (aMc n 0xC0) = trnWord op cmd := by
    rw [hstart, rget_rset_other _ _ _ _ (by simp only [aMc]; omega), rget_rset_same]
  obtain ⟨hop, hgo, hsel⟩ := trnWord_fields hop cmd
  rw [hcmd]
  exact ⟨hop, hgo, hsel, by rw [hstart, rget_rset_same], by rw [hstart]; exact rset_rset_frame ..⟩

/-- Outside TRAINING a training operation has no effect. -/
theorem trnStart_outside {n : Nat} (op : Nat) (cmd : W32) (s : State) (hst : (mcOf s n).st ≠ .training) :
    trnStart n op cmd s = s := if_pos (.inl hst)

/-- A run of commands to the memory changes neither a register nor DRAM. -/
theorem forAll_emit_keeps {α : Type} (l : List α) (f : α → Out) (s : State) :
    (forAll l (fun c => emit (f c)) s).regs = s.regs ∧ (forAll l (fun c => emit (f c)) s).dram = s.dram :=
  forAll_keeps (fun u => u.regs = s.regs ∧ u.dram = s.dram) (fun c => emit (f c)) (fun _ _ hu => hu) l s ⟨rfl, rfl⟩

/-- A word modulo `2 ^ (16 * k)` is the sum of its `k` lowest slices of 16 bits. -/
theorem sum_slices (x : Nat) : ∀ k : Nat,
    ((List.range k).map (fun c => bitsOf x (16 * c) 16 * 2 ^ (16 * c))).sum = x % 2 ^ (16 * k)
  | 0 => (Nat.mod_one x).symm
  | k + 1 => by
    rw [List.range_succ, List.map_append, List.sum_append, sum_slices x k, List.map_singleton, List.sum_singleton, bitsOf,
      pow_mul 2 16 k, pow_mul 2 16 (k + 1), Nat.mod_pow_succ (b := 2 ^ 16) (k := k),
      Nat.mul_comm ((2 ^ 16) ^ k)]

/-- With every channel selected the results of the four channels, side by side, are the word of the lines that failed. -/
theorem sum_trnChans (fail : W64) {cmd : Nat} (hall : bitAt cmd 5 = true) :
    ((trnChans cmd).map (fun c => bitsOf fail.toNat (16 * c) 16 * 2 ^ (16 * c))).sum = fail.toNat := by
  rw [trnChans, if_pos hall]
  exact (sum_slices fail.toNat 4).trans (Nat.mod_eq_of_lt fail.isLt)

/-- The word of MC_TRN_CMD when an operation ends: GO is 0, and a register read of the memory leaves its data. -/
def trnDoneWord (data : Byte) (w : Nat) : Nat :=
  if bitsOf w 0 3 = 5 then setBits (setBits w 31 1 0) 16 8 data.toNat else setBits w 31 1 0

section
variable (data : Byte) (w : Nat)

theorem bitAt_trnDoneWord : bitAt (trnDoneWord data w) 31 = false := by
  have hgo : bitsOf (setBits w 31 1 0) 31 1 = 0 := bitsOf_setBits_same ..
  rw [bitAt_eq, decide_eq_false_iff_not, trnDoneWord]
  split
  · rw [bitsOf_setBits_above _ _ _ _ _ _ (by decide), hgo]
    decide
  · rw [hgo]
    decide

theorem bitsOf_trnDoneWord {lo len : Nat} (h : lo + len ≤ 16) : bitsOf (trnDoneWord data w) lo len = bitsOf w lo len := by
  have hlow : bitsOf (setBits w 31 1 0) lo len = bitsOf w lo len := bitsOf_setBits_below _ _ _ _ _ _ (by omega)
  rw [trnDoneWord]
  split
  · rw [bitsOf_setBits_below _ _ _ _ _ _ h, hlow]
  · exact hlow

theorem bitsOf_trnDoneWord_data (h : bitsOf w 0 3 = 5) : bitsOf (trnDoneWord data w) 16 8 = data.toNat := by
  rw [trnDoneWord, if_pos h, bitsOf_setBits_same]
  exact Nat.mod_eq_of_lt data.isLt
end

/-- How `t` follows from `s` when the operation of word `w` ends: DRAM stays, GO falls, and a compare of all four channels
leaves the lines that failed. -/
structure TrnEnds (n : Nat) (fail : W64) (data : Byte) (w : Nat) (s t : State) : Prop where
  dram : t.dram = s.dram
  cmd : rget t (aMc n 0xC0) = trnDoneWord data w
  result : bitsOf w 0 3 = 2 → bitAt w 5 = true → rget t (aMc n 0xD0) = fail.toNat

/-- `u` is `s` with GO fallen in the word `w` of MC_TRN_CMD. -/
structure TrnStopped (n w : Nat) (s u : State) : Prop where
  dram : u.dram = s.dram
  cmd : rget u (aMc n 0xC0) = setBits w 31 1 0

namespace TrnStopped
variable {n w : Nat} {s u : State} (h : TrnStopped n w s u) (fail : W64) (data : Byte)
include h

/-- Operations that leave no result: neither a register nor DRAM changes more. -/
theorem ends_of_keeps {t : State} (ht : t.regs = u.regs ∧ t.dram = u.dram) (h₅ : bitsOf w 0 3 ≠ 5) (h₂ : bitsOf w 0 3 ≠ 2) :
    TrnEnds n fail data w s t where
  dram := ht.2.trans h.dram
  cmd := by rw [trnDoneWord, if_neg h₅, rget_congr ht.1, h.cmd]
  result h := (h₂ h).elim

/-- Operations that leave a result in MC_TRN_RESULT. -/
theorem ends_with_result {v : Nat} (h₅ : bitsOf w 0 3 ≠ 5) (hv : bitsOf w 0 3 = 2 → bitAt w 5 = true → v = fail.toNat) :
    TrnEnds n fail data w s (rset (aMc n 0xD0) v u) where
  dram := (rset_dram ..).trans h.dram
  cmd := by rw [trnDoneWord, if_neg h₅, rget_rset_other _ _ _ _ (by simp only [aMc]; omega), h.cmd]
  result h₂ hall := (rget_rset_same ..).trans (hv h₂ hall)

/-- A register read of the memory leaves its data in the command's word. -/
theorem ends_with_data (h₅ : bitsOf w 0 3 = 5) : TrnEnds n fail data w s (rfset (aMc n 0xC0) 16 8 data.toNat u) where
  dram := (rfset_dram ..).trans h.dram
  cmd := by rw [trnDoneWord, if_pos h₅, rfset, rget_rset_same, h.cmd]
  result h₂ := by omega
end TrnStopped

/-- GO falls, and the pattern engine notes what it wrote. -/
theorem trnStopped_pattern (n : Nat) (s : State) (c : Prop) [Decidable c] : TrnStopped n (rget s (aMc n 0xC0)) s
    (if c then trnPattern n (rfset (aMc n 0xC0) 31 1 0 s) else rfset (aMc n 0xC0) 31 1 0 s) := by
  split
  · exact ⟨(mcMod_mcsOnly ..).dram.trans (rfset_dram ..), by rw [trnPattern, rget_mcMod, rfset, rget_rset_same]⟩
  · exact ⟨rfset_dram .., by rw [rfset, rget_rset_same]⟩

theorem execMcTrnDone_ends (n : Fin 16) (fail : W64) (data : Byte) (s : State) (hgo : bitAt (rget s (aMc n 0xC0)) 31 = true) :
    ∃ t, exec (.mcTrnDone n fail data) s = .next t ∧ TrnEnds n fail data (rget s (aMc n 0xC0)) s t := by
  simp only [exec, execMcTrnDone]
  rw [if_neg (by simp [hgo])]
  refine ⟨_, rfl, ?_⟩
  have hstop := trnStopped_pattern n s (bitsOf (rget s (aMc n 0xC0)) 0 3 = 1 ∨ bitsOf (rget s (aMc n 0xC0)) 0 3 = 3)
  generalize rget s (aMc n 0xC0) = w at hstop ⊢
  generalize (if bitsOf w 0 3 = 1 ∨ bitsOf w 0 3 = 3 then trnPattern n (rfset (aMc n 0xC0) 31 1 0 s)
    else rfset (aMc n 0xC0) 31 1 0 s) = u at hstop ⊢
  split
  next => exact hstop.ends_with_result fail data (by omega) fun _ hall => sum_trnChans fail hall
  split
  next => exact hstop.ends_of_keeps fail data (forAll_emit_keeps ..) (by omega) (by omega)
  split
  next h₅ => exact hstop.ends_with_data fail data h₅
  split
  next => exact hstop.ends_of_keeps fail data (forAll_emit_keeps ..) (by omega) (by omega)
  split
  next => exact hstop.ends_with_result fail data (by omega) fun h₂ => by omega
  next h₂₃ _ h₅ _ _ => exact hstop.ends_of_keeps fail data ⟨rfl, rfl⟩ h₅ fun h₂ => h₂₃ (.inl h₂)

/-- Settles O49, clause by clause: refresh, drift, and the start and end of a training operation. -/
theorem refreshDriftAndTraining : Obligations.RefreshDriftAndTraining := by
  refine ⟨?_, ?_, ?_, ?_, ?_⟩
  · intro n c s hlive hst
    obtain ⟨hquiet, hpostponed, hforced⟩ := refresh_issued_or_postponed n c s hlive hst
    refine ⟨hquiet, hpostponed, hforced, fun hrt hlast => ?_, fun m0 m1 m2 m3 => ?_⟩
    · obtain ⟨howed, hout, -, hframe⟩ := (refIssues_issued n c ((mcOf s n).chan c).owed
        (chMod n c (fun h => { h with lastRt := none }) s)).drains (by rw [chan_chMod_same])
        (fun d hd => chan_chMod_other _ _ _ s hd) rfl
      exact ⟨_, execRtTrafficEnd_owed n c s hlive hrt hlast, howed, hout, hframe⟩
    · exact ⟨_, execMr4Poll_active n s hlive hst m0 m1 m2 m3, congrArg Mc.mult (mcOf_mcMod_same ..), rfl⟩
  · intro n c osc steps s hlive hst
    exact ⟨fun hrt hdef => ⟨_, execDriftCheck_deferred n c osc steps s hlive hst hrt hdef,
      congrArg McCh.deferred (chan_chMod_same ..), delays_chMod .., rfl⟩, driftCheck_records n c osc steps s hlive hst⟩
  · intro n cmd s hst
    simp [exec, execMcTrnWritePattern, execMcTrnReadCompare, execMcTrnWriteReadCompare, execMcTrnMrWrite, execMcTrnMrRead,
      execMcTrnZqCal, execMcTrnWck2ckSample, trnStart_outside _ cmd s hst]
  · intro n cmd s hst hgo
    have hruns {op : Nat} (hop : op < 8) := trnStart_training hop cmd s hst hgo
    refine ⟨fun harg => ?_, ?_⟩
    · have harg : trnArgOk cmd = true := decide_eq_true harg
      simp only [exec, execMcTrnWritePattern, execMcTrnReadCompare, execMcTrnWriteReadCompare, harg, if_true]
      exact ⟨⟨_, rfl, hruns (by decide)⟩, ⟨_, rfl, hruns (by decide)⟩, ⟨_, rfl, hruns (by decide)⟩⟩
    · exact ⟨⟨_, rfl, hruns (by decide)⟩, ⟨_, rfl, hruns (by decide)⟩, ⟨_, rfl, hruns (by decide)⟩,
        ⟨_, rfl, hruns (by decide)⟩⟩
  · intro n fail data s hgo
    obtain ⟨t, ht, hdram, hcmd, hresult⟩ := execMcTrnDone_ends n fail data s hgo
    exact ⟨t, ht, by rw [hcmd]; exact bitAt_trnDoneWord .., hdram, by rw [hcmd]; exact bitsOf_trnDoneWord _ _ (by decide),
      fun h₅ => by rw [hcmd]; exact bitsOf_trnDoneWord_data _ _ h₅, hresult⟩

end Sys2Proof.Machine
end

section
/-! The internal interrupt controller (R387 to R393): the settling of the targets' interrupts, the pick of a claim, the signals of the
sources, and the unmatched completion. -/

namespace Sys2Proof.Machine

variable {s t : State}

/-! ### The settling of the targets (R388, R392) -/

/-- The turn of one target in `micSettle`. -/
def micSettleAt (g : Nat) (s : State) : State :=
  if micNext s g ≠ 0 ∧ !(micTgtOf s g).irq ∧ !(micTgtOf s g).sleeping then
    emit (.micIrq g) (micTgtMod g (fun r => { r with irq := true }) s)
  else if ¬ micNext s g ≠ 0 ∧ (micTgtOf s g).irq then micTgtMod g (fun r => { r with irq := false }) s
  else s

theorem micSettle_eq (s : State) : micSettle s = forAll (List.range 9) micSettleAt s := by
  unfold micSettle
  congr 1
  funext g s
  simp only [micSettleAt, Bool.not_eq_true', decide_eq_false_iff_not]

/-- `t` is `s` but for the targets and what has gone out. -/
def MicTgtsOnly (s t : State) : Prop := { t with micTgt := s.micTgt, out := s.out } = s

/-- `t` is `s` but for the sources, the targets and what has gone out. -/
def MicOnly (s t : State) : Prop := { t with micSrc := s.micSrc, micTgt := s.micTgt, out := s.out } = s

namespace MicTgtsOnly
variable (h : MicTgtsOnly s t)
include h

theorem eq : { t with micTgt := s.micTgt, out := s.out } = s := h
theorem micSrc : t.micSrc = s.micSrc := (congrArg State.micSrc h.eq :)
theorem regs : t.regs = s.regs := (congrArg State.regs h.eq :)
theorem micNext_eq (g : Nat) : micNext t g = micNext s g := (congrArg (micNext · g) h.eq :)

theorem after_micSettleAt (g : Nat) : MicTgtsOnly s (micSettleAt g t) := by
  unfold micSettleAt
  split
  · exact h
  · split <;> exact h

/-- What else may have changed may change as well. -/
theorem to_micOnly {u : State} (hu : MicOnly u s) : MicOnly u t := by
  have ht : { t with micSrc := u.micSrc, micTgt := u.micTgt, out := u.out } =
      { s with micSrc := u.micSrc, micTgt := u.micTgt, out := u.out } :=
    (congrArg (fun v : State => { v with micSrc := u.micSrc, micTgt := u.micTgt, out := u.out }) h.eq :)
  exact ht.trans hu

end MicTgtsOnly

theorem micSettleAt_tgtsOnly (g : Nat) (s : State) : MicTgtsOnly s (micSettleAt g s) :=
  MicTgtsOnly.after_micSettleAt (s := s) rfl g

theorem micSettle_tgtsOnly (s : State) : MicTgtsOnly s (micSettle s) :=
  micSettle_eq s ▸ forAll_keeps (MicTgtsOnly s) _ (fun g _ h => h.after_micSettleAt g) _ s rfl

@[simp] theorem micSettle_micSrc (s : State) : (micSettle s).micSrc = s.micSrc := (micSettle_tgtsOnly s).micSrc

@[simp] theorem micSettle_regs (s : State) : (micSettle s).regs = s.regs := (micSettle_tgtsOnly s).regs

@[simp] theorem micSrcOf_micSettle (s : State) (n : Nat) : micSrcOf (micSettle s) n = micSrcOf s n :=
  micSrcOf_congr (micSettle_micSrc s) n

@[simp] theorem micCfg_micSettle (s : State) (n : Nat) : micCfg (micSettle s) n = micCfg s n :=
  rget_congr (micSettle_regs s) _

/-- A target's record once it is settled: asserted for a source that is eligible, but not begun while it sleeps. -/
def micSettled (want : Bool) (r : MicTgt) : MicTgt := { r with irq := want && (r.irq || !r.sleeping) }

theorem micSettled_micSettled (want : Bool) (r : MicTgt) : micSettled want (micSettled want r) = micSettled want r := by
  cases want <;> simp [micSettled]

theorem micTgtOf_micSettleAt_other (s : State) {g j : Nat} (hj : j ≠ g) : micTgtOf (micSettleAt g s) j = micTgtOf s j := by
  unfold micSettleAt
  split
  · rw [micTgtOf_emit, micTgtOf_micTgtMod, if_neg hj]
  · split
    · rw [micTgtOf_micTgtMod, if_neg hj]
    · rfl

theorem micTgtOf_micSettleAt_same (g : Nat) (s : State) :
    micTgtOf (micSettleAt g s) g = micSettled (decide (micNext s g ≠ 0)) (micTgtOf s g) := by
  unfold micSettleAt
  split
  next h =>
    obtain ⟨hwant, -, hawake⟩ := h
    rw [micTgtOf_emit, micTgtOf_micTgtMod_same]
    simp_all [micSettled]
  next hrise =>
    split
    next h => simp [micSettled, h.1]
    next hfall =>
      have hirq : (decide (micNext s g ≠ 0) && ((micTgtOf s g).irq || !(micTgtOf s g).sleeping)) = (micTgtOf s g).irq := by
        by_cases hwant : micNext s g = 0 <;> cases hi : (micTgtOf s g).irq <;> simp_all
      rw [micSettled, hirq]

/-- A run of turns settles the targets of the list. -/
theorem micTgtOf_forAll_micSettleAt (j : Nat) : ∀ (l : List Nat) (s : State), micTgtOf (forAll l micSettleAt s) j =
    if j ∈ l then micSettled (decide (micNext s j ≠ 0)) (micTgtOf s j) else micTgtOf s j
  | [], s => rfl
  | g :: l, s => by
    have ih := micTgtOf_forAll_micSettleAt j l (micSettleAt g s)
    rw [(micSettleAt_tgtsOnly g s).micNext_eq] at ih
    refine ih.trans ?_
    by_cases hg : j = g
    · subst hg
      simp [micTgtOf_micSettleAt_same, micSettled_micSettled]
    · simp [hg, micTgtOf_micSettleAt_other]

theorem micTgtOf_micSettle {j : Nat} (hj : j < 9) (s : State) :
    micTgtOf (micSettle s) j = micSettled (decide (micNext s j ≠ 0)) (micTgtOf s j) := by
  rw [micSettle_eq, micTgtOf_forAll_micSettleAt, if_pos (List.mem_range.mpr hj)]

/-! ### The pick of a claim (R388) -/

/-- Source `n` comes no earlier than source `b`: its PRIO is lower, or the same and its number no lower. -/
def MicAfter (s : State) (b n : Nat) : Prop := micPrio s n < micPrio s b ∨ (micPrio s n = micPrio s b ∧ b ≤ n)

/-- Of the source picked so far, 0 for none, and the next one: the earlier. -/
def micPick (s : State) (b n : Nat) : Nat :=
  if b = 0 ∨ micPrio s n > micPrio s b ∨ (micPrio s n = micPrio s b ∧ n < b) then n else b

/-- `r` is the earliest source of the list, 0 for the empty list. -/
structure MicFirst (s : State) (l : List Nat) (r : Nat) : Prop where
  empty : r = 0 → l = []
  mem : r ≠ 0 → r ∈ l
  first : ∀ n ∈ l, MicAfter s r n

theorem MicFirst.snoc {l : List Nat} {r n : Nat} (h : MicFirst s l r) (hn : n ≠ 0) : MicFirst s (l ++ [n]) (micPick s r n) := by
  obtain ⟨hempty, hmem, hfirst⟩ := h
  unfold micPick
  split
  next htake =>
    refine ⟨fun h0 => absurd h0 hn, fun _ => by simp, fun m hm => ?_⟩
    rcases List.mem_append.mp hm with hm | hm
    · have hr : r ≠ 0 := fun h0 => by simp [hempty h0] at hm
      have := hfirst m hm
      unfold MicAfter at *
      omega
    · exact .inr (by simp [List.mem_singleton.mp hm])
  next hkeep =>
    refine ⟨fun h0 => absurd (.inl h0) hkeep, fun hr => by simp [hmem hr], fun m hm => ?_⟩
    rcases List.mem_append.mp hm with hm | hm
    · exact hfirst m hm
    · rw [List.mem_singleton.mp hm]
      unfold MicAfter
      omega

theorem micFirst_foldl (s : State) (l : List Nat) (hl : ∀ n ∈ l, n ≠ 0) : MicFirst s l (l.foldl (micPick s) 0) := by
  induction l using List.reverseRecOn with
  | nil => exact ⟨fun _ => rfl, fun h => absurd rfl h, fun n hn => by simp at hn⟩
  | append_singleton l n ih =>
    rw [List.foldl_concat]
    exact (ih fun m hm => hl m (by simp [hm])).snoc (hl n (by simp))

/-- The eligible sources of a target, as the pick goes through them. -/
def micCandidates (s : State) (g : Nat) : List Nat := (s.micSrc.filter (fun p => micEligible s g p.1)).map (·.1)

theorem mem_keys_of_tget_ne {α : Type} (d : α) {i : Nat} : ∀ {t : Tab α}, tget d t i ≠ d → i ∈ t.map (·.1)
  | [], h => absurd rfl h
  | (k, v) :: t, h => by
    by_cases hk : k = i
    · simp [hk]
    · rw [tget, if_neg hk] at h
      exact List.mem_cons_of_mem _ (mem_keys_of_tget_ne d h)

theorem micReal_of_eligible {g n : Nat} (h : micEligible s g n = true) : micReal n = true := by
  simp only [micEligible, Bool.and_eq_true] at h
  tauto

theorem pend_of_eligible {g n : Nat} (h : micEligible s g n = true) : (micSrcOf s n).pend = true := by
  simp only [micEligible, Bool.and_eq_true] at h
  tauto

/-- An eligible source is pending, so it is listed. -/
theorem mem_micCandidates {g n : Nat} : n ∈ micCandidates s g ↔ micEligible s g n = true := by
  constructor
  · intro h
    simp only [micCandidates, List.mem_map, List.mem_filter] at h
    obtain ⟨p, ⟨-, hp⟩, rfl⟩ := h
    exact hp
  · intro h
    have hne : micSrcOf s n ≠ {} := fun h0 => by simpa [h0] using pend_of_eligible h
    obtain ⟨p, hp, rfl⟩ := List.mem_map.mp (mem_keys_of_tget_ne _ hne)
    exact List.mem_map.mpr ⟨p, List.mem_filter.mpr ⟨hp, h⟩, rfl⟩

theorem micNext_first (s : State) (g : Nat) : MicFirst s (micCandidates s g) (micNext s g) :=
  micFirst_foldl s _ fun n hn h0 => by
    subst h0
    exact absurd (micReal_of_eligible (mem_micCandidates.mp hn)) (by decide)

theorem micNext_zero {g : Nat} (h : micNext s g = 0) (n : Nat) : micEligible s g n = false := by
  rw [← Bool.not_eq_true, ← mem_micCandidates, (micNext_first s g).empty h]
  exact List.not_mem_nil

theorem micNext_eligible {g : Nat} (h : micNext s g ≠ 0) : micEligible s g (micNext s g) = true :=
  mem_micCandidates.mp ((micNext_first s g).mem h)

/-! ### A source's record (R387) -/

theorem MicOnly.eq (h : MicOnly s t) : { t with micSrc := s.micSrc, micTgt := s.micTgt, out := s.out } = s := h

theorem MicOnly.regs (h : MicOnly s t) : t.regs = s.regs := (congrArg State.regs h.eq :)

theorem MicOnly.of_rset {a v : Nat} (h : MicOnly (rset a v s) t) :
    { t with micSrc := s.micSrc, micTgt := s.micTgt, regs := s.regs, out := s.out } = s :=
  (congrArg (fun u : State => { u with regs := s.regs }) h.eq :)

theorem MicOnly.after_micSettle (h : MicOnly s t) : MicOnly s (micSettle t) := (micSettle_tgtsOnly t).to_micOnly h

theorem MicOnly.after_emit (h : MicOnly s t) (o : Out) : MicOnly s (emit o t) := h

theorem MicOnly.after_micSrcMod (h : MicOnly s t) (n : Nat) (f : MicSrc → MicSrc) : MicOnly s (micSrcMod n f t) := h

/-- A change of a source, with the targets settled after it. -/
def micChange (n : Nat) (f : MicSrc → MicSrc) (s : State) : State := micSettle (micSrcMod n f s)

theorem MicOnly.after_micChange (h : MicOnly s t) (n : Nat) (f : MicSrc → MicSrc) : MicOnly s (micChange n f t) :=
  (h.after_micSrcMod n f).after_micSettle

theorem micChange_only (n : Nat) (f : MicSrc → MicSrc) (s : State) : MicOnly s (micChange n f s) :=
  MicOnly.after_micChange (s := s) rfl n f

@[simp] theorem micSrcOf_micChange_same (n : Nat) (f : MicSrc → MicSrc) (s : State) :
    micSrcOf (micChange n f s) n = f (micSrcOf s n) := by simp [micChange]

theorem micSrcOf_micChange_other (n : Nat) (f : MicSrc → MicSrc) (s : State) {j : Nat} (hj : j ≠ n) :
    micSrcOf (micChange n f s) j = micSrcOf s j := by simp [micChange, micSrcOf_micSrcMod, hj]

theorem micSrcMod_congr {n : Nat} {f f' : MicSrc → MicSrc} (h : f (micSrcOf s n) = f' (micSrcOf s n)) :
    micSrcMod n f s = micSrcMod n f' s := by
  unfold micSrcMod tmod
  rw [show f (tget {} s.micSrc n) = f' (tget {} s.micSrc n) from h]

/-- A source's record once its signal is `on`. -/
def micSignalled (edge on : Bool) (x : MicSrc) : MicSrc :=
  { x with input := on, pend := if edge then x.pend || on else if x.activeAt.isSome then x.pend else on || x.hdr }

theorem micSignal_real {n : Nat} (h : micReal n = true) (on : Bool) (s : State) :
    micSignal n on s = micChange n (micSignalled (micEdgeSense s n) on) s := by
  unfold micSignal micChange
  rw [if_neg (by simp [h])]
  cases micEdgeSense s n
  case false => exact congrArg micSettle (micSrcMod_congr rfl)
  case true =>
    cases on
    case false => exact congrArg micSettle (micSrcMod_congr (by simp [micSignalled]))
    case true => exact congrArg micSettle (micSrcMod_congr (by simp [micSignalled]))

theorem micSignal_unreal {n : Nat} (h : micReal n = false) (on : Bool) (s : State) : micSignal n on s = s :=
  if_pos (by simp [h])

/-! ### Pulses on the software sources (R393) -/

theorem MicOnly.after_micPulse (h : MicOnly s t) (n : Nat) : MicOnly s (micPulse n t) := by
  unfold micPulse
  cases hn : micReal n
  case false => rwa [micSignal_unreal hn]
  case true =>
    rw [micSignal_real hn]
    exact h.after_micChange _ _

theorem micSrcOf_micPulse_other (n : Nat) (s : State) {j : Nat} (hj : j ≠ n) : micSrcOf (micPulse n s) j = micSrcOf s j := by
  unfold micPulse
  cases hn : micReal n
  case false => rw [micSignal_unreal hn]
  case true => rw [micSignal_real hn, micSrcOf_micChange_other _ _ _ hj]

theorem pend_micPulse_software {k : Nat} (hk : k < 32) (s : State) : (micSrcOf (micPulse (224 + k) s) (224 + k)).pend = true := by
  rw [micPulse, micSignal_real (by simp [micReal]; omega)]
  simp [micSignalled, micEdgeSense]

/-- The software sources of a list, pulsed in turn. -/
def micPulses (l : List Nat) (s : State) : State := forAll l (fun k s => micPulse (224 + k) s) s

theorem micPulses_only (l : List Nat) (s : State) : MicOnly s (micPulses l s) :=
  forAll_keeps (MicOnly s) _ (fun _ _ h => h.after_micPulse _) l s rfl

theorem micSrcOf_micPulses_hardware (l : List Nat) (s : State) {j : Nat} (hj : j < 224) :
    micSrcOf (micPulses l s) j = micSrcOf s j :=
  forAll_keeps (fun u => micSrcOf u j = micSrcOf s j) _
    (fun _ u h => (micSrcOf_micPulse_other _ u (by omega)).trans h) l s rfl

theorem pend_micPulses {k : Nat} (hk : k < 32) : ∀ (l : List Nat) (s : State),
    (micSrcOf (micPulses l s) (224 + k)).pend = ((micSrcOf s (224 + k)).pend || decide (k ∈ l))
  | [], s => by simp [micPulses, forAll]
  | i :: l, s => by
    refine (pend_micPulses hk l (micPulse (224 + i) s)).trans ?_
    by_cases hi : k = i
    · subst hi
      simp [pend_micPulse_software hk]
    · rw [micSrcOf_micPulse_other _ _ (by omega)]
      simp [hi]

/-! ### The commands on a source (R388 to R391) -/

theorem micSwi_eq {req : Req} (h : micFrom s req = true) (set : W32) :
    micSwi req set s = micPulses ((List.range 32).filter (fun k => set.getLsbD k)) s := if_neg (by simp [h])

/-- A source's record once a target has claimed it. -/
def micClaimed (g : Nat) (x : MicSrc) : MicSrc := { x with activeAt := some g, pend := false }

theorem micClaim_served (req : Req) (g : Fin 9) (hpol : polOpen s 94 = true) (hfatal : isFatal s = false) : micClaim req g s =
    (micNext s g, if micFrom s req = true ∧ micNext s g ≠ 0 then micChange (micNext s g) (micClaimed g) s else s) := by
  unfold micClaim
  dsimp only
  rw [if_neg (by simp [hpol, hfatal])]
  by_cases h : micFrom s req = true ∧ micNext s g ≠ 0
  · rw [if_pos h, if_neg (by simp [h.1, h.2])]
    rfl
  · rw [if_neg h, if_pos (by simpa [or_iff_not_imp_left] using h)]

/-- A source's record once its claim is completed, with the level it still asserts. -/
def micCompleted (edge : Bool) (x : MicSrc) : MicSrc :=
  { x with activeAt := none, pend := x.pend || (!edge && (x.input || x.hdr)) }

theorem micEoi_matched {req : Req} {g : Fin 9} {n : Fin 512} (hfrom : micFrom s req = true) (hn : micReal n = true)
    (hact : (micSrcOf s n).activeAt = some g.val) : micEoi req g n s = micChange n (micCompleted (micEdgeSense s n)) s := by
  unfold micEoi
  rw [if_neg (by simp [hfrom])]
  dsimp only
  rw [if_pos (by simp [hn, hact])]
  exact congrArg micSettle (micSrcMod_congr rfl)

theorem micEoi_unmatched {req : Req} {g : Fin 9} {n : Fin 512} (hfrom : micFrom s req = true)
    (h : micReal n = false ∨ (micSrcOf s n).activeAt ≠ some g.val) : micEoi req g n s = micUnmatched g n s := by
  unfold micEoi
  rw [if_neg (by simp [hfrom])]
  dsimp only
  rw [if_neg (by simpa [or_iff_not_imp_left] using h)]

/-! ### An unmatched completion (R390) -/

/-- The capture of an unmatched completion: the source, the target, that it holds one, and whether a later one was lost. -/
def micUnmatchedWord (g n lost : Nat) : Nat := n + g * 2 ^ 9 + 2 ^ 13 + lost * 2 ^ 14

theorem micUnmatchedWord_fields {g n : Nat} (hg : g < 9) (hn : n < 512) (lost : Nat) :
    bitsOf (micUnmatchedWord g n lost) 13 1 = 1 ∧ bitsOf (micUnmatchedWord g n lost) 0 9 = n ∧
      bitsOf (micUnmatchedWord g n lost) 9 4 = g := by
  unfold bitsOf micUnmatchedWord
  omega

/-- The event and the count of an unmatched completion. -/
def micUnmatchedCount (s : State) : State := rcnt 0x8188 0 32 1 (pgBlock ⟨.mic, 0⟩ s)

theorem rfld_micUnmatchedCount (s : State) : rfld (micUnmatchedCount s) 0x8188 0 32 = satAdd 32 (rfld s 0x8188 0 32) 1 := by
  rw [micUnmatchedCount, rfld_rcnt_same, rfld, rget_pgBlock_other _ _ _ (by decide), ← rfld]

theorem rget_micUnmatchedCount_capture (s : State) : rget (micUnmatchedCount s) 0x8184 = rget s 0x8184 := by
  rw [micUnmatchedCount, rget_rcnt_other _ _ _ _ _ _ (by decide), rget_pgBlock_other _ _ _ (by decide)]

/-- The capture word after an unmatched completion: a held one stays and notes the loss. -/
def micCapture (g n old : Nat) : Nat :=
  if bitsOf old 13 1 = 1 then setBits old 14 1 1 else micUnmatchedWord g n (bitsOf old 14 1)

theorem micCapture_held {g n : Nat} (hg : g < 9) (hn : n < 512) (old : Nat) : bitsOf (micCapture g n old) 13 1 = 1 := by
  unfold micCapture
  split
  next h => rw [bitsOf_setBits_below _ _ _ _ _ _ (by decide), h]
  next => exact (micUnmatchedWord_fields hg hn _).1

theorem micCapture_fresh {g n old : Nat} (hg : g < 9) (hn : n < 512) (hfree : bitsOf old 13 1 = 0) :
    bitsOf (micCapture g n old) 0 9 = n ∧ bitsOf (micCapture g n old) 9 4 = g := by
  rw [micCapture, if_neg (by omega)]
  exact (micUnmatchedWord_fields hg hn _).2

theorem micUnmatched_eq (g n : Nat) (s : State) :
    micUnmatched g n s = raise 0x3B 0 (rset 0x8184 (micCapture g n (rget s 0x8184)) (micUnmatchedCount s)) := by
  rw [← rget_micUnmatchedCount_capture]
  exact congrArg (raise 0x3B 0) (apply_ite (fun w => rset 0x8184 w (micUnmatchedCount s)) _ _ _).symm

theorem rget_micUnmatched_capture (g n : Nat) (s : State) :
    rget (micUnmatched g n s) 0x8184 = micCapture g n (rget s 0x8184) := by
  rw [micUnmatched_eq, rget_raise, rget_rset_same]

theorem rfld_micUnmatched_count (g n : Nat) (s : State) :
    rfld (micUnmatched g n s) 0x8188 0 32 = satAdd 32 (rfld s 0x8188 0 32) 1 := by
  rw [micUnmatched_eq, rfld_raise, rfld, rget_rset_other _ _ _ _ (by decide), ← rfld, rfld_micUnmatchedCount]

theorem micUnmatched_reports (g n : Nat) (s : State) :
    (micUnmatched g n s).flt.reports = s.flt.reports ++ [{ src := 0x3B * 64 }] := by
  rw [micUnmatched_eq]
  rfl

theorem raise_rset_frame (kind inst a b c u v w : Nat) (s : State) :
    { raise kind inst (rset a u (rset b v (rset c w s))) with regs := s.regs, flt := s.flt } = s := rfl

theorem micUnmatched_frame (g n : Nat) (s : State) : { micUnmatched g n s with regs := s.regs, flt := s.flt } = s := by
  rw [micUnmatched_eq]
  exact raise_rset_frame ..

/-! ### MIC_SRC_CFG (R391) -/

/-- The word MIC_SRC_CFG leaves: TARGET stays where the one written is out of range, and the sense of a software source stays. -/
def micCfgWord (n old v : Nat) : Nat :=
  bitsOf v 0 4 + (if bitsOf v 4 4 ≤ 8 then bitsOf v 4 4 else bitsOf old 4 4) * 2 ^ 4 +
    (if 224 ≤ n then bitsOf old 8 1 else bitsOf v 8 1) * 2 ^ 8 + bitsOf v 9 1 * 2 ^ 9

theorem bitsOf_srcCfgFields {prio target sense en : Nat} (hp : prio < 16) (ht : target < 16) (hs : sense < 2) (he : en < 2) :
    bitsOf (prio + target * 2 ^ 4 + sense * 2 ^ 8 + en * 2 ^ 9) 0 4 = prio ∧
      bitsOf (prio + target * 2 ^ 4 + sense * 2 ^ 8 + en * 2 ^ 9) 4 4 = target ∧
      bitsOf (prio + target * 2 ^ 4 + sense * 2 ^ 8 + en * 2 ^ 9) 9 1 = en := by
  unfold bitsOf
  omega

theorem micCfgWord_fields (n old v : Nat) : bitsOf (micCfgWord n old v) 0 4 = bitsOf v 0 4 ∧
    bitsOf (micCfgWord n old v) 4 4 = (if bitsOf v 4 4 ≤ 8 then bitsOf v 4 4 else bitsOf old 4 4) ∧
    bitAt (micCfgWord n old v) 9 = bitAt v 9 := by
  have htarget : (if bitsOf v 4 4 ≤ 8 then bitsOf v 4 4 else bitsOf old 4 4) < 16 := by split <;> exact bitsOf_lt _ 4 4
  have hsense : (if 224 ≤ n then bitsOf old 8 1 else bitsOf v 8 1) < 2 := by split <;> exact bitsOf_lt _ 8 1
  obtain ⟨hp, ht, he⟩ := bitsOf_srcCfgFields (bitsOf_lt v 0 4) htarget hsense (bitsOf_lt v 9 1)
  exact ⟨hp, ht, by rw [bitAt_eq, bitAt_eq, micCfgWord, he]⟩

/-- The level of a source that is not active is its PEND. -/
def micRelevel (n : Nat) (s : State) : State :=
  if micEdgeSense s n = true ∨ (micSrcOf s n).activeAt.isSome = true then s
  else micSrcMod n (fun x => { x with pend := x.input || x.hdr }) s

theorem micRelevel_only (n : Nat) (s : State) : MicOnly s (micRelevel n s) := by
  unfold micRelevel
  split <;> rfl

theorem activeAt_micRelevel (n j : Nat) (s : State) : (micSrcOf (micRelevel n s) j).activeAt = (micSrcOf s j).activeAt := by
  unfold micRelevel
  split
  · rfl
  · rw [micSrcOf_micSrcMod]
    split <;> rfl

/-- MIC_SRC_CFG of a source is written. -/
def micCfgSet (n v : Nat) (s : State) : State := rset (0x8800 + 4 * n) (micCfgWord n (micCfg s n) v) s

theorem micCfg_micCfgSet_same (n v : Nat) (s : State) : micCfg (micCfgSet n v s) n = micCfgWord n (micCfg s n) v :=
  rget_rset_same ..

theorem micCfg_micCfgSet_other (v : Nat) (s : State) {n j : Nat} (hj : j ≠ n) : micCfg (micCfgSet n v s) j = micCfg s j :=
  rget_rset_other _ _ _ _ (by omega)

theorem micCfgWrite_eq {req : Req} {n : Fin 512} (hfrom : micFrom s req = true) (hn : micReal n = true) (cfg : W32) :
    micCfgWrite req n cfg s = micSettle (micRelevel n (micCfgSet n cfg.toNat s)) := by
  unfold micCfgWrite
  dsimp only
  rw [if_neg (by simp [hfrom, hn])]
  rfl

theorem micCfg_micCfgWrite {req : Req} {n : Fin 512} (hfrom : micFrom s req = true) (hn : micReal n = true) (cfg : W32)
    (j : Nat) : micCfg (micCfgWrite req n cfg s) j = micCfg (micCfgSet n cfg.toNat s) j := by
  rw [micCfgWrite_eq hfrom hn, micCfg_micSettle]
  exact rget_congr (micRelevel_only ..).regs _

theorem micCfgWrite_frame {req : Req} {n : Fin 512} (hfrom : micFrom s req = true) (hn : micReal n = true) (cfg : W32) :
    { micCfgWrite req n cfg s with micSrc := s.micSrc, micTgt := s.micTgt, regs := s.regs, out := s.out } = s := by
  rw [micCfgWrite_eq hfrom hn]
  exact (micRelevel_only ..).after_micSettle.of_rset

/-! ### The commands of the block -/

theorem exec_micSourceRaise_real {n : Fin 512} (hn : micReal n = true) (on : Bool) (s : State) :
    exec (.micSourceRaise n on) s = .next (micChange n (micSignalled (micEdgeSense s n) on) s) :=
  congrArg Host.Outcome.next (micSignal_real hn on s)

theorem exec_micTgtClaim (req : Req) (g : Fin 9) (hpol : polOpen s 94 = true) (hfatal : isFatal s = false) :
    exec (.micTgtClaim req g) s = .next (emit (.readData (micNext s g))
      (if micFrom s req = true ∧ micNext s g ≠ 0 then micChange (micNext s g) (micClaimed g) s else s)) :=
  congrArg (fun p : Nat × State => Host.Outcome.next (emit (.readData p.1) p.2)) (micClaim_served req g hpol hfatal)

/-- Settles O53, clause by clause: each command through the one change it makes to a source, with the targets settled after. That
any management core and SEC may claim for any target, and that a target sleeps only until MIC_TARGET_WAKE, is log 24's reading. -/
theorem interruptControllerDelivers : Obligations.InterruptControllerDelivers := by
  refine ⟨?_, ?_, ?_, ?_, ?_, ?_, ?_, ?_, ?_⟩
  · intro n on s hn
    refine ⟨_, exec_micSourceRaise_real hn on s, ?_, ?_, fun j hj => micSrcOf_micChange_other _ _ s hj, fun hedge => ?_,
      fun hlevel hidle => ?_, fun hlevel hactive => ?_, micChange_only _ _ s⟩
    · rw [micSrcOf_micChange_same]; rfl
    · rw [micSrcOf_micChange_same]; rfl
    · simp [micSignalled, hedge]
    · simp [micSignalled, hlevel, hidle]
    · simp [micSignalled, hlevel, Option.isSome_iff_ne_none, hactive]
  · exact fun n on s hn => congrArg Host.Outcome.next (micSignal_unreal hn on s)
  · exact fun g s => ⟨micNext_zero, fun h => ⟨micNext_eligible h, fun n hn =>
      (micNext_first s g).first n (mem_micCandidates.mpr hn)⟩⟩
  · intro req g s hpol hfatal
    have hclaim := exec_micTgtClaim req g hpol hfatal
    refine ⟨fun hfrom => ?_, fun hfrom hnone => ?_, fun hfrom hsome => ?_⟩
    · rw [hclaim, if_neg (by simp [hfrom])]
    · rw [hclaim, if_neg (by simp [hnone]), hnone]
    · rw [if_pos ⟨hfrom, hsome⟩] at hclaim
      refine ⟨_, hclaim, rfl, ?_, ?_, fun j hj => ?_, (micChange_only _ _ s).after_emit _⟩
      · rw [micSrcOf_emit, micSrcOf_micChange_same]; rfl
      · rw [micSrcOf_emit, micSrcOf_micChange_same]; rfl
      · rw [micSrcOf_emit, micSrcOf_micChange_other _ _ s hj]
  · intro req g n s hfrom
    refine ⟨fun hn hact => ?_, fun hun => ?_⟩
    · refine ⟨_, congrArg Host.Outcome.next (micEoi_matched hfrom hn hact), ?_, ?_,
        fun j hj => micSrcOf_micChange_other _ _ s hj, micChange_only _ _ s⟩
      · rw [micSrcOf_micChange_same]; rfl
      · rw [micSrcOf_micChange_same]; rfl
    · refine ⟨_, congrArg Host.Outcome.next (micEoi_unmatched hfrom hun), rfld_micUnmatched_count .., ?_, fun hfree => ?_,
        micUnmatched_reports .., micUnmatched_frame ..⟩
      · rw [rfld, rget_micUnmatched_capture]
        exact micCapture_held g.isLt n.isLt _
      · rw [rfld, rfld, rget_micUnmatched_capture]
        exact micCapture_fresh g.isLt n.isLt hfree
  · intro req g n set cfg s hfrom
    exact ⟨congrArg Host.Outcome.next (if_pos (by simp [hfrom])), congrArg Host.Outcome.next (if_pos (by simp [hfrom])),
      congrArg Host.Outcome.next (if_pos (by simp [hfrom]))⟩
  · intro req set s hfrom
    refine ⟨_, congrArg Host.Outcome.next (micSwi_eq hfrom set), fun k hk => ?_,
      fun j hj => micSrcOf_micPulses_hardware _ s hj, micPulses_only _ s⟩
    rw [pend_micPulses hk]
    simp [hk]
  · intro req n cfg s hfrom hn
    have hcfg := micCfg_micCfgWrite hfrom hn cfg
    obtain ⟨hprio, htarget, hen⟩ := micCfgWord_fields n (micCfg s n) cfg.toNat
    rw [← micCfg_micCfgSet_same, ← hcfg] at hprio htarget hen
    refine ⟨_, rfl, hprio, hen, htarget, fun j => ?_, fun j hj => (hcfg j).trans (micCfg_micCfgSet_other _ s hj),
      micCfgWrite_frame hfrom hn cfg⟩
    rw [micCfgWrite_eq hfrom hn, micSrcOf_micSettle, activeAt_micRelevel]
    rfl
  · intro g s
    refine ⟨_, rfl, ?_, ?_, micSettle_micSrc _⟩
    · rw [micTgtOf_micSettle g.isLt]
      simp [micSettled]
    · rw [micTgtOf_micSettle g.isLt]
      have hnext : micNext (micTgtMod g (fun r => { r with sleeping := false }) s) g = micNext s g := rfl
      simp [micSettled, hnext]

end Sys2Proof.Machine
end

section
/-! The microcode of a core (R394 to R408, R415, R507): what stalls, preempts, folds and moves a context, the writing of a patch to
the cores that park together, and the start of a scrub pass. -/

namespace Sys2Proof.Machine

variable {s t : State}

/-! ### The next microaddress (R397) -/

section
variable {x : Ctx} {w key : Nat} {c : Bool}

theorem nextUa_seq (h : mwNext w = 0) : nextUa x w c key = some ((x.ua + 1) % 4096, x.stack) := by simp only [nextUa, h]

theorem nextUa_br (h : mwNext w = 1) :
    nextUa x w c key = some (if c then mwTarget w else (x.ua + 1) % 4096, x.stack) := by simp only [nextUa, h]

theorem nextUa_jmp (h : mwNext w = 2) : nextUa x w c key = some (mwTarget w, x.stack) := by simp only [nextUa, h]

theorem nextUa_call (h : mwNext w = 4) :
    nextUa x w c key = if 8 ≤ x.stack.length then none else some (mwTarget w, (x.ua + 1) % 4096 :: x.stack) := by
  simp only [nextUa, h, ge_iff_le]

theorem nextUa_ret_empty (h : mwNext w = 5) (hstack : x.stack = []) : nextUa x w c key = none := by
  simp only [nextUa, h, hstack]

theorem nextUa_ret_cons {a : Nat} {l : List Nat} (h : mwNext w = 5) (hstack : x.stack = a :: l) :
    nextUa x w c key = some (a, l) := by
  simp only [nextUa, h, hstack]

theorem nextUa_wait (h : mwNext w = 6) :
    nextUa x w c key = some (if c then (x.ua + 1) % 4096 else x.ua, x.stack) := by simp only [nextUa, h]

/-- A WAIT stays at its microaddress exactly when its condition does not hold: no successor of R397 is its own address. -/
theorem nextUa_wait_stays_iff {u : Nat} {st : List Nat} (h : mwNext w = 6) (hnext : nextUa x w c key = some (u, st)) :
    u = x.ua ↔ c = false := by
  rw [nextUa_wait h] at hnext
  obtain ⟨hu, -⟩ := Prod.mk.inj (Option.some.inj hnext)
  cases c
  case false => simp [← hu]
  case true =>
    simp only [if_true] at hu
    simp only [Bool.true_eq_false, iff_false]
    omega

end

/-! ### A context of a core -/

theorem tget_tmod_other_default {α : Type} [DecidableEq α] (d d' : α) (t : Tab α) (f : α → α) {i j : Nat} (h : j ≠ i) :
    tget d (tmod d' t i f) j = tget d t j := by
  unfold tmod tset
  split
  · rw [tget_terase, if_neg h]
  · rw [tget_tput, if_neg h]

@[simp] theorem context_ctxMod_same (i k : Nat) (f : Ctx → Ctx) (s : State) :
    (coreOf (ctxMod i k f s) i).context k = f ((coreOf s i).context k) := by
  rw [ctxMod, coreOf_coreMod_same]
  exact tget_tmod_same ..

theorem context_ctxMod_other (i : Nat) {j k : Nat} (f : Ctx → Ctx) (s : State) (h : j ≠ k) :
    (coreOf (ctxMod i k f s) i).context j = (coreOf s i).context j := by
  rw [ctxMod, coreOf_coreMod_same]
  exact tget_tmod_other_default _ _ _ _ h

/-- An update of a core that keeps its list of contexts keeps each context. -/
theorem context_coreMod {g : Core → Core} (i k : Nat) (s : State) (hg : ∀ c, (g c).ctx = c.ctx) :
    (coreOf (coreMod i g s) i).context k = (coreOf s i).context k := by
  rw [coreOf_coreMod_same, Core.context, hg, ← Core.context]

theorem MicOnly.cores (h : MicOnly s t) : t.cores = s.cores := (congrArg State.cores h.eq :)

theorem coreOf_micPulse (n i : Nat) (s : State) : coreOf (micPulse n s) i = coreOf s i :=
  coreOf_congr (MicOnly.after_micPulse (s := s) rfl n).cores i

/-! ### Stalls (R397, R404, R408, R418) -/

/-- The core's first stall is noted, with the event of its page (R418). -/
def stallNoted (i k : Nat) (s : State) : State :=
  if (coreOf s i).stall.isSome then s else pgBlock ⟨.core, i⟩ (coreMod i (fun c => { c with stall := some k }) s)

theorem ctxStall_eq (kind i k : Nat) (s : State) :
    ctxStall kind i k s = raise kind i (ctxMod i k (fun x => { x with stalled := true }) (stallNoted i k s)) := rfl

theorem context_stallNoted (i k j : Nat) (s : State) :
    (coreOf (stallNoted i k s) i).context j = (coreOf s i).context j := by
  unfold stallNoted
  split
  · rfl
  · rw [coreOf_pgBlock, context_coreMod]
    exact fun _ => rfl

theorem stallNoted_flt (i k : Nat) (s : State) : (stallNoted i k s).flt = s.flt := by
  unfold stallNoted
  split <;> rfl

theorem rget_stallNoted_other (i k : Nat) (s : State) {a : Nat} (ha : a ≠ aCore i 0x18) :
    rget (stallNoted i k s) a = rget s a := by
  unfold stallNoted
  split
  · rfl
  · rw [rget_pgBlock_other _ _ _ ha, rget_coreMod]

theorem context_ctxStall (kind i k : Nat) (s : State) :
    (coreOf (ctxStall kind i k s) i).context k = { (coreOf s i).context k with stalled := true } := by
  rw [ctxStall_eq, coreOf_raise, context_ctxMod_same, context_stallNoted]

theorem ctxStall_reports (kind i k : Nat) (s : State) :
    (ctxStall kind i k s).flt.reports = s.flt.reports ++ [{ src := kind * 64 + i }] := by
  rw [← stallNoted_flt i k s]
  rfl

theorem rfld_ctxStall_other (kind i k lo n : Nat) (s : State) {a : Nat} (ha : a ≠ aCore i 0x18) :
    rfld (ctxStall kind i k s) a lo n = rfld s a lo n :=
  congrArg (bitsOf · lo n) (rget_stallNoted_other i k s ha)

/-! ### A request is taken (R405) -/

/-- A context in the handler of a request of priority `p`: the state of its last fold stands in a new record. -/
def Ctx.preempted (p k : Nat) (x : Ctx) : Ctx := { x with
  records := { prio := p, restart := x.restart, stack := x.saved, acted := x.acted } :: x.records
  ua := reqVector p k, restart := reqVector p k, stack := [], saved := [], sram := 0, ops := 0, notes := 0, dist := 0
  acted := decide (p = 4), waiting := false }

theorem stage1Take_ctx (c : Core) : (stage1Take c).ctx = c.ctx := by
  unfold stage1Take
  split
  · rfl
  · dsimp only
    split <;> rfl

theorem context_rowSwitch (i k : Nat) (s : State) : (coreOf (rowSwitch i s) i).context k = (coreOf s i).context k := by
  rw [rowSwitch, coreOf_rcnt, context_coreMod]
  intro c
  split
  · rfl
  · exact stage1Take_ctx _

theorem context_takeReq (i k p : Nat) (s : State) :
    (coreOf (takeReq i k p s) i).context k = ((coreOf s i).context k).preempted p k := by
  have htaken := context_ctxMod_same i k (Ctx.preempted p k) s
  unfold takeReq
  dsimp only
  split
  · rw [context_rowSwitch]
    exact htaken
  split
  · rw [context_coreMod]
    exacts [htaken, fun _ => rfl]
  split
  · rw [context_coreMod]
    exacts [htaken, fun _ => rfl]
  · exact htaken

theorem prio_of_mem_requests {c : Core} {k p : Nat} (h : p ∈ c.requests k) : p < 5 := by
  simp only [Core.requests, List.mem_append, List.mem_ite_nil_right, List.mem_singleton] at h
  omega

/-! ### The fold (R403) -/

/-- A context whose shadow has folded: it goes on at `u` with stack `st`. -/
def Ctx.folded (u : Nat) (st : List Nat) (x : Ctx) : Ctx := { x with
  ua := u, restart := u, stack := st, saved := st, sram := 0, ops := 0, notes := 0, dist := 0, acted := true
  waiting := false }

theorem context_foldCtx {i k : Nat} (hrec : ((coreOf s i).context k).records = []) (u : Nat) (st : List Nat) (notes : Nat) :
    (coreOf (foldCtx i k u st notes s) i).context k = ((coreOf s i).context k).folded u st := by
  have hfold := context_ctxMod_same i k (Ctx.folded u st) s
  unfold foldCtx
  simp only [hrec]
  split
  · rw [coreOf_micPulse]
    exact hfold
  · exact hfold

/-! ### Commit points (R401, R403, R405) -/

section
variable {i k : Nat} (hrec : ((coreOf s i).context k).records = [])
include hrec

/-- No handler runs, so the highest pending request that is not new in this cycle is taken. -/
theorem commitPoint_of_request {p : Nat} (hreq : ((coreOf s i).requests k).head? = some p) (u : Nat) (st : List Nat)
    (notes : Nat) : commitPoint i k u st notes [] s = takeReq i k p s := by
  obtain ⟨l, hl⟩ := List.head?_eq_some_iff.mp hreq
  have hprio : p < 5 := prio_of_mem_requests (c := coreOf s i) (k := k) (by simp [hl])
  simp [commitPoint, hrec, hl, hprio]

theorem commitPoint_of_quiet (hreq : (coreOf s i).requests k = [])
    (hresume : mwNext ((coreOf s i).micro ((coreOf s i).context k)) ≠ 7) (hact : (coreOf s i).activating = false) (u : Nat)
    (st : List Nat) (notes : Nat) (fresh : List Nat) : commitPoint i k u st notes fresh s =
      if mwNext ((coreOf s i).micro ((coreOf s i).context k)) = 6 ∧ u = ((coreOf s i).context k).ua then
        ctxMod i k (fun y => { y with waiting := true }) (foldCtx i k u st notes s)
      else foldCtx i k u st notes s := by
  simp [commitPoint, hrec, hreq, hresume, hact]

end

/-- A context that goes on: it has folded, and waits where its microword is a WAIT whose condition does not hold. -/
theorem context_commitPoint_of_quiet {i k u key notes : Nat} {st fresh : List Nat} {c : Bool}
    (hrec : ((coreOf s i).context k).records = []) (hreq : (coreOf s i).requests k = [])
    (hresume : mwNext ((coreOf s i).micro ((coreOf s i).context k)) ≠ 7) (hact : (coreOf s i).activating = false)
    (hnext : nextUa ((coreOf s i).context k) ((coreOf s i).micro ((coreOf s i).context k)) c key = some (u, st)) :
    (coreOf (commitPoint i k u st notes fresh s) i).context k = { ((coreOf s i).context k).folded u st with
      waiting := decide (mwNext ((coreOf s i).micro ((coreOf s i).context k)) = 6) && !c } := by
  rw [commitPoint_of_quiet hrec hreq hresume hact]
  split
  case isTrue hstay =>
    obtain ⟨hwait, hu⟩ := hstay
    have hc := (nextUa_wait_stays_iff hwait hnext).mp hu
    rw [context_ctxMod_same, context_foldCtx hrec]
    simp [hwait, hc]
  case isFalse hgo =>
    have hwaits : (decide (mwNext ((coreOf s i).micro ((coreOf s i).context k)) = 6) && !c) = false := by
      by_cases hwait : mwNext ((coreOf s i).micro ((coreOf s i).context k)) = 6
      · have hc : c ≠ false := fun hc => hgo ⟨hwait, (nextUa_wait_stays_iff hwait hnext).mpr hc⟩
        simp [hc]
      · simp [hwait]
    rw [context_foldCtx hrec, hwaits]
    rfl

/-! ### The end of a nanoword (R397, R403, R404) -/

/-- The NOTIFY events a context holds at the end of its nanoword. -/
def Core.notesAfter (c : Core) (x : Ctx) : Nat := if x.waiting then 0 else x.notes + b2n (nwNotify (c.nano x))

/-- Does the nanoword a context executes exceed the shadow with `sram` bytes and `ops` operations of its own (R404)? A context that
waits issues none. -/
def Core.exceeds (c : Core) (x : Ctx) (sram ops : Nat) : Bool :=
  !x.waiting && (decide (x.sram + sram > 4096) || decide (x.ops + ops + c.notesAfter x > 64))

theorem exceeds_iff {c : Core} {x : Ctx} {sram ops : Nat} : c.exceeds x sram ops = true ↔
    (!x.waiting) = true ∧ (x.sram + sram > 4096 ∨ x.ops + ops + c.notesAfter x > 64) := by
  simp [Core.exceeds]

theorem exceeds_of_sram {c : Core} {x : Ctx} {sram : Nat} (ops : Nat) (hwait : x.waiting = false)
    (h : 4096 < x.sram + sram) : c.exceeds x sram ops = true :=
  exceeds_iff.mpr ⟨by simp [hwait], .inl h⟩

theorem not_exceeds_of_fits {c : Core} {x : Ctx} {sram ops : Nat} (hsram : x.sram + sram ≤ 4096)
    (hops : x.ops + ops + (x.notes + b2n (nwNotify (c.nano x))) ≤ 64) : ¬ c.exceeds x sram ops = true := by
  intro hover
  obtain ⟨hwait, hover⟩ := exceeds_iff.mp hover
  have hnotes : c.notesAfter x = x.notes + b2n (nwNotify (c.nano x)) := if_neg (by simpa using hwait)
  omega

theorem cycles_le (c : Core) (x : Ctx) : c.cycles x ≤ nwCycles (c.nano x) := by
  unfold Core.cycles
  split <;> omega

/-- A context whose nanoword is no commit point: it goes on at `u` with stack `st`, and its shadow grows. -/
def Ctx.advanced (u : Nat) (st : List Nat) (sram ops notes cycles : Nat) (x : Ctx) : Ctx := { x with
  ua := u, stack := st, sram := x.sram + sram, ops := x.ops + ops, notes := notes, dist := x.dist + cycles }

/-- What a nanoword within the shadow does, by the next microaddress and stack. -/
def nanowordOn (i k sram ops : Nat) (fresh : List Nat) (next : Option (Nat × List Nat)) (s : State) : State :=
  let c := coreOf s i
  let x := c.context k
  match next with
  | none => ctxStall 0x04 i k s
  | some (u, st) =>
    if nwCp (c.nano x) ∨ nwHandoff (c.nano x) ∨ mwNext (c.micro x) = 7 then commitPoint i k u st (c.notesAfter x) fresh s
    else ctxMod i k (Ctx.advanced u st sram ops (c.notesAfter x) (c.cycles x)) s

section
variable {i k sram ops : Nat} {fresh : List Nat}

theorem nanowordOn_of_no_room (i k : Nat) (s : State) :
    nanowordOn i k sram ops fresh none s = ctxStall 0x04 i k s := rfl

theorem nanowordOn_of_commit (hcp : nwCp ((coreOf s i).nano ((coreOf s i).context k)) = true) (u : Nat) (st : List Nat) :
    nanowordOn i k sram ops fresh (some (u, st)) s =
      commitPoint i k u st ((coreOf s i).notesAfter ((coreOf s i).context k)) fresh s :=
  if_pos (.inl hcp)

theorem nanowordOn_of_plain (hcp : nwCp ((coreOf s i).nano ((coreOf s i).context k)) = false)
    (hhand : nwHandoff ((coreOf s i).nano ((coreOf s i).context k)) = false)
    (hresume : mwNext ((coreOf s i).micro ((coreOf s i).context k)) ≠ 7) (u : Nat) (st : List Nat) :
    nanowordOn i k sram ops fresh (some (u, st)) s =
      ctxMod i k (Ctx.advanced u st sram ops ((coreOf s i).notesAfter ((coreOf s i).context k))
        ((coreOf s i).cycles ((coreOf s i).context k))) s :=
  if_neg (by simp [hcp, hhand, hresume])

end

section
variable {core : Fin 64} {k : Fin 8} {flag : Bool} {key : Fin 16} {sram ops : Nat} {fresh : List Nat}

/-- The nanoword of a context that runs, when the watchdog does not act within it. -/
theorem exec_nanoword_of_runs (hruns : ctxRuns s core ((coreOf s core).context k) = true)
    (htime : ((coreOf s core).context k).dist + nwCycles ((coreOf s core).nano ((coreOf s core).context k)) < 2048) :
    exec (.nanowordComplete core k flag key sram ops fresh false) s =
      .next (if (coreOf s core).exceeds ((coreOf s core).context k) sram ops then ctxStall 0x05 core k s
        else nanowordOn core k sram ops fresh
          (nextUa ((coreOf s core).context k) ((coreOf s core).micro ((coreOf s core).context k))
            (condVal ((coreOf s core).context k) ((coreOf s core).micro ((coreOf s core).context k)) flag) key) s) := by
  have htime' := (Nat.add_le_add_left (cycles_le _ _) _).trans_lt htime
  change execNanowordComplete core k flag key sram ops fresh false s = _
  unfold execNanowordComplete
  simp only [Bool.false_eq_true, if_false]
  rw [if_neg (by simpa [hruns] using htime')]
  exact congrArg Host.Outcome.next (if_congr exceeds_iff.symm rfl rfl)

end

/-! ### The commit watchdog (R408) -/

theorem exec_commitWatchdog_of_late {core : Fin 64} {k : Fin 8} (hruns : ctxRuns s core ((coreOf s core).context k) = true)
    (hlate : 2048 ≤ ((coreOf s core).context k).dist + (coreOf s core).cycles ((coreOf s core).context k)) :
    exec (.commitWatchdog core k) s = .next (ctxStall 0x06 core k (rcnt (aCore core 0x8C) 16 16 1 s)) :=
  congrArg Host.Outcome.next (if_neg (by simp [hruns, hlate]))

/-! ### The end of an activation (R415) -/

theorem DeliveryOnly.cores (h : DeliveryOnly s t) : t.cores = s.cores := by
  rw [h]
  rfl

theorem finish_cores (slot st : Nat) (s : State) : (finish slot st s).cores = s.cores :=
  ((DeliveryOnly.refl s).after_complete slot st {}).cores

theorem svnCommit_cores (m : Img) (s : State) : (svnCommit m s).cores = s.cores := by
  unfold svnCommit burn
  dsimp only
  split
  · rfl
  · split <;> rfl

theorem mcodeFinish_cores (s : State) : (mcodeFinish s).cores = s.cores := by
  unfold mcodeFinish
  split
  · rfl
  dsimp only
  rw [svnCommit_cores]
  split
  · split
    · split <;> rfl
    · rfl
  · rw [finish_cores]
    split
    · split <;> rfl
    · rfl

/-- Each core of `t` has the store and the activation of that of `s`. -/
def StoresKept (s t : State) : Prop :=
  ∀ j, (coreOf t j).store = (coreOf s j).store ∧ (coreOf t j).activating = (coreOf s j).activating

theorem StoresKept.of_cores (h : t.cores = s.cores) : StoresKept s t := fun j => by
  rw [coreOf_congr h j]
  exact ⟨rfl, rfl⟩

theorem StoresKept.after_coreMod (h : StoresKept s t) (i : Nat) {g : Core → Core}
    (hg : ∀ c, (g c).store = c.store ∧ (g c).activating = c.activating) : StoresKept s (coreMod i g t) := by
  intro j
  rw [coreOf_coreMod]
  split
  · rw [(hg _).1, (hg _).2]
    exact h j
  · exact h j

theorem StoresKept.after_forAll {α : Type} (h : StoresKept s t) (l : List α) {f : α → State → State}
    (hf : ∀ a u, StoresKept s u → StoresKept s (f a u)) : StoresKept s (forAll l f t) :=
  forAll_keeps (StoresKept s) f hf l t h

/-- Going on with an activation asks cores, and writes no store. -/
theorem mcodeSettle_storesKept (s : State) : StoresKept s (mcodeSettle s) := by
  unfold mcodeSettle
  split
  · exact .of_cores rfl
  dsimp only
  split
  · exact .of_cores (mcodeFinish_cores _)
  refine StoresKept.after_forAll (.of_cores rfl) _ fun p u hu => ?_
  split
  · exact hu
  · refine hu.after_forAll _ fun j v hv => hv.after_coreMod j fun c => ?_
    split <;> exact ⟨rfl, rfl⟩

/-! ### The patch is written (R415) -/

/-- A core to which the patch has been written: its contexts go on from their WAITs. -/
def Core.patched (m : Store) (c : Core) : Core := { c with
  store := m, activating := false, ctx := c.ctx.map (fun e => (e.1, { e.2 with parked := false })) }

/-- The patch is written to the cores of a list in turn. -/
def patchCores (m : Store) (l : List Nat) (s : State) : State := forAll l (fun i => coreMod i (Core.patched m)) s

theorem coreOf_patchCores_other (m : Store) {j : Nat} {l : List Nat} (hj : j ∉ l) (s : State) :
    coreOf (patchCores m l s) j = coreOf s j := by
  induction l generalizing s with
  | nil => rfl
  | cons i l ih =>
    obtain ⟨hi, hl⟩ := not_or.mp (mt List.mem_cons.mpr hj)
    exact (ih hl _).trans (by rw [coreOf_coreMod, if_neg hi])

theorem coreOf_patchCores_of_mem (m : Store) {j : Nat} {l : List Nat} (hj : j ∈ l) (s : State) :
    (coreOf (patchCores m l s) j).store = m ∧ (coreOf (patchCores m l s) j).activating = false := by
  induction l generalizing s with
  | nil => exact absurd hj List.not_mem_nil
  | cons i l ih =>
    by_cases hl : j ∈ l
    · exact ih hl _
    · obtain rfl := (List.mem_cons.mp hj).resolve_right hl
      have hcore : coreOf (patchCores m (j :: l) s) j = (coreOf s j).patched m :=
        (coreOf_patchCores_other m hl _).trans (coreOf_coreMod_same ..)
      rw [hcore]
      exact ⟨rfl, rfl⟩

/-- The activation goes on with the cores that have not been written. -/
def activationLeft (g : List Nat) (s : State) : State :=
  { s with mcode := { s.mcode with left := s.mcode.left.filter (fun c => !g.contains c) } }

theorem exec_patchActivation_of_parked {core : Fin 64} {m : Store} (hm : s.mcode.next = some m)
    (hleft : s.mcode.left.contains core.val = true) (hfatal : isFatal s = false)
    (hparked : (actGroup s core).all (fun j => (coreOf s j).allParked) = true) :
    exec (.patchActivation core) s =
      .next (mcodeSettle (activationLeft (actGroup s core) (patchCores m (actGroup s core) s))) := by
  change execPatchActivation core s = _
  unfold execPatchActivation
  rw [hm]
  exact congrArg Host.Outcome.next (if_neg (by rw [hleft, hfatal, hparked]; decide))

/-! ### Scrub passes (R507) -/

theorem scrubStart_frame (i : Nat) (x : Tab Core) (s : State) :
    { scrubStart i s with cores := x, free := s.free } = { s with cores := x } := by
  unfold scrubStart
  split <;> rfl

theorem lastScrub_scrubStart (i : Nat) (s : State) : (coreOf (scrubStart i s) i).lastScrub = (coreOf s i).lastScrub := by
  unfold scrubStart
  split
  · rfl
  · rw [takeFree, coreOf_coreMod_same]
    rfl

theorem exec_scrub_of_idle {core : Fin 64} (hpol : polOpen s core = true) (hfatal : isFatal s = false)
    (hidle : (coreOf s core).scrubUntil ≤ s.now) :
    exec (.scrub core) s = .next (coreMod core (fun c => { c with scrubReq := true, intReq := true }) s) :=
  congrArg Host.Outcome.next (if_neg (by simp [hpol, hfatal, hidle]))

theorem exec_scrub_of_running {core : Fin 64} (hrun : s.now < (coreOf s core).scrubUntil) :
    exec (.scrub core) s = .next s :=
  congrArg Host.Outcome.next (if_pos (.inr (.inr hrun)))

theorem exec_scrubPeriod_of_due {core : Fin 64} (hpol : polOpen s core = true) (hfatal : isFatal s = false)
    (hperiod : rfld s (aCore core 0x9C) 8 8 ≠ 0)
    (hdue : (coreOf s core).lastScrub + psMs (10 * rfld s (aCore core 0x9C) 8 8) ≤ s.now) :
    exec (.scrubPeriod core) s = .next (scrubStart core (coreMod core (fun c => { c with lastScrub := s.now }) s)) :=
  congrArg Host.Outcome.next (if_neg (by simp [hpol, hfatal, hperiod, hdue]))

/-- Settles O54, clause by clause: each command through the one change it makes to a context or to the cores of an activation. That
the watchdog acts within the nanoword that would reach 2,048 is log 25's reading. -/
theorem coreContextsRunMicrowords : Obligations.CoreContextsRunMicrowords := by
  refine ⟨?_, ?_, ?_, ?_, ?_, ?_⟩
  · intro core k flag key sram ops fresh s
    dsimp only
    intro hruns hdist hsram hops
    have hexec := exec_nanoword_of_runs (flag := flag) (key := key) (sram := sram) (ops := ops) (fresh := fresh) hruns hdist
    rw [if_neg (not_exceeds_of_fits hsram hops)] at hexec
    refine ⟨fun u st hcp hhand hresume hnext => ?_, fun u st hcp hnext hreq hrec hresume hact => ?_,
      fun u st p hcp hnext hreq hrec hfresh => ?_, fun hnext => ?_⟩
    · rw [hnext, nanowordOn_of_plain hcp hhand hresume] at hexec
      refine ⟨_, hexec, ?_, fun j hj => context_ctxMod_other _ _ s hj, rfl⟩
      rw [context_ctxMod_same]
      exact ⟨rfl, rfl, rfl, rfl, rfl⟩
    · rw [hnext, nanowordOn_of_commit hcp] at hexec
      refine ⟨_, hexec, ?_⟩
      rw [context_commitPoint_of_quiet hrec hreq hresume hact hnext]
      exact ⟨rfl, rfl, rfl, rfl, rfl, rfl, rfl, rfl⟩
    · subst hfresh
      rw [hnext, nanowordOn_of_commit hcp, commitPoint_of_request hrec hreq] at hexec
      refine ⟨_, hexec, ?_⟩
      rw [context_takeReq]
      exact ⟨rfl, rfl, rfl, by rw [Ctx.preempted, hrec]⟩
    · rw [hnext, nanowordOn_of_no_room] at hexec
      refine ⟨_, hexec, ?_, ?_, ctxStall_reports ..⟩ <;> rw [context_ctxStall]
  · intro core k flag key sram ops fresh s
    dsimp only
    intro hruns hwait htime hover
    have hexec := exec_nanoword_of_runs (flag := flag) (key := key) (sram := sram) (ops := ops) (fresh := fresh) hruns htime
    rw [if_pos (exceeds_of_sram ops hwait hover)] at hexec
    refine ⟨_, hexec, ?_, ctxStall_reports ..⟩
    rw [context_ctxStall]
  · intro x w key c
    exact ⟨nextUa_seq, nextUa_br, nextUa_jmp, fun h hroom => (nextUa_call h).trans (if_neg (by omega)),
      fun h hfull => (nextUa_call h).trans (if_pos hfull), nextUa_ret_empty, fun a l => nextUa_ret_cons, nextUa_wait⟩
  · intro core k s
    dsimp only
    intro hruns hlate
    refine ⟨_, exec_commitWatchdog_of_late hruns hlate, ?_, ctxStall_reports .., ?_⟩
    · rw [context_ctxStall]
    · rw [rfld_ctxStall_other _ _ _ _ _ _ (by simp [aCore]), rfld_rcnt_same]
  · intro core m s hm hleft hfatal hparked
    have hkept := mcodeSettle_storesKept (activationLeft (actGroup s core) (patchCores m (actGroup s core) s))
    refine ⟨_, exec_patchActivation_of_parked hm hleft hfatal hparked, fun j hj => ?_, fun j hj => ?_⟩
    · rw [(hkept j).1, (hkept j).2]
      exact coreOf_patchCores_of_mem m hj s
    · exact (hkept j).1.trans (congrArg Core.store (coreOf_patchCores_other m hj s))
  · intro core s hpol hfatal
    refine ⟨fun hidle => ⟨_, exec_scrub_of_idle hpol hfatal hidle, ?_, ?_, rfl⟩, exec_scrub_of_running,
      fun hperiod hdue => ⟨_, exec_scrubPeriod_of_due hpol hfatal hperiod hdue, ?_, scrubStart_frame ..⟩⟩
    · rw [coreOf_coreMod_same]
    · rw [coreOf_coreMod_same]
    · rw [lastScrub_scrubStart, coreOf_coreMod_same]

end Sys2Proof.Machine
end

section
/-! What the fatal state closes (R435): queued commands, doorbells and fetch, the windows, the register writes, SEC's answers and most of
the units' own events do nothing, DRAM answers fenced-abort, start-up stops at its first step, and FLT takes no raise. -/

namespace Sys2Proof.Machine

section
variable {s : State} (h : isFatal s = true)
include h

theorem runCmd_of_fatal (slot opc : Nat) (ok : Slot → State → Bool) (body : Slot → State → State) :
    runCmd slot opc ok body s = s := by
  unfold runCmd
  split
  · rfl
  · exact if_pos (by simp [h])

theorem opCmd_of_fatal (slot opc op top : Nat) (ok : Slot → State → Bool) (body : Slot → State → State) :
    opCmd slot opc op top ok body s = s := by
  unfold opCmd
  split
  · rfl
  · exact ite_eq_right_iff.mpr fun _ => runCmd_of_fatal h ..

theorem enrolCmd_of_fatal (slot op : Nat) (writes : Bool) (body : Slot → State → State) : enrolCmd slot op writes body s = s :=
  ite_eq_left_iff.mpr fun _ => opCmd_of_fatal h ..

theorem sessCmd_of_fatal (slot opc : Nat) (ok : Slot → State → Bool) (sts : List SState)
    (body : Slot → Nat → Session → State → State) : sessCmd slot opc ok sts body s = s := runCmd_of_fatal h ..

theorem hostReach_of_fatal (fn : Nat) : hostReach s fn = false := by simp [hostReach, h]
theorem fetchNext_of_fatal : fetchNext s = none := by simp [fetchNext, h]
theorem engineUp_of_fatal : engineUp s = false := by simp [engineUp, h]
theorem mbxUp_of_fatal : mbxUp s = false := by simp [mbxUp, h]
theorem micFrom_of_fatal (req : Req) : micFrom s req = false := by simp [micFrom, h]
theorem dmaFrom_of_fatal (req : Req) (c : Nat) : dmaFrom s req c = false := by simp [dmaFrom, h]
theorem nvsFrom_of_fatal (req : Req) : nvsFrom s req = false := by simp [nvsFrom, h]
theorem ctxRuns_of_fatal (i : Nat) (x : Ctx) : ctxRuns s i x = false := by simp [ctxRuns, h]
theorem pageTakes_of_fatal (p : Page) : pageTakes s p = false := by simp [pageTakes, h]
theorem doeUp_of_fatal (p : Nat) : doeUp s p = false := by simp [doeUp, h]

theorem bar2Write_of_fatal (req : Req) (ide : Option Nat) (addr : Nat) (data : List Byte) : bar2Write req ide addr data s = s := by
  unfold bar2Write
  split <;> simp [h]

theorem warmWrite_of_fatal (req : Req) (v : Nat) : warmWrite req v s = s := by
  unfold warmWrite
  dsimp only
  split <;> simp [h]

theorem injWrite_of_fatal (p : Page) (v : Nat) : injWrite p v s = s := by simp [injWrite, pageTakes_of_fatal h]

theorem execInjectionArm_of_fatal (page : Nat) (v : W32) : execInjectionArm page v s = .next s := by
  unfold execInjectionArm
  split <;> simp [injWrite_of_fatal h]

theorem execInjectionDisarm_of_fatal (page : Nat) (v : W32) : execInjectionDisarm page v s = .next s := by
  unfold execInjectionDisarm
  split <;> simp [injWrite_of_fatal h]

theorem execInjectionFire_of_fatal (page : Nat) : execInjectionFire page s = .next s := by
  unfold execInjectionFire
  split <;> simp [h]

theorem execPageLock_of_fatal (page : Nat) : execPageLock page s = .next s := by
  unfold execPageLock
  split <;> simp [pageTakes_of_fatal h]

theorem execSrSend_of_fatal (sid : Fin 4096) : execSrSend sid s = .next s := by
  unfold execSrSend
  dsimp only
  split <;> simp [h]

theorem execPatchActivation_of_fatal (core : Fin 64) : execPatchActivation core s = .next s := by
  unfold execPatchActivation
  split <;> simp [h]

theorem execDramRequest_of_fatal (port : Fin 15) (write : Bool) (addr : Fin (2 ^ 39)) (len : Nat) (data : List Byte)
    (cls : Fin 3) (ecc : Fin 3) : execDramRequest port write addr len data cls ecc s = .next (emit (.dramEnd addr true) s) :=
  if_pos (.inr h)

/-- FLT takes no raise in the fatal state. -/
theorem fltRaise_of_fatal (was : Nat → Bool) (r : Report) : fltRaise was r s = s := if_pos (.inr h)

theorem fltCycle_of_fatal (l : List Report) : fltCycle l s = s :=
  forAll_keeps (fun u => u = s) _ (fun r _ hu => (congrArg _ hu).trans (fltRaise_of_fatal h _ r)) _ s rfl

/-- Start-up in the fatal state stops at its first step. -/
theorem startUp_of_fatal (train : List TrainRes) (fails : List (Fin 32)) :
    startUp train fails s = bootStop 1 4 (rset 0x3084 (2 ^ s.boot.cause) s) := if_pos h

end

end Sys2Proof.Machine
end

section
/-! The fatal state lasts (R435, R436). What still acts in the fatal state is made of operations that each keep the record of its
source and time, with one equation that says so; only the changes of power write it. -/

namespace Sys2Proof.Machine

/-- The record that latches the fatal state: its source and time. -/
def State.latch (s : State) : Option (Nat × Nat) := s.flt.fatal

/-- The outcome of a command keeps the fatal record of `s`. -/
def KeepsLatch (s : State) (o : Host.Outcome State Fault Refusal) : Prop := ∀ t, o = .next t → t.latch = s.latch

section
variable (s : State)

@[simp] theorem State.latch_eta : s.flt.fatal = s.latch := (rfl)

/-- An update of the other fields keeps it. -/
@[simp] theorem State.latch_mk {pending board boot now clk adj regs halves funs ports qps slots fetchOrder fetchPos
    deferred doorbells sess pels cores pairs mcs bpm dram bufm dma mbx micSrc micTgt flt gears nvs net time sec mcode
    jtagIr rebalanceAt free out} :
    (State.mk pending board boot now clk adj regs halves funs ports qps slots fetchOrder fetchPos deferred doorbells
      sess pels cores pairs mcs bpm dram bufm dma mbx micSrc micTgt flt gears nvs net time sec mcode jtagIr rebalanceAt
      free out).latch = flt.fatal :=
  (rfl)

@[simp] theorem ite_latch (p : Prop) [Decidable p] (s t : State) :
    (if p then s else t).latch = if p then s.latch else t.latch := apply_ite State.latch p s t

/-- The state of a pair that a function answers. -/
theorem latch_of_eq {α : Type} {x : α × State} {a : α} {s t : State} (h : x = (a, t)) (hx : x.2.latch = s.latch) :
    t.latch = s.latch := by
  rw [h] at hx
  exact hx

theorem DeliveryOnly.latch {s t : State} (h : DeliveryOnly s t) : t.latch = s.latch := by
  rw [h]
  rfl

@[simp] theorem keepsLatch_next {s t : State} : KeepsLatch s (.next t) ↔ t.latch = s.latch :=
  ⟨fun h => h t rfl, fun h _ ht => next_inj ht ▸ h⟩

/-! ### Registers and records -/

@[simp] theorem rset_latch (a v : Nat) : (rset a v s).latch = s.latch := (rfl)
@[simp] theorem rfset_latch (a lo n v : Nat) : (rfset a lo n v s).latch = s.latch := (rfl)
@[simp] theorem rcnt_latch (a lo n k : Nat) : (rcnt a lo n k s).latch = s.latch := (rfl)
@[simp] theorem emit_latch (o : Out) : (emit o s).latch = s.latch := (rfl)
@[simp] theorem takeFree_latch : (takeFree s).2.latch = s.latch := (rfl)
@[simp] theorem pgBlock_latch (p : Page) : (pgBlock p s).latch = s.latch := (rfl)
@[simp] theorem funcMod_latch (f : Nat) (g : Func → Func) : (funcMod f g s).latch = s.latch := (rfl)
@[simp] theorem portMod_latch (i : Nat) (g : Port → Port) : (portMod i g s).latch = s.latch := (rfl)
@[simp] theorem sessMod_latch (i : Nat) (g : Session → Session) : (sessMod i g s).latch = s.latch := (rfl)
@[simp] theorem coreMod_latch (i : Nat) (g : Core → Core) : (coreMod i g s).latch = s.latch := (rfl)
@[simp] theorem pelMod_latch (i : Nat) (g : Pel → Pel) : (pelMod i g s).latch = s.latch := (rfl)
@[simp] theorem pairMod_latch (i : Nat) (g : Pair → Pair) : (pairMod i g s).latch = s.latch := (rfl)
@[simp] theorem mcMod_latch (i : Nat) (g : Mc → Mc) : (mcMod i g s).latch = s.latch := (rfl)
@[simp] theorem chMod_latch (n c : Nat) (g : McCh → McCh) : (chMod n c g s).latch = s.latch := (rfl)
@[simp] theorem gearMod_latch (i : Nat) (g : Gear → Gear) : (gearMod i g s).latch = s.latch := (rfl)
@[simp] theorem subMod_latch (i : Nat) (g : Subport → Subport) : (subMod i g s).latch = s.latch := (rfl)
@[simp] theorem raiseRep_latch (r : Report) : (raiseRep r s).latch = s.latch := (rfl)
@[simp] theorem raise_latch (kind inst : Nat) : (raise kind inst s).latch = s.latch := (rfl)

@[simp] theorem raiseAt_latch (kind inst addr addrKind requester access : Nat) :
    (raiseAt kind inst addr addrKind requester access s).latch = s.latch := (rfl)

@[simp] theorem forAll_latch {α : Type} (l : List α) {f : α → State → State} (hf : ∀ a u, (f a u).latch = u.latch) :
    (forAll l f s).latch = s.latch := forAll_keeps (fun u => u.latch = s.latch) f (fun a u hu => (hf a u).trans hu) l s rfl

/-! ### Buffers -/

@[simp] theorem poolMod_latch (p : Nat) (g : Pool → Pool) : (poolMod p g s).latch = s.latch := (rfl)
@[simp] theorem bufMod_latch (k : Nat) (g : BufRec → BufRec) : (bufMod k g s).latch = s.latch := (rfl)
@[simp] theorem bufErase_latch (k : Nat) : (bufErase k s).latch = s.latch := (rfl)

@[simp] theorem ticketsClear_latch (rid : Option Nat) : (ticketsClear rid s).latch = s.latch := by
  unfold ticketsClear
  split <;> simp

theorem takeBuf_latch {p : Nat} {r : AllocReq} {s t : State} {h : Nat} (ht : takeBuf p r s = some (h, t)) :
    t.latch = s.latch := by
  unfold takeBuf at ht
  split at ht
  · cases ht
  · cases ht
    simp

@[simp] theorem refuse_latch (r : AllocReq) : (refuse r s).latch = s.latch := by
  unfold refuse
  split <;> simp

@[simp] theorem bpmAlloc_latch (r : AllocReq) : (bpmAlloc r s).2.latch = s.latch := by
  unfold bpmAlloc
  split
  · rfl
  split
  · rfl
  split
  · simp
  split
  · simp
  next ht =>
    split
    · exact takeBuf_latch ht
    · simp [takeBuf_latch ht]

@[simp] theorem bpmReject_latch (port kind h : Nat) : (bpmReject port kind h s).latch = s.latch := by simp [bpmReject]

@[simp] theorem bpmRef_latch (port who h : Nat) : (bpmRef port who h s).2.latch = s.latch := by
  unfold bpmRef
  (repeat' split) <;> simp

@[simp] theorem bufReturn_latch (k : Nat) : (bufReturn k s).latch = s.latch := by simp [bufReturn]

@[simp] theorem bpmUnref_latch (port who h : Nat) (host : Bool) : (bpmUnref port who h host s).2.latch = s.latch := by
  unfold bpmUnref
  split
  · rfl
  split
  · simp
  · simp [apply_ite Prod.snd]

@[simp] theorem bpmReserve_latch (p sid n : Nat) : (bpmReserve p sid n s).2.latch = s.latch := by
  simp [bpmReserve, apply_ite Prod.snd]

@[simp] theorem bpmUnreserve_latch (p sid n : Nat) : (bpmUnreserve p sid n s).latch = s.latch := (rfl)

@[simp] theorem dropRef_latch (port h : Nat) : (dropRef port h s).latch = s.latch := by
  unfold dropRef
  (repeat' split) <;> simp

@[simp] theorem bufWrite_latch (k off : Nat) (l : List Byte) : (bufWrite k off l s).latch = s.latch := by simp [bufWrite]

/-! ### Completions and queued commands -/

@[simp] theorem qpMod_latch (k : Nat) (g : QPair → QPair) : (qpMod k g s).latch = s.latch := by
  unfold qpMod
  split <;> simp

@[simp] theorem slotFree_latch (o : Option Nat) : (slotFree o s).latch = s.latch := by
  unfold slotFree
  split <;> simp

@[simp] theorem msixSend_latch (fn vec : Nat) : (msixSend fn vec s).latch = s.latch := by simp [msixSend]

@[simp] theorem cqModerate_latch (k : Nat) : (cqModerate k s).latch = s.latch := by
  unfold cqModerate
  split <;> simp

@[simp] theorem svcSync_latch (k : Nat) : (svcSync k s).latch = s.latch := by simp [svcSync]

@[simp] theorem cqDrop_latch (k : Nat) (e : Entry) : (cqDrop k e s).latch = s.latch := by simp [cqDrop]

@[simp] theorem cqPour_latch (k : Nat) : (cqPour k s).latch = s.latch := ((DeliveryOnly.refl s).after_cqPour k).latch

@[simp] theorem cqL1Check_latch (k : Nat) : (cqL1Check k s).latch = s.latch := by
  unfold cqL1Check
  split <;> simp

@[simp] theorem cqReleaseN_latch (n : Nat) : (cqReleaseN n s).latch = s.latch :=
  ((DeliveryOnly.refl s).after_cqReleaseN n).latch

@[simp] theorem cqRelease_latch : (cqRelease s).latch = s.latch := by simp [cqRelease]

@[simp] theorem cqStartFlush_latch (k : Nat) : (cqStartFlush k s).latch = s.latch := by simp [cqStartFlush]

@[simp] theorem event_latch (k code idx : Nat) (sid : Option Nat) (r0 r1 r2 r3 ext : Nat) :
    (event k code idx sid r0 r1 r2 r3 ext s).latch = s.latch :=
  ((DeliveryOnly.refl s).after_event k code idx sid r0 r1 r2 r3 ext).latch

@[simp] theorem evtPf_latch (code idx r0 r1 : Nat) : (evtPf code idx r0 r1 s).latch = s.latch := by simp [evtPf]

@[simp] theorem evtSess_latch (sid code idx r0 r1 r2 r3 ext : Nat) :
    (evtSess sid code idx r0 r1 r2 r3 ext s).latch = s.latch := by simp [evtSess]

@[simp] theorem settleDeletes_latch : (settleDeletes s).latch = s.latch := (DeliveryOnly.refl s).after_settleDeletes.latch

@[simp] theorem complete_latch (slot st : Nat) (r : Res) : (complete slot st r s).latch = s.latch :=
  ((DeliveryOnly.refl s).after_complete slot st r).latch

@[simp] theorem finish_latch (slot st : Nat) : (finish slot st s).latch = s.latch := by simp [finish]

/-! ### Queue pairs, fetch and functions -/

@[simp] theorem execCqAggTimeout_keepsLatch (fn : Fin 64) (qid : Fin 256) : KeepsLatch s (execCqAggTimeout fn qid s) := by
  unfold execCqAggTimeout
  dsimp only
  split <;> simp

@[simp] theorem execServiceTimerExpire_keepsLatch (fn : Fin 64) (qid : Fin 256) :
    KeepsLatch s (execServiceTimerExpire fn qid s) := by
  unfold execServiceTimerExpire
  dsimp only
  split <;> simp

@[simp] theorem flushIn_latch (l : List Nat) (want : CqSt → Bool) : (flushIn l want s).latch = s.latch := by
  refine forAll_latch s l (fun k u => ?_)
  split <;> simp

@[simp] theorem srOrders_latch : (srOrders s).latch = s.latch := by simp [srOrders]

@[simp] theorem ethTx_latch (sub : Nat) (kind : PktKind) (sid seq len : Nat) :
    (ethTx sub kind sid seq len s).latch = s.latch := by simp [ethTx]

/-! ### The interrupt controller -/

@[simp] theorem micSrcMod_latch (n : Nat) (f : MicSrc → MicSrc) : (micSrcMod n f s).latch = s.latch := (rfl)
@[simp] theorem micTgtMod_latch (t : Nat) (f : MicTgt → MicTgt) : (micTgtMod t f s).latch = s.latch := (rfl)
@[simp] theorem micSettle_latch : (micSettle s).latch = s.latch := by simp [micSettle]
@[simp] theorem micSignal_latch (n : Nat) (on : Bool) : (micSignal n on s).latch = s.latch := by simp [micSignal]
@[simp] theorem micPulse_latch (n : Nat) : (micPulse n s).latch = s.latch := by simp [micPulse]

/-! ### The DMA engine -/

@[simp] theorem dmaMod_latch (c : Nat) (f : DmaCh → DmaCh) : (dmaMod c f s).latch = s.latch := (rfl)
@[simp] theorem dmaGo_latch (c : Nat) : (dmaGo c s).latch = s.latch := by simp [dmaGo]
@[simp] theorem dmaShadow_latch (c : Nat) : (dmaShadow c s).latch = s.latch := by simp [dmaShadow]

@[simp] theorem spaceWrite_latch (sp addr : Nat) (l : List Byte) : (spaceWrite sp addr l s).latch = s.latch := by
  simp [spaceWrite]

@[simp] theorem dRefs_latch (c : Nat) (l got : List Nat) : (dRefs c l got s).2.latch = s.latch := by
  induction l generalizing got s with
  | nil => rfl
  | cons h l ih =>
    unfold dRefs
    split
    · simp
    · simp [ih]

@[simp] theorem dmaRun_latch (c : Nat) (d : BitVec 256) (host : List Byte) (err : Option (Nat × Fin 3)) :
    (dmaRun c d host err s).latch = s.latch := by
  unfold dmaRun
  extract_lets +onlyGivenNames done
  have hdone (e : DmaEnd) (u : State) : (done e u).latch = u.latch := dmaMod_latch u c _
  clear_value done
  split
  · rfl
  split
  · simp [hdone]
  split
  · simp [hdone]
  split
  next h => simp [hdone, latch_of_eq h (dRefs_latch s _ _ _)]
  next h =>
    have hrefs := latch_of_eq h (dRefs_latch s _ _ _)
    split
    · simp [hdone, hrefs]
    extract_lets +onlyGivenNames n fencedAt data
    clear_value fencedAt
    cases fencedAt with
    | none =>
      dsimp only
      (repeat' split) <;> simp [hdone, hrefs]
    | some o => simp [hdone, hrefs]

@[simp] theorem dmaOp_latch (op : Nat) (c : Nat) (d : BitVec 256) (host : List Byte) (err : Option (Nat × Fin 3)) :
    (dmaOp op c d host err s).latch = s.latch := by simp [dmaOp]

@[simp] theorem execDmaDescriptorDone_keepsLatch (c : Fin 32) : KeepsLatch s (execDmaDescriptorDone c s) := by
  unfold execDmaDescriptorDone
  dsimp only
  split <;> simp

/-! ### What sessions share -/

@[simp] theorem slotEmpty_latch (sid i : Nat) : (slotEmpty sid i s).latch = s.latch := by simp [slotEmpty]
@[simp] theorem picMod_latch (sid num : Nat) (f : Pic → Pic) : (picMod sid num f s).latch = s.latch := (rfl)

@[simp] theorem flushPics_latch (n sid : Nat) : (flushPics n sid s).latch = s.latch := by
  induction n generalizing s with
  | zero => rfl
  | succ n ih =>
    unfold flushPics
    dsimp only
    (repeat' split) <;> simp [ih]

@[simp] theorem flushAll_latch (sid : Nat) : (flushAll sid s).latch = s.latch := by simp [flushAll]

@[simp] theorem dropCaptured_latch (sid num : Nat) : (dropCaptured sid num s).latch = s.latch := by
  unfold dropCaptured
  split <;> simp

@[simp] theorem sourceFree_latch (sid num : Nat) : (sourceFree sid num s).latch = s.latch := by
  unfold sourceFree
  dsimp only
  split <;> simp

@[simp] theorem bktMod_latch (sid num : Nat) (f : Bkt → Bkt) : (bktMod sid num f s).latch = s.latch := (rfl)

@[simp] theorem endPic_latch (sid num st : Nat) : (endPic sid num st s).latch = s.latch := by
  unfold endPic
  dsimp only
  split <;> simp

@[simp] theorem dropPkts_latch (sid : Nat) : (dropPkts sid s).latch = s.latch := (rfl)
@[simp] theorem askFence_latch (sid : Nat) : (askFence sid s).latch = s.latch := (rfl)
@[simp] theorem evtMoved_latch (sid old new cause : Nat) : (evtMoved sid old new cause s).latch = s.latch := by
  simp [evtMoved]
@[simp] theorem wmClear_latch (sid : Nat) : (wmClear sid s).latch = s.latch := (rfl)

@[simp] theorem evtSplit_latch (k cause : Nat) : (evtSplit k cause s).latch = s.latch := by simp [evtSplit]
@[simp] theorem pairSettle_latch (k : Nat) : (pairSettle k s).latch = s.latch := by simp [pairSettle]

@[simp] theorem moveEnd_latch (sid cause : Nat) : (moveEnd sid cause s).latch = s.latch := by
  unfold moveEnd
  dsimp only
  split <;> simp

@[simp] theorem endPend_latch (sid st : Nat) : (endPend sid st s).latch = s.latch := by
  unfold endPend
  split <;> simp

@[simp] theorem dropRetries_latch (sid : Nat) : (dropRetries sid s).latch = s.latch := by
  refine forAll_latch s _ (fun a u => ?_)
  dsimp only
  (repeat' split) <;> simp

@[simp] theorem releaseSession_latch (sid : Nat) : (releaseSession sid s).latch = s.latch := by simp [releaseSession]
@[simp] theorem pktCnt_latch (i n : Nat) : (pktCnt i n s).latch = s.latch := (rfl)
@[simp] theorem sendSr_latch (sid : Nat) (bye : Bool) : (sendSr sid bye s).latch = s.latch := by simp [sendSr]

@[simp] theorem closeSession_latch (sid : Nat) (slot : Option Nat) : (closeSession sid slot s).latch = s.latch := by
  simp [closeSession]

/-! ### Session commands -/

@[simp] theorem execSealDone_keepsLatch (sid : Fin 4096) (ok : Bool) : KeepsLatch s (execSealDone sid ok s) := by
  unfold execSealDone
  dsimp only
  (repeat' split) <;> simp

@[simp] theorem submitRate_latch (sid : Nat) : (submitRate sid s).latch = s.latch := by simp [submitRate]

@[simp] theorem noteReady_latch (sid : Nat) : (noteReady sid s).latch = s.latch := by
  unfold noteReady
  dsimp only
  (repeat' split) <;> simp

@[simp] theorem execSeamTrained_keepsLatch (k : Fin 32) : KeepsLatch s (execSeamTrained k s) := by
  unfold execSeamTrained
  dsimp only
  (repeat' split) <;> simp

@[simp] theorem execSeamTrainTimeout_keepsLatch (k : Fin 32) : KeepsLatch s (execSeamTrainTimeout k s) := by
  unfold execSeamTrainTimeout
  dsimp only
  (repeat' split) <;> simp

@[simp] theorem freeSession_latch (sid : Nat) : (freeSession sid s).latch = s.latch := by simp [freeSession]

@[simp] theorem execSessionCloseDrained_keepsLatch (sid : Fin 4096) : KeepsLatch s (execSessionCloseDrained sid s) := by
  unfold execSessionCloseDrained
  dsimp only
  (repeat' split) <;> simp

@[simp] theorem execHoldoffEnd_keepsLatch (sid : Fin 4096) : KeepsLatch s (execHoldoffEnd sid s) := by
  unfold execHoldoffEnd
  split <;> simp

@[simp] theorem execCcfbSilence_keepsLatch (sid : Fin 4096) : KeepsLatch s (execCcfbSilence sid s) := by
  unfold execCcfbSilence
  dsimp only
  split <;> simp

@[simp] theorem execRtcpSilence_keepsLatch (sid : Fin 4096) : KeepsLatch s (execRtcpSilence sid s) := by
  unfold execRtcpSilence
  dsimp only
  split <;> simp

@[simp] theorem execOldKeyLapse_keepsLatch (sid : Fin 4096) : KeepsLatch s (execOldKeyLapse sid s) := by
  unfold execOldKeyLapse
  split <;> simp

/-! ### Ingest windows -/

@[simp] theorem ringWrite_latch (sid port off : Nat) (data : List Byte) :
    (ringWrite sid port off data s).latch = s.latch := by simp [ringWrite]

@[simp] theorem halfWrite_latch (sid off : Nat) (data : List Byte) : (halfWrite sid off data s).latch = s.latch := by
  simp [halfWrite]

@[simp] theorem dbReject_latch (sid lines : Nat) : (dbReject sid lines s).latch = s.latch := by simp [dbReject]

@[simp] theorem srcDoorbell_latch (sid port pic lines : Nat) : (srcDoorbell sid port pic lines s).latch = s.latch := by
  simp [srcDoorbell]

@[simp] theorem ctlWrite_latch (sid port off v : Nat) : (ctlWrite sid port off v s).latch = s.latch := by simp [ctlWrite]

@[simp] theorem ctlWrites_latch (sid port off : Nat) (l : List Nat) : (ctlWrites sid port off l s).latch = s.latch := by
  induction l generalizing off s with
  | nil => rfl
  | cons v l ih => simp [ctlWrites, ih]

@[simp] theorem windowWrite_latch (sid port off : Nat) (data : List Byte) :
    (windowWrite sid port off data s).latch = s.latch := by simp [windowWrite]

@[simp] theorem execRingCopyDone_keepsLatch (sid : Fin 4096) : KeepsLatch s (execRingCopyDone sid s) := by
  unfold execRingCopyDone
  dsimp only
  split <;> simp

/-! ### Row scheduling -/

@[simp] theorem promoteAged_latch (p : Nat) : (promoteAged p s).latch = s.latch := by simp [promoteAged]

/-! ### The block pipeline -/

@[simp] theorem seamArrive_latch (k kind fails : Nat) : (seamArrive k kind fails s).latch = s.latch := by
  unfold seamArrive
  dsimp only
  (repeat' split) <;> simp

/-! ### The time unit -/

@[simp] theorem clockStep_latch (d : Int) : (clockStep d s).latch = s.latch := by simp [clockStep]
@[simp] theorem ptpMod_latch (d : Nat) (f : Ptp → Ptp) : (ptpMod d f s).latch = s.latch := (rfl)
@[simp] theorem evtTime_latch (step : Bool) (size : Int) : (evtTime step size s).latch = s.latch := by simp [evtTime]

@[simp] theorem timeGo_latch (st : TimeSt) (active : Nat) (step : Bool) (size : Int) :
    (timeGo st active step size s).latch = s.latch := by simp [timeGo]

@[simp] theorem stepOff_latch (d : Nat) : (stepOff d s).latch = s.latch := by simp [stepOff]
@[simp] theorem switchTo_latch (d : Nat) : (switchTo d s).latch = s.latch := by simp [switchTo]

@[simp] theorem domainLost_latch (d : Nat) : (domainLost d s).latch = s.latch := by
  unfold domainLost
  dsimp only
  (repeat' split) <;> simp

@[simp] theorem execPtpDomainLost_keepsLatch (d : Fin 2) : KeepsLatch s (execPtpDomainLost d s) := by
  unfold execPtpDomainLost
  dsimp only
  split <;> simp

/-! ### Ethernet -/

@[simp] theorem evtSub_latch (sub : Nat) (up : Bool) : (evtSub sub up s).latch = s.latch := by simp [evtSub]
@[simp] theorem setLink_latch (sub : Nat) (up : Bool) : (setLink sub up s).latch = s.latch := by simp [setLink]

/-! ### Mailboxes -/

@[simp] theorem mbxMod_latch (c : Nat) (f : Mbx → Mbx) : (mbxMod c f s).latch = s.latch := (rfl)
@[simp] theorem mbxEvt_latch (c bit : Nat) (irq : Bool) : (mbxEvt c bit irq s).latch = s.latch := by simp [mbxEvt]
@[simp] theorem inSpace_latch (c before : Nat) : (inSpace c before s).latch = s.latch := by simp [inSpace]
@[simp] theorem mbxCount_latch (c words msgs : Nat) : (mbxCount c words msgs s).latch = s.latch := by simp [mbxCount]

@[simp] theorem outHead_latch (n c : Nat) (can : Bool) : (outHead n c can s).latch = s.latch := by
  induction n generalizing s with
  | zero => rfl
  | succ n ih =>
    unfold outHead
    (repeat' split) <;> simp [ih]

@[simp] theorem mbxHostReset_latch (c : Nat) : (mbxHostReset c s).latch = s.latch := by simp [mbxHostReset]

@[simp] theorem execMbxBridgePlace_keepsLatch (c : Fin 8) : KeepsLatch s (execMbxBridgePlace c s) := by
  unfold execMbxBridgePlace
  dsimp only
  split <;> simp

@[simp] theorem execMbxEndpointTimeout_keepsLatch (c : Fin 8) : KeepsLatch s (execMbxEndpointTimeout c s) := by
  unfold execMbxEndpointTimeout
  dsimp only
  split <;> simp

@[simp] theorem execSidebandReset_keepsLatch (i3c : Bool) : KeepsLatch s (execSidebandReset i3c s) := by
  refine keepsLatch_next.mpr (forAll_latch s _ (fun c u => ?_))
  split <;> simp

/-! ### Memory controllers -/

@[simp] theorem refIssue_latch (n c : Nat) : (refIssue n c s).latch = s.latch := by simp [refIssue]

@[simp] theorem refIssues_latch (n c k : Nat) : (refIssues n c k s).latch = s.latch := by
  induction k generalizing s with
  | zero => rfl
  | succ k ih => simp [refIssues, ih]

@[simp] theorem eccNote_latch (n ue addr : Nat) : (eccNote n ue addr s).latch = s.latch := by simp [eccNote]
@[simp] theorem trnStart_latch (mc op : Nat) (cmd : W32) : (trnStart mc op cmd s).latch = s.latch := by simp [trnStart]
@[simp] theorem trnPattern_latch (mc : Nat) : (trnPattern mc s).latch = s.latch := by simp [trnPattern]

/-! ### Gears, voltage and heat -/

@[simp] theorem overCheck_latch (p : Nat) : (overCheck p s).latch = s.latch := by simp [overCheck]
@[simp] theorem gearSet_latch (p g : Nat) : (gearSet p g s).latch = s.latch := by simp [gearSet]
@[simp] theorem derail_latch (p : Nat) : (derail p s).latch = s.latch := by simp [derail]

@[simp] theorem execGearUp_keepsLatch (p : Fin 8) : KeepsLatch s (execGearUp p s) := by
  unfold execGearUp
  dsimp only
  split <;> simp

@[simp] theorem capStep_latch (p : Nat) : (capStep p s).latch = s.latch := by simp [capStep]

@[simp] theorem execDroopEnd_keepsLatch (p : Fin 8) : KeepsLatch s (execDroopEnd p s) := by
  unfold execDroopEnd
  split <;> simp

/-! ### The settings store -/

@[simp] theorem nvsResult_latch (code : Nat) (cmd : Bool) : (nvsResult code cmd s).latch = s.latch := by simp [nvsResult]

@[simp] theorem nvsAbandon_latch : (nvsAbandon s).latch = s.latch := by simp [nvsAbandon]

@[simp] theorem execNvsCmdTimeout_keepsLatch : KeepsLatch s (execNvsCmdTimeout s) := by
  unfold execNvsCmdTimeout
  split <;> simp

@[simp] theorem execNvsWriteDone_keepsLatch (readBack : Bool) : KeepsLatch s (execNvsWriteDone readBack s) := by
  unfold execNvsWriteDone
  (repeat' split) <;> simp

/-! ### Links and function resets -/

@[simp] theorem ideLeave_latch (p : Nat) : (ideLeave p s).latch = s.latch := by simp [ideLeave]
@[simp] theorem evtPort_latch (p : Nat) : (evtPort p s).latch = s.latch := by simp [evtPort]
@[simp] theorem svcSyncAll_latch : (svcSyncAll s).latch = s.latch := by simp [svcSyncAll]

@[simp] theorem linkGo_latch (p : Nat) (st : LinkSt) (gen width : Nat) (flit : Bool) :
    (linkGo p st gen width flit s).latch = s.latch := by simp [linkGo]

/-! ### Keys and enrolment -/

@[simp] theorem secCnt_latch (i : Nat) : (secCnt i s).latch = s.latch := (rfl)

@[simp] theorem enrolErase_latch : (enrolErase s).latch = s.latch := by simp [enrolErase]

/-! ### Requests of SEC -/

@[simp] theorem execMbxInRead_keepsLatch (c : Fin 8) : KeepsLatch s (execMbxInRead c s) := by
  unfold execMbxInRead
  dsimp only
  split <;> simp

@[simp] theorem secReq_latch (c : Fin 4) (nvs : Bool) {body : State → State} (hbody : ∀ u, (body u).latch = u.latch) :
    (secReq c nvs body s).latch = s.latch := by
  unfold secReq
  split
  · rfl
  · exact hbody _

@[simp] theorem burn_latch (ok : Bool) (f : Sec → Sec) : (burn ok f s).latch = s.latch := by simp [burn]
@[simp] theorem flashPut_latch (area : Nat) (m : Img) : (flashPut area m s).latch = s.latch := (rfl)
@[simp] theorem patchPut_latch (i : Nat) (m : Img) : (patchPut i m s).latch = s.latch := (rfl)

@[simp] theorem execFwStage_keepsLatch (c : Fin 4) (m : Img) : KeepsLatch s (execFwStage c m s) := by
  refine keepsLatch_next.mpr (secReq_latch s _ _ (fun u => ?_))
  dsimp only
  (repeat' split) <;> simp

/-! ### Microcode -/

@[simp] theorem ctxMod_latch (i k : Nat) (f : Ctx → Ctx) : (ctxMod i k f s).latch = s.latch := (rfl)

theorem execNanowordComplete_keepsLatch (h : isFatal s = true) (core : Fin 64) (k : Fin 8) (flag : Bool) (key : Fin 16)
    (sram ops : Nat) (fresh : List Nat) (kind3 : Bool) :
    KeepsLatch s (execNanowordComplete core k flag key sram ops fresh kind3 s) := by
  have h0 : isFatal (if kind3 then coreMod core (fun c => { c with switch := true }) s else s) = true := by
    split <;> exact h
  refine keepsLatch_next.mpr ?_
  rw [if_pos (.inl (by simp [ctxRuns_of_fatal h0]))]
  simp

/-! ### Faults and re-admission -/

@[simp] theorem coreStalled_latch (i : Nat) : (coreStalled i s).latch = s.latch := by simp [coreStalled]

@[simp] theorem detect_latch (r : Report) : (detect r s).latch = s.latch := by
  unfold detect
  dsimp only
  split <;> simp

theorem isFatal_congr {s t : State} (h : t.latch = s.latch) : isFatal t = isFatal s := congrArg Option.isSome h

theorem execFaultRaise_keepsLatch (h : isFatal s = true) (reps : List Report) : KeepsLatch s (execFaultRaise reps s) := by
  refine keepsLatch_next.mpr ?_
  split
  · split
    · rfl
    · rw [fltCycle_of_fatal (by exact h)]
      rfl
  · have hdetect (l : List Report) : (forAll l detect s).latch = s.latch := forAll_latch s l fun r u => detect_latch u r
    rw [fltCycle_of_fatal ((isFatal_congr (hdetect _)).trans h), hdetect]

/-! ### Power, reset and start-up -/

@[simp] theorem clearChip_latch : (clearChip s).latch = s.latch := (rfl)

@[simp] theorem bootStop_latch (step cause : Nat) : (bootStop step cause s).latch = s.latch := by simp [bootStop]

theorem execStartUp_keepsLatch (h : isFatal s = true) (straps : Byte) (train : List TrainRes) (fails : List (Fin 32)) :
    KeepsLatch s (execStartUp straps train fails s) := by
  refine keepsLatch_next.mpr ?_
  split
  · rfl
  · dsimp only
    rw [startUp_of_fatal, bootStop_latch, rset_latch]
    · exact clearChip_latch s
    · exact h

@[simp] theorem execJtagInstruction_keepsLatch (op : JtagOp) (pins : BitVec 66) :
    KeepsLatch s (execJtagInstruction op pins s) := by
  unfold execJtagInstruction
  dsimp only
  (repeat' split) <;> simp

/-! ### Buffer requests -/

@[simp] theorem bpmAnswer_latch (port : Nat) (r : AllocRes) : (bpmAnswer port r s).latch = s.latch := by
  unfold bpmAnswer
  split <;> simp

@[simp] theorem execAllocRetry_keepsLatch (rid : Nat) : KeepsLatch s (execAllocRetry rid s) := by
  unfold execAllocRetry
  dsimp only
  (repeat' split) <;> simp

/-! ### Device DRAM -/

@[simp] theorem lineRead_latch (n : Nat) (r : DReq) : (lineRead n r s).latch = s.latch := by simp [lineRead]
@[simp] theorem dramServe_latch (r : DReq) : (dramServe r s).latch = s.latch := by simp [dramServe]

@[simp] theorem serveAll_latch (n : Nat) (l : List DReq) : (serveAll n l s).latch = s.latch := by
  induction n generalizing l s with
  | zero => rfl
  | succ n ih =>
    unfold serveAll
    split
    · rfl
    · simp [ih]

/-! ### Register reads -/

@[simp] theorem halfMod_latch (req : Req) (f : Half → Half) : (halfMod req f s).latch = s.latch := (rfl)
@[simp] theorem ideMod_latch (p i : Nat) (f : IdeStream → IdeStream) : (ideMod p i f s).latch = s.latch := (rfl)

section
variable {s : State}

theorem read32_latch_of_fatal (h : isFatal s = true) (req : Req) (p : Page) (off : Nat) :
    (read32 req p off s).2.latch = s.latch := by
  unfold read32
  dsimp only
  (repeat' split) <;> simp [h, accUnmapped, readEffect]

theorem read64_latch_of_fatal (h : isFatal s = true) (req : Req) (p : Page) (off : Nat) :
    (read64 req p off s).2.latch = s.latch := by
  have hlow := read32_latch_of_fatal h req p off
  have hhigh := read32_latch_of_fatal ((isFatal_congr hlow).trans h) req p (off + 4)
  unfold read64
  dsimp only
  (repeat' split) <;> simp [h, hlow, hhigh, accUnmapped, readEffect]

theorem regRead_latch_of_fatal (h : isFatal s = true) (req : Req) (a len : Nat) : (regRead req a len s).2.latch = s.latch := by
  unfold regRead
  (repeat' split) <;> simp [h, accSize, accUnmapped, apply_ite Prod.snd, read32_latch_of_fatal, read64_latch_of_fatal]

theorem execRegisterRead_keepsLatch (h : isFatal s = true) (req : Req) (bar2 : Bool) (addr len : Nat) :
    KeepsLatch s (execRegisterRead req bar2 addr len s) := by
  unfold execRegisterRead
  dsimp only
  (repeat' split) <;> simp [h, regRead_latch_of_fatal]

end

/-! ### Time -/

@[simp] theorem micHeader_latch (n : Nat) (on : Bool) : (micHeader n on s).latch = s.latch := by simp [micHeader]
@[simp] theorem micSample_latch : (micSample s).latch = s.latch := by simp [micSample]
@[simp] theorem tick_latch : (tick s).latch = s.latch := by simp [tick]

/-! ### Every command -/

/-- In the fatal state every command but the two changes of power keeps the record. What the state closes does nothing; what still
acts keeps it by the equations of its operations, and a command that branches has its own lemma above. -/
theorem exec_keepsLatch {s : State} (c : Instr) (hfatal : isFatal s = true) (hoff : c ≠ .powerRemoval)
    (hon : ∀ p, c ≠ .powerOn p) : KeepsLatch s (exec c s) := by
  cases c
  case faultRaise reps => exact execFaultRaise_keepsLatch s hfatal reps
  case nanowordComplete => exact execNanowordComplete_keepsLatch _ hfatal _ _ _ _ _ _ _ _
  case startUp => exact execStartUp_keepsLatch _ hfatal _ _ _
  case registerRead => exact execRegisterRead_keepsLatch hfatal _ _ _ _
  case powerRemoval => exact absurd rfl hoff
  case powerOn p => exact absurd rfl (hon p)
  all_goals
    simp [exec, hfatal, runCmd_of_fatal, opCmd_of_fatal, enrolCmd_of_fatal, sessCmd_of_fatal, hostReach_of_fatal,
      fetchNext_of_fatal, engineUp_of_fatal, mbxUp_of_fatal, micFrom_of_fatal, dmaFrom_of_fatal, nvsFrom_of_fatal,
      ctxRuns_of_fatal, doeUp_of_fatal, execInjectionArm_of_fatal, execInjectionDisarm_of_fatal, bar2Write_of_fatal,
      warmWrite_of_fatal, execSrSend_of_fatal, execPatchActivation_of_fatal, execInjectionFire_of_fatal,
      execPageLock_of_fatal, execDramRequest_of_fatal, doeAt, doeIn, sqTailWrite, cqHeadWrite, aqEnable, aqDisable,
      timeManual, timePtp, timeSet, timeRate, mbxInWord, micClaim, micEoi, micSwi, micCfgWrite, dmaEnable, dmaDisable,
      dmaResume, dmaTailWrite, dmaCommit, nvsArm, nvsSecond, scrubAsk, execCreateQp, execDeleteQp, execSetCqModeration,
      execIdentify, execSetVfQuota, execSetVfQueues, execSessionOpen, execSessionClose, execSessionQuiesce, execSessionResume,
      execSessionMove, execSessionExport, execSessionImport, execSessionQuery, execSessionSetRc, execKeyRequest,
      execEncodePicture, execDecodePicture, execFrameRelease, execBufAlloc, execBufWrite, execBufRead, execBufRelease,
      execTandemJoin, execTandemSplit, execPolderAdmit, execStoreSettings, execKeyAgreeAgree, execKeyAgreeSet, execAttest,
      execClusterEnrolRequest, execClusterEnrolCreate, execClusterEnrolOffer, execClusterEnrolAccept, execClusterEnrolLeave,
      execMcodeLoad, execDebugUnlockChallenge, execDebugUnlockResponse, execSqTailDoorbell, execCqHeadDoorbell, execSqFetch,
      execSqEntryReadError, execAdminQueueEnable, execAdminQueueDisable, execAqReady, execFunctionPowerState, execLinkL1Entry,
      execLinkL1Exit, execMsixUnmask, execVfEnable, execVfFlr, execPfFlr, execIngestWrite, execSrcDb, execRateDemotionEnd,
      execJobPacketWrite, execRowDispatch, execAgePromotion, execBlockStageDone, execRowPacketise, execPacketSend,
      execRebalanceEval, execAutoMove, execSeamBoundaryRecord, execSeamSnapshotRecord, execSeamEntropyHandover,
      execSeamModelRecord, execReceiveFrame, execHostTxTail, execHostTxSend, execEthModeWrite, execEthLinkUp, execEthLinkDown,
      execPcieLinkChange, execDelayReqSend, execTimeManual, execTimePtp, execTimeSet, execTimeRate, execGetVersion,
      execGetCapabilities, execNegotiateAlgorithms, execGetDigests, execGetCertificate, execChallenge, execGetMeasurements,
      execKeyExchange, execFinish, execKeyUpdate, execHeartbeat, execEndSession, execKeyProg, execKSetGo,
      execIdeIntegrityError, execLcProvision, execLcActivate, execLcReturn, execOpkeyRotate, execVendorRevoke, execBindWrite,
      execDrbgReseed, execRefreshInterval, execRtTrafficEnd, execMr4Poll, execDriftCheck, execSelfRefreshIdle, execSrPrepDone,
      execSrEntryDone, execSrWake, execSrExitDone, execMcTrnWritePattern, execMcTrnReadCompare, execMcTrnWriteReadCompare,
      execMcTrnMrWrite, execMcTrnMrRead, execMcTrnZqCal, execMcTrnWck2ckSample, execMcTrnDone, execAlloc, execRef, execUnref,
      execReserve, execUnreserve, execBpmHoldExpire, execDmaChEnable, execDmaChDisable, execDmaChResume, execDmaChTail,
      execDmaNop, execDmaCopy, execDmaFill, execDmaCompare, execDmaGather, execShadowCommit, execMbxInData, execMbxOutData,
      execHostReset, execMbxPartialTimeout, execMctpMessage, execMbxOutWrite, execMicSourceRaise, execMicTgtClaim,
      execMicTgtEoi, execMicSwi, execMicSrcCfg, execMicTargetWake, execCommitWatchdog, execScrub, execScrubPeriod,
      execFaultReportTimer, execSelfTestDone, execQuiescentBoundary, execHAutoReadmit, execDerailleurEval, execAvsUpdate,
      execDroopOnset, execCapRelease, execThermalSample, execSupplyExcursion, execCommitGearWrite, execPerstAssert,
      execWarmReset, execPcieHotReset, execRefclkLoss, execNvsCmdArm, execNvsStoreTrainLive, execNvsStoreTrainStored,
      execNvsClear, execRegisterWrite, execPeerPortFlr, execRootPllRelock]

end

theorem step_keepsLatch {s t : State} (hfatal : isFatal s = true) (hstep : step s = .next t)
    (hoff : ∀ l, s.pending ≠ .powerRemoval :: l) (hon : ∀ p l, s.pending ≠ .powerOn p :: l) : t.latch = s.latch := by
  unfold step at hstep
  split at hstep
  next => exact next_inj hstep ▸ tick_latch s
  next c l hpending =>
    exact exec_keepsLatch (s := { s with pending := l }) c hfatal (fun h => hoff l (h ▸ hpending))
      (fun p h => hon p l (h ▸ hpending)) t hstep

/-- Settles O5: time keeps the fatal record, and so does every command but the removal and the rise of power. -/
theorem fatalStateLasts : Obligations.FatalStateLasts := fun _ _ _ hx hstep hoff hon =>
  (step_keepsLatch (Option.isSome_of_eq_some hx) hstep hoff hon).trans hx

end Sys2Proof.Machine
end

section
/-! Power control of the pelotons (R456 to R469). Each command ends in one update of the peloton's gear record; the overload check
(R468) that may follow sets the overload bit and writes an event at most. -/

namespace Sys2Proof.Machine

section
variable {s t : State} (h : DeliveryOnly s t)
include h

theorem DeliveryOnly.gearOf (p : Nat) : gearOf t p = gearOf s p := by
  rw [h]
  rfl

theorem DeliveryOnly.rget (a : Nat) : rget t a = rget s a := by
  rw [h]
  rfl

theorem DeliveryOnly.flt : t.flt = s.flt := by
  rw [h]
  rfl

theorem DeliveryOnly.sess : t.sess = s.sess := by
  rw [h]
  rfl

theorem DeliveryOnly.pairs : t.pairs = s.pairs := by
  rw [h]
  rfl

end

/-- The gear record with its running gear set. -/
def Gear.withRun (g : Nat) (x : Gear) : Gear := { x with run := g, pendingUp := none }

section
variable (p : Nat) (s : State)

/-! ### The overload check, the cap count and the running gear (R468, R486) -/

theorem overCheck_delivery :
    DeliveryOnly (gearMod p (fun g => { g with overload := overCond s p }) s) (overCheck p s) := by
  unfold overCheck
  dsimp only
  split
  · exact (DeliveryOnly.refl _).after_event ..
  · exact DeliveryOnly.refl _

@[simp] theorem gearOf_overCheck_same : gearOf (overCheck p s) p = { gearOf s p with overload := overCond s p } :=
  ((overCheck_delivery p s).gearOf p).trans (gearOf_gearMod_same ..)

theorem gearOf_overCheck_other {q : Nat} (hq : q ≠ p) : gearOf (overCheck p s) q = gearOf s q :=
  ((overCheck_delivery p s).gearOf q).trans ((gearOf_gearMod ..).trans (if_neg hq))

@[simp] theorem rget_overCheck (a : Nat) : rget (overCheck p s) a = rget s a := (overCheck_delivery p s).rget a

@[simp] theorem overCheck_flt : (overCheck p s).flt = s.flt := (overCheck_delivery p s).flt

@[simp] theorem gearOf_capStep (q : Nat) : gearOf (capStep p s) q = gearOf s q := gearOf_rcnt ..

@[simp] theorem capStep_flt : (capStep p s).flt = s.flt := rcnt_flt ..

/-- Setting the running gear writes the gear record, and registers where the gear changes. -/
theorem gearSet_only (g : Nat) : ∃ r, gearSet p g s = { gearMod p (Gear.withRun g) s with regs := r } := by
  unfold gearSet
  split
  next hrun =>
    subst hrun
    exact ⟨s.regs, rfl⟩
  next => exact ⟨_, rfl⟩

theorem gearSet_gears (g : Nat) : (gearSet p g s).gears = (gearMod p (Gear.withRun g) s).gears := by
  obtain ⟨r, h⟩ := gearSet_only p s g
  rw [h]

@[simp] theorem gearOf_gearSet_same (g : Nat) : gearOf (gearSet p g s) p = (gearOf s p).withRun g :=
  (gearOf_congr (gearSet_gears p s g) p).trans (gearOf_gearMod_same ..)

theorem gearOf_gearSet_other (g : Nat) {q : Nat} (hq : q ≠ p) : gearOf (gearSet p g s) q = gearOf s q :=
  (gearOf_congr (gearSet_gears p s g) q).trans ((gearOf_gearMod ..).trans (if_neg hq))

theorem rget_gearSet_other (g : Nat) {a : Nat} (hcnt : a ≠ aPelCnt p) (hpg : a ≠ pgPwr.at 0x18) :
    rget (gearSet p g s) a = rget s a := by
  unfold gearSet
  split
  · rfl
  · rw [rget_pgBlock_other _ _ _ hpg, rget_rcnt_other _ _ _ _ _ _ hcnt, rget_gearMod]

theorem gearSet_frame (g : Nat) : { gearSet p g s with gears := s.gears, regs := s.regs } = s := by
  obtain ⟨r, h⟩ := gearSet_only p s g
  rw [h]
  rfl

end

/-! ### What one peloton's evaluation reads (R458) -/

/-- The evaluation of peloton `p` reads the same in both states. -/
structure SameFor (p : Nat) (s t : State) : Prop where
  gear : gearOf t p = gearOf s p
  ctrl : rget t (aPelCtrl p) = rget s (aPelCtrl p)
  sess : t.sess = s.sess
  pairs : t.pairs = s.pairs

namespace SameFor
variable {p : Nat} {s t u : State}

theorem refl (p : Nat) (s : State) : SameFor p s s := ⟨rfl, rfl, rfl, rfl⟩

theorem trans (hst : SameFor p s t) (htu : SameFor p t u) : SameFor p s u :=
  ⟨htu.gear.trans hst.gear, htu.ctrl.trans hst.ctrl, htu.sess.trans hst.sess, htu.pairs.trans hst.pairs⟩

theorem commitOf (h : SameFor p s t) : commitOf t p = commitOf s p := congrArg (bitsOf · 0 3) h.ctrl

theorem coversAt (h : SameFor p s t) : coversAt t p = coversAt s p := by
  unfold Machine.coversAt coreLoad coreSessions inTandem pairOf
  rw [h.sess, h.pairs]

theorem gearTarget (h : SameFor p s t) : gearTarget t p = gearTarget s p := by
  unfold Machine.gearTarget gNeed gCap
  rw [h.ctrl, h.commitOf, h.coversAt, h.gear]

end SameFor

/-! ### The evaluation (R458, R459) -/

section
variable {p : Nat} {s : State}

theorem derail_of_slower (h : (gearOf s p).run ≤ gearTarget s p) : derail p s = overCheck p (gearSet p (gearTarget s p) s) :=
  congrArg (overCheck p) (if_pos h)

theorem derail_of_faster (h : gearTarget s p < (gearOf s p).run) :
    derail p s = overCheck p (gearMod p (fun r => { r with pendingUp := some (gearTarget s p) }) s) :=
  congrArg (overCheck p) (if_neg (Nat.not_le.mpr h))

theorem gearSet_sameFor {q : Nat} (hq : p ≠ q) (g : Nat) (s : State) : SameFor p s (gearSet q g s) where
  gear := gearOf_gearSet_other q s g hq
  ctrl := rget_gearSet_other q s g (by simp only [aPelCtrl, aPelCnt]; omega) (by change 0x2100 + 0x20 * p ≠ 0x2018; omega)
  sess := by rw [← congrArg State.sess (gearSet_frame q s g)]
  pairs := by rw [← congrArg State.pairs (gearSet_frame q s g)]

theorem gearMod_sameFor {q : Nat} (hq : p ≠ q) (f : Gear → Gear) (s : State) : SameFor p s (gearMod q f s) :=
  ⟨(gearOf_gearMod ..).trans (if_neg hq), rfl, rfl, rfl⟩

theorem overCheck_sameFor {q : Nat} (hq : p ≠ q) (s : State) : SameFor p s (overCheck q s) :=
  ⟨gearOf_overCheck_other q s hq, rget_overCheck .., (overCheck_delivery q s).sess, (overCheck_delivery q s).pairs⟩

theorem derail_sameFor {q : Nat} (hq : p ≠ q) (s : State) : SameFor p s (derail q s) := by
  rcases Nat.lt_or_ge (gearTarget s q) (gearOf s q).run with hlt | hge
  · rw [derail_of_faster hlt]
    exact (gearMod_sameFor hq _ s).trans (overCheck_sameFor hq _)
  · rw [derail_of_slower hge]
    exact (gearSet_sameFor hq _ s).trans (overCheck_sameFor hq _)

theorem forAll_derail_of_not_mem {l : List Nat} (hp : p ∉ l) (s : State) : SameFor p s (forAll l derail s) := by
  induction l generalizing s with
  | nil => exact .refl p s
  | cons q l ih =>
    obtain ⟨hq, hl⟩ := not_or.mp (mt List.mem_cons.mpr hp)
    exact (derail_sameFor hq s).trans (ih hl _)

/-- Each peloton is evaluated once, on a state that reads for it as the first one. -/
theorem forAll_derail_of_mem {l : List Nat} (hl : l.Nodup) (hp : p ∈ l) (s : State) :
    ∃ u, SameFor p s u ∧ gearOf (forAll l derail s) p = gearOf (derail p u) p := by
  induction l generalizing s with
  | nil => exact absurd hp List.not_mem_nil
  | cons q l ih =>
    obtain ⟨hql, hl⟩ := List.nodup_cons.mp hl
    by_cases hpq : p = q
    · subst hpq
      exact ⟨s, .refl p s, (forAll_derail_of_not_mem hql _).gear⟩
    · obtain ⟨u, hu, hgear⟩ := ih hl ((List.mem_cons.mp hp).resolve_left hpq) (derail q s)
      exact ⟨u, (derail_sameFor hpq s).trans hu, hgear⟩

theorem derailleurEval_sets (s : State) : ∃ t, exec .derailleurEval s = .next t ∧ ∀ p < 8,
    ((gearOf s p).run ≤ gearTarget s p → (gearOf t p).run = gearTarget s p ∧ (gearOf t p).pendingUp = none) ∧
    (gearTarget s p < (gearOf s p).run → (gearOf t p).run = (gearOf s p).run ∧
      (gearOf t p).pendingUp = some (gearTarget s p)) := by
  refine ⟨_, rfl, fun p hp => ?_⟩
  obtain ⟨u, hu, hgear⟩ := forAll_derail_of_mem List.nodup_range (List.mem_range.mpr hp) s
  rw [hgear, ← hu.gear, ← hu.gearTarget]
  constructor <;> intro h
  · simp [derail_of_slower h, Gear.withRun]
  · simp [derail_of_faster h]

/-! ### The target gear (R458, R460) -/

/-- No slower gear than g_need, slower than the committed one, covers the load. -/
theorem gNeed_cases (s : State) (p : Nat) :
    (gNeed s p = commitOf s p ∨ (commitOf s p < gNeed s p ∧ coversAt s p (gNeed s p) = true)) ∧
    ∀ g, 2 ≤ g → g ≤ 5 → gNeed s p < g → commitOf s p < g → coversAt s p g = false := by
  have hmem {g : Nat} (h2 : 2 ≤ g) (h5 : g ≤ 5) : g ∈ [5, 4, 3, 2] := by
    simp only [List.mem_cons, List.not_mem_nil, or_false]
    omega
  unfold gNeed
  split
  next n hn =>
    obtain ⟨hfit, before, after, hsplit, hbefore⟩ := List.find?_eq_some_iff_append.mp hn
    have hsorted : (before ++ n :: after).Pairwise (· > ·) := hsplit ▸ by decide
    have hafter := (List.pairwise_cons.mp (List.pairwise_append.mp hsorted).2.1).1
    refine ⟨.inr (by simpa using hfit), fun g h2 h5 hslow hcommit => ?_⟩
    have hg : g ∈ before := by
      rcases List.mem_append.mp (hsplit ▸ hmem h2 h5) with hg | hg
      · exact hg
      rcases List.mem_cons.mp hg with rfl | hg
      · exact absurd hslow (Nat.lt_irrefl _)
      · exact absurd (hafter g hg) (Nat.lt_asymm hslow)
    simpa [hcommit] using hbefore g hg
  next hnone =>
    refine ⟨.inl rfl, fun g h2 h5 _ hcommit => ?_⟩
    simpa [hcommit] using List.find?_eq_none.mp hnone g (hmem h2 h5)

/-- Without AVS_MAN the target is the slower of GEAR_SET, or g_need, and g_cap. -/
theorem gearTarget_of_auto (h : bitAt (rget s (aPelCtrl p)) 7 = false) : gearTarget s p =
    max (if bitAt (rget s (aPelCtrl p)) 3 then bitsOf (rget s (aPelCtrl p)) 4 3 else gNeed s p) (gCap s p) :=
  if_neg (by simp [h])

/-! ### GEAR_UP and AVS (R459, R461, R462) -/

theorem exec_gearUp {p : Fin 8} {g : Nat} (hup : (gearOf s p).pendingUp = some g) : exec (.gearUp p) s =
    .next (if entryCode g ≤ (gearOf s p).vCode ∧ 2 ≤ (gearOf s p).slack then gearSet p g s else s) := by
  simp only [exec, execGearUp, hup]

/-- The code AVS asks for where no faster gear waits: one more with too little slack, one less with much. -/
def Gear.avsCode (g : Gear) (slack : Nat) : Nat :=
  if slack < 2 ∧ g.vCode < 60 then g.vCode + 1
  else if slack > 6 ∧ g.vCode > entryCode g.run then g.vCode - 1
  else g.vCode

/-- What AVS_UPDATE leaves in the gear record, whether or not the headroom cap steps with it. -/
theorem avsUpdate_gear (p : Fin 8) (slack : Nat) (s : State) : ∃ t, exec (.avsUpdate p slack) s = .next t ∧
    (gearOf t p).slack = min slack 255 ∧
    (bitAt (rget s (aPelCtrl p)) 7 = true → (gearOf t p).vCode = bitsOf (rget s (aPelCtrl p)) 8 8) ∧
    (bitAt (rget s (aPelCtrl p)) 7 = false → (gearOf s p).pendingUp = none →
      (gearOf t p).vCode = max (entryCode (gearOf s p).run) ((gearOf s p).avsCode (min slack 255))) := by
  refine ⟨_, rfl, ?_, fun hman => ?_, fun hauto hnone => ?_⟩
  · dsimp only
    (repeat' split) <;> simp
  · rw [if_pos hman, gearOf_gearMod_same]
  · rw [if_neg (by simp [hauto])]
    simp only [hnone]
    split <;> split <;> simp [Gear.avsCode]

theorem max_avsCode_of_short {g : Gear} (hfloor : entryCode g.run ≤ g.vCode) (htop : g.vCode ≤ 60) {slack : Nat}
    (h : slack < 2) : max (entryCode g.run) (g.avsCode (min slack 255)) = min 60 (g.vCode + 1) := by
  unfold Gear.avsCode
  (repeat' split) <;> omega

theorem max_avsCode_of_even {g : Gear} (hfloor : entryCode g.run ≤ g.vCode) {slack : Nat} (hlow : 2 ≤ slack)
    (hhigh : slack ≤ 6) : max (entryCode g.run) (g.avsCode (min slack 255)) = g.vCode := by
  unfold Gear.avsCode
  (repeat' split) <;> omega

theorem max_avsCode_of_ample {g : Gear} (hfloor : entryCode g.run ≤ g.vCode) {slack : Nat} (h : 6 < slack) :
    max (entryCode g.run) (g.avsCode (min slack 255)) = max (entryCode g.run) (g.vCode - 1) := by
  unfold Gear.avsCode
  (repeat' split) <;> omega

/-! ### Droop and the release of caps (R462, R465, R466) -/

theorem exec_droopOnset {p : Fin 8} (h : (gearOf s p).stretchFrom = none) : exec (.droopOnset p) s =
    .next (rcnt (aPelCnt p) 0 32 1 (gearMod p (fun g => { g with stretchFrom := some s.now }) s)) :=
  congrArg Host.Outcome.next (if_neg (by simp [h]))

/-- The spans of stretching in the last window, the one that ends now first (R466). -/
def spansNow (s : State) (p x : Nat) : List (Nat × Nat) :=
  ((x, s.now) :: (gearOf s p).spans).filter (fun e => decide (e.2 + psUs 10 > s.now))

/-- The gear record as stretching ends, with no cap set. -/
def stretchOver (p x : Nat) (s : State) : State :=
  gearMod p (fun g => { g with stretchFrom := none, spans := spansNow s p x }) s

theorem exec_droopEnd {p : Fin 8} {x : Nat} (h : (gearOf s p).stretchFrom = some x) : exec (.droopEnd p) s =
    .next (if ((spansNow s p x).map (inWindow s.now)).sum > psUs 2 ∧ rfld s 0x2080 24 1 = 1 then
      overCheck p (capStep p (gearMod p (fun g => { g with droop := some (gearSlower g.run), drLast := s.now })
        (stretchOver p x s))) else stretchOver p x s) := by
  simp only [exec, execDroopEnd, h]
  rfl

theorem exec_capRelease_droop {p : Fin 8} (hcap : (gearOf s p).droop ≠ none) (hdue : (gearOf s p).drLast + psMs 1 ≤ s.now) :
    exec (.capRelease p false) s = .next (overCheck p (capStep p
      (gearMod p (fun g => { g with droop := capFaster s p g.droop, drLast := s.now }) s))) := by
  simp [exec, execCapRelease, hcap, hdue]

theorem exec_capRelease_headroom {p : Fin 8} (hcap : (gearOf s p).headroom ≠ none)
    (hdue : (gearOf s p).hrLast + psMs 1 ≤ s.now) : exec (.capRelease p true) s = .next (overCheck p (capStep p
      (gearMod p (fun g => { g with headroom := capFaster s p g.headroom, hrLast := s.now }) s))) := by
  simp [exec, execCapRelease, hcap, hdue]

theorem exec_capRelease_early {p : Fin 8} (h : s.now < (gearOf s p).drLast + psMs 1) : exec (.capRelease p false) s = .next s := by
  simp [exec, execCapRelease, h]

/-! ### Temperature (R467, R469) -/

theorem thermalStep_run (s : State) (p t : Nat) (g : Gear) : (thermalStep s p t g).1.run = g.run := by
  unfold thermalStep
  dsimp only
  (repeat' split) <;> rfl

theorem thermalStep_of_hot {t : Nat} {g : Gear} (h : rfld s 0x2080 0 8 ≤ t) (hnone : g.thermal = none) :
    (thermalStep s p t g).1.thermal = some (gearSlower g.run) := by
  simp [thermalStep, h, hnone]

theorem thermalStep_of_cool {t : Nat} {g : Gear} (h : t < rfld s 0x2080 0 8) (hnone : g.thermal = none) :
    (thermalStep s p t g).1.thermal = none := by
  unfold thermalStep
  dsimp only
  rw [if_neg (Nat.not_le.mpr h)]
  (repeat' split) <;> simp_all

/-- A sample writes the gear record of the thermal step with the readings, and the junction limit raises. -/
theorem exec_thermalSample (p : Fin 8) (temps : List Nat) (s : State) : ∃ u b, exec (.thermalSample p temps) s =
      .next (if 115 ≤ temps.foldl max 0 then raise 0x16 p u else u) ∧ u.flt = s.flt ∧
    gearOf u p = { (thermalStep s p (temps.foldl max 0) (gearOf s p)).1 with temps := temps, overload := b } := by
  simp only [exec, execThermalSample]
  cases (thermalStep s p (temps.foldl max 0) (gearOf s p)).2 with
  | false => exact ⟨_, _, rfl, rfl, gearOf_gearMod_same ..⟩
  | true => exact ⟨_, _, rfl, by simp, by rw [if_pos rfl, gearOf_overCheck_same, gearOf_capStep, gearOf_gearMod_same]⟩

/-! ### COMMIT (R456, R457) -/

theorem exec_commitGearWrite (p code : Fin 8) (hfatal : isFatal s = false) :
    exec (.commitGearWrite p code) s = .next (commitWrite p code s) :=
  congrArg Host.Outcome.next (if_neg (by simp [hfatal]))

theorem commitWrite_of_taken {p code : Fin 8} (hoffer : gearOffered s code = true)
    (hfit : code.val ≤ commitOf s p ∨ coversAt s p code = true) :
    commitWrite p code s = overCheck p (rfset (aPelCtrl p) 0 3 code s) := by
  refine if_neg ?_
  rcases hfit with hfit | hfit <;> simp [hoffer, hfit]

theorem commitWrite_of_ignored {p code : Fin 8}
    (h : gearOffered s code = false ∨ (commitOf s p < code.val ∧ coversAt s p code = false)) : commitWrite p code s = s := by
  refine if_pos ?_
  rcases h with h | ⟨hslow, hfull⟩
  · exact .inl (by simp [h])
  · exact .inr ⟨hslow, by simp [hfull]⟩

theorem commitOf_written_same (p code : Fin 8) (s : State) :
    commitOf (overCheck p (rfset (aPelCtrl p) 0 3 code s)) p = code.val := by
  have hfld : rfld (rfset (aPelCtrl p) 0 3 code s) (aPelCtrl p) 0 3 = code.val % 2 ^ 3 := rfld_rfset_same ..
  unfold commitOf rfld at *
  rw [rget_overCheck, hfld, Nat.mod_eq_of_lt (show code.val < 2 ^ 3 from code.isLt)]

theorem commitOf_written_other {p code : Fin 8} {q : Nat} (hq : q ≠ p.val) (s : State) :
    commitOf (overCheck p (rfset (aPelCtrl p) 0 3 code s)) q = commitOf s q := by
  unfold commitOf rfld
  rw [rget_overCheck, rget_rfset_other _ _ _ _ _ _ (by simp only [aPelCtrl]; omega)]

end

/-! ### Every clause -/

theorem gearUp_waits (p : Fin 8) (s : State) (g : Nat) (hup : (gearOf s p).pendingUp = some g) :
    (entryCode g ≤ (gearOf s p).vCode → 2 ≤ (gearOf s p).slack → ∃ t, exec (.gearUp p) s = .next t ∧ (gearOf t p).run = g ∧
      (gearOf t p).pendingUp = none ∧ { t with gears := s.gears, regs := s.regs } = s) ∧
    (((gearOf s p).vCode < entryCode g ∨ (gearOf s p).slack < 2) → exec (.gearUp p) s = .next s) := by
  rw [exec_gearUp hup]
  refine ⟨fun hcode hslack => ⟨_, rfl, ?_⟩, fun hwait => by rw [if_neg (by omega)]⟩
  rw [if_pos ⟨hcode, hslack⟩, gearOf_gearSet_same]
  exact ⟨rfl, rfl, gearSet_frame p s g⟩

/-- Settles O57, command by command; that the slack is the smallest of the peloton's monitors and the window of R466 are log 29's
reading. -/
theorem powerControlSetsGearsAndVoltage : Obligations.PowerControlSetsGearsAndVoltage := by
  refine ⟨derailleurEval_sets, fun s p => ?_, gearUp_waits, fun p slack s => ?_, fun p s => ?_, fun p temps s => ?_,
    fun p code s hfatal => ?_⟩
  · obtain ⟨hneed, hslower⟩ := gNeed_cases s p
    refine ⟨hneed, hslower, fun hgear hauto => ?_, fun hgear hauto => ?_⟩ <;> simp [gearTarget_of_auto hauto, hgear]
  · obtain ⟨t, hexec, hslack, hman, hcode⟩ := avsUpdate_gear p slack s
    refine ⟨t, hexec, hslack, hman, fun hauto hnone hfloor htop => ?_⟩
    rw [hcode hauto hnone]
    exact ⟨max_avsCode_of_short hfloor htop, max_avsCode_of_even hfloor, max_avsCode_of_ample hfloor⟩
  · refine ⟨fun hnone => ⟨_, exec_droopOnset hnone, ?_, ?_, rfl⟩, fun x hx => ⟨_, exec_droopEnd hx, ?_, ?_⟩,
      fun hcap hdue => ⟨_, exec_capRelease_droop hcap hdue, ?_⟩, fun hcap hdue => ⟨_, exec_capRelease_headroom hcap hdue, ?_⟩,
      exec_capRelease_early, rfl⟩
    · rw [gearOf_rcnt, gearOf_gearMod_same]
    · rw [rfld_rcnt_same, rfld_gearMod]
    · split <;> simp [stretchOver]
    · dsimp only
      refine ⟨fun hlong hact => ?_, fun hshort => ?_⟩
      · rw [if_pos ⟨of_decide_eq_true hlong, hact⟩]
        simp [stretchOver]
      · rw [if_neg (fun hboth => ?_)]
        · simp [stretchOver]
        · rcases hshort with hshort | hact
          · exact of_decide_eq_false hshort hboth.1
          · exact absurd (hact.symm.trans hboth.2) Nat.zero_ne_one
    · simp
    · simp
  · obtain ⟨u, b, hexec, hflt, hgear⟩ := exec_thermalSample p temps s
    refine ⟨_, hexec, ?_⟩
    have hsame : gearOf (if 115 ≤ temps.foldl max 0 then raise 0x16 p u else u) p = gearOf u p := by split <;> rfl
    rw [hsame, hgear]
    refine ⟨rfl, thermalStep_of_hot, thermalStep_of_cool, thermalStep_run .., fun hhot => ?_, fun hcool => ?_⟩
    · rw [if_pos hhot, ← hflt]
      rfl
    · rw [if_neg (Nat.not_le.mpr hcool), hflt]
  · rw [exec_commitGearWrite p code hfatal]
    refine ⟨fun hoffer hfit => ⟨_, rfl, ?_⟩, fun h => by rw [commitWrite_of_ignored h]⟩
    rw [commitWrite_of_taken hoffer hfit]
    exact ⟨commitOf_written_same p code s, fun q _ hq => commitOf_written_other hq s⟩

end Sys2Proof.Machine
end
